-- ==== Sys2Proof/Word.lean ====
section
/-!
DEFINITION. Word.lean: the word and byte types, the sparse maps that hold the module's memories, and bit fields of a word.
-/

namespace Sys2Proof

/-- A 32-bit register or memory word. -/
abbrev Word := BitVec 32

/-- One byte. -/
abbrev Byte := BitVec 8

/-- A sparse table: (key, value) pairs with keys strictly rising, in which no pair holds what an unlisted key reads as. -/
abbrev Sp (α : Type) := List (Nat × α)

/-- Nanoseconds in a second. -/
abbrev nsPerSec : Nat := 1000000000

end Sys2Proof
end

