-- ==== Sys2Proof/Machine/Parts.lean ====
section
/-!
DEFINITION. Machine/Parts.lean: the parts of the module's state that have no address of their own, as plain data, subsystem by
subsystem, and the messages the module sends.  A field's default value is its value after reset (R14: the cold-start value;
assumption log 3 names those the spec does not give).
-/

namespace Sys2Proof.Machine

/-! ## Pattern engine (chapter 3) -/

/-- R62: the eight states of a bobbin. -/
inductive BState where
  | stopped | runnable | preempted | waitt | waitk | waits | halted | faulted
deriving DecidableEq, Repr

/-- The code of PEN_BSTAT.STATE (R62). -/
def BState.code : BState → Nat
  | .stopped => 0 | .runnable => 1 | .preempted => 2 | .waitt => 3 | .waitk => 4 | .waits => 5 | .halted => 6 | .faulted => 7

/-- R61: a vector register, eight unsigned Q12.4 lanes. -/
abbrev VReg := Vector (BitVec 16) 8

/-- R61, R70, R72, R74, R96, R97: one bobbin. -/
structure Bobbin where
  /-- R62: PEN_BSTAT.STATE. -/
  st : BState := .stopped
  /-- R61: G0 to G15; G0 is never written. -/
  g : Vector Word 16 := Vector.replicate 16 0
  /-- R61: V0 to V7. -/
  v : Vector VReg 8 := Vector.replicate 8 (Vector.replicate 8 0)
  /-- R61, R103: flag Z. -/
  fz : Bool := false
  /-- R61, R103: flag N. -/
  fn : Bool := false
  /-- R61: flag C. -/
  fc : Bool := false
  /-- R61: flag V. -/
  fv : Bool := false
  /-- R61: PEN_BPC. -/
  pc : BitVec 16 := 0
  /-- R70: budget left in the tick. -/
  left : Nat := 0
  /-- R97: budget per tick in effect (CSR 0x02). -/
  budget : Nat := 1
  /-- R70, R96: instructions retired in the present tick (PEN_BUSED takes it at the tick's end). -/
  used : Nat := 0
  /-- R97: priority in effect (CSR 0x04). -/
  prio : Nat := 0
  /-- R74: window base in effect, 256-byte units. -/
  winBase : Nat := 0
  /-- R74: window size in effect, 256-byte units. -/
  winSize : Nat := 512
  /-- R61: pending signal bits (PEN_BSIG.PEND). -/
  pend : BitVec 16 := 0
  /-- R63, R72: host signal bits written to PEN_HSIG and not yet latched. -/
  hostPend : BitVec 16 := 0
  /-- R96: mask of the WAITS in progress (PEN_BSIG.WMASK). -/
  wmask : BitVec 16 := 0
  /-- R72: remaining WAITK count (PEN_BWAIT). -/
  waitK : Nat := 0
  /-- R72: WAITT target time, TAI ns (PEN_BWT). -/
  waitT : Nat := 0
  /-- R64: tick start at which the bobbin's wait was last examined. -/
  waitAt : Option Nat := none
  /-- R97: START written and not yet acted on at a group boundary. -/
  startReq : Bool := false
  /-- R97: STOP written and not yet acted on at a group boundary. -/
  stopReq : Bool := false
  /-- R97: stopped and cleared by START, runnable at the next tick start. -/
  startPend : Bool := false
  /-- R96: PEN_BSTAT.CMDDONE. -/
  cmdDone : Bool := false
  /-- R81: PEN_BSTAT.FCODE. -/
  fcode : Nat := 0
  /-- R81: PEN_BSTAT.FPC. -/
  fpc : BitVec 16 := 0
  /-- R78: store address of the word whose parity repair the bobbin is parked for. -/
  parked : Option Nat := none
  /-- R96: G registers as of the bobbin's last group end (PEN_BDAT). -/
  gShow : Vector Word 16 := Vector.replicate 16 0
  /-- R96: V registers as of the bobbin's last group end (PEN_BDAT). -/
  vShow : Vector VReg 8 := Vector.replicate 8 (Vector.replicate 8 0)
deriving DecidableEq, Repr

/-- A sensor value and the TAI instant of its sample (R120). -/
structure Reading where
  value : Word
  stamp : Nat
deriving DecidableEq, Repr

/-- R118: the calendar as captured at a tick start, in binary. -/
structure Civil where
  year : Nat := 2000
  month : Nat := 1
  day : Nat := 1
  dow : Nat := 6
  hour : Nat := 0
  min : Nat := 0
  sec : Nat := 0
  doy : Nat := 1
  /-- R116: RANGEEND or LEAPHOLD was set. -/
  held : Bool := false
deriving DecidableEq, Repr

/-- R63, R107: what the engine reads from outside, frozen at the tick start. -/
structure Snap where
  /-- R117: the tick start, TAI ns. -/
  start : Nat := 0
  /-- R117: TBU_UTCOFF in effect. -/
  utcOff : Int := 0
  /-- R117: tick in force, µs. -/
  tickUs : Nat := 10000
  /-- R118: the calendar. -/
  civil : Civil := {}
  /-- R120: sensor values by source × 256 + quantity. -/
  sens : Sp (Option Reading) := []
  /-- R123: metering values by circuit × 16 + code; none where no channel is mapped. -/
  meter : Sp (Option Word) := []
  /-- R107: zone gains latched at the frame start that is the tick start. -/
  gain : Sp Nat := []
  /-- R107: the tick start whose gains these are. -/
  gainAt : Option Nat := none
deriving DecidableEq, Repr

/-- The pattern engine's own state beside its bobbins, registers and memories. -/
structure Pen where
  /-- R68: the bobbin in service. -/
  cur : Option Nat := none
  /-- R68: instructions left in the group in service. -/
  grpLeft : Nat := 0
  /-- R68: bobbin last served at each priority. -/
  last : Vector Nat 4 := Vector.replicate 4 31
  /-- R65: tick in force, µs. -/
  tickUs : Nat := 10000
  /-- R125: ticks since the last restart or swap (CSR 0x03). -/
  ticks : BitVec 32 := 0
  /-- R125: no tick has started since the last restart or swap. -/
  fresh : Bool := true
  /-- R46: instant of the last tick commit. -/
  lastCommit : Option Nat := none
  /-- R64: tick start whose steps have been done. -/
  tickAt : Option Nat := none
  /-- R63, R93: the last tick start at which the engine was not frozen, so that its waits were examined. -/
  ranAt : Option Nat := none
  /-- R95: engine cycles used in the present tick (PEN_CYC takes it at the tick's end). -/
  cyc : Nat := 0
  /-- R90: instant at which the armed swap was armed. -/
  armAt : Nat := 0
  /-- R63: the inputs frozen at the tick start. -/
  snap : Snap := {}
deriving DecidableEq, Repr

/-! ## Zones (chapter 2) -/

/-- R45: what is staged for a zone in the present tick. -/
structure ZStage where
  bands : Vector (Option (BitVec 16)) 8 := Vector.replicate 8 none
  mode : Option Bool := none
deriving DecidableEq, Repr

/-- Zone state beside the ZON registers (the committed target and mode stand in ZON_TGT and ZON_CTL.MODE). -/
structure Zon where
  /-- R45: staged bands and modes, by zone. -/
  staged : Sp ZStage := []
  /-- R49: target committed at the previous tick commit, by zone (none: as the present one). -/
  prev : Sp (Vector (BitVec 16) 8) := []
  /-- R39: staged zone of a node slot. -/
  node : Sp (Option Nat) := []
  /-- R49: instant of the last tick commit, C. -/
  commitAt : Nat := 0
  /-- R49: frames per tick at C, N. -/
  commitN : Nat := 5
  /-- R25 step 3, R107: gain of each zone as last latched, Q2.14. -/
  gainLatched : Sp Nat := []
deriving DecidableEq, Repr

/-! ## Events and journal (chapter 14) -/

/-- R387: one event and journal record, w0 to w7. -/
structure EvRec where
  w0 : Word
  w1 : Word
  w2 : Word
  w3 : Word
  w4 : Word
  w5 : Word
  w6 : Word
  w7 : Word
deriving DecidableEq, Repr

/-- R389, R393: one record waiting in the event queue.  `copy` is its journal number, while the copy that carries it is not
acknowledged; `none` is readable at once. -/
structure QRec where
  record : EvRec
  prio : Nat
  copy : Option Nat
  /-- R397, R473: its place in arrival order. -/
  arr : Nat := 0
deriving DecidableEq, Repr

/-- R393, R397: the event queue beside its registers. -/
structure Evq where
  /-- R397: the FIFO, oldest first. -/
  fifo : List QRec := []
  /-- R393: bank 0, oldest first. -/
  bank0 : List QRec := []
  /-- R393: bank 1, oldest first. -/
  bank1 : List QRec := []
  /-- R395: FULL has been set and no record lost since. -/
  fullNew : Bool := false
  /-- R392: EVQ_PMAP.PRIO by code, where the host has changed it. -/
  prio : Sp Nat := []
  /-- R392: EVQ_PMAP.NOQ by code, where the host has changed it. -/
  noq : Sp Bool := []
  /-- R512: instant of the last record of PRIO 3. -/
  prio3 : Option Nat := none
  /-- R401, R411: numbers of the journal records that a read has found bad and whose repair is awaited; BAD is set while there are any. -/
  bad : List Nat := []
  /-- R397, R473: records that have arrived at the queue. -/
  arrived : Nat := 0
  /-- R400: on a standby, the local records that have not yet come back with the journal tail. -/
  relayed : List EvRec := []
deriving DecidableEq, Repr

/-- Instants at which a rate-limited event was last raised: code, unit, TAI ns. -/
abbrev Rates := List (Nat × Nat × Nat)

/-- R470: the module's state; `reset` from the beginning of a restart to its end (R480, R481). -/
inductive PwrMode where
  | run | quiet | hold | keep | reset
deriving DecidableEq, Repr

/-- R470: the code of GLB_STATE.STATE. -/
def PwrMode.code : PwrMode → Nat
  | .run => 0 | .quiet => 1 | .hold => 2 | .keep => 3 | .reset => 0

/-! ## Spectral mixing engine (chapter 5) -/

/-- R130: state of a node slot's calibration record. -/
inductive RecState where
  | empty | valid | invalid
deriving DecidableEq, Repr

/-- R130, R136, R137, R151: what the mixing engine keeps for one luminaire beside its calibration record. -/
structure Lum where
  /-- R130: SME_LSTAT.STATE. -/
  rec_ : RecState := .empty
  /-- R136: T_used, 1/16 °C. -/
  tUsed : Int := 400
  /-- R136: the last temperature report, 1/16 °C. -/
  tRep : Option Int := none
  /-- R136: instant of the last temperature report since the last restart. -/
  tAt : Option Nat := none
  /-- R136: counted in SME_TSCNT. -/
  tStale : Bool := false
  /-- R137: ageing factors, Q16.16. -/
  age : Vector Nat 8 := Vector.replicate 8 65536
  /-- R26, R418: the ageing factors in use, as of the last latch. -/
  ageUsed : Vector Nat 8 := Vector.replicate 8 65536
  /-- R137: instant of each channel's last usable measurement since the last restart or reset of A. -/
  ageAt : Vector (Option Nat) 8 := Vector.replicate 8 none
  /-- R138: channels that have raised SME_EOL since their last reset. -/
  eol : Vector Bool 8 := Vector.replicate 8 false
  /-- R151: codes of the last good solve since the last restart, before the caps. -/
  good : Option (List Nat) := none
  /-- R160: SME_LSTAT.LIVE. -/
  live : Nat := 0
  /-- R160: SME_LSTAT.HELD. -/
  held : Bool := false
deriving DecidableEq, Repr

/-- R25 step 3: the latched solve inputs of one luminaire. -/
structure LumIn where
  slot : Nat
  zone : Nat
  u : List Nat
  /-- R52: a band of u was clipped. -/
  clip : Bool
  rec_ : RecState
  /-- R141: channels latched as OPEN, SHORT or OVERTEMP. -/
  failed : Nat
  tUsed : Int
  age : List Nat
deriving DecidableEq, Repr

/-- R25 step 3: the latched inputs of one zone. -/
structure ZoneIn where
  zone : Nat
  react : Nat
  fcap : Nat
  pcap : Nat
  /-- R57, R59: a member, with or without a record, has a fitted channel in a state other than OK. -/
  notOk : Bool
deriving DecidableEq, Repr

/-- R25 step 3: all solve inputs latched at one frame start. -/
structure Latched where
  /-- The frame's origin: the frame start after the latch. -/
  origin : Nat
  lums : List LumIn
  zones : List ZoneIn
  pcap : Nat
  iter : Nat
deriving DecidableEq, Repr

/-- The mixing engine beside its registers. -/
structure Sme where
  /-- Per-luminaire state, by node slot index. -/
  lums : Sp Lum := []
  /-- R25 step 6: the frame being solved; none when no solve is in progress. -/
  latch : Option Latched := none
  /-- R153: the cap stage of the frame being solved failed its check twice. -/
  capFailed : Bool := false
  /-- R24: the codes of the frame that has been solved and not yet sent, by slot. -/
  next : Option (Sp (List Nat)) := none
  /-- R29: the codes last sent, by slot. -/
  sent : Sp (List Nat) := []
  /-- R146, R314: CS of the frame solved and not yet sent, and of the codes last sent, by slot. -/
  nextCs : Sp (List Nat) := []
  sentCs : Sp (List Nat) := []
  /-- R149: cap ratio q of each zone in the last completed frame. -/
  zq : Sp Nat := []
  /-- R160: SME_ZPWR of each zone. -/
  zpwr : Sp Nat := []
  /-- R57: zones reported on in the last completed frame. -/
  statZones : List Nat := []
  /-- R152: instants of each lane's recent residue mismatches: lane, TAI ns. -/
  laneMis : List (Nat × Nat) := []
  /-- R152: lanes due to leave service at the next frame start. -/
  laneDue : Nat := 0
  /-- R152: LANERST written, acting at the next frame start. -/
  laneRst : Bool := false
  /-- R136: instant of the first DRIVE frame since the last restart. -/
  firstDrive : Option Nat := none
  /-- R131: a CALLOAD record written to flash and waiting for its frame start: slot. -/
  install : Option Nat := none
  /-- R134: in a pair, the standby has acknowledged that record. -/
  installAck : Bool := true
  /-- R131, R134: the record installed at the present frame start, for the state copy: slot. -/
  installed : Option Nat := none
  /-- R134: a CALLOAD has ended since the last state copy. -/
  calEnded : Bool := false
  /-- R139: the two flash areas of ageing factors; none is not valid. -/
  ageFlash0 : Option (Sp (Vector Nat 8)) := none
  ageFlash1 : Option (Sp (Vector Nat 8)) := none
  /-- R139: the area written last. -/
  ageNewer : Nat := 1
deriving DecidableEq, Repr

/-! ## Lamp diagnostics (chapter 7) -/

/-- R207: the recorded state of a channel. -/
inductive ChState where
  | ok | open_ | short | overtemp | unverified
deriving DecidableEq, Repr

/-- R207: the code of a channel state. -/
def ChState.code : ChState → Nat
  | .ok => 0 | .open_ => 1 | .short => 2 | .overtemp => 3 | .unverified => 4

/-- R208, R211, R216: what the module keeps for one channel. -/
structure Chan where
  /-- R207: recorded state. -/
  st : ChState := .ok
  /-- R211: latched. -/
  latched : Bool := false
  /-- R211: instants of the counted transitions. -/
  flaps : List Nat := []
  /-- R216: UNVERIFIED age, ns. -/
  vage : Nat := 0
  /-- R216: AGED. -/
  aged : Bool := false
  /-- R208: consecutive return fields whose FAULT bit disagrees with the recorded state. -/
  dis : Nat := 0
  /-- R208: a state report is to be requested. -/
  req : Bool := false
deriving DecidableEq, Repr

/-- Lamp diagnostics beside its registers. -/
structure Dia where
  /-- Channel records, by slot × 8 + channel. -/
  chans : Sp Chan := []
  /-- R220: instants of the LAMP events of the last second. -/
  recent : List Nat := []
deriving DecidableEq, Repr

/-! ## Closed-loop control engine (chapter 8) -/

/-- R223: mode of a loop. -/
inductive LMode where
  | open_ | track | dli
deriving DecidableEq, Repr

/-- R223: code of a mode. -/
def LMode.code : LMode → Nat
  | .open_ => 0 | .track => 1 | .dli => 2

/-- R223 to R245: what a loop keeps beside its registers. -/
structure Loop where
  /-- R231: inner integrator. -/
  i : Int := 0
  /-- R231: outer integrator. -/
  oi : Int := 0
  /-- R231: frame start of the previous inner run. -/
  fp : Option Nat := none
  /-- R231: frame start of the previous outer run. -/
  ofp : Option Nat := none
  /-- R237: frame start of the previous addition to Imeas. -/
  mp : Option Nat := none
  /-- R237: Imeas, unsigned 64-bit. -/
  imeas : BitVec 64 := 0
  /-- R488: the next run is the first since a restart, and adds nothing. -/
  resumed : Bool := false
  /-- R237: zero Imeas at the next run. -/
  dliRst : Bool := false
  /-- R228: runs since DLI was entered or the outer loop last ran. -/
  runs : Nat := 0
  /-- R226: time stamp of the sample last used. -/
  stamp : Option Nat := none
  /-- R226: the first sample after a ZON_SRC write counts as new. -/
  fresh : Bool := true
  /-- R226: instant from which a sensor that never reported is aged. -/
  since : Nat := 0
  /-- R225: m of the last sample; none before the first. -/
  m : Option Nat := none
  /-- R245, R247: e of the last inner run. -/
  e : Int := 0
  /-- R247: e of the last outer run. -/
  oe : Int := 0
  /-- R247: q used at the last inner run. -/
  q : Nat := 65536
  /-- R242: inner and outer following-error timers, µs. -/
  fet : Nat := 0
  ofet : Nat := 0
  /-- R242: inner and outer following-error holds. -/
  feh : Bool := false
  ofeh : Bool := false
  /-- R242: time for which |e| has been within FELIM during a hold, µs. -/
  rel : Nat := 0
  orel : Nat := 0
  /-- R241: gain at which the hand-over ramp began, and its instant. -/
  ramp0 : Nat := 0x4000
  rampAt : Nat := 0
  /-- R239, R240: the next inner (outer) run is a preset run. -/
  pre : Bool := false
  opre : Bool := false
  /-- R231: coefficient sets used at the last runs. -/
  iset : Nat := 0
  oset : Nat := 0
  /-- R227, R229: frame start whose staleness and mode change have been done; the one of the last outer run. -/
  prepAt : Option Nat := none
  outerAt : Option Nat := none
  /-- R227: what the frame start `prepAt` asks for. -/
  doInner : Bool := false
  doOuter : Bool := false
  /-- R240: the first outer run follows with the first sample. -/
  ofirst : Bool := false
deriving DecidableEq, Repr

/-- The control engine beside its registers. -/
structure Cce where
  loops : Sp Loop := []
  /-- R238: staged coefficient words, by register address. -/
  staged : Sp (Option Word) := []
  /-- R246: the samples and the cap ratios that the active module latched for its loops. -/
  sens : Sp (Option Reading) := []
  zq : Sp Nat := []
deriving DecidableEq, Repr


/-! ## Seams (chapter 6) -/

/-- R196: one item of a CONFIG frame. -/
structure CfgItem where
  param : Nat
  index : Nat
  value : Nat
deriving DecidableEq, Repr

/-- R196, R197, R382: who asks for a control frame: the module, a challenge answer, the host, or NODEIMG. -/
inductive CtlKind where
  | own | response | host | image | activate
deriving DecidableEq, Repr

/-- R195, R196: a CONFIG frame waiting to be sent: target slot 0 to 127, or 255 for every positioned node; `at_` is the
apply-at time asked for (R197). -/
structure CtlReq where
  kind : CtlKind
  target : Nat
  items : List CfgItem
  at_ : Option Nat := none
deriving DecidableEq, Repr

/-- R195: the control frame outstanding on a seam: the key slot of its tag (0: all-zero), its bytes as first sent, the slots that have not
acknowledged it, its resends and the frame-grid instant of its last sending. -/
structure CtlOut where
  kind : CtlKind
  key : Nat := 0
  seq : Nat
  bytes : List Nat
  waiting : List Nat
  resends : Nat
  sentAt : Nat
deriving DecidableEq, Repr

/-- R180, R181: one record of an ENUM frame. -/
structure EnumRec where
  id : Nat
  cap : Nat
  fw : Nat
deriving DecidableEq, Repr

/-- R172, R422: a return field as received: its 8 bytes, the direction, sequence number, frame start and apply time of the frame
that carried it, and the SOF stamp of that frame (R27, R253). -/
structure RetField where
  bytes : List Nat
  dirB : Bool
  seq : Nat
  origin : Nat
  stamp : Nat
deriving DecidableEq, Repr

/-- What the seam controller keeps for one node slot beside its node table entry. -/
structure NSlot where
  /-- R184, R185: arrival of the newest valid return field. -/
  last : Option Nat := none
  /-- R185: instant from which a slot without a return field is counted as silent. -/
  since : Nat := 0
  /-- R185: the state that a LOST slot had. -/
  back : Nat := 0
  /-- R185: first of the present run of residence reports at or below 2,000 ns. -/
  slowOk : Option Nat := none
  /-- R173: the challenge words reported so far. -/
  chal : Vector (Option Nat) 8 := Vector.replicate 8 none
  /-- R173: the last image state reported. -/
  image : Nat := 0
  /-- R422: in a pair, the newest valid return field of each direction not yet latched. -/
  fieldA : Option RetField := none
  fieldB : Option RetField := none
  /-- R422: on a standby, the newest that had arrived before the last frame start, kept for the latch map of its copy. -/
  heldA : Option RetField := none
  heldB : Option RetField := none
deriving DecidableEq, Repr

/-- What the seam controller keeps for one seam beside its registers. -/
structure Seam where
  /-- R195, R196: CONFIG frames waiting, those of the module first. -/
  queue : List CtlReq := []
  /-- R195: the control frame outstanding. -/
  outst : Option CtlOut := none
  /-- R182: an ENUM waiting to be sent: assigning or census. -/
  enumReq : Option Bool := none
  /-- R180: the ENUM in progress is an assigning one. -/
  enumAssign : Bool := false
  /-- R181: the list of the ENUM in progress from this module's IN and from the partner's, with its final CNT. -/
  enumOwn : Option (List EnumRec × Nat) := none
  enumPart : Option (List EnumRec × Nat) := none
  /-- R181: this module's list, until it has gone to the partner. -/
  enumSend : Option (List EnumRec × Nat) := none
  /-- R182: instant at which the ENUM in progress was sent. -/
  enumAt : Nat := 0
  /-- R190: TAI second whose SYNC has been sent. -/
  syncSec : Nat := 0
  /-- R190: the time base has been stepped since the previous SYNC. -/
  stepped : Bool := false
  /-- R190: the next SYNC carries RESEQ. -/
  reseq : Bool := true
  /-- R187: transits of the last second: instant, ns. -/
  transits : List (Nat × Nat) := []
  /-- R187: in a pair, the largest transit of the last second in the other direction, and when the partner reported it. -/
  partTransit : Option (Nat × Nat) := none
  /-- R137: the codes that each of the last 65,536 DRIVE frames carried, newest first: sequence number, codes by slot. -/
  hist : List (Nat × Sp (List Nat)) := []
  /-- R178: instant since which every partner frame has exceeded 100 ns. -/
  dlySince : Option Nat := none
  /-- R189: TAI second and line time used by IMAGE frames in it, ns. -/
  imgSec : Nat := 0
  imgLine : Nat := 0
  /-- R197: next block of the node image, and whether ACTIVATE has been queued. -/
  imgNext : Nat := 0
  imgAct : Bool := false
  /-- R189: end of the last frame sent on the seam. -/
  busyTo : Nat := 0
  /-- R191: frames originated since the present frame start. -/
  cycleSent : Nat := 0
deriving DecidableEq, Repr

/-- R197: a node image being distributed. -/
structure NodeImg where
  id : Nat
  body : List Nat
  mask : Nat
deriving DecidableEq, Repr

/-- The seam controller beside its registers. -/
structure Sea where
  /-- R186: frame period in force, µs. -/
  fperUs : Nat := 2000
  /-- R188: apply-at lead in force, µs. -/
  leadUs : Nat := 2000
  /-- R186, R188: instants at which the values of SEA_FPER and SEA_LEAD were accepted. -/
  fperAt : Nat := 0
  leadAt : Nat := 0
  /-- R220: the frame period before the last change, µs, and the instant of that change. -/
  fperWas : Nat := 2000
  fperFrom : Nat := 0
  seams : Sp Seam := []
  slots : Sp NSlot := []
  /-- R182: TAI second of the last scheduled census. -/
  censusSec : Nat := 0
  /-- R189: frame start whose DRIVE or IDLE frames have been sent. -/
  sentAt : Option Nat := none
  /-- R197: the node image being distributed. -/
  img : Option NodeImg := none
  /-- R189: in a pair, a state copy has given the standby that image; ACTIVATE is to be queued on both modules with the next copy. -/
  imgTold : Bool := false
  imgGo : Bool := false
deriving DecidableEq, Repr

/-! ## Time base (chapter 9) -/

/-- R254: the header fields of a PTP message that the ordinary clock uses: whether it is malformed, its transport, domain,
sender's port identity and sequence number, the sum of its correction field in 2^-16 ns, and the Ethernet port at which it arrived. -/
structure PtpHdr where
  bad : Bool := false
  v6 : Bool := false
  domain : Nat
  port : Nat
  seq : Nat
  corr : Int
  eth2 : Bool := false
deriving DecidableEq, Repr

/-- R254: what an Announce message carries. -/
structure AnnData where
  gm : Nat
  prio1 : Nat
  cls : Nat
  acc : Nat
  var : Nat
  prio2 : Nat
  steps : Nat
  utc : Int
  leap61 : Bool
  leap59 : Bool
  utcValid : Bool
  trace : Bool
  logInt : Int
deriving DecidableEq, Repr

/-- R254: a master heard: its last Announce and the arrivals of the last two. -/
structure PtpMaster where
  port : Nat
  data : AnnData
  last : Nat
  prev : Option Nat
deriving DecidableEq, Repr

/-- R255: a Sync with its origin timestamp, receive stamp and corrections (2^-16 ns), and the port at which it arrived. -/
structure PtpSync where
  t1 : Nat
  t2 : Nat
  corr : Int
  eth2 : Bool := false
deriving DecidableEq, Repr

/-- R255: a Delay_Req without an answer: its sequence number, t3 and the latest Sync received before it; that Sync's sequence number
while its Follow_Up is awaited, and the answer (t4, correction) that has come meanwhile. -/
structure DReq where
  seq : Nat
  t3 : Nat
  sync : PtpSync
  awaits : Option Nat := none
  resp : Option (Nat × Int) := none
deriving DecidableEq, Repr

/-- R260: a step: its cause, its Δ (none for SET until Fs), the value that the active module has staged for SET as a copy carries it, and
Fr and Fs once they are known. -/
structure StepReq where
  cause : Nat
  delta : Option Int
  target : Nat := 0
  fr : Option Nat := none
  fs : Option Nat := none
  /-- Fs has passed. -/
  done : Bool := false
  /-- G1. -/
  g1 : Option Nat := none
deriving DecidableEq, Repr

/-- R266: an armed UTC offset change. -/
structure UtcArm where
  offset : Int
  at_ : Nat
  noticed : Bool := false
deriving DecidableEq, Repr

/-- R269: a slew in progress. -/
structure Slew where
  /-- R269: the trim added to TBU_FREQ, and the trim to which it is added. -/
  by_ : Int
  base : Int
  /-- What was left to be made up at `at_`, in 1 / (8 × 2^32) ns. -/
  left : Nat
  at_ : Nat
deriving DecidableEq, Repr

/-- The time base beside its registers.  Offsets are exact, in units of 1 / (840 × 2^17) ns. -/
structure Tbu where
  /-- R254: masters heard. -/
  masters : List PtpMaster := []
  /-- R254: port identity of the selected master. -/
  sel : Option Nat := none
  /-- R255: two-step Syncs waiting for their Follow_Up: sequence number, the Sync. -/
  waiting : Option (Nat × PtpSync) := none
  /-- R255: the latest Sync. -/
  sync : Option PtpSync := none
  /-- R257: arrival of the last Sync from the selected master. -/
  syncAt : Option Nat := none
  /-- R255: the Delay_Req without an answer. -/
  dreq : Option DReq := none
  /-- R255: the last measurements of d, at most 8, in 2^-17 ns. -/
  ds : List Int := []
  /-- R256: the integrator, in 1 / (840 × 2^25) ppb. -/
  i : Int := 0
  /-- R257: consecutive offsets within the lock threshold, and beyond four times it. -/
  good : Nat := 0
  far : Nat := 0
  /-- R258: TBU_FREQ while LOCKED: instant from which each value held, newest first. -/
  freqs : List (Nat × Int) := []
  /-- R258: entry to HOLDOVER. -/
  holdAt : Option Nat := none
  /-- R260: the step in progress. -/
  step : Option StepReq := none
  /-- R260: a request that waits for G2. -/
  stepNext : Option StepReq := none
  /-- R269: the slew in progress. -/
  slew : Option Slew := none
  /-- R266: the armed UTC offset. -/
  utcArm : Option UtcArm := none
  /-- R264: instant since which |TBU_XOFF| has exceeded 100 ns. -/
  xoffSince : Option Nat := none
  /-- R265: the last 16 monitored offsets were within the lock threshold. -/
  monGood : Nat := 0
deriving DecidableEq, Repr

/-! ## Calendar clock (chapter 10) -/

/-- The calendar clock beside its registers. -/
structure Rtc where
  /-- R274, R277: COMMIT written and not yet applied. -/
  commit : Bool := false
  /-- R280: a delivered leap notice: negative, and the instant from which an increment takes it. -/
  leap : Option (Bool × Nat) := none
  /-- R290: comparisons are skipped until this instant. -/
  skipTo : Nat := 0
  /-- R287: the curve, 1/8 ppb, points −40 °C + 4p °C. -/
  curve : Vector Int 33 := Vector.replicate 33 0
  /-- R289: the last valid temperature, 1/16 °C. -/
  temp : Int := 400
  /-- R288: ACC, 1/512 ppb over 8 s. -/
  acc : Int := 0
  /-- R288: cycles scheduled by the compensation: inserted positive, removed negative. -/
  sched : Int := 0
  /-- R291: cycles left of the slew: inserted positive, removed negative. -/
  slew : Int := 0
  /-- R290: instant at which the discipline became active. -/
  since : Option Nat := none
  /-- R290: instant of the next comparison. -/
  cmpAt : Option Nat := none
  /-- R290: instant of the comparison that DISCNOW asks for. -/
  nowAt : Option Nat := none
  /-- R291: net cycles removed by slews in the present 24 h of discipline, the instant from which they are counted, and the sum of the 24 h
  completed with AGEAUTO set until it joins RTC_AGE. -/
  ageSum : Int := 0
  ageFrom : Nat := 0
  ageDone : Option Int := none
  /-- R277: the last commit; an increment that waits, for a commit in its RTC cycle discards it. -/
  takenAt : Option Nat := none
  held : Option Nat := none
  /-- R293: instant at which RTC_SUBSEC took the value that the register holds. -/
  subAt : Nat := 0
  /-- R292: the last loss of the calendar, or the first start. -/
  lostAt : Nat := 0
  /-- R278: RTC_DATE and RTC_SUBSEC as of the last read of RTC_TIME, until read. -/
  snapDate : Option Word := none
  snapSub : Option Word := none
  /-- R283, R285: the first second that matched in KEEP, by alarm: RTC_DATE, RTC_TIME, and whether LATE. -/
  keep : Vector (Option (Word × Word × Bool)) 2 := Vector.replicate 2 none
deriving DecidableEq, Repr

/-! ## Metering (chapter 11) -/

/-- What the front end keeps for one channel.  Sample values are exact, in units of 2^-45 V or A. -/
structure MChan where
  /-- R304: sum of squares and signed peak of the cycle in progress, the peak's stamp, and the cycle's samples, newest first. -/
  sq : Nat := 0
  peak : Int := 0
  peakAt : Nat := 0
  wave : List Int := []
  /-- R298: the integrator of a Rogowski channel, and the samples that the phase trim interpolates between, newest first. -/
  integ : Int := 0
  hist : List Int := []
  /-- R305: energy of the cycle in progress, 2^-90 W·ns / 8,000. -/
  e : Int := 0
  /-- R299: consecutive cycles below 20 % of the range. -/
  low : Nat := 0
  /-- R299: a gain to switch to at the next zero crossing. -/
  want : Option Nat := none
  /-- R299: the last sample was negative. -/
  neg : Bool := false
  /-- R320: cycles over OCTH in a row, the largest RMS of the run and the start of its first cycle. -/
  ocRun : Nat := 0
  ocMax : Nat := 0
  ocFrom : Nat := 0
  /-- R304: RMS and fundamental phasor of the last cycle, Q16.16. -/
  rms : Nat := 0
  fre : Int := 0
  fim : Int := 0
deriving DecidableEq, Repr

/-- What the front end keeps for one circuit. -/
structure MCirc where
  /-- R123: the METER values of codes 0x00 to 0x06. -/
  vals : List Word := []
  /-- R308: import and export cycles seen in the interval, total and fundamental. -/
  imp : Bool := false
  exp : Bool := false
  impF : Bool := false
  expF : Bool := false
  /-- R317: sum of the cycles' THD, 0.01 %, and the cycles. -/
  thd : Nat := 0
  cycles : Nat := 0
  /-- R316: energy of the cycle in progress by TAI second, import energy of the seconds in progress, newest first, and the largest of a whole
  second of the interval, 2^-90 W·ns / 8,000. -/
  part : List (Nat × Int) := []
  secs : List (Nat × Int) := []
  demand : Nat := 0
  /-- R319: maximum demand of the last completed interval, W. -/
  lastDemand : Nat := 0
deriving DecidableEq, Repr

/-- The metering front end beside its registers.  Accumulators are exact, by key: circuit × 16 + INDEX (R309), and
256 + channel × 4 + 0 to 3 for a channel's four; energies in 2^-90 W·ns / 8,000, photons in 2^-24 µmol/s·ns. -/
structure Mtr where
  chans : Sp MChan := []
  circs : Sp MCirc := []
  acc : Sp Nat := []
  /-- R317: accumulators at the start of the interval. -/
  base : Sp Nat := []
  /-- R323: on a standby, what it has measured itself in the interval, and since the last copy. -/
  own : Sp Nat := []
  since : Sp Nat := []
  /-- R304: samples of the cycle in progress, its start (0: not known) and the last sample's stamp. -/
  n : Nat := 0
  from_ : Nat := 0
  last : Nat := 0
  /-- R301: duration of 8,000 samples, ns, as last measured, with the block being measured. -/
  dur : Nat := 1000000000
  blkN : Nat := 0
  blkFrom : Nat := 0
  /-- R313, R317: start of the interval in progress, the interval length in force, FNOM in force. -/
  start : Nat := 0
  intv : Nat := 900
  fnom60 : Bool := false
  /-- R310, R318, R302: ACCRST requested; the interval began with a reset; it began with a step; it holds a cycle without lock. -/
  accrst : Bool := false
  reset : Bool := false
  step : Bool := false
  nolock : Bool := false
  /-- R316: the instant from which the front end has measured without a break. -/
  runFrom : Nat := 0
  /-- R314: photons not yet counted: apply time, circuit, 2^-24 µmol/s·ns. -/
  phot : List (Nat × Nat × Nat) := []
  /-- R298: MTR_CALGAIN and MTR_CALAUX by channel, where the host has changed them. -/
  gain : Sp Nat := []
  aux : Sp Nat := []
deriving DecidableEq, Repr

/-! ## Sensor radio (chapter 12) -/

/-- R341, R347: an exchange with a radio node: a wake slot, or a RECOVER. -/
structure RExch where
  /-- The instant it began, ns. -/
  t0 : Nat
  /-- This module serves it (R355). -/
  own : Bool := true
  /-- It is a RECOVER (R347). -/
  recover : Bool := false
  msg : Nat := 0
  payload : List Nat := []
  /-- End of the last SERVE, LET or RECOVER of the exchange. -/
  txEnd : Nat := 0
  letSent : Bool := false
deriving DecidableEq, Repr

/-- What the module keeps of a radio node beside its table entry. -/
structure RNode where
  /-- R348: the entry holds an accepted counter. -/
  hist : Bool := false
  /-- R337: the counter last accepted under the other copy of the radio-domain key. -/
  rxOther : Option Nat := none
  /-- R380: the node's last frame verified under the PENDING copy of the radio-domain key. -/
  copy : Bool := false
  ex : Option RExch := none
  /-- R355: MSGID of the last REPLY accepted. -/
  lastMsg : Option Nat := none
  /-- R341: start of the rally in which the wake slot last began. -/
  served : Option Nat := none
  /-- R338: the epoch of a rekey that has begun. -/
  rekey : Option Nat := none
  /-- R352: the node declared image support. -/
  canImage : Bool := false
  /-- R343: image state of the last REPLY. -/
  image : Nat := 0
  /-- R352: image and rally start of an ACTIVATE not yet confirmed. -/
  act : Option (Nat × Nat) := none
  /-- R354: a REPLY has followed an announcement of the staged plan. -/
  told : Bool := false
  /-- R345: the instant from which the guard is counted. -/
  sync : Nat := 0
  /-- R351, R382: the challenge of the node's JOIN, and when it was admitted. -/
  chal : List Nat := []
  joinAt : Nat := 0
  /-- R484: counter increments since the last flash copy. -/
  incs : Nat := 0
deriving DecidableEq, Repr

/-- R352: a radio node image being flooded: the nodes it is for, its blocks, the next one, and whether ACTIVATE has gone out. -/
structure RImage where
  id : Nat
  body : List Nat
  next : Nat := 0
  nodes : List Nat := []
  activated : Bool := false
deriving DecidableEq, Repr

/-- R353: an own transmission: start, channel, sub-band in the mode it was sent in, airtime in µs. -/
structure Air where
  at_ : Nat
  chan : Nat
  band : Option Nat
  us : Nat
deriving DecidableEq, Repr

/-- R355: what a standby's serving of its wake slots adds to the counters that both modules keep. -/
inductive RadioAct where
  | served
  | let_ (i : Nat)
  /-- R353: its accountant has moved a SERVE or LET of node `i`. -/
  | moved (i : Nat)
deriving DecidableEq, Repr

/-- The sensor radio beside its registers and its node table. -/
structure Sru where
  nodes : Sp RNode := []
  /-- R339: an instant at which a rally began, from which the others are counted. -/
  base : Nat := 0
  /-- R339: start of the present rally. -/
  rally : Option Nat := none
  /-- R354: the instant at which the staged configuration takes effect. -/
  cfgAt : Option Nat := none
  /-- R354: instant of the write that staged it, and its plan: entry, SLOT, W. -/
  cfgSet : Nat := 0
  next : List (Nat × Nat × Nat) := []
  /-- R355: wake slots are split between the two modules. -/
  split : Bool := false
  /-- R351: (SRC, MSGID, instant received), oldest first. -/
  seen : List (Nat × Nat × Nat) := []
  /-- R337: the counter for broadcasts, and its increments since the last flash copy (R484). -/
  bfc : Nat := 0
  bincs : Nat := 0
  /-- R337: the counter of the last broadcast accepted, by sender. -/
  bcastRx : Sp (Option Nat) := []
  /-- R355: on a standby, what it has counted and not yet told. -/
  acts : List RadioAct := []
  /-- R353: own transmissions. -/
  air : List Air := []
  /-- R347: the node a CALL puts first; the node last called; the rally whose recovery window has been used. -/
  call : Option Nat := none
  called : Nat := 1023
  recovered : Option Nat := none
  /-- R353: ADMITs that wait for the next open window, by entry. -/
  admits : List Nat := []
  img : Option RImage := none
  /-- R484: the flash copies of the radio node table and of the broadcast counter. -/
  flash : Sp Word := []
  bflash : Nat := 0
deriving DecidableEq, Repr

/-! ## Key store (chapter 13) -/

/-- R363: state of a key slot. -/
inductive KState where
  | free | new | active | invalid | orphaned
deriving DecidableEq, Repr

/-- R363: code of a slot state. -/
def KState.code : KState → Nat
  | .free => 0 | .new => 1 | .active => 2 | .invalid => 3 | .orphaned => 4

/-- R363: state of a PENDING copy. -/
inductive KPend where
  | empty | written | verified | failed
deriving DecidableEq, Repr

/-- R385: code of a PENDING state. -/
def KPend.code : KPend → Nat
  | .empty => 0 | .written => 1 | .verified => 2 | .failed => 3

/-- R363 to R366, R373: one key slot. -/
structure KSlot where
  st : KState := .free
  pend : KPend := .empty
  type : Nat := 0
  use : Nat := 0
  parent : Nat := 0
  depth : Nat := 0
  /-- The ACTIVE copy. -/
  key : List Nat := []
  /-- The PENDING copy. -/
  pkey : List Nat := []
  /-- R373: number of the flash copy that is ACTIVE. -/
  copy : Nat := 0
  /-- R381: the PENDING copy was written by KEYGEN. -/
  gen : Bool := false
deriving DecidableEq, Repr

/-- R373: a commit in progress: the slot and word 0 of its record. -/
structure KCommit where
  slot : Nat
  word0 : Word
  /-- R371: the key in the slot's idle flash copy, which VERIFY wrote. -/
  key : List Nat
deriving DecidableEq, Repr

/-- The key store beside its registers. -/
structure Kst where
  /-- R362: slots 1 to 255. -/
  slots : Sp KSlot := []
  /-- R369: the word pointer of KST_KDAT. -/
  kptr : Nat := 0
  /-- R373: the commit in progress. -/
  commit : Option KCommit := none
  /-- R377: descendants still to be marked, ascending. -/
  marks : List Nat := []
  /-- R373, R375: the key log of the save area, newest first: word 0, and word 1 once it has been programmed. -/
  log : List (Word × Option Word) := []
deriving DecidableEq, Repr

/-! ## Long operations (chapter 14) -/

/-- R403, R404: what a long-operation slot keeps beside its registers and its result area. -/
structure LopSlot where
  /-- Steps done, or the number of the next record. -/
  pos : Nat := 0
  /-- The record number at which JSEARCH stops. -/
  stop : Nat := 0
  /-- R406: the query of JSEARCH as captured at its start; R88: the length of the image that PATLOAD has checked. -/
  query : List Nat := []
  /-- R131, R404: a record was rejected, skipped, or a test failed. -/
  bad : Bool := false
  /-- R408: result words that wait to be written; none until the state copy has been taken. -/
  todo : Option (List Word) := none
  /-- R404: state and error with which the operation is to end. -/
  fin : Option (Nat × Nat) := none
deriving DecidableEq, Repr

/-! ## Host access (chapter 16) -/

/-- R465: a peer's IP address (128 bits; IPv4 in the low 32) and UDP port. -/
structure Peer where
  v6 : Bool := false
  addr : BitVec 128 := 0
  port : BitVec 16 := 0
deriving DecidableEq, Repr

/-- R444: a session set-up that has been answered with CHALLENGE. -/
structure HPend where
  id : Nat
  ch : List Nat
  cm : List Nat
  tq : Nat
  at_ : Nat
  peer : Peer
  slot : Nat
deriving DecidableEq, Repr

/-- R446, R447, R459: a session. -/
structure HSess where
  id : Nat
  /-- R444: the challenges, and the slot of the host-domain key. -/
  ch : List Nat := []
  cm : List Nat := []
  tq : Nat := 0
  slot : Nat := 0
  peer : Peer := {}
  /-- Arrival of the last datagram. -/
  last : Nat := 0
  /-- Transactions executed. -/
  count : Nat := 0
  /-- R459: XIDs with the responses sent, lowest first. -/
  cache : List (Nat × List Nat) := []
  /-- R451: snapshots of partner words, by address. -/
  snaps : Sp (Option Word) := []
deriving DecidableEq, Repr

/-- R421: what a datagram leaves to be done after the standby's acknowledgement. -/
structure HTrans where
  id : Nat
  resp : List Nat
  peer : Peer
  /-- R421: the words that the datagram wrote, as they were before it. -/
  old : List (Nat × Word) := []
deriving DecidableEq, Repr

/-- Host access beside its registers. -/
structure Hap where
  /-- The eight sessions, by index; none: unused. -/
  sess : Sp (Option HSess) := []
  /-- R445: session 0. -/
  sess0 : HSess := { id := 0 }
  pend : List HPend := []
  /-- R444: the last session ID given. -/
  lastSid : Nat := 0
  /-- R456: posted writes accepted and not yet applied: bit of HAP_WBUSY, words with their addresses, in an authenticated session, and the
  transaction ID of its datagram. -/
  posted : List (Nat × List (Nat × Word) × Bool × Nat) := []
  /-- R438: a NETCOMMIT waits for its response. -/
  netcommit : Bool := false
  /-- R458: a value of POSTED waits for its response. -/
  newPosted : Option Bool := none
  /-- R480: a host restart waits for its response. -/
  restart : Bool := false
  /-- R436: the bridge's addresses, newest first: MAC, port, instant heard. -/
  macs : List (Nat × Nat × Nat) := []
  /-- R443: datagrams that wait until the one in execution has been answered, oldest first. -/
  waiting : List (Peer × List Nat) := []
deriving DecidableEq, Repr

/-! ## The redundant pair (chapter 15) -/

/-- R419: the copied state. -/
structure Copied where
  /-- The instant at which it was taken. -/
  at_ : Nat := 0
  /-- R461: words that a write of a datagram not yet acknowledged has changed; the copy does not carry them. -/
  held : List Nat := []
  /-- Words of the copied registers and windows, their copied bits. -/
  mem : Sp Word := []
  basted : Sp (Option Word) := []
  bobs : Sp Bobbin := []
  pen : Pen := {}
  zon : Zon := {}
  lums : Sp Lum := []
  dia : Dia := {}
  cce : Cce := {}
  mtr : Mtr := {}
  sru : Sru := {}
  seqs : List Nat := []
  fperUs : Nat := 2000
  leadUs : Nat := 2000
  fperAt : Nat := 0
  leadAt : Nat := 0
  fperWas : Nat := 2000
  fperFrom : Nat := 0
  /-- R189, R197: the node image being distributed; ACTIVATE is to be queued. -/
  img : Option NodeImg := none
  imgGo : Bool := false
  prio : Sp Nat := []
  noq : Sp Bool := []
  step : Option StepReq := none
  utcArm : Option UtcArm := none
  /-- R470: the module's state, and the change that is pending. -/
  quiet : Bool := false
  qreq : Option (Bool × Nat) := none
  sess : Sp (Option HSess) := []
  sess0 : HSess := { id := 0 }
  lastSid : Nat := 0
deriving DecidableEq, Repr

/-- R92, R181, R187, R346, R444: what one module of a pair tells the other: the hash of its idle image, the ENUM lists that have arrived
at its INs, the largest transit of the last second it has measured, by seam, what its serving of wake slots has counted and moved (R355),
and the last session ID it has given.  The state copy gives the lists (R181); the spec names no path for the rest, which travels with the
copies and their acknowledgements too (assumption log 38). -/
structure SeamPeer where
  enums : List (Nat × List EnumRec × Nat) := []
  transits : List (Nat × Nat) := []
  acts : List RadioAct := []
  idle : List Word := []
  /-- R444: the last session ID that the module has given. -/
  sid : Nat := 0
deriving DecidableEq, Repr

/-- R259: what a PTP message in transit carries: its correction, 1/65,536 ns, and its UDP checksum. -/
structure PtpCarried where
  corr : Int
  sum : BitVec 16 := 0
deriving DecidableEq, Repr

/-- R259: a PTP message in transit arrives: its port and the stamp there. -/
structure PtpArrival where
  fromEth2 : Bool := false
  stamp : Nat
deriving DecidableEq, Repr

/-- R92, R417: what an acknowledgement of a copy says of the standby. -/
structure CopyAck where
  peer : SeamPeer := {}
deriving DecidableEq, Repr

/-- R418: one state copy: its number, its frame start, whether its CRC is right, the counters of its header, the latch map (slot,
DIR 1), the journal tail with the numbers, the calibration record installed at the frame start, the words latched as they were before
an unacknowledged write, and the copied state. -/
structure CopyMsg where
  num : Nat
  f : Nat
  crcOk : Bool := true
  evSeq : Nat := 0
  wptr : Nat := 0
  latch : List (Nat × Bool) := []
  tail : List (Nat × EvRec) := []
  install : Option Nat := none
  /-- R134: a CALLOAD has ended since the copy before. -/
  calEnded : Bool := false
  /-- R26, R417, R421: the words that the latch at `f` took as they were before a write not yet acknowledged. -/
  held : List (Nat × Word) := []
  /-- R181, R187: what the active module's seams have brought. -/
  peer : SeamPeer := {}
  /-- R417: the copied words that have changed since the copy before. -/
  changed : List Nat := []
  /-- R418: the solve-input changes of section 0x02: slot, kind (0 T_used, 1 + k the ageing factor of channel k), value. -/
  solve : List (Nat × Nat × Nat) := []
  /-- R431: Fs of an accepted SWAP (assumption log 38). -/
  swap : Option Nat := none
  st : Copied := {}
deriving DecidableEq, Repr

/-- R421: a transaction record: session index (8: session 0), transaction ID, the words written with their addresses, the records
that EVQ_POP0 reads removed (their w1 with LOCAL) and the JNL_RD0 advances, and the response. -/
structure TransMsg where
  sess : Nat
  xid : Nat
  writes : List (Nat × Word) := []
  pops : List (Bool × Word) := []
  cur : Option Word := none
  resp : List Nat := []
  deriving DecidableEq, Repr

/-- R414, R424: what a heartbeat carries. -/
structure Beat where
  role : Nat
  ready : Bool
  permit : Bool
  copy : Nat
deriving DecidableEq, Repr

/-- R382, R430: what the steps of a join find: lanes and paths up, the partner's challenge and its answer to the module's, its format,
its microcode, image and calibration hashes and its module ID, the active image and the calibration records, the link delay, the
partner's time, its whole state. -/
structure JoinFacts where
  linkOk : Bool
  chal : List Nat := []
  answer : List Nat := []
  ihash : List Word := []
  chash : List Word := []
  fmt : Nat
  uhash : List Word
  pid : Nat
  image : Option (List Word) := none
  cal : List (Nat × List Word) := []
  ldly : Nat := 0
  time : Nat := 0
  whole : Copied := {}
deriving DecidableEq, Repr

/-- The crosslink and the pair beside their registers. -/
structure Xlk where
  /-- R430: on an ACTIVE module, its partner is STANDBY. -/
  joined : Bool := false
  /-- R417: number of the next copy. -/
  copyNext : Nat := 0
  /-- R417: on the active module, instant and number of a copy not yet acknowledged; on the standby, of the copy expected. -/
  copyAt : Option (Nat × Nat) := none
  /-- R418: JNL_WPTR up to which the journal tail has been sent, and up to which its copies have been acknowledged. -/
  jnlSent : Nat := 0
  jnlAcked : Nat := 0
  /-- R417, R418: the copied words, and the solve inputs by slot, as the copy before gave them. -/
  told : Sp Word := []
  toldLums : Sp (Int × List Nat) := []
  /-- R420: a copy has been acknowledged since the whole state was last sent. -/
  ackSeen : Bool := false
  /-- R430: the frame start at which a joiner became READY, and the one at which it became STANDBY. -/
  readyAt : Option Nat := none
  freshAt : Option Nat := none
  /-- R502: the FENCE output has been decided on, and is driven at this instant unless the FENCE input is asserted by then. -/
  fenceAt : Option Nat := none
  /-- R417: frame start of the last copy applied. -/
  applied : Option Nat := none
  /-- R90, R92: the hash of the partner's idle image, as it was last told; empty: not told. -/
  partIdle : List Word := []
  /-- R424: instant of the last heartbeat on the crosslink and on the line; instant from which each has been alive. -/
  lastX : Option Nat := none
  lastL : Option Nat := none
  upX : Nat := 0
  upL : Nat := 0
  /-- R425: a heartbeat has arrived in the present interval, by path. -/
  seenX : Bool := false
  seenL : Bool := false
  /-- R429: the path has been reported as silent. -/
  degX : Bool := false
  degL : Bool := false
  /-- R425: the partner has been declared failed, and when. -/
  failedAt : Option Nat := none
  /-- R414: the last heartbeat of the partner. -/
  partner : Option Beat := none
  /-- R425: PERMIT as it stood at the declaration. -/
  permit : Bool := true
  /-- R414: JOINING since. -/
  joinFrom : Nat := 0
  /-- R430: a failed join is tried again from this instant. -/
  retryAt : Option Nat := none
  /-- R430: steps 1 to 6 are done; READY from the next frame start. -/
  joinDone : Bool := false
  /-- R431: Fs of an accepted SWAP. -/
  swapAt : Option Nat := none
  /-- R414: this ACTIVE module is to become JOINING at its next frame start. -/
  demote : Bool := false
  /-- R420: the whole copied state is being sent, or is awaited. -/
  resync : Bool := false
  /-- R421: responses that wait for the standby's acknowledgement. -/
  trans : List HTrans := []
  /-- R416: lanes 0 and 1 are locked. -/
  lane0 : Bool := false
  lane1 : Bool := false
  /-- R432: the bank that boots, the length of each bank's body (none: as shipped), the bank booted at the next restart. -/
  fwBank : Nat := 0
  fwLen : Sp (Option Nat) := []
  fwNext : Option Nat := none
  /-- R432: FWCOMMIT has been written and its check runs: length of the staged image. -/
  fwBusy : Option Nat := none
deriving DecidableEq, Repr

/-! ## Power, hold-up, restarts (chapter 17) -/

/-- R473: one save bank's content. -/
structure Save where
  seq : Nat
  /-- R490: 1 periodic, 2 critical, 3 critical limited. -/
  kind : Nat
  time : Nat
  quiet : Bool
  /-- PHU_CAP, µF. -/
  cap : Nat := 0
  mtr : Mtr
  /-- JNL_WPTR, JNL_COUNT, the marks and JNL_MSTAT, and the last 4,096 records. -/
  jnl : Sp Word
  /-- Words of the ZON and CCE blocks, zones and loops; none in a limited save. -/
  zones : Option (Sp Word × Zon × Cce) := none
  /-- Event queue in arrival order, EVQ_SEQ, EVQ_LSEQ; a critical save's only. -/
  evq : Option (List QRec × Nat × Nat) := none
  /-- TBU_UTCOFF, TBU_FREQ. -/
  clock : Option (Word × Word) := none
deriving DecidableEq, Repr

/-- R483: one copy of the persisted configuration: words by address, and MTR_CALGAIN and MTR_CALAUX by channel. -/
structure Persist where
  words : Sp Word := []
  gain : Sp Nat := []
  aux : Sp Nat := []
deriving DecidableEq, Repr

/-- The power and hold unit, restarts and persistence beside their registers. -/
structure Phu where
  /-- R467: feeds that have been reported lost: bit 0 A, bit 1 B. -/
  feedLost : Nat := 0
  /-- R473: the two save banks; none is not valid. -/
  bank0 : Option Save := none
  bank1 : Option Save := none
  /-- R487: a bank has held a save. -/
  held0 : Bool := false
  held1 : Bool := false
  /-- R476: a periodic save being written. -/
  writing : Option Save := none
  /-- R476: instant of the last periodic snapshot. -/
  psAt : Nat := 0
  /-- R472, R473: entry to HOLD, and whether its save has been completed. -/
  holdAt : Option Nat := none
  saved : Bool := false
  /-- R470, R473: the module entered HOLD from QUIET. -/
  wasQuiet : Bool := false
  /-- R480: what the next restart finds: insertion detector, FENCE input, watchdog. -/
  insertion : Bool := false
  fence : Bool := false
  wdt : Bool := false
  /-- R424, R472, R498: the heartbeats have been stopped. -/
  noBeat : Bool := false
  /-- R470, R471: QUIET (true) or WAKE (false) pending, and when it was written. -/
  qreq : Option (Bool × Nat) := none
  /-- R470: the frame start at which the last WAKE took effect. -/
  wokeAt : Option Nat := none
  /-- R496, R498: a PRESENT contact has opened, so that the module is not mated; its seam drivers are at high impedance. -/
  unmated : Bool := false
  /-- R483: persisted words in two copies, the newer one, and a copy being written. -/
  pcopy0 : Option Persist := none
  pcopy1 : Option Persist := none
  pnewer : Nat := 0
  pwrite : Option Persist := none
  /-- R478: PHU_CAP's flash copy. -/
  capFlash : Nat := 1500
  /-- R479: release of the last reset, instant of the last valid result. -/
  tr : Nat := 0
  /-- The instant from which the module runs. -/
  upAt : Nat := 0
  htLast : Option Nat := none
  htDone : Bool := false
  /-- R526: scrub passes begun since `tr`: program and curve banks, calibration records, journal. -/
  scrubP : Nat := 0
  scrubC : Nat := 0
  scrubJ : Nat := 0
  /-- R139: hourly saves of the ageing factors made since `tr`. -/
  ageSaves : Nat := 0
  /-- R15: by address, the bits of RWV words of which one of the three copies differs from the other two; the word store holds the
  voted value.  No command of the table makes a copy differ. -/
  odd : Sp Nat := []
deriving DecidableEq, Repr

/-- R480, R481: what the release of reset finds: the slot straps, the calendar's run marker gone, the calendar's prescaler, the
firmware bank to boot right, a running partner to join, how long the critical save before a host restart took, µs, and whether the module
is mated. -/
structure RestartFacts where
  slot : Nat
  rtcLost : Bool := false
  sub : Nat := 0
  bankOk : Bool := true
  partner : Bool := false
  us : Nat := 0
  /-- R496: both PRESENT contacts have been closed together for 100 ms. -/
  mated : Bool := true
deriving DecidableEq, Repr


/-! ## Messages the module sends -/

/-- What leaves the module: on a seam, the radio, the crosslink, the network. -/
inductive OutMsg where
  /-- R169: a frame leaves the OUT of a seam at its origin, ns. -/
  | seamFrame (seam origin : Nat) (bytes : List Nat)
  /-- R472, R498, R502: at the instant `at_` the frame in progress on a seam, or the radio transmission in progress, is cut off. -/
  | seamCut (seam at_ : Nat)
  | radioCut (at_ : Nat)
  /-- R400: a standby's local record goes to the active module. -/
  | relayRecord (r : EvRec)
  /-- R422: a valid return field of a slot goes to the partner. -/
  | relayField (slot : Nat) (f : RetField)
  /-- R254, R436: a Delay_Req with its VLAN tag (VID, PCP), if the module works with one, and its sequence number. -/
  | delayReq (tag : Option (Nat × Nat)) (seq : Nat)
  /-- R259: a PTP event message forwarded with this correction field, 2^-16 ns. -/
  | ptpForward (corr : Int) (sum : Nat)
  /-- R334: a radio frame: channel, instant its transmission begins, PSDU. -/
  | radioFrame (chan start : Nat) (dbm : Int) (psdu : List Nat)
  /-- R347: a wake-up call: channel, instant, the 56-bit word as bytes, repetitions. -/
  | wakeCall (chan start : Nat) (dbm : Int) (word : List Nat) (reps : Nat)
  /-- R355: a radio reception is passed to the partner, with its time stamp, its RSSI and the module's counter toward its sender. -/
  | relayRadio (t rssi tx : Nat) (psdu : List Nat)
  /-- R380: a standby's ACTIVE slots with their KCVs go to the active module. -/
  | kcvs (l : List (Nat × Nat))
  /-- R417: a state copy goes to the standby. -/
  | stateCopy (c : CopyMsg)
  /-- R416: an acknowledgement: a copy number, or a transaction ID (session × 2^32 + XID; 2^40 + slot for a calibration record). -/
  | ack (id : Nat)
  /-- R181, R187: with the acknowledgement of a copy, the standby says what its seams have brought. -/
  | seamPeer (p : SeamPeer)
  /-- R421: a transaction record goes to the standby. -/
  | transaction (t : TransMsg)
  /-- R134: a calibration record goes to the standby. -/
  | calRecord (slot : Nat) (words : List Word)
  /-- R424: a heartbeat on the crosslink, and an edge on the heartbeat line. -/
  | heartbeat (b : Beat)
  /-- R263: a time mark, with the time at transmission. -/
  | timeMark (t : Nat)
  /-- R420: the whole copied state. -/
  | whole (c : Copied)
  /-- R382, R430: at a join, the module's challenge, and its answer to the partner's. -/
  | joinAnswer (chal answer : List Nat)
  /-- R430: the active image goes to a joiner. -/
  | bulkImage (words : List Word)
  /-- R425: the FENCE output. -/
  | fence (on : Bool)
  /-- R436, R439: a datagram to a peer, with the VLAN tag of its frame. -/
  | datagram (tag : Option (Nat × Nat)) (peer : Peer) (bytes : List Nat)
  /-- R436: an Ethernet frame leaves ETH1 (0), ETH2 (1) or enters the module's own MAC (2). -/
  | ethFrame (port : Nat) (bytes : List Nat)
  /-- R436: an ARP reply or a neighbour advertisement, or an echo reply, with the VLAN tag of its frame. -/
  | arpReply (tag : Option (Nat × Nat)) (v6 : Bool) (addr : Nat)
  | echoReply (tag : Option (Nat × Nat)) (v6 : Bool) (payload : List Nat)
deriving DecidableEq, Repr

end Sys2Proof.Machine
end

