-- ==== Sys2Proof/Syntax.lean ====
section
/-!
DEFINITION. Syntax.lean: the commands the module takes, one constructor for each row of spec/opcode_table.json.  A register
write carries the word written; a bobbin instruction carries the bobbin that issues it and the fields of R98.
-/

namespace Sys2Proof

open Machine (EvRec)

/-- R110: the amount of a shift: a register or an immediate. -/
inductive ShAmt where
  | reg (b : BitVec 4)
  | imm (k : BitVec 5)
deriving DecidableEq, Repr

/-- R151: a residue mismatch of a luminaire's solve, and whether the recomputation mismatches too; the lane is the one that R145
deals the luminaire to. -/
structure SolveFault where
  slot : Nat
  again : Bool
deriving DecidableEq, Repr

/-- The commands of the block: one constructor for each row of the command table, in the order of the table, those with operands first. -/
inductive Instr where
  /-- SOLVE_COMPLETE. R146, R151, R153: the residue mismatches and cap compare failures met, and the CORE cycles taken. -/
  | solveComplete (faults : List SolveFault) (capFails cycles : Nat)
  /-- SME_LANE_OUT. R152. -/
  | smeLaneOut (lane : BitVec 3)
  /-- WAITK_RELEASE. R72. -/
  | waitkRelease (n : BitVec 5)
  /-- WAITT_RELEASE. R72. -/
  | waittRelease (n : BitVec 5)
  /-- NOP. R109. -/
  | nop (n : BitVec 5)
  /-- ADD. R109. -/
  | add (n : BitVec 5) (d a b : BitVec 4)
  /-- SUB. R109. -/
  | sub (n : BitVec 5) (d a b : BitVec 4)
  /-- MUL. R109. -/
  | mul (n : BitVec 5) (d a b : BitVec 4)
  /-- AND. R109. -/
  | and (n : BitVec 5) (d a b : BitVec 4)
  /-- OR. R109. -/
  | or (n : BitVec 5) (d a b : BitVec 4)
  /-- XOR. R109. -/
  | xor (n : BitVec 5) (d a b : BitVec 4)
  /-- SHL. R110. -/
  | shl (n : BitVec 5) (d a : BitVec 4) (by_ : ShAmt)
  /-- SHR. R110. -/
  | shr (n : BitVec 5) (d a : BitVec 4) (by_ : ShAmt)
  /-- SAR. R110. -/
  | sar (n : BitVec 5) (d a : BitVec 4) (by_ : ShAmt)
  /-- ADDI. R109. -/
  | addi (n : BitVec 5) (d a : BitVec 4) (imm : BitVec 18)
  /-- LDI. R109. -/
  | ldi (n : BitVec 5) (d : BitVec 4) (imm : BitVec 18)
  /-- LDH. R109. -/
  | ldh (n : BitVec 5) (d a : BitVec 4) (imm : BitVec 18)
  /-- CMP. R109. -/
  | cmp (n : BitVec 5) (a b : BitVec 4)
  /-- CMPI. R109. -/
  | cmpi (n : BitVec 5) (a : BitVec 4) (imm : BitVec 18)
  /-- MIN. R109. -/
  | min (n : BitVec 5) (d a b : BitVec 4)
  /-- MINU. R109. -/
  | minu (n : BitVec 5) (d a b : BitVec 4)
  /-- MAX. R109. -/
  | max (n : BitVec 5) (d a b : BitVec 4)
  /-- MAXU. R109. -/
  | maxu (n : BitVec 5) (d a b : BitVec 4)
  /-- MULQ. R109. -/
  | mulq (n : BitVec 5) (d a b : BitVec 4)
  /-- LD. R111. -/
  | ld (n : BitVec 5) (d a : BitVec 4) (off : BitVec 18)
  /-- ST. R111. -/
  | st (n : BitVec 5) (d a : BitVec 4) (off : BitVec 18)
  /-- LDV. R112. -/
  | ldv (n : BitVec 5) (d : BitVec 3) (a : BitVec 4) (off : BitVec 18)
  /-- STV. R112. -/
  | stv (n : BitVec 5) (d : BitVec 3) (a : BitVec 4) (off : BitVec 18)
  /-- BR. R113. -/
  | br (n : BitVec 5) (cond : BitVec 4) (off : BitVec 22)
  /-- JMP. R113. -/
  | jmp (n : BitVec 5) (target : BitVec 16)
  /-- CALL. R113. -/
  | call (n : BitVec 5) (target : BitVec 16)
  /-- RET. R113. -/
  | ret (n : BitVec 5) (a : BitVec 4)
  /-- LOOP. R113. -/
  | loop (n : BitVec 5) (d : BitVec 4) (off : BitVec 18)
  /-- VADD. R114. -/
  | vadd (n : BitVec 5) (d a b : BitVec 3)
  /-- VSUB. R114. -/
  | vsub (n : BitVec 5) (d a b : BitVec 3)
  /-- VSCL. R114. -/
  | vscl (n : BitVec 5) (d a : BitVec 3) (g : BitVec 4)
  /-- VMIX. R114. -/
  | vmix (n : BitVec 5) (d a b : BitVec 3) (g : BitVec 4)
  /-- VDOT. R114. -/
  | vdot (n : BitVec 5) (g : BitVec 4) (a b : BitVec 3)
  /-- VSUM. R114. -/
  | vsum (n : BitVec 5) (g : BitVec 4) (a : BitVec 3)
  /-- VEXT. R115. -/
  | vext (n : BitVec 5) (g : BitVec 4) (a lane : BitVec 3)
  /-- VINS. R115. -/
  | vins (n : BitVec 5) (d a : BitVec 3) (g : BitVec 4) (lane : BitVec 3)
  /-- CURVE. R116. -/
  | curve (n : BitVec 5) (d a : BitVec 4) (c : BitVec 8)
  /-- TIME. R117. -/
  | time (n : BitVec 5) (d : BitVec 4) (code : BitVec 18)
  /-- CIVIL. R118. -/
  | civil (n : BitVec 5) (d : BitVec 4) (code : BitVec 18)
  /-- WAITT. R72, R116. -/
  | waitt (n : BitVec 5) (a b : BitVec 4)
  /-- WAITK. R72, R116. -/
  | waitk (n : BitVec 5) (a : BitVec 4) (imm : BitVec 18)
  /-- ZSET. R119. -/
  | zset (n : BitVec 5) (a : BitVec 3) (g : BitVec 4)
  /-- ZGET. R119. -/
  | zget (n : BitVec 5) (d : BitVec 3) (g : BitVec 4)
  /-- ZGAIN. R119. -/
  | zgain (n : BitVec 5) (d a : BitVec 4)
  /-- ZMODE. R119. -/
  | zmode (n : BitVec 5) (a : BitVec 4) (m : BitVec 1)
  /-- SENSE. R120. -/
  | sense (n : BitVec 5) (d a : BitVec 4) (q : BitVec 8)
  /-- METER. R123. -/
  | meter (n : BitVec 5) (d a : BitVec 4) (code : BitVec 8)
  /-- EMIT. R124. -/
  | emit (n : BitVec 5) (prio : BitVec 2) (a b : BitVec 4) (code : BitVec 7)
  /-- SIG. R124. -/
  | sig (n : BitVec 5) (a : BitVec 4) (bits : BitVec 16)
  /-- WAITS. R124. -/
  | waits (n : BitVec 5) (mask : BitVec 16)
  /-- CSR. R125. -/
  | csr (n : BitVec 5) (d : BitVec 4) (num : BitVec 8)
  /-- HALT. R124. -/
  | halt (n : BitVec 5)
  /-- PEN_BUDGET. R70. -/
  | penBudget (n : BitVec 5)
  /-- PEN_PFIX. R78: the repair of the word the bobbin is parked for ends. -/
  | penPfix (n : BitVec 5) (flashOk : Bool)
  /-- PEN_CTL_WRITE. R93. -/
  | penCtlWrite (v : BitVec 32)
  /-- PEN_TICK_WRITE. R65. -/
  | penTickWrite (v : BitVec 32)
  /-- PEN_IMGPTR_WRITE. R87. -/
  | penImgptrWrite (v : BitVec 32)
  /-- PEN_IMGDAT_WRITE. R87. -/
  | penImgdatWrite (v : BitVec 32)
  /-- PEN_HSIG_WRITE. R72. -/
  | penHsigWrite (v : BitVec 32)
  /-- PEN_DATA_WRITE. R75: byte address in pattern data memory. -/
  | penDataWrite (a : BitVec 17) (v : BitVec 32)
  /-- PEN_DATA_READ. R80. -/
  | penDataRead (a : BitVec 17)
  /-- PEN_BCTL_START. R97: the word written, with START set. -/
  | penBctlStart (n : BitVec 5) (v : BitVec 32)
  /-- PEN_BCTL_STOP. R97: the word written, with STOP set. -/
  | penBctlStop (n : BitVec 5) (v : BitVec 32)
  /-- PEN_BBUDGET_WRITE. R97. -/
  | penBbudgetWrite (n : BitVec 5) (v : BitVec 32)
  /-- PEN_BWIN_WRITE. R74. -/
  | penBwinWrite (n : BitVec 5) (v : BitVec 32)
  /-- PATLOAD. R88: the operation starts, or runs its next step. -/
  | patload (slot : BitVec 3) (flashOk : Bool)
  /-- NODE_ZONE_WRITE. R39. -/
  | nodeZoneWrite (i : BitVec 12) (v : BitVec 32)
  /-- ZON_TGT_WRITE. R43. -/
  | zonTgtWrite (z : BitVec 9) (k : BitVec 2) (v : BitVec 32)
  /-- ZON_CTL_WRITE. R44. -/
  | zonCtlWrite (z : BitVec 9) (v : BitVec 32)
  /-- SME_CALPTR_WRITE. R87. -/
  | smeCalptrWrite (v : BitVec 32)
  /-- SME_CALDAT_WRITE. R87. -/
  | smeCaldatWrite (v : BitVec 32)
  /-- CALLOAD. R131: the operation starts, or its next record is checked and written to flash. -/
  | calload (slot : BitVec 3) (flashOk : Bool)
  /-- SME_CALFIX. R154: the repair of record i ends. -/
  | smeCalfix (i : BitVec 12)
  /-- SEAM_FRAME_RECEIVED. R27: the EOF of a frame is received at the IN of seam n; its SOF was stamped at sof. -/
  | seamFrameReceived (n : BitVec 5) (sof : Nat) (bytes : List (BitVec 8))
  /-- CONTROL_FRAME_RESEND. R195. -/
  | controlFrameResend (n : BitVec 5)
  /-- SEA_RESEND_FAIL. R195. -/
  | seaResendFail (n : BitVec 5)
  /-- SEAM_SIGNAL_LOST. R199. -/
  | seamSignalLost (n : BitVec 5)
  /-- SEA_NODE_LOST. R185. -/
  | seaNodeLost (i : BitVec 12)
  /-- SLOW_CLEAR. R185. -/
  | slowClear (i : BitVec 12)
  /-- AUX_WINDOW. R189: the auxiliary frames of seam n that fit from now on. -/
  | auxWindow (n : BitVec 5)
  /-- SEA_CMD_ENUM. R182. -/
  | seaCmdEnum (n : BitVec 5)
  /-- SEA_CMD_CENSUS. R182. -/
  | seaCmdCensus (n : BitVec 5)
  /-- SEA_CTL_WRITE. R162. -/
  | seaCtlWrite (n : BitVec 5) (v : BitVec 32)
  /-- SEA_FPER_WRITE. R186. -/
  | seaFperWrite (v : BitVec 32)
  /-- SEA_LEAD_WRITE. R188. -/
  | seaLeadWrite (v : BitVec 32)
  /-- SEA_CFG_WRITE. R206: a write to the SEA_CFG register of seam n at offset a. -/
  | seaCfgWrite (n : BitVec 5) (a : BitVec 8) (v : BitVec 32)
  /-- SEA_CFGCMD_GO. R206. -/
  | seaCfgcmdGo (n : BitVec 5)
  /-- NODE_ACCEPT. R183. -/
  | nodeAccept (i : BitVec 12)
  /-- NODE_LDLY_WRITE. R177. -/
  | nodeLdlyWrite (i : BitVec 12) (v : BitVec 32)
  /-- SEA_IMGPTR_WRITE. R87. -/
  | seaImgptrWrite (v : BitVec 32)
  /-- SEA_IMGDAT_WRITE. R87. -/
  | seaImgdatWrite (v : BitVec 32)
  /-- NODEIMG. R197, R403: the operation starts, or its progress is examined. -/
  | nodeimg (slot : BitVec 3)
  /-- LAMP_UNVERIFIED_AGED. R216. -/
  | lampUnverifiedAged (slot : BitVec 12) (ch : BitVec 3)
  /-- INNER_LOOP_RUN. R231. -/
  | innerLoopRun (z : BitVec 9)
  /-- OUTER_LOOP_RUN. R228. -/
  | outerLoopRun (z : BitVec 9)
  /-- CCE_FETRIP. R242. -/
  | cceFetrip (z : BitVec 9) (outer : Bool)
  /-- CCE_FECLEAR. R242. -/
  | cceFeclear (z : BitVec 9) (outer : Bool)
  /-- CCE_STALE. R243. -/
  | cceStale (z : BitVec 9)
  /-- CCE_LCTL_WRITE. R244. -/
  | cceLctlWrite (z : BitVec 9) (v : BitVec 32)
  /-- PTP_SYNC_RECEIVED. R255: a Sync with origin timestamp t1, received at t2. -/
  | ptpSyncReceived (h : Machine.PtpHdr) (twoStep : Bool) (t1 t2 : Nat) (logInt : Int)
  /-- FOLLOW_UP_RECEIVED. R255. -/
  | followUpReceived (h : Machine.PtpHdr) (t1 : Nat)
  /-- DELAY_REQ_SEND. R254, R255: a Delay_Req leaves with send stamp t3. -/
  | delayReqSend (seq t3 : Nat)
  /-- DELAY_RESP_RECEIVED. R255. -/
  | delayRespReceived (h : Machine.PtpHdr) (t4 : Nat) (logMin : Int)
  /-- ANNOUNCE_RECEIVED. R254. -/
  | announceReceived (h : Machine.PtpHdr) (a : Machine.AnnData)
  /-- PTP_TRANSIT. R259: a PTP message in transit between the Ethernet ports, a Sync or Delay_Req when event, with its stamps at the PHYs. -/
  | ptpTransit (corr : Machine.PtpCarried) (event : Bool) (ingress : Machine.PtpArrival) (egress : Nat)
  /-- TIME_MARK_RECEIVED. R263. -/
  | timeMarkReceived (mark stamp : Nat)
  /-- PAIR_FIRST_WORD_READ. R451. -/
  | pairFirstWordRead (a : BitVec 32)
  /-- RTC_STAGE_WRITE. R274: a host write of RTC_TIME, or of RTC_DATE. -/
  | rtcStageWrite (date : Bool) (v : BitVec 32)
  /-- RTC_TIME_READ. R278: a host read of RTC_TIME while the prescaler is at sub. -/
  | rtcTimeRead (sub : BitVec 15)
  /-- RTC_ALARM_WRITE. R284: a host write of alarm n's TIME (k 0), DATE (1) or CTL (2) register. -/
  | rtcAlarmWrite (n : BitVec 1) (k : BitVec 2) (v : BitVec 32)
  /-- RTC_TEMP_READ. R288: the sensor's reading, none when it is missing. -/
  | rtcTempRead (t : Option (BitVec 16))
  /-- RTC_DISCIPLINE_COMPARE. R290: with the prescaler at sub. -/
  | rtcDisciplineCompare (sub : BitVec 15)
  /-- MTR_CYCLE_END. R302, R303: a line cycle ends at end_; whether the loop has acquired, and the frequency of L1, L2 and L3 (Q16.16). -/
  | mtrCycleEnd (end_ : Nat) (settled : Bool) (hz : List (BitVec 32))
  /-- MTR_CMD_ACCRST. R310. -/
  | mtrCmdAccrst (confirm : BitVec 16)
  /-- MTR_INTV_WRITE. R313. -/
  | mtrIntvWrite (v : BitVec 32)
  /-- WAKE_SLOT. R341: the wake slot of radio node i begins. -/
  | wakeSlot (i : BitVec 10)
  /-- LET_TIMEOUT. R341: the time for radio node i's REPLY to the SERVE is over. -/
  | letTimeout (i : BitVec 10)
  /-- WAKE_SLOT_MISSED. R346: radio node i's wake slot ends unanswered. -/
  | wakeSlotMissed (i : BitVec 10)
  /-- REPLY_RECEIVED. R343: a REPLY whose SFD the capture unit stamps t, before the latency of R333 is removed. -/
  | replyReceived (t : Nat) (rssi : BitVec 8) (psdu : List (BitVec 8))
  /-- SRU_LOST. R347: the call of radio node i ends unanswered. -/
  | sruLost (i : BitVec 10)
  /-- JOIN_RECEIVED. R348. -/
  | joinReceived (t : Nat) (psdu : List (BitVec 8))
  /-- FLOOD_RECEIVED. R351. -/
  | floodReceived (t : Nat) (psdu : List (BitVec 8))
  /-- SRU_REKEY. R338: radio node i's counters are checked for a rekey. -/
  | sruRekey (i : BitVec 10)
  /-- RADIO_CONFIG_WRITE. R354: a host write of SRU_CTL (k 0), SRU_RALLY (1), SRU_WIN (2), SRU_CHAN (3) or SRU_HOPSEED (4). -/
  | radioConfigWrite (k : BitVec 3) (v : BitVec 32)
  /-- SRU_TXPWR_WRITE. R332. -/
  | sruTxpwrWrite (v : BitVec 32)
  /-- RADIO_NODE_WRITE. R361: a host write of word w of entry i. -/
  | radioNodeWrite (i : BitVec 10) (w : BitVec 4) (v : BitVec 32)
  /-- SRU_IMGPTR_WRITE. R87. -/
  | sruImgptrWrite (v : BitVec 32)
  /-- SRU_IMGDAT_WRITE. R87. -/
  | sruImgdatWrite (v : BitVec 32)
  /-- RADIOIMG. R352, R403: a host write of code 0x04 to LOP_CMD[slot]. -/
  | radioimg (slot : BitVec 3)
  /-- RADIO_RELAY_RECEIVED. R355: a reception relayed by the partner, stamped t, with the partner's counter toward its sender. -/
  | radioRelayReceived (t : Nat) (rssi : BitVec 8) (tx : BitVec 32) (psdu : List (BitVec 8))
  /-- KST_CMD_CREATE. R370: written in an authenticated session or not (R372). -/
  | kstCmdCreate (auth : Bool)
  /-- KST_CMD_VERIFY. R371. -/
  | kstCmdVerify (auth : Bool)
  /-- KST_CMD_COMMIT. R373. -/
  | kstCmdCommit (auth : Bool)
  /-- KST_CMD_DISCARD. R371. -/
  | kstCmdDiscard (auth : Bool)
  /-- KST_CMD_INVALIDATE. R377. -/
  | kstCmdInvalidate (auth : Bool)
  /-- KST_CMD_DELETE. R378. -/
  | kstCmdDelete (auth : Bool)
  /-- KST_CMD_DERIVE. R369. -/
  | kstCmdDerive (auth : Bool)
  /-- KST_KDAT_WRITE. R371. -/
  | kstKdatWrite (auth : Bool) (v : BitVec 32)
  /-- KST_SEL_WRITE. R369. -/
  | kstSelWrite (v : BitVec 32)
  /-- KST_CTL_WRITE. R372. -/
  | kstCtlWrite (v : BitVec 32)
  /-- KCV_COMPARE. R380: the ACTIVE slots and KCVs of the partner. -/
  | kcvCompare (partner : List (BitVec 8 × BitVec 24))
  /-- KEYGEN. R381, R403: a host write of code 0x09 to LOP_CMD[slot]. -/
  | keygen (slot : BitVec 3)
  /-- ATTEST. R383, R403: a host write of code 0x05 to LOP_CMD[slot]. -/
  | attest (slot : BitVec 3)
  /-- EVQ_CTL_WRITE. R397. -/
  | evqCtlWrite (v : BitVec 32)
  /-- JNL_REPAIR. R401: record n is repaired from the partner's copy, none without one. -/
  | jnlRepair (n : BitVec 32) (partner : Option EvRec)
  /-- JNL_CMD_REWIND. R402. -/
  | jnlCmdRewind (m : BitVec 3) (oldest : Bool)
  /-- JNL_MARK_WRITE. R402. -/
  | jnlMarkWrite (m : BitVec 3) (v : BitVec 32)
  /-- JNL_SCRUB_PASS. R526: with the partner's copies of the records that fail. -/
  | jnlScrubPass (partner : List (BitVec 32 × EvRec))
  /-- LOP_ABORT. R403. -/
  | lopAbort (slot : BitVec 3)
  /-- LOP_CLEAR. R405. -/
  | lopClear (slot : BitVec 3)
  /-- LOP_UNKNOWN_CODE. R403: a start with a code that names no operation. -/
  | lopUnknownCode (slot : BitVec 3) (code : BitVec 8)
  /-- JSEARCH. R406: the operation starts, or examines its next n records. -/
  | jsearch (slot : BitVec 3) (n : BitVec 20)
  /-- SELFTEST. R407: the operation starts, or runs its next test; failures are those that a test of hardware finds. -/
  | selftest (slot : BitVec 3) (failures : BitVec 16)
  /-- HOLDTEST. R478: the operation starts, or its discharge ends after us µs, with a dip of the rail below PHU_WARN. -/
  | holdtest (slot : BitVec 3) (us : BitVec 20) (dip : Bool)
  /-- STATEDUMP. R408: the operation starts, or writes its result words. -/
  | statedump (slot : BitVec 3)
  /-- LOP_RACK_WRITE. R405. -/
  | lopRackWrite (slot : BitVec 3) (v : BitVec 32)
  /-- LOP_DONE. R403. -/
  | lopDone (slot : BitVec 3)
  /-- HEARTBEAT_RECEIVED. R414, R424: heartbeat b on the crosslink or on the heartbeat line. -/
  | heartbeatReceived (line : Bool) (b : Machine.Beat)
  /-- XLK_LANE_LOSS. R416. -/
  | xlkLaneLoss (lane : BitVec 1)
  /-- STATE_COPY_RECEIVED. R417, R419: copy c, and the first segment of its refresh that differs from the standby's own. -/
  | stateCopyReceived (c : Machine.CopyMsg) (diff : Option (BitVec 11))
  /-- STATE_COPY_ACK. R417: copy num is acknowledged by a standby whose idle image has the same hash or not, with what its seams have
  brought (R181, R187). -/
  | stateCopyAck (num : BitVec 32) (idleSame : Machine.CopyAck)
  /-- READY_REGAIN. R420: the whole copied state arrives. -/
  | readyRegain (w : Machine.Copied)
  /-- TRANSACTION_RECORD_RECEIVED. R421. -/
  | transactionRecordReceived (t : Machine.TransMsg)
  /-- TRANSACTION_ACK. R421. -/
  | transactionAck (id : Nat)
  /-- RETURN_FIELD_RELAY. R422. -/
  | returnFieldRelay (i : BitVec 12) (f : Machine.RetField)
  /-- LOCAL_RECORD_RELAY. R400. -/
  | localRecordRelay (r : Machine.EvRec)
  /-- CAL_RECORD_RECEIVED. R134. -/
  | calRecordReceived (slot : BitVec 12) (words : List (BitVec 32))
  /-- XLK_FWPTR_WRITE. R87, R432. -/
  | xlkFwptrWrite (v : BitVec 32)
  /-- XLK_FWDAT_WRITE. R87, R432. -/
  | xlkFwdatWrite (v : BitVec 32)
  /-- PAIR_JOIN. R430: what the steps of the join find. -/
  | pairJoin (x : Machine.JoinFacts)
  /-- ETH_FRAME_FORWARD. R20, R436: frame b enters ETH1 or ETH2, with a wrong FCS or not. -/
  | ethFrameForward (port : BitVec 1) (bad : Bool) (b : List (BitVec 8))
  /-- ARP_REQUEST. R436: a request for an IPv4 or IPv6 address. -/
  | arpRequest (v6 : Bool) (addr : BitVec 128)
  /-- ICMP_ECHO. R436: an echo request to an address, not fragmented or fragmented. -/
  | icmpEcho (v6 whole : Bool) (addr : BitVec 128) (payload : List (BitVec 8))
  /-- HELLO. R444: datagram b from peer. -/
  | hello (peer : Machine.Peer) (b : List (BitVec 8))
  /-- PROVE. R444: datagram b from peer. -/
  | prove (peer : Machine.Peer) (b : List (BitVec 8))
  /-- REQUEST. R443: datagram b from peer. -/
  | request (peer : Machine.Peer) (b : List (BitVec 8))
  /-- CLOSE. R446: datagram b from peer. -/
  | close (peer : Machine.Peer) (b : List (BitVec 8))
  /-- POSTED_WRITE_APPLY. R456: the posted write of bit b of HAP_WBUSY is applied. -/
  | postedWriteApply (b : BitVec 5)
  /-- PHU_FEED_LOST. R467: feed A or B at v and the rail at rail, 10 mV. -/
  | phuFeedLost (feed : BitVec 1) (v rail : BitVec 13)
  /-- PHU_FEED_RESTORED. R467. -/
  | phuFeedRestored (feed : BitVec 1) (v : BitVec 13)
  /-- PHU_WARN. R468. -/
  | phuWarn (rail : BitVec 13)
  /-- PHU_WARN_END. R468. -/
  | phuWarnEnd (rail : BitVec 13)
  /-- HOLD_ENTRY. R472. -/
  | holdEntry (rail : BitVec 13)
  /-- CRITICAL_SAVE_COMPLETE. R473: the save took us µs. -/
  | criticalSaveComplete (us : BitVec 12)
  /-- KEEP_ENTRY. R470. -/
  | keepEntry (rail : BitVec 13)
  /-- SAG_RESTART. R470. -/
  | sagRestart (rail : BitVec 13)
  /-- PERIODIC_SAVE_DONE. R476. -/
  | periodicSaveDone (ok : Bool)
  /-- PHU_THRESHOLD_WRITE. R469: a write of v to PHU_WARN (0), PHU_SAVE (1) or PHU_RESUME (2). -/
  | phuThresholdWrite (k : BitVec 2) (v : BitVec 32)
  /-- GLB_PERSIST. R483. -/
  | glbPersist (ok : Bool)
  /-- GLB_CMD_PCLR. R483. -/
  | glbCmdPclr (confirm : BitVec 16)
  /-- GLB_CMD_RESTART. R480. -/
  | glbCmdRestart (confirm : BitVec 16)
  /-- GLB_RESTART. R481: what the release of reset finds. -/
  | glbRestart (x : Machine.RestartFacts)
  /-- REGISTER_WRITE. R450: a write of v to address a, in an authenticated session or not. -/
  | registerWrite (auth : Bool) (a v : BitVec 32)
  /-- ILLEGAL_INSTRUCTION. R99: the bobbin issues the word w. -/
  | illegalInstruction (n : BitVec 5) (w : BitVec 32)
  /-- SEAM_LINK_LOCK. R166. -/
  | seamLinkLock (n : BitVec 5)
  /-- ETH_LINK_CHANGE. R436. -/
  | ethLinkChange (port : BitVec 1) (up gbe : Bool)
  /-- XLK_LANE_LOCK. R416. -/
  | xlkLaneLock (lane : BitVec 1)
  /-- FIRMWARE_BANK_VERIFIED. R432: the flash write was good or not. -/
  | firmwareBankVerified (flashOk : Bool)
  /-- MTR_SAMPLE. R297, R300: the samples of the 28 channels at the modulator instant t, and the second modulators' samples at ×1. -/
  | mtrSample (t : Nat) (raw alt : List Int)
  /-- TBU_CTL_WRITE. R257. -/
  | tbuCtlWrite (v : BitVec 32)
  /-- FRAME_START. R25: the time base reaches the next frame-grid instant. -/
  | frameStart
  /-- TICK_COMMIT. R46. -/
  | tickCommit
  /-- TICK_CHANGE. R65. -/
  | tickChange
  /-- PATTERN_SWAP. R91. -/
  | patternSwap
  /-- GROUP_BOUNDARY. R68. -/
  | groupBoundary
  /-- PROGRAM_SCRUB_PASS. R79. -/
  | programScrubPass
  /-- PEN_CMD_SWAP. R90. -/
  | penCmdSwap
  /-- PEN_CMD_DISARM. R90. -/
  | penCmdDisarm
  /-- CALLOAD_RECORD_INSTALL. R131. -/
  | calloadRecordInstall
  /-- SME_CMD_LANERST. R152. -/
  | smeCmdLanerst
  /-- CAL_SCRUB_PASS. R155. -/
  | calScrubPass
  /-- AGEING_SAVE. R139. -/
  | ageingSave
  /-- SME_TSTALE. R136. -/
  | smeTstale
  /-- CENSUS. R182. -/
  | census
  /-- FRAME_PERIOD_CHANGE. R186. -/
  | framePeriodChange
  /-- LEAD_CHANGE. R188. -/
  | leadChange
  /-- DIA_CMD_CLR. R222. -/
  | diaCmdClr
  /-- DIA_CMD_CLRALL. R222. -/
  | diaCmdClrall
  /-- CCE_CMD_COMMIT. R238. -/
  | cceCmdCommit
  /-- CCE_CMD_FECLR. R242. -/
  | cceCmdFeclr
  /-- CCE_CMD_DLIRST. R237. -/
  | cceCmdDlirst
  /-- ANNOUNCE_TIMEOUT. R257. -/
  | announceTimeout
  /-- SYNC_TIMEOUT. R257. -/
  | syncTimeout
  /-- TBU_HOLDEND. R257. -/
  | tbuHoldend
  /-- STEP_BEGIN. R260. -/
  | stepBegin
  /-- TIME_STEP. R260. -/
  | timeStep
  /-- TBU_CMD_CAP. R270. -/
  | tbuCmdCap
  /-- TBU_CMD_SET. R269. -/
  | tbuCmdSet
  /-- TBU_CMD_SLEW. R269. -/
  | tbuCmdSlew
  /-- SLEW_COMPLETE. R269. -/
  | slewComplete
  /-- TBU_CMD_UTCARM. R266. -/
  | tbuCmdUtcarm
  /-- UTC_OFFSET_CHANGE. R266. -/
  | utcOffsetChange
  /-- LEAP_NOTICE. R280. -/
  | leapNotice
  /-- RTC_CMD_COMMIT. R274. -/
  | rtcCmdCommit
  /-- RTC_COMMIT_APPLY. R277. -/
  | rtcCommitApply
  /-- RTC_CMD_DISCNOW. R290. -/
  | rtcCmdDiscnow
  /-- RTC_SECOND. R281: the prescaler completes a second. -/
  | rtcSecond
  /-- RTC_CYCLE_ADJUST. R288: the next scheduled cycle adjustment is made. -/
  | rtcCycleAdjust
  /-- RTC_AGE_UPDATE. R291. -/
  | rtcAgeUpdate
  /-- INTERVAL_BOUNDARY. R317. -/
  | intervalBoundary
  /-- RALLY_START. R339. -/
  | rallyStart
  /-- RECOVERY_WINDOW. R347. -/
  | recoveryWindow
  /-- SEEN_CACHE_EXPIRY. R351. -/
  | seenCacheExpiry
  /-- RADIO_CONFIG_CHANGE. R354. -/
  | radioConfigChange
  /-- SRU_CMD_DROP. R361. -/
  | sruCmdDrop
  /-- SRU_CMD_CALL. R347. -/
  | sruCmdCall
  /-- SRU_CMD_REKEY. R338. -/
  | sruCmdRekey
  /-- KST_COMMIT. R373. -/
  | kstCommit
  /-- ORPHAN_MARK. R377. -/
  | orphanMark
  /-- EVQ_POP0_READ. R396. -/
  | evqPop0Read
  /-- EVQ_BANK_SWAP. R393. -/
  | evqBankSwap
  /-- EVQ_CMD_SWAP. R394. -/
  | evqCmdSwap
  /-- EVQ_MODE_CHANGE. R397. -/
  | evqModeChange
  /-- EVQ_WMSTAT_READ. R398. -/
  | evqWmstatRead
  /-- JNL_RD0_READ. R401. -/
  | jnlRd0Read
  /-- HEARTBEAT_SEND. R424. -/
  | heartbeatSend
  /-- HEARTBEAT_INTERVAL. R425. -/
  | heartbeatInterval
  /-- XLK_TAKEOVER. R425. -/
  | xlkTakeover
  /-- ACTIVE_FENCE_ASSERT. R425. -/
  | activeFenceAssert
  /-- XLK_PATH_RESTORED. R429. -/
  | xlkPathRestored
  /-- FENCE_IN_ASSERT. R426. -/
  | fenceInAssert
  /-- XLK_COPYLOST. R420. -/
  | xlkCopylost
  /-- XLK_CMD_SWAP. R431. -/
  | xlkCmdSwap
  /-- XLK_SWAP. R431. -/
  | xlkSwap
  /-- XLK_CMD_RESYNC. R420. -/
  | xlkCmdResync
  /-- XLK_CMD_FWCOMMIT. R432. -/
  | xlkCmdFwcommit
  /-- XLK_JOIN. R430. -/
  | xlkJoin
  /-- JOIN_RETRY. R430. -/
  | joinRetry
  /-- PARTNER_WAIT_EXPIRY. R414. -/
  | partnerWaitExpiry
  /-- SETUP_EXPIRY. R444. -/
  | setupExpiry
  /-- SESSION_TIMEOUT. R446. -/
  | sessionTimeout
  /-- HAP_CMD_NETCOMMIT. R438. -/
  | hapCmdNetcommit
  /-- HAP_NETCHG. R438. -/
  | hapNetchg
  /-- HAP_CMD_CLOSE. R446. -/
  | hapCmdClose
  /-- HAP_CMD_CLOSEALL. R446. -/
  | hapCmdCloseall
  /-- POSTED_MODE_CHANGE. R458. -/
  | postedModeChange
  /-- PERIODIC_SAVE. R476. -/
  | periodicSave
  /-- HOLDTEST_AUTO. R479. -/
  | holdtestAuto
  /-- GLB_CMD_QUIET. R470. -/
  | glbCmdQuiet
  /-- GLB_CMD_WAKE. R470. -/
  | glbCmdWake
  /-- GLB_STATECHG. R470. -/
  | glbStatechg
  /-- GLB_CMD_PERSIST. R483. -/
  | glbCmdPersist
  /-- WATCHDOG_EXPIRY. R480. -/
  | watchdogExpiry
  /-- PRESENT_OPEN. R498. -/
  | presentOpen
  /-- INSERTION_DETECT. R497. -/
  | insertionDetect
  /-- FENCE_IN_DEASSERT. R502. -/
  | fenceInDeassert
deriving DecidableEq, Repr

end Sys2Proof
end

