-- ==== Sys2Proof/Decode.lean ====
section
/-!
DEFINITION. Decode.lean: the table's commands have no bits, so `decodeTableWord` reads none.  The module itself decodes one
kind of word, the 32-bit instruction words of its bobbins (R98 to R125): `bobbinWord` writes such a word and
`decodeBobbin` reads it; a word that R99 makes illegal reads as ILLEGAL_INSTRUCTION.
-/

namespace Sys2Proof

/-- The command that a word spells by the table's bits: the table gives no row any bits. -/
def decodeTableWord (_nbits _w : Nat) : Option Instr := none

/-! ## Words of the five formats (R98) -/

def wordRR (op d a b fn : Nat) : Word := BitVec.ofNat 32 (op * 2 ^ 26 + d * 2 ^ 22 + a * 2 ^ 18 + b * 2 ^ 14 + fn)
def wordRI (op d a imm : Nat) : Word := BitVec.ofNat 32 (op * 2 ^ 26 + d * 2 ^ 22 + a * 2 ^ 18 + imm)
def wordBR (op cond off : Nat) : Word := BitVec.ofNat 32 (op * 2 ^ 26 + cond * 2 ^ 22 + off)
def wordVV (op vd va vb g fn : Nat) : Word :=
  BitVec.ofNat 32 (op * 2 ^ 26 + vd * 2 ^ 23 + va * 2 ^ 20 + vb * 2 ^ 17 + g * 2 ^ 13 + fn)

/-- R110: the word of a shift of kind `k` (0 SHL, 1 SHR, 2 SAR). -/
def wordShift (k d a : Nat) : ShAmt → Word
  | .reg b => wordRR 0x07 d a b.toNat k
  | .imm n => wordRR 0x07 d a 0 (k + 4 + n.toNat * 8)

/-- The instruction word of a bobbin instruction (R109 to R125); 0 for a command that is none. -/
def bobbinWord : Instr → Word
  | .nop _ => wordRR 0x00 0 0 0 0
  | .add _ d a b => wordRR 0x01 d.toNat a.toNat b.toNat 0
  | .sub _ d a b => wordRR 0x02 d.toNat a.toNat b.toNat 0
  | .mul _ d a b => wordRR 0x03 d.toNat a.toNat b.toNat 0
  | .and _ d a b => wordRR 0x04 d.toNat a.toNat b.toNat 0
  | .or _ d a b => wordRR 0x05 d.toNat a.toNat b.toNat 0
  | .xor _ d a b => wordRR 0x06 d.toNat a.toNat b.toNat 0
  | .shl _ d a k => wordShift 0 d.toNat a.toNat k
  | .shr _ d a k => wordShift 1 d.toNat a.toNat k
  | .sar _ d a k => wordShift 2 d.toNat a.toNat k
  | .addi _ d a i => wordRI 0x08 d.toNat a.toNat i.toNat
  | .ldi _ d i => wordRI 0x09 d.toNat 0 i.toNat
  | .ldh _ d a i => wordRI 0x0A d.toNat a.toNat i.toNat
  | .cmp _ a b => wordRR 0x0B 0 a.toNat b.toNat 0
  | .cmpi _ a i => wordRI 0x0C 0 a.toNat i.toNat
  | .min _ d a b => wordRR 0x0D d.toNat a.toNat b.toNat 0
  | .minu _ d a b => wordRR 0x0D d.toNat a.toNat b.toNat 1
  | .max _ d a b => wordRR 0x0E d.toNat a.toNat b.toNat 0
  | .maxu _ d a b => wordRR 0x0E d.toNat a.toNat b.toNat 1
  | .mulq _ d a b => wordRR 0x0F d.toNat a.toNat b.toNat 0
  | .ld _ d a o => wordRI 0x10 d.toNat a.toNat o.toNat
  | .st _ d a o => wordRI 0x11 d.toNat a.toNat o.toNat
  | .ldv _ d a o => wordRI 0x12 d.toNat a.toNat o.toNat
  | .stv _ d a o => wordRI 0x13 d.toNat a.toNat o.toNat
  | .br _ c o => wordBR 0x14 c.toNat o.toNat
  | .jmp _ t => wordBR 0x15 0 t.toNat
  | .call _ t => wordBR 0x16 0 t.toNat
  | .ret _ a => wordRR 0x17 0 a.toNat 0 0
  | .loop _ d o => wordRI 0x18 d.toNat 0 o.toNat
  | .vadd _ d a b => wordVV 0x19 d.toNat a.toNat b.toNat 0 0
  | .vsub _ d a b => wordVV 0x1A d.toNat a.toNat b.toNat 0 0
  | .vscl _ d a g => wordVV 0x1B d.toNat a.toNat 0 g.toNat 0
  | .vmix _ d a b g => wordVV 0x1C d.toNat a.toNat b.toNat g.toNat 0
  | .vdot _ g a b => wordVV 0x1D 0 a.toNat b.toNat g.toNat 0
  | .vsum _ g a => wordVV 0x1E 0 a.toNat 0 g.toNat 0
  | .vext _ g a l => wordVV 0x1F 0 a.toNat 0 g.toNat (l.toNat * 2)
  | .vins _ d a g l => wordVV 0x1F d.toNat a.toNat 0 g.toNat (l.toNat * 2 + 1)
  | .curve _ d a c => wordRI 0x20 d.toNat a.toNat c.toNat
  | .time _ d c => wordRI 0x21 d.toNat 0 c.toNat
  | .civil _ d c => wordRI 0x22 d.toNat 0 c.toNat
  | .waitt _ a b => wordRR 0x23 0 a.toNat b.toNat 0
  | .waitk _ a i => wordRI 0x24 0 a.toNat i.toNat
  | .zset _ a g => wordVV 0x25 0 a.toNat 0 g.toNat 0
  | .zget _ d g => wordVV 0x26 d.toNat 0 0 g.toNat 0
  | .zgain _ d a => wordRI 0x27 d.toNat a.toNat 0
  | .zmode _ a m => wordRI 0x28 0 a.toNat m.toNat
  | .sense _ d a q => wordRI 0x29 d.toNat a.toNat q.toNat
  | .meter _ d a c => wordRI 0x2A d.toNat a.toNat c.toNat
  | .emit _ p a b c => wordRR 0x2B p.toNat a.toNat b.toNat c.toNat
  | .sig _ a m => wordRI 0x2C 0 a.toNat m.toNat
  | .waits _ m => wordRI 0x2D 0 0 m.toNat
  | .csr _ d c => wordRI 0x2E d.toNat 0 c.toNat
  | .halt _ => wordRR 0x2F 0 0 0 0
  | .illegalInstruction _ w => w
  | _ => 0

/-! ## Reading a word -/

/-- The field of `n` bits at bit `lo` of an instruction word. -/
def fieldOf (w : Word) (lo n : Nat) : BitVec n := w.extractLsb' lo n

/-- The three-register form: legal when fn is 0. -/
def readRR (w : Word) (bad : Instr) (k : BitVec 4 → BitVec 4 → BitVec 4 → Instr) : Instr :=
  if fieldOf w 0 14 = 0 then k (fieldOf w 22 4) (fieldOf w 18 4) (fieldOf w 14 4) else bad

/-- R110: the shift word. -/
def readShift (n : BitVec 5) (w : Word) (bad : Instr) : Instr :=
  let d := fieldOf w 22 4
  let a := fieldOf w 18 4
  let b := fieldOf w 14 4
  let amt : Option ShAmt :=
    if fieldOf w 8 6 = 0 then
      (if fieldOf w 2 1 = 0 then (if fieldOf w 3 5 = 0 then some (.reg b) else none)
       else (if b = 0 then some (.imm (fieldOf w 3 5)) else none))
    else none
  match amt, (fieldOf w 0 2).toNat with
  | some k, 0 => .shl n d a k
  | some k, 1 => .shr n d a k
  | some k, 2 => .sar n d a k
  | _, _ => bad

/-- R98 to R125: the instruction that bobbin `n` reads from word `w`. -/
def decodeBobbin (n : BitVec 5) (w : Word) : Instr :=
  let bad : Instr := .illegalInstruction n w
  let d := fieldOf w 22 4
  let a := fieldOf w 18 4
  let b := fieldOf w 14 4
  let imm := fieldOf w 0 18
  let vd := fieldOf w 23 3
  let va := fieldOf w 20 3
  let vb := fieldOf w 17 3
  let g := fieldOf w 13 4
  let fn := fieldOf w 0 13
  match (fieldOf w 26 6).toNat with
  | 0x00 => if fieldOf w 0 26 = 0 then .nop n else bad
  | 0x01 => readRR w bad (.add n)
  | 0x02 => readRR w bad (.sub n)
  | 0x03 => readRR w bad (.mul n)
  | 0x04 => readRR w bad (.and n)
  | 0x05 => readRR w bad (.or n)
  | 0x06 => readRR w bad (.xor n)
  | 0x07 => readShift n w bad
  | 0x08 => .addi n d a imm
  | 0x09 => if a = 0 then .ldi n d imm else bad
  | 0x0A => .ldh n d a imm
  | 0x0B => if d = 0 ∧ fieldOf w 0 14 = 0 then .cmp n a b else bad
  | 0x0C => if d = 0 then .cmpi n a imm else bad
  | 0x0D => if fieldOf w 1 13 = 0 then (if fieldOf w 0 1 = 0 then .min n d a b else .minu n d a b) else bad
  | 0x0E => if fieldOf w 1 13 = 0 then (if fieldOf w 0 1 = 0 then .max n d a b else .maxu n d a b) else bad
  | 0x0F => readRR w bad (.mulq n)
  | 0x10 => .ld n d a imm
  | 0x11 => .st n d a imm
  | 0x12 => if fieldOf w 25 1 = 0 then .ldv n (fieldOf w 22 3) a imm else bad
  | 0x13 => if fieldOf w 25 1 = 0 then .stv n (fieldOf w 22 3) a imm else bad
  | 0x14 => if d.toNat ≤ 8 then .br n d (fieldOf w 0 22) else bad
  | 0x15 => if fieldOf w 16 10 = 0 then .jmp n (fieldOf w 0 16) else bad
  | 0x16 => if fieldOf w 16 10 = 0 then .call n (fieldOf w 0 16) else bad
  | 0x17 => if d = 0 ∧ imm = 0 then .ret n a else bad
  | 0x18 => if a = 0 ∧ d ≠ 0 then .loop n d imm else bad
  | 0x19 => if g = 0 ∧ fn = 0 then .vadd n vd va vb else bad
  | 0x1A => if g = 0 ∧ fn = 0 then .vsub n vd va vb else bad
  | 0x1B => if vb = 0 ∧ fn = 0 then .vscl n vd va g else bad
  | 0x1C => if fn = 0 then .vmix n vd va vb g else bad
  | 0x1D => if vd = 0 ∧ fn = 0 then .vdot n g va vb else bad
  | 0x1E => if vd = 0 ∧ vb = 0 ∧ fn = 0 then .vsum n g va else bad
  | 0x1F =>
    if vb = 0 ∧ fieldOf w 4 9 = 0 then
      (if fieldOf w 0 1 = 0 then (if vd = 0 then .vext n g va (fieldOf w 1 3) else bad)
       else .vins n vd va g (fieldOf w 1 3))
    else bad
  | 0x20 => if fieldOf w 8 10 = 0 then .curve n d a (fieldOf w 0 8) else bad
  | 0x21 => if a = 0 ∧ imm.toNat ≤ 4 then .time n d imm else bad
  | 0x22 => if a = 0 ∧ imm.toNat ≤ 8 then .civil n d imm else bad
  | 0x23 => if d = 0 ∧ fieldOf w 0 14 = 0 then .waitt n a b else bad
  | 0x24 => if d = 0 then .waitk n a imm else bad
  | 0x25 => if vd = 0 ∧ vb = 0 ∧ fn = 0 then .zset n va g else bad
  | 0x26 => if va = 0 ∧ vb = 0 ∧ fn = 0 then .zget n vd g else bad
  | 0x27 => if imm = 0 then .zgain n d a else bad
  | 0x28 => if d = 0 ∧ fieldOf w 1 17 = 0 then .zmode n a (fieldOf w 0 1) else bad
  | 0x29 => if d ≠ 15 ∧ fieldOf w 8 10 = 0 then .sense n d a (fieldOf w 0 8) else bad
  | 0x2A => if fieldOf w 8 10 = 0 ∧ (fieldOf w 0 8).toNat ≤ 10 then .meter n d a (fieldOf w 0 8) else bad
  | 0x2B => if fieldOf w 24 2 = 0 ∧ fieldOf w 7 7 = 0 then .emit n (fieldOf w 22 2) a b (fieldOf w 0 7) else bad
  | 0x2C => if d = 0 ∧ fieldOf w 16 2 = 0 then .sig n a (fieldOf w 0 16) else bad
  | 0x2D => if d = 0 ∧ a = 0 ∧ fieldOf w 16 2 = 0 ∧ fieldOf w 0 16 ≠ 0 then .waits n (fieldOf w 0 16) else bad
  | 0x2E => if a = 0 ∧ fieldOf w 8 10 = 0 ∧ (fieldOf w 0 8).toNat ≤ 9 then .csr n d (fieldOf w 0 8) else bad
  | 0x2F => if fieldOf w 0 26 = 0 then .halt n else bad
  | _ => bad

end Sys2Proof
end

