-- ==== Sys2Proof/Config.lean ====
section
/-!
DEFINITION. Config.lean: what an implementation of the module fixes, and the free values: constants without a body, of which no
proof can see a value.  Each is named in the assumption log.
-/

namespace Sys2Proof.Config

/-- Assumption log 6: a value the spec leaves open, by the model's counter `State.free`. -/
opaque freeWord : Nat → BitVec 32

/-- Assumption log 8: a payload word that the rule raising an event does not name, by code, word (0 for w5) and number. -/
opaque freePayload : Nat → Nat → Nat → BitVec 32

/-- Assumption log 7: the direction of a "rounded to nearest" at an exact tie where the rule names none, by rule number and
the value being rounded. -/
opaque tieUp : Nat → Nat → Bool

/-- R362: byte `i` of the device root key fused into the module (assumption log 13). -/
opaque rootByte : Nat → BitVec 8

/-- Assumption log 15: whether a fraction is rounded up where the rule gives a whole-number register and no rounding, by rule
number and the value's numerator. -/
opaque fracUp : Nat → Nat → Bool

/-- Assumption log 17: whether the "capability and relay flag" byte of a JOIN (R348) states a capability: 0 relaying, 1 images. -/
opaque joinFlag : Nat → Nat → Bool

/-- Assumption log 19: the bytes of a state copy's section whose layout R418 does not give, by section type and copy number. -/
opaque openSection : Nat → Nat → List (BitVec 8)

/-- Assumption log 19: the kind-and-channel code of a solve-input change (R418): kind 0 T_used, kind 1 + k the ageing factor of channel k. -/
opaque changeKind : Nat → Nat

/-- Assumption log 19: the position, among 524,288 bytes, of the word of an address in the copied state's layout (R419). -/
opaque layoutAt : Nat → Nat

/-- Assumption log 20: KST_UHASH of the firmware the module was shipped with, by byte. -/
opaque factoryHash : Nat → BitVec 8

/-- Assumption log 53: a Rogowski channel's integrated sample (R298), from the integrator before it and the sample. -/
opaque integrate : Int → Int → Int

/-- Assumption log 53: a sample delayed by a phase trim other than 0 (R298), from the trim and the latest samples, newest first. -/
opaque delaySample : Int → List Int → Int

/-- Assumption log 53: the fundamental phasor of a cycle (R304), Q16.16, from the line frequency and the cycle's samples, newest first. -/
opaque fundamental : Nat → List Int → Int × Int

end Sys2Proof.Config
end

