-- ==== Sys2Proof/Machine/Store.lean ====
section
/-!
DEFINITION. Machine/Store.lean: reading and writing sparse tables in their canonical form, and bit fields of words.
-/

namespace Sys2Proof.Machine

/-- What key `k` reads as: its listed value, else the default `d k`. -/
def spGet {α : Type} (d : Nat → α) : Sp α → Nat → α
  | [], k => d k
  | (j, v) :: t, k => if k = j then v else spGet d t k

/-- Insert a pair before the first larger key. -/
def spIns {α : Type} (k : Nat) (v : α) : Sp α → Sp α
  | [] => [(k, v)]
  | (j, w) :: t => if k < j then (k, v) :: (j, w) :: t else (j, w) :: spIns k v t

/-- Remove every pair of a key. -/
def spDel {α : Type} (k : Nat) : Sp α → Sp α
  | [] => []
  | (j, w) :: t => if j = k then spDel k t else (j, w) :: spDel k t

/-- Write key `k`; a value equal to the default leaves the key unlisted. -/
def spSet {α : Type} [DecidableEq α] (d : Nat → α) (m : Sp α) (k : Nat) (v : α) : Sp α :=
  if v = d k then spDel k m else spIns k v (spDel k m)

/-- Every key of the table is larger than `lo`, rising, with a value other than its default. -/
def spWfFrom {α : Type} [DecidableEq α] (d : Nat → α) : Option Nat → Sp α → Bool
  | _, [] => true
  | lo, (j, v) :: t =>
    (match lo with | none => true | some l => decide (l < j)) && decide (v ≠ d j) && spWfFrom d (some j) t

/-- The canonical form of a sparse table. -/
def spWf {α : Type} [DecidableEq α] (d : Nat → α) (m : Sp α) : Bool := spWfFrom d none m

/-- The field of width `n` at bit `lo` of a word, unsigned. -/
def getBits (w : Word) (lo n : Nat) : Nat := w.toNat / 2 ^ lo % 2 ^ n

/-- The word with the field of width `n` at bit `lo` replaced by `v` modulo 2^n. -/
def putBits (w : Word) (lo n v : Nat) : Word :=
  (w &&& ~~~(BitVec.ofNat 32 ((2 ^ n - 1) * 2 ^ lo))) ||| BitVec.ofNat 32 (v % 2 ^ n * 2 ^ lo)

/-- A field value read as a two's complement number of `n` bits. -/
def toSigned (n v : Nat) : Int := if v < 2 ^ (n - 1) then (v : Int) else (v : Int) - 2 ^ n

/-- A number written as a two's complement field of `n` bits, modulo 2^n. -/
def ofSigned (n : Nat) (v : Int) : Nat := (v % (2 ^ n : Int)).toNat

/-- `v` limited to the range `lo` to `hi`. -/
def clampInt (lo hi v : Int) : Int := if v < lo then lo else if hi < v then hi else v

/-- Bit `i` of a number. -/
def bit (v i : Nat) : Bool := v / 2 ^ i % 2 == 1

/-- A number with bit `i` set or cleared. -/
def setBit (v i : Nat) (b : Bool) : Nat :=
  if bit v i == b then v else if b then v + 2 ^ i else v - 2 ^ i

end Sys2Proof.Machine
end

