-- ==== Sys2Proof/Machine/Regs.lean ====
section
/-!
DEFINITION. Machine/Regs.lean: the module's register map, written out from the register tables of the spec's chapters
(R59, R95, R96, R160, R204, R205, R206, R221, R244 to R246, R267 to R269, R292, R309 to R311, R360, R384, R396 to R402,
R403 to R406, R433 to R435, R460, R484, R485) and the address map R520 to R523.  A register is named by the byte address of
its word; a field by that address, its lowest bit and its width.  The access masks of `regRows` follow R16 and R17.
-/

namespace Sys2Proof.Machine

/-- One field of one register word: the word's byte address, the field's lowest bit and its width in bits. -/
structure Fld where
  addr : Nat
  lo : Nat
  width : Nat
deriving DecidableEq, Repr

/-- One row of the register map: an array of register words with one layout (`n1`, `n2` are the index ranges and `st1`,
`st2` the byte strides; an index that does not exist has range 1), the reset value of a word, and one bit mask for each
access code of R16 that can write: RW, RWV and RB in `rw` (`rb` marks the RB bits and `rwv` the RWV bits again), W1C, W1S,
WO and RC in their own.  `partners` counts the partner words of a pair's first word (R451). -/
structure RegRow where
  base : Nat
  n1 : Nat
  st1 : Nat
  n2 : Nat
  st2 : Nat
  reset : Nat
  rw : Nat
  rb : Nat
  rwv : Nat
  w1c : Nat
  w1s : Nat
  wo : Nat
  rc : Nat
  partners : Nat
deriving DecidableEq, Repr

/-! ## 02_zones_and_targets.md -/

def Reg.ZON_TGT (i : Nat) (j : Nat) : Nat := 0x20000 + i * 32 + j * 4
def F.ZON_TGT_BLO (i : Nat) (j : Nat) : Fld := ⟨Reg.ZON_TGT i j, 0, 16⟩
def F.ZON_TGT_BHI (i : Nat) (j : Nat) : Fld := ⟨Reg.ZON_TGT i j, 16, 16⟩
def Reg.ZON_CTL (i : Nat) : Nat := 0x20010 + i * 32
def F.ZON_CTL_MODE (i : Nat) : Fld := ⟨Reg.ZON_CTL i, 0, 1⟩
def F.ZON_CTL_OWNER (i : Nat) : Fld := ⟨Reg.ZON_CTL i, 1, 1⟩
def F.ZON_CTL_REACT (i : Nat) : Fld := ⟨Reg.ZON_CTL i, 2, 2⟩
def F.ZON_CTL_FCAP (i : Nat) : Fld := ⟨Reg.ZON_CTL i, 16, 16⟩
def Reg.ZON_PCAP (i : Nat) : Nat := 0x20014 + i * 32
def F.ZON_PCAP_PCAP (i : Nat) : Fld := ⟨Reg.ZON_PCAP i, 0, 24⟩
def Reg.ZON_SRC (i : Nat) : Nat := 0x20018 + i * 32
def F.ZON_SRC_SOURCE (i : Nat) : Fld := ⟨Reg.ZON_SRC i, 0, 16⟩
def F.ZON_SRC_QTY (i : Nat) : Fld := ⟨Reg.ZON_SRC i, 16, 8⟩
def Reg.ZON_STAT (i : Nat) : Nat := 0x2001c + i * 32
def F.ZON_STAT_MEMBERS (i : Nat) : Fld := ⟨Reg.ZON_STAT i, 0, 13⟩
def F.ZON_STAT_SATG (i : Nat) : Fld := ⟨Reg.ZON_STAT i, 13, 1⟩
def F.ZON_STAT_SATC (i : Nat) : Fld := ⟨Reg.ZON_STAT i, 14, 1⟩
def F.ZON_STAT_SATF (i : Nat) : Fld := ⟨Reg.ZON_STAT i, 15, 1⟩
def F.ZON_STAT_SATP (i : Nat) : Fld := ⟨Reg.ZON_STAT i, 16, 1⟩
def F.ZON_STAT_SATM (i : Nat) : Fld := ⟨Reg.ZON_STAT i, 17, 1⟩
def F.ZON_STAT_FAULT (i : Nat) : Fld := ⟨Reg.ZON_STAT i, 18, 1⟩
def F.ZON_STAT_HELD (i : Nat) : Fld := ⟨Reg.ZON_STAT i, 19, 1⟩
def F.ZON_STAT_RESID (i : Nat) : Fld := ⟨Reg.ZON_STAT i, 20, 12⟩

/-! ## 03_pattern_engine.md -/

def Reg.PEN_CTL : Nat := 0x10000
def F.PEN_CTL_RUN : Fld := ⟨Reg.PEN_CTL, 0, 1⟩
def Reg.PEN_TICK : Nat := 0x10004
def F.PEN_TICK_TICK : Fld := ⟨Reg.PEN_TICK, 0, 20⟩
def Reg.PEN_STAT : Nat := 0x10008
def F.PEN_STAT_ACTIVE : Fld := ⟨Reg.PEN_STAT, 0, 1⟩
def F.PEN_STAT_IDLEST : Fld := ⟨Reg.PEN_STAT, 1, 2⟩
def F.PEN_STAT_ARMED : Fld := ⟨Reg.PEN_STAT, 3, 1⟩
def F.PEN_STAT_TICKREF : Fld := ⟨Reg.PEN_STAT, 4, 1⟩
def F.PEN_STAT_DPAR : Fld := ⟨Reg.PEN_STAT, 5, 1⟩
def F.PEN_STAT_IMGBAD : Fld := ⟨Reg.PEN_STAT, 6, 1⟩
def F.PEN_STAT_SWDONE : Fld := ⟨Reg.PEN_STAT, 7, 1⟩
def Reg.PEN_CMD : Nat := 0x1000c
def F.PEN_CMD_SWAP : Fld := ⟨Reg.PEN_CMD, 0, 1⟩
def F.PEN_CMD_DISARM : Fld := ⟨Reg.PEN_CMD, 1, 1⟩
def Reg.PEN_SWAPAT_S_LO : Nat := 0x10010
def F.PEN_SWAPAT_S_LO_S_LO : Fld := ⟨Reg.PEN_SWAPAT_S_LO, 0, 32⟩
def Reg.PEN_SWAPAT_S_HI : Nat := 0x10014
def F.PEN_SWAPAT_S_HI_S_HI : Fld := ⟨Reg.PEN_SWAPAT_S_HI, 0, 16⟩
def Reg.PEN_SWAPAT_NS : Nat := 0x10018
def F.PEN_SWAPAT_NS_NS : Fld := ⟨Reg.PEN_SWAPAT_NS, 0, 30⟩
def Reg.PEN_IMGPTR : Nat := 0x10020
def F.PEN_IMGPTR_PTR : Fld := ⟨Reg.PEN_IMGPTR, 0, 20⟩
def Reg.PEN_IMGDAT : Nat := 0x10024
def F.PEN_IMGDAT_DATA : Fld := ⟨Reg.PEN_IMGDAT, 0, 32⟩
def Reg.PEN_HSIG : Nat := 0x10028
def F.PEN_HSIG_BOBBIN : Fld := ⟨Reg.PEN_HSIG, 0, 5⟩
def F.PEN_HSIG_BITS : Fld := ⟨Reg.PEN_HSIG, 16, 16⟩
def Reg.PEN_CYC : Nat := 0x1002c
def F.PEN_CYC_USED : Fld := ⟨Reg.PEN_CYC, 0, 28⟩
def Reg.PEN_PFIX : Nat := 0x10030
def F.PEN_PFIX_COUNT : Fld := ⟨Reg.PEN_PFIX, 0, 16⟩
def Reg.PEN_AID : Nat := 0x10034
def F.PEN_AID_ID : Fld := ⟨Reg.PEN_AID, 0, 32⟩
def Reg.PEN_IID : Nat := 0x10038
def F.PEN_IID_ID : Fld := ⟨Reg.PEN_IID, 0, 32⟩
def Reg.PEN_IHASH_A (i : Nat) : Nat := 0x10040 + i * 4
def F.PEN_IHASH_A_HASH (i : Nat) : Fld := ⟨Reg.PEN_IHASH_A i, 0, 32⟩
def Reg.PEN_IHASH_I (i : Nat) : Nat := 0x10060 + i * 4
def F.PEN_IHASH_I_HASH (i : Nat) : Fld := ⟨Reg.PEN_IHASH_I i, 0, 32⟩
def Reg.PEN_BCTL (i : Nat) : Nat := 0x11000 + i * 64
def F.PEN_BCTL_PRIO (i : Nat) : Fld := ⟨Reg.PEN_BCTL i, 0, 2⟩
def F.PEN_BCTL_START (i : Nat) : Fld := ⟨Reg.PEN_BCTL i, 8, 1⟩
def F.PEN_BCTL_STOP (i : Nat) : Fld := ⟨Reg.PEN_BCTL i, 9, 1⟩
def F.PEN_BCTL_ENTRY (i : Nat) : Fld := ⟨Reg.PEN_BCTL i, 16, 16⟩
def Reg.PEN_BSTAT (i : Nat) : Nat := 0x11004 + i * 64
def F.PEN_BSTAT_STATE (i : Nat) : Fld := ⟨Reg.PEN_BSTAT i, 0, 4⟩
def F.PEN_BSTAT_FCODE (i : Nat) : Fld := ⟨Reg.PEN_BSTAT i, 4, 4⟩
def F.PEN_BSTAT_FLAGS (i : Nat) : Fld := ⟨Reg.PEN_BSTAT i, 8, 4⟩
def F.PEN_BSTAT_CMDDONE (i : Nat) : Fld := ⟨Reg.PEN_BSTAT i, 12, 1⟩
def F.PEN_BSTAT_FPC (i : Nat) : Fld := ⟨Reg.PEN_BSTAT i, 16, 16⟩
def Reg.PEN_BPC (i : Nat) : Nat := 0x11008 + i * 64
def F.PEN_BPC_PC (i : Nat) : Fld := ⟨Reg.PEN_BPC i, 0, 16⟩
def Reg.PEN_BBUDGET (i : Nat) : Nat := 0x1100c + i * 64
def F.PEN_BBUDGET_BUDGET (i : Nat) : Fld := ⟨Reg.PEN_BBUDGET i, 0, 24⟩
def Reg.PEN_BUSED (i : Nat) : Nat := 0x11010 + i * 64
def F.PEN_BUSED_USED (i : Nat) : Fld := ⟨Reg.PEN_BUSED i, 0, 24⟩
def Reg.PEN_BOVR (i : Nat) : Nat := 0x11014 + i * 64
def F.PEN_BOVR_OVR (i : Nat) : Fld := ⟨Reg.PEN_BOVR i, 0, 16⟩
def F.PEN_BOVR_LATE (i : Nat) : Fld := ⟨Reg.PEN_BOVR i, 16, 16⟩
def Reg.PEN_BWIN (i : Nat) : Nat := 0x11018 + i * 64
def F.PEN_BWIN_BASE (i : Nat) : Fld := ⟨Reg.PEN_BWIN i, 0, 10⟩
def F.PEN_BWIN_SIZE (i : Nat) : Fld := ⟨Reg.PEN_BWIN i, 16, 10⟩
def Reg.PEN_BSIG (i : Nat) : Nat := 0x1101c + i * 64
def F.PEN_BSIG_PEND (i : Nat) : Fld := ⟨Reg.PEN_BSIG i, 0, 16⟩
def F.PEN_BSIG_WMASK (i : Nat) : Fld := ⟨Reg.PEN_BSIG i, 16, 16⟩
def Reg.PEN_BWAIT (i : Nat) : Nat := 0x11020 + i * 64
def F.PEN_BWAIT_TICKS (i : Nat) : Fld := ⟨Reg.PEN_BWAIT i, 0, 32⟩
def Reg.PEN_BWT_S_LO (i : Nat) : Nat := 0x11024 + i * 64
def F.PEN_BWT_S_LO_T (i : Nat) : Fld := ⟨Reg.PEN_BWT_S_LO i, 0, 32⟩
def Reg.PEN_BWT_S_HI (i : Nat) : Nat := 0x11028 + i * 64
def F.PEN_BWT_S_HI_T (i : Nat) : Fld := ⟨Reg.PEN_BWT_S_HI i, 0, 16⟩
def Reg.PEN_BWT_NS (i : Nat) : Nat := 0x1102c + i * 64
def F.PEN_BWT_NS_T (i : Nat) : Fld := ⟨Reg.PEN_BWT_NS i, 0, 30⟩
def Reg.PEN_BDBG (i : Nat) : Nat := 0x11030 + i * 64
def F.PEN_BDBG_SEL (i : Nat) : Fld := ⟨Reg.PEN_BDBG i, 0, 6⟩
def Reg.PEN_BDAT (i : Nat) : Nat := 0x11034 + i * 64
def F.PEN_BDAT_DATA (i : Nat) : Fld := ⟨Reg.PEN_BDAT i, 0, 32⟩

/-! ## 05_spectral_mixing.md -/

def Reg.SME_CTL : Nat := 0x30000
def F.SME_CTL_ITER : Fld := ⟨Reg.SME_CTL, 0, 2⟩
def F.SME_CTL_TDEAD : Fld := ⟨Reg.SME_CTL, 4, 4⟩
def F.SME_CTL_AGEFRZ : Fld := ⟨Reg.SME_CTL, 8, 1⟩
def Reg.SME_STAT : Nat := 0x30004
def F.SME_STAT_LANES : Fld := ⟨Reg.SME_STAT, 0, 8⟩
def F.SME_STAT_CALBUSY : Fld := ⟨Reg.SME_STAT, 8, 1⟩
def F.SME_STAT_MCAP : Fld := ⟨Reg.SME_STAT, 9, 1⟩
def F.SME_STAT_LATE : Fld := ⟨Reg.SME_STAT, 10, 1⟩
def F.SME_STAT_INVAL : Fld := ⟨Reg.SME_STAT, 11, 1⟩
def Reg.SME_PCAP : Nat := 0x30008
def F.SME_PCAP_PCAP : Fld := ⟨Reg.SME_PCAP, 0, 24⟩
def Reg.SME_AGELIM : Nat := 0x3000c
def F.SME_AGELIM_LIMIT : Fld := ⟨Reg.SME_AGELIM, 0, 17⟩
def Reg.SME_TSTALE : Nat := 0x30010
def F.SME_TSTALE_SEC : Fld := ⟨Reg.SME_TSTALE, 0, 12⟩
def Reg.SME_CMD : Nat := 0x30014
def F.SME_CMD_LANERST : Fld := ⟨Reg.SME_CMD, 0, 1⟩
def Reg.SME_ESTPRE : Nat := 0x30020
def F.SME_ESTPRE_W : Fld := ⟨Reg.SME_ESTPRE, 0, 32⟩
def Reg.SME_ESTPOST : Nat := 0x30024
def F.SME_ESTPOST_W : Fld := ⟨Reg.SME_ESTPOST, 0, 32⟩
def Reg.SME_SCALE : Nat := 0x30028
def F.SME_SCALE_SM : Fld := ⟨Reg.SME_SCALE, 0, 17⟩
def Reg.SME_SOLVET : Nat := 0x3002c
def F.SME_SOLVET_CYC : Fld := ⟨Reg.SME_SOLVET, 0, 24⟩
def Reg.SME_RCNT : Nat := 0x30030
def F.SME_RCNT_MISM : Fld := ⟨Reg.SME_RCNT, 0, 16⟩
def F.SME_RCNT_HELD : Fld := ⟨Reg.SME_RCNT, 16, 16⟩
def Reg.SME_CALFIX : Nat := 0x30034
def F.SME_CALFIX_COUNT : Fld := ⟨Reg.SME_CALFIX, 0, 16⟩
def Reg.SME_CRCERR : Nat := 0x30038
def F.SME_CRCERR_COUNT : Fld := ⟨Reg.SME_CRCERR, 0, 16⟩
def Reg.SME_LATECNT : Nat := 0x3003c
def F.SME_LATECNT_COUNT : Fld := ⟨Reg.SME_LATECNT, 0, 16⟩
def Reg.SME_EOLCNT : Nat := 0x3006c
def F.SME_EOLCNT_COUNT : Fld := ⟨Reg.SME_EOLCNT, 0, 16⟩
def Reg.SME_TSCNT : Nat := 0x30070
def F.SME_TSCNT_COUNT : Fld := ⟨Reg.SME_TSCNT, 0, 13⟩
def Reg.SME_CALIDX : Nat := 0x30040
def F.SME_CALIDX_FIRST : Fld := ⟨Reg.SME_CALIDX, 0, 12⟩
def F.SME_CALIDX_COUNT : Fld := ⟨Reg.SME_CALIDX, 16, 7⟩
def Reg.SME_CALPTR : Nat := 0x30044
def F.SME_CALPTR_PTR : Fld := ⟨Reg.SME_CALPTR, 0, 16⟩
def Reg.SME_CALDAT : Nat := 0x30048
def F.SME_CALDAT_DATA : Fld := ⟨Reg.SME_CALDAT, 0, 32⟩
def Reg.SME_CHASH (i : Nat) : Nat := 0x30080 + i * 4
def F.SME_CHASH_HASH (i : Nat) : Fld := ⟨Reg.SME_CHASH i, 0, 32⟩
def Reg.SME_LSEL : Nat := 0x30050
def F.SME_LSEL_SLOT : Fld := ⟨Reg.SME_LSEL, 0, 12⟩
def F.SME_LSEL_CH : Fld := ⟨Reg.SME_LSEL, 12, 3⟩
def Reg.SME_LAGE : Nat := 0x30054
def F.SME_LAGE_A : Fld := ⟨Reg.SME_LAGE, 0, 17⟩
def Reg.SME_LTEMP : Nat := 0x30058
def F.SME_LTEMP_TUSED : Fld := ⟨Reg.SME_LTEMP, 0, 16⟩
def F.SME_LTEMP_AGE : Fld := ⟨Reg.SME_LTEMP, 16, 16⟩
def Reg.SME_LSTAT : Nat := 0x3005c
def F.SME_LSTAT_STATE : Fld := ⟨Reg.SME_LSTAT, 0, 2⟩
def F.SME_LSTAT_FIT : Fld := ⟨Reg.SME_LSTAT, 8, 8⟩
def F.SME_LSTAT_LIVE : Fld := ⟨Reg.SME_LSTAT, 16, 8⟩
def F.SME_LSTAT_HELD : Fld := ⟨Reg.SME_LSTAT, 24, 1⟩
def Reg.SME_ZSEL : Nat := 0x30060
def F.SME_ZSEL_ZONE : Fld := ⟨Reg.SME_ZSEL, 0, 9⟩
def Reg.SME_ZQ : Nat := 0x30064
def F.SME_ZQ_Q : Fld := ⟨Reg.SME_ZQ, 0, 17⟩
def Reg.SME_ZPWR : Nat := 0x30068
def F.SME_ZPWR_W : Fld := ⟨Reg.SME_ZPWR, 0, 24⟩

/-! ## 06_seams.md -/

def Reg.SEA_FPER : Nat := 0x40000
def F.SEA_FPER_US : Fld := ⟨Reg.SEA_FPER, 0, 17⟩
def Reg.SEA_LEAD : Nat := 0x40004
def F.SEA_LEAD_US : Fld := ⟨Reg.SEA_LEAD, 0, 19⟩
def Reg.SEA_LEADMIN : Nat := 0x40008
def F.SEA_LEADMIN_NS : Fld := ⟨Reg.SEA_LEADMIN, 0, 24⟩
def Reg.SEA_HOLD : Nat := 0x4000c
def F.SEA_HOLD_SEC : Fld := ⟨Reg.SEA_HOLD, 0, 12⟩
def Reg.SEA_CENSUS : Nat := 0x40010
def F.SEA_CENSUS_SEC : Fld := ⟨Reg.SEA_CENSUS, 0, 16⟩
def Reg.SEA_RESEND : Nat := 0x40014
def F.SEA_RESEND_INTV : Fld := ⟨Reg.SEA_RESEND, 0, 8⟩
def F.SEA_RESEND_RETRY : Fld := ⟨Reg.SEA_RESEND, 8, 8⟩
def Reg.SEA_KEY : Nat := 0x40018
def F.SEA_KEY_SLOT : Fld := ⟨Reg.SEA_KEY, 0, 8⟩
def Reg.SEA_GSTAT : Nat := 0x4001c
def F.SEA_GSTAT_SEAMS : Fld := ⟨Reg.SEA_GSTAT, 0, 32⟩
def Reg.SEA_IMGPTR : Nat := 0x40020
def F.SEA_IMGPTR_PTR : Fld := ⟨Reg.SEA_IMGPTR, 0, 19⟩
def Reg.SEA_IMGDAT : Nat := 0x40024
def F.SEA_IMGDAT_DATA : Fld := ⟨Reg.SEA_IMGDAT, 0, 32⟩
def Reg.SEA_IMGMASK : Nat := 0x40028
def F.SEA_IMGMASK_SEAMS : Fld := ⟨Reg.SEA_IMGMASK, 0, 32⟩
def Reg.SEA_IMGAT_S_LO : Nat := 0x4002c
def F.SEA_IMGAT_S_LO_T : Fld := ⟨Reg.SEA_IMGAT_S_LO, 0, 32⟩
def Reg.SEA_IMGAT_S_HI : Nat := 0x40030
def F.SEA_IMGAT_S_HI_T : Fld := ⟨Reg.SEA_IMGAT_S_HI, 0, 16⟩
def Reg.SEA_IMGAT_NS : Nat := 0x40034
def F.SEA_IMGAT_NS_T : Fld := ⟨Reg.SEA_IMGAT_NS, 0, 30⟩
def Reg.SEA_CTL (i : Nat) : Nat := 0x41000 + i * 256
def F.SEA_CTL_ENABLE (i : Nat) : Fld := ⟨Reg.SEA_CTL i, 0, 1⟩
def F.SEA_CTL_INJECT (i : Nat) : Fld := ⟨Reg.SEA_CTL i, 1, 1⟩
def F.SEA_CTL_TOPO (i : Nat) : Fld := ⟨Reg.SEA_CTL i, 2, 1⟩
def Reg.SEA_STAT (i : Nat) : Nat := 0x41004 + i * 256
def F.SEA_STAT_LINK (i : Nat) : Fld := ⟨Reg.SEA_STAT i, 0, 1⟩
def F.SEA_STAT_MUTED (i : Nat) : Fld := ⟨Reg.SEA_STAT i, 1, 1⟩
def F.SEA_STAT_FENCED (i : Nat) : Fld := ⟨Reg.SEA_STAT i, 2, 1⟩
def F.SEA_STAT_ENUMBUSY (i : Nat) : Fld := ⟨Reg.SEA_STAT i, 3, 1⟩
def F.SEA_STAT_SLOW (i : Nat) : Fld := ⟨Reg.SEA_STAT i, 4, 1⟩
def F.SEA_STAT_TOPO (i : Nat) : Fld := ⟨Reg.SEA_STAT i, 5, 1⟩
def F.SEA_STAT_WRAP (i : Nat) : Fld := ⟨Reg.SEA_STAT i, 6, 1⟩
def F.SEA_STAT_LEADSHORT (i : Nat) : Fld := ⟨Reg.SEA_STAT i, 7, 1⟩
def F.SEA_STAT_DLYERR (i : Nat) : Fld := ⟨Reg.SEA_STAT i, 8, 1⟩
def F.SEA_STAT_OVERFLOW (i : Nat) : Fld := ⟨Reg.SEA_STAT i, 9, 1⟩
def F.SEA_STAT_CFGBUSY (i : Nat) : Fld := ⟨Reg.SEA_STAT i, 10, 1⟩
def F.SEA_STAT_NOKEY (i : Nat) : Fld := ⟨Reg.SEA_STAT i, 11, 1⟩
def F.SEA_STAT_MEASURED (i : Nat) : Fld := ⟨Reg.SEA_STAT i, 12, 1⟩
def Reg.SEA_CMD (i : Nat) : Nat := 0x41008 + i * 256
def F.SEA_CMD_ENUM (i : Nat) : Fld := ⟨Reg.SEA_CMD i, 0, 1⟩
def F.SEA_CMD_CENSUS (i : Nat) : Fld := ⟨Reg.SEA_CMD i, 1, 1⟩
def Reg.SEA_NODES (i : Nat) : Nat := 0x4100c + i * 256
def F.SEA_NODES_COUNT (i : Nat) : Fld := ⟨Reg.SEA_NODES i, 0, 8⟩
def F.SEA_NODES_SEEN (i : Nat) : Fld := ⟨Reg.SEA_NODES i, 8, 8⟩
def F.SEA_NODES_NEWID (i : Nat) : Fld := ⟨Reg.SEA_NODES i, 16, 8⟩
def F.SEA_NODES_LOST (i : Nat) : Fld := ⟨Reg.SEA_NODES i, 24, 8⟩
def Reg.SEA_SEQ (i : Nat) : Nat := 0x41010 + i * 256
def F.SEA_SEQ_SEQ (i : Nat) : Fld := ⟨Reg.SEA_SEQ i, 0, 32⟩
def Reg.SEA_TRANSIT (i : Nat) : Nat := 0x41014 + i * 256
def F.SEA_TRANSIT_NS (i : Nat) : Fld := ⟨Reg.SEA_TRANSIT i, 0, 24⟩
def Reg.SEA_RESMAX (i : Nat) : Nat := 0x41018 + i * 256
def F.SEA_RESMAX_NS (i : Nat) : Fld := ⟨Reg.SEA_RESMAX i, 0, 12⟩
def F.SEA_RESMAX_SLOT (i : Nat) : Fld := ⟨Reg.SEA_RESMAX i, 16, 7⟩
def Reg.SEA_TAILDLY (i : Nat) : Nat := 0x4101c + i * 256
def F.SEA_TAILDLY_NS (i : Nat) : Fld := ⟨Reg.SEA_TAILDLY i, 0, 10⟩
def Reg.SEA_ERR (i : Nat) : Nat := 0x41020 + i * 256
def F.SEA_ERR_INVAL (i : Nat) : Fld := ⟨Reg.SEA_ERR i, 0, 16⟩
def F.SEA_ERR_SCRC (i : Nat) : Fld := ⟨Reg.SEA_ERR i, 16, 16⟩
def Reg.SEA_MISM (i : Nat) : Nat := 0x41024 + i * 256
def F.SEA_MISM_MISM (i : Nat) : Fld := ⟨Reg.SEA_MISM i, 0, 16⟩
def F.SEA_MISM_LATE (i : Nat) : Fld := ⟨Reg.SEA_MISM i, 16, 16⟩
def Reg.SEA_CFGTGT (i : Nat) : Nat := 0x41028 + i * 256
def F.SEA_CFGTGT_TARGET (i : Nat) : Fld := ⟨Reg.SEA_CFGTGT i, 0, 8⟩
def F.SEA_CFGTGT_N (i : Nat) : Fld := ⟨Reg.SEA_CFGTGT i, 8, 3⟩
def Reg.SEA_CFGCMD (i : Nat) : Nat := 0x4102c + i * 256
def F.SEA_CFGCMD_GO (i : Nat) : Fld := ⟨Reg.SEA_CFGCMD i, 0, 1⟩
def F.SEA_CFGCMD_BUSY (i : Nat) : Fld := ⟨Reg.SEA_CFGCMD i, 8, 1⟩
def F.SEA_CFGCMD_OK (i : Nat) : Fld := ⟨Reg.SEA_CFGCMD i, 9, 1⟩
def F.SEA_CFGCMD_FAIL (i : Nat) : Fld := ⟨Reg.SEA_CFGCMD i, 10, 1⟩
def Reg.SEA_CFGP (i : Nat) (j : Nat) : Nat := 0x41030 + i * 256 + j * 8
def F.SEA_CFGP_PARAM (i : Nat) (j : Nat) : Fld := ⟨Reg.SEA_CFGP i j, 0, 8⟩
def F.SEA_CFGP_INDEX (i : Nat) (j : Nat) : Fld := ⟨Reg.SEA_CFGP i j, 8, 8⟩
def Reg.SEA_CFGV (i : Nat) (j : Nat) : Nat := 0x41034 + i * 256 + j * 8
def F.SEA_CFGV_VALUE (i : Nat) (j : Nat) : Fld := ⟨Reg.SEA_CFGV i j, 0, 32⟩
def Reg.SEA_BREAK (i : Nat) : Nat := 0x41050 + i * 256
def F.SEA_BREAK_LASTA (i : Nat) : Fld := ⟨Reg.SEA_BREAK i, 0, 8⟩
def F.SEA_BREAK_LASTB (i : Nat) : Fld := ⟨Reg.SEA_BREAK i, 8, 8⟩
def Reg.SEA_LAST_S_LO (i : Nat) : Nat := 0x41054 + i * 256
def F.SEA_LAST_S_LO_T (i : Nat) : Fld := ⟨Reg.SEA_LAST_S_LO i, 0, 32⟩
def Reg.SEA_LAST_S_HI (i : Nat) : Nat := 0x41058 + i * 256
def F.SEA_LAST_S_HI_T (i : Nat) : Fld := ⟨Reg.SEA_LAST_S_HI i, 0, 16⟩
def Reg.SEA_LAST_NS (i : Nat) : Nat := 0x4105c + i * 256
def F.SEA_LAST_NS_T (i : Nat) : Fld := ⟨Reg.SEA_LAST_NS i, 0, 30⟩

/-! ## 07_lamp_diagnostics.md -/

def Reg.DIA_CTL : Nat := 0x50000
def F.DIA_CTL_PROBE : Fld := ⟨Reg.DIA_CTL, 0, 1⟩
def F.DIA_CTL_FLAPLIM : Fld := ⟨Reg.DIA_CTL, 8, 8⟩
def Reg.DIA_PERIOD : Nat := 0x50004
def F.DIA_PERIOD_FRAMES : Fld := ⟨Reg.DIA_PERIOD, 0, 16⟩
def Reg.DIA_UNVLIM : Nat := 0x50008
def F.DIA_UNVLIM_SEC : Fld := ⟨Reg.DIA_UNVLIM, 0, 24⟩
def Reg.DIA_STAT : Nat := 0x5000c
def F.DIA_STAT_FAILED : Fld := ⟨Reg.DIA_STAT, 0, 1⟩
def F.DIA_STAT_AGED : Fld := ⟨Reg.DIA_STAT, 1, 1⟩
def F.DIA_STAT_FLAP : Fld := ⟨Reg.DIA_STAT, 2, 1⟩
def F.DIA_STAT_SUPP : Fld := ⟨Reg.DIA_STAT, 3, 1⟩
def Reg.DIA_CNT0 : Nat := 0x50010
def F.DIA_CNT0_OPEN : Fld := ⟨Reg.DIA_CNT0, 0, 16⟩
def F.DIA_CNT0_SHORT : Fld := ⟨Reg.DIA_CNT0, 16, 16⟩
def Reg.DIA_CNT1 : Nat := 0x50014
def F.DIA_CNT1_OVERTEMP : Fld := ⟨Reg.DIA_CNT1, 0, 16⟩
def F.DIA_CNT1_UNVERIFIED : Fld := ⟨Reg.DIA_CNT1, 16, 16⟩
def Reg.DIA_CNT2 : Nat := 0x50018
def F.DIA_CNT2_AGED : Fld := ⟨Reg.DIA_CNT2, 0, 16⟩
def F.DIA_CNT2_LATCHED : Fld := ⟨Reg.DIA_CNT2, 16, 16⟩
def Reg.DIA_PROBES : Nat := 0x5001c
def F.DIA_PROBES_COUNT : Fld := ⟨Reg.DIA_PROBES, 0, 32⟩
def Reg.DIA_SUPP : Nat := 0x50020
def F.DIA_SUPP_COUNT : Fld := ⟨Reg.DIA_SUPP, 0, 16⟩
def Reg.DIA_SEAMF : Nat := 0x50024
def F.DIA_SEAMF_SEAMS : Fld := ⟨Reg.DIA_SEAMF, 0, 32⟩
def Reg.DIA_SEL : Nat := 0x50030
def F.DIA_SEL_SLOT : Fld := ⟨Reg.DIA_SEL, 0, 12⟩
def F.DIA_SEL_CH : Fld := ⟨Reg.DIA_SEL, 12, 3⟩
def Reg.DIA_CHST : Nat := 0x50034
def F.DIA_CHST_STATE : Fld := ⟨Reg.DIA_CHST, 0, 3⟩
def F.DIA_CHST_LATCHED : Fld := ⟨Reg.DIA_CHST, 3, 1⟩
def F.DIA_CHST_EOL : Fld := ⟨Reg.DIA_CHST, 4, 1⟩
def F.DIA_CHST_AGED : Fld := ⟨Reg.DIA_CHST, 5, 1⟩
def F.DIA_CHST_FLAPS : Fld := ⟨Reg.DIA_CHST, 8, 8⟩
def Reg.DIA_VAGE : Nat := 0x50038
def F.DIA_VAGE_SEC : Fld := ⟨Reg.DIA_VAGE, 0, 24⟩
def Reg.DIA_CMD : Nat := 0x5003c
def F.DIA_CMD_CLR : Fld := ⟨Reg.DIA_CMD, 0, 1⟩
def F.DIA_CMD_CLRALL : Fld := ⟨Reg.DIA_CMD, 1, 1⟩
def Reg.DIA_LAST_S_LO : Nat := 0x50040
def F.DIA_LAST_S_LO_T : Fld := ⟨Reg.DIA_LAST_S_LO, 0, 32⟩
def Reg.DIA_LAST_S_HI : Nat := 0x50044
def F.DIA_LAST_S_HI_T : Fld := ⟨Reg.DIA_LAST_S_HI, 0, 16⟩
def Reg.DIA_LAST_NS : Nat := 0x50048
def F.DIA_LAST_NS_T : Fld := ⟨Reg.DIA_LAST_NS, 0, 30⟩

/-! ## 08_control_loops.md -/

def Reg.CCE_IDIV : Nat := 0x60000
def F.CCE_IDIV_FRAMES : Fld := ⟨Reg.CCE_IDIV, 0, 8⟩
def Reg.CCE_ODIV : Nat := 0x60004
def F.CCE_ODIV_RUNS : Fld := ⟨Reg.CCE_ODIV, 0, 16⟩
def Reg.CCE_STALE : Nat := 0x60008
def F.CCE_STALE_TIME : Fld := ⟨Reg.CCE_STALE, 0, 16⟩
def Reg.CCE_HSLEW : Nat := 0x6000c
def F.CCE_HSLEW_RATE : Fld := ⟨Reg.CCE_HSLEW, 0, 16⟩
def Reg.CCE_DAYSTART : Nat := 0x60010
def F.CCE_DAYSTART_SEC : Fld := ⟨Reg.CCE_DAYSTART, 0, 17⟩
def Reg.CCE_STAT : Nat := 0x60014
def F.CCE_STAT_TRIP : Fld := ⟨Reg.CCE_STAT, 0, 1⟩
def F.CCE_STAT_STALE : Fld := ⟨Reg.CCE_STAT, 1, 1⟩
def F.CCE_STAT_FALLBACK : Fld := ⟨Reg.CCE_STAT, 2, 1⟩
def Reg.CCE_MCNT : Nat := 0x60018
def F.CCE_MCNT_TRACK : Fld := ⟨Reg.CCE_MCNT, 0, 10⟩
def F.CCE_MCNT_DLI : Fld := ⟨Reg.CCE_MCNT, 16, 10⟩
def Reg.CCE_CMD : Nat := 0x6001c
def F.CCE_CMD_COMMIT : Fld := ⟨Reg.CCE_CMD, 0, 1⟩
def F.CCE_CMD_FECLR : Fld := ⟨Reg.CCE_CMD, 1, 1⟩
def F.CCE_CMD_DLIRST : Fld := ⟨Reg.CCE_CMD, 2, 1⟩
def Reg.CCE_SEL : Nat := 0x60020
def F.CCE_SEL_LOOP : Fld := ⟨Reg.CCE_SEL, 0, 9⟩
def Reg.CCE_VINT : Nat := 0x60024
def F.CCE_VINT_I : Fld := ⟨Reg.CCE_VINT, 0, 32⟩
def Reg.CCE_VOINT : Nat := 0x60028
def F.CCE_VOINT_I : Fld := ⟨Reg.CCE_VOINT, 0, 32⟩
def Reg.CCE_VERR : Nat := 0x6002c
def F.CCE_VERR_INNER : Fld := ⟨Reg.CCE_VERR, 0, 16⟩
def F.CCE_VERR_OUTER : Fld := ⟨Reg.CCE_VERR, 16, 16⟩
def Reg.CCE_VFE : Nat := 0x60030
def F.CCE_VFE_MS : Fld := ⟨Reg.CCE_VFE, 0, 24⟩
def Reg.CCE_VQ : Nat := 0x60034
def F.CCE_VQ_Q : Fld := ⟨Reg.CCE_VQ, 0, 17⟩
def Reg.CCE_TRIPS : Nat := 0x60038
def F.CCE_TRIPS_TRIPS : Fld := ⟨Reg.CCE_TRIPS, 0, 16⟩
def F.CCE_TRIPS_STALES : Fld := ⟨Reg.CCE_TRIPS, 16, 16⟩
def Reg.CCE_LCTL (i : Nat) : Nat := 0x61000 + i * 16
def F.CCE_LCTL_MODE (i : Nat) : Fld := ⟨Reg.CCE_LCTL i, 0, 2⟩
def F.CCE_LCTL_FEOPEN (i : Nat) : Fld := ⟨Reg.CCE_LCTL i, 2, 1⟩
def F.CCE_LCTL_SPSEL (i : Nat) : Fld := ⟨Reg.CCE_LCTL i, 3, 1⟩
def F.CCE_LCTL_ICSET (i : Nat) : Fld := ⟨Reg.CCE_LCTL i, 4, 6⟩
def F.CCE_LCTL_OCSET (i : Nat) : Fld := ⟨Reg.CCE_LCTL i, 10, 6⟩
def F.CCE_LCTL_CURVE (i : Nat) : Fld := ⟨Reg.CCE_LCTL i, 16, 8⟩
def Reg.CCE_LSP (i : Nat) : Nat := 0x61004 + i * 16
def F.CCE_LSP_SP (i : Nat) : Fld := ⟨Reg.CCE_LSP i, 0, 16⟩
def F.CCE_LSP_INSP (i : Nat) : Fld := ⟨Reg.CCE_LSP i, 16, 16⟩
def Reg.CCE_LOUT (i : Nat) : Nat := 0x61008 + i * 16
def F.CCE_LOUT_GAIN (i : Nat) : Fld := ⟨Reg.CCE_LOUT i, 0, 16⟩
def F.CCE_LOUT_MEAS (i : Nat) : Fld := ⟨Reg.CCE_LOUT i, 16, 16⟩
def Reg.CCE_LSTAT (i : Nat) : Nat := 0x6100c + i * 16
def F.CCE_LSTAT_EMODE (i : Nat) : Fld := ⟨Reg.CCE_LSTAT i, 0, 2⟩
def F.CCE_LSTAT_SAT (i : Nat) : Fld := ⟨Reg.CCE_LSTAT i, 2, 1⟩
def F.CCE_LSTAT_SATSRC (i : Nat) : Fld := ⟨Reg.CCE_LSTAT i, 3, 2⟩
def F.CCE_LSTAT_FEHOLD (i : Nat) : Fld := ⟨Reg.CCE_LSTAT i, 5, 1⟩
def F.CCE_LSTAT_STALE (i : Nat) : Fld := ⟨Reg.CCE_LSTAT i, 6, 1⟩
def F.CCE_LSTAT_RAMP (i : Nat) : Fld := ⟨Reg.CCE_LSTAT i, 7, 1⟩
def F.CCE_LSTAT_OSAT (i : Nat) : Fld := ⟨Reg.CCE_LSTAT i, 8, 1⟩
def F.CCE_LSTAT_DLI (i : Nat) : Fld := ⟨Reg.CCE_LSTAT i, 16, 16⟩
def Reg.CCE_KP (i : Nat) : Nat := 0x64000 + i * 32
def F.CCE_KP_KP (i : Nat) : Fld := ⟨Reg.CCE_KP i, 0, 32⟩
def Reg.CCE_KI (i : Nat) : Nat := 0x64004 + i * 32
def F.CCE_KI_KI (i : Nat) : Fld := ⟨Reg.CCE_KI i, 0, 32⟩
def Reg.CCE_FF (i : Nat) : Nat := 0x64008 + i * 32
def F.CCE_FF_FF (i : Nat) : Fld := ⟨Reg.CCE_FF i, 0, 32⟩
def Reg.CCE_OLIM (i : Nat) : Nat := 0x6400c + i * 32
def F.CCE_OLIM_OMIN (i : Nat) : Fld := ⟨Reg.CCE_OLIM i, 0, 16⟩
def F.CCE_OLIM_OMAX (i : Nat) : Fld := ⟨Reg.CCE_OLIM i, 16, 16⟩
def Reg.CCE_SLEW (i : Nat) : Nat := 0x64010 + i * 32
def F.CCE_SLEW_SLEW (i : Nat) : Fld := ⟨Reg.CCE_SLEW i, 0, 24⟩
def Reg.CCE_FELIM (i : Nat) : Nat := 0x64014 + i * 32
def F.CCE_FELIM_FELIM (i : Nat) : Fld := ⟨Reg.CCE_FELIM i, 0, 16⟩
def Reg.CCE_FETIME (i : Nat) : Nat := 0x64018 + i * 32
def F.CCE_FETIME_FETIME (i : Nat) : Fld := ⟨Reg.CCE_FETIME i, 0, 24⟩

/-! ## 09_time_base.md -/

def Reg.TBU_CTL : Nat := 0x2000
def F.TBU_CTL_SERVO : Fld := ⟨Reg.TBU_CTL, 0, 1⟩
def F.TBU_CTL_TCEN : Fld := ⟨Reg.TBU_CTL, 1, 1⟩
def F.TBU_CTL_IPV4 : Fld := ⟨Reg.TBU_CTL, 2, 1⟩
def F.TBU_CTL_IPV6 : Fld := ⟨Reg.TBU_CTL, 3, 1⟩
def F.TBU_CTL_DOMAIN : Fld := ⟨Reg.TBU_CTL, 8, 7⟩
def Reg.TBU_STAT : Nat := 0x2004
def F.TBU_STAT_STATE : Fld := ⟨Reg.TBU_STAT, 0, 2⟩
def F.TBU_STAT_SRC : Fld := ⟨Reg.TBU_STAT, 2, 1⟩
def F.TBU_STAT_STEPPING : Fld := ⟨Reg.TBU_STAT, 3, 1⟩
def F.TBU_STAT_VALID : Fld := ⟨Reg.TBU_STAT, 4, 1⟩
def F.TBU_STAT_STEPPED : Fld := ⟨Reg.TBU_STAT, 5, 1⟩
def F.TBU_STAT_GMCHG : Fld := ⟨Reg.TBU_STAT, 6, 1⟩
def F.TBU_STAT_REFUSED : Fld := ⟨Reg.TBU_STAT, 7, 1⟩
def F.TBU_STAT_LEAP61 : Fld := ⟨Reg.TBU_STAT, 8, 1⟩
def F.TBU_STAT_LEAP59 : Fld := ⟨Reg.TBU_STAT, 9, 1⟩
def F.TBU_STAT_UTCVALID : Fld := ⟨Reg.TBU_STAT, 10, 1⟩
def F.TBU_STAT_TRACE : Fld := ⟨Reg.TBU_STAT, 11, 1⟩
def F.TBU_STAT_ARMED : Fld := ⟨Reg.TBU_STAT, 12, 1⟩
def Reg.TBU_CMD : Nat := 0x2008
def F.TBU_CMD_CAP : Fld := ⟨Reg.TBU_CMD, 0, 1⟩
def F.TBU_CMD_SET : Fld := ⟨Reg.TBU_CMD, 1, 1⟩
def F.TBU_CMD_SLEW : Fld := ⟨Reg.TBU_CMD, 2, 1⟩
def F.TBU_CMD_UTCARM : Fld := ⟨Reg.TBU_CMD, 3, 1⟩
def Reg.TBU_LOCKTH : Nat := 0x200c
def F.TBU_LOCKTH_NS : Fld := ⟨Reg.TBU_LOCKTH, 0, 16⟩
def Reg.TBU_STEPTH : Nat := 0x2010
def F.TBU_STEPTH_NS : Fld := ⟨Reg.TBU_STEPTH, 0, 30⟩
def Reg.TBU_SLEWMAX : Nat := 0x2014
def F.TBU_SLEWMAX_PPB : Fld := ⟨Reg.TBU_SLEWMAX, 0, 20⟩
def Reg.TBU_SERVO : Nat := 0x2018
def F.TBU_SERVO_KP : Fld := ⟨Reg.TBU_SERVO, 0, 16⟩
def F.TBU_SERVO_KI : Fld := ⟨Reg.TBU_SERVO, 16, 16⟩
def Reg.TBU_FREQ : Nat := 0x201c
def F.TBU_FREQ_FREQ : Fld := ⟨Reg.TBU_FREQ, 0, 32⟩
def Reg.TBU_RATE : Nat := 0x2020
def F.TBU_RATE_RATE : Fld := ⟨Reg.TBU_RATE, 0, 32⟩
def Reg.TBU_OFFSET : Nat := 0x2024
def F.TBU_OFFSET_NS : Fld := ⟨Reg.TBU_OFFSET, 0, 32⟩
def Reg.TBU_MPD : Nat := 0x2028
def F.TBU_MPD_NS : Fld := ⟨Reg.TBU_MPD, 0, 32⟩
def Reg.TBU_ASYM : Nat := 0x202c
def F.TBU_ASYM_NS : Fld := ⟨Reg.TBU_ASYM, 0, 32⟩
def Reg.TBU_UTCOFF : Nat := 0x2030
def F.TBU_UTCOFF_SEC : Fld := ⟨Reg.TBU_UTCOFF, 0, 16⟩
def Reg.TBU_GMUTC : Nat := 0x2034
def F.TBU_GMUTC_SEC : Fld := ⟨Reg.TBU_GMUTC, 0, 16⟩
def Reg.TBU_HOLD : Nat := 0x2038
def F.TBU_HOLD_SEC : Fld := ⟨Reg.TBU_HOLD, 0, 24⟩
def Reg.TBU_HOLDMAX : Nat := 0x203c
def F.TBU_HOLDMAX_SEC : Fld := ⟨Reg.TBU_HOLDMAX, 0, 24⟩
def Reg.TBU_NOW_S_LO : Nat := 0x2040
def F.TBU_NOW_S_LO_T : Fld := ⟨Reg.TBU_NOW_S_LO, 0, 32⟩
def Reg.TBU_NOW_S_HI : Nat := 0x2044
def F.TBU_NOW_S_HI_T : Fld := ⟨Reg.TBU_NOW_S_HI, 0, 16⟩
def Reg.TBU_NOW_NS : Nat := 0x2048
def F.TBU_NOW_NS_T : Fld := ⟨Reg.TBU_NOW_NS, 0, 30⟩
def Reg.TBU_CAP_S_LO : Nat := 0x204c
def F.TBU_CAP_S_LO_T : Fld := ⟨Reg.TBU_CAP_S_LO, 0, 32⟩
def Reg.TBU_CAP_S_HI : Nat := 0x2050
def F.TBU_CAP_S_HI_T : Fld := ⟨Reg.TBU_CAP_S_HI, 0, 16⟩
def Reg.TBU_CAP_NS : Nat := 0x2054
def F.TBU_CAP_NS_T : Fld := ⟨Reg.TBU_CAP_NS, 0, 30⟩
def Reg.TBU_SET_S_LO : Nat := 0x2058
def F.TBU_SET_S_LO_T : Fld := ⟨Reg.TBU_SET_S_LO, 0, 32⟩
def Reg.TBU_SET_S_HI : Nat := 0x205c
def F.TBU_SET_S_HI_T : Fld := ⟨Reg.TBU_SET_S_HI, 0, 16⟩
def Reg.TBU_SET_NS : Nat := 0x2060
def F.TBU_SET_NS_T : Fld := ⟨Reg.TBU_SET_NS, 0, 30⟩
def Reg.TBU_ADJ : Nat := 0x2064
def F.TBU_ADJ_NS : Fld := ⟨Reg.TBU_ADJ, 0, 32⟩
def Reg.TBU_UTCAT_S_LO : Nat := 0x2068
def F.TBU_UTCAT_S_LO_T : Fld := ⟨Reg.TBU_UTCAT_S_LO, 0, 32⟩
def Reg.TBU_UTCAT_S_HI : Nat := 0x206c
def F.TBU_UTCAT_S_HI_T : Fld := ⟨Reg.TBU_UTCAT_S_HI, 0, 16⟩
def Reg.TBU_UTCAT_NS : Nat := 0x2070
def F.TBU_UTCAT_NS_T : Fld := ⟨Reg.TBU_UTCAT_NS, 0, 30⟩
def Reg.TBU_LASTSTEP_HI : Nat := 0x2074
def F.TBU_LASTSTEP_HI_D : Fld := ⟨Reg.TBU_LASTSTEP_HI, 0, 32⟩
def Reg.TBU_LASTSTEP_LO : Nat := 0x2078
def F.TBU_LASTSTEP_LO_D : Fld := ⟨Reg.TBU_LASTSTEP_LO, 0, 32⟩
def Reg.TBU_STEPAT_S_LO : Nat := 0x207c
def F.TBU_STEPAT_S_LO_T : Fld := ⟨Reg.TBU_STEPAT_S_LO, 0, 32⟩
def Reg.TBU_STEPAT_S_HI : Nat := 0x2080
def F.TBU_STEPAT_S_HI_T : Fld := ⟨Reg.TBU_STEPAT_S_HI, 0, 16⟩
def Reg.TBU_STEPAT_NS : Nat := 0x2084
def F.TBU_STEPAT_NS_T : Fld := ⟨Reg.TBU_STEPAT_NS, 0, 30⟩
def Reg.TBU_PHY1G : Nat := 0x2088
def F.TBU_PHY1G_RX : Fld := ⟨Reg.TBU_PHY1G, 0, 16⟩
def F.TBU_PHY1G_TX : Fld := ⟨Reg.TBU_PHY1G, 16, 16⟩
def Reg.TBU_PHY100 : Nat := 0x208c
def F.TBU_PHY100_RX : Fld := ⟨Reg.TBU_PHY100, 0, 16⟩
def F.TBU_PHY100_TX : Fld := ⟨Reg.TBU_PHY100, 16, 16⟩
def Reg.TBU_GMID_HI : Nat := 0x2090
def F.TBU_GMID_HI_ID : Fld := ⟨Reg.TBU_GMID_HI, 0, 32⟩
def Reg.TBU_GMID_LO : Nat := 0x2094
def F.TBU_GMID_LO_ID : Fld := ⟨Reg.TBU_GMID_LO, 0, 32⟩
def Reg.TBU_GMQ : Nat := 0x2098
def F.TBU_GMQ_CLASS : Fld := ⟨Reg.TBU_GMQ, 0, 8⟩
def F.TBU_GMQ_ACC : Fld := ⟨Reg.TBU_GMQ, 8, 8⟩
def F.TBU_GMQ_STEPS : Fld := ⟨Reg.TBU_GMQ, 16, 16⟩
def Reg.TBU_RXCNT : Nat := 0x209c
def F.TBU_RXCNT_SYNC : Fld := ⟨Reg.TBU_RXCNT, 0, 16⟩
def F.TBU_RXCNT_ANN : Fld := ⟨Reg.TBU_RXCNT, 16, 16⟩
def Reg.TBU_TCCNT : Nat := 0x20a0
def F.TBU_TCCNT_COUNT : Fld := ⟨Reg.TBU_TCCNT, 0, 32⟩
def Reg.TBU_ERRCNT : Nat := 0x20a4
def F.TBU_ERRCNT_MSG : Fld := ⟨Reg.TBU_ERRCNT, 0, 16⟩
def F.TBU_ERRCNT_DELAY : Fld := ⟨Reg.TBU_ERRCNT, 16, 16⟩
def Reg.TBU_XOFF : Nat := 0x20a8
def F.TBU_XOFF_NS : Fld := ⟨Reg.TBU_XOFF, 0, 32⟩
def Reg.TBU_INTV : Nat := 0x20ac
def F.TBU_INTV_SYNC : Fld := ⟨Reg.TBU_INTV, 0, 8⟩
def F.TBU_INTV_DREQ : Fld := ⟨Reg.TBU_INTV, 8, 8⟩
def Reg.TBU_ANNTO : Nat := 0x20b0
def F.TBU_ANNTO_COUNT : Fld := ⟨Reg.TBU_ANNTO, 0, 4⟩

/-! ## 10_calendar_clock.md -/

def Reg.RTC_CTL : Nat := 0x3000
def F.RTC_CTL_DISC : Fld := ⟨Reg.RTC_CTL, 0, 1⟩
def F.RTC_CTL_COMP : Fld := ⟨Reg.RTC_CTL, 1, 1⟩
def F.RTC_CTL_AGEAUTO : Fld := ⟨Reg.RTC_CTL, 2, 1⟩
def Reg.RTC_STAT : Nat := 0x3004
def F.RTC_STAT_VALID : Fld := ⟨Reg.RTC_STAT, 0, 1⟩
def F.RTC_STAT_DATEINV : Fld := ⟨Reg.RTC_STAT, 1, 1⟩
def F.RTC_STAT_RANGEEND : Fld := ⟨Reg.RTC_STAT, 2, 1⟩
def F.RTC_STAT_LEAPHOLD : Fld := ⟨Reg.RTC_STAT, 3, 1⟩
def F.RTC_STAT_LEAPDONE : Fld := ⟨Reg.RTC_STAT, 4, 1⟩
def F.RTC_STAT_ALM : Fld := ⟨Reg.RTC_STAT, 5, 2⟩
def F.RTC_STAT_LATE : Fld := ⟨Reg.RTC_STAT, 7, 2⟩
def F.RTC_STAT_SETREF : Fld := ⟨Reg.RTC_STAT, 9, 1⟩
def F.RTC_STAT_DSTEP : Fld := ⟨Reg.RTC_STAT, 10, 1⟩
def F.RTC_STAT_LOST : Fld := ⟨Reg.RTC_STAT, 11, 1⟩
def F.RTC_STAT_TSENS : Fld := ⟨Reg.RTC_STAT, 12, 1⟩
def F.RTC_STAT_DISCACT : Fld := ⟨Reg.RTC_STAT, 13, 1⟩
def F.RTC_STAT_SLEWING : Fld := ⟨Reg.RTC_STAT, 14, 1⟩
def F.RTC_STAT_CMDDONE : Fld := ⟨Reg.RTC_STAT, 15, 1⟩
def Reg.RTC_CMD : Nat := 0x3008
def F.RTC_CMD_COMMIT : Fld := ⟨Reg.RTC_CMD, 0, 1⟩
def F.RTC_CMD_DISCNOW : Fld := ⟨Reg.RTC_CMD, 1, 1⟩
def Reg.RTC_TIME : Nat := 0x300c
def F.RTC_TIME_SEC : Fld := ⟨Reg.RTC_TIME, 0, 7⟩
def F.RTC_TIME_MIN : Fld := ⟨Reg.RTC_TIME, 8, 7⟩
def F.RTC_TIME_HOUR : Fld := ⟨Reg.RTC_TIME, 16, 6⟩
def F.RTC_TIME_DOW : Fld := ⟨Reg.RTC_TIME, 24, 3⟩
def Reg.RTC_DATE : Nat := 0x3010
def F.RTC_DATE_DAY : Fld := ⟨Reg.RTC_DATE, 0, 6⟩
def F.RTC_DATE_MONTH : Fld := ⟨Reg.RTC_DATE, 8, 5⟩
def F.RTC_DATE_YEAR : Fld := ⟨Reg.RTC_DATE, 16, 8⟩
def F.RTC_DATE_CENT : Fld := ⟨Reg.RTC_DATE, 24, 8⟩
def Reg.RTC_SUBSEC : Nat := 0x3014
def F.RTC_SUBSEC_COUNT : Fld := ⟨Reg.RTC_SUBSEC, 0, 15⟩
def Reg.RTC_STGTIME : Nat := 0x3018
def F.RTC_STGTIME_TIME : Fld := ⟨Reg.RTC_STGTIME, 0, 27⟩
def F.RTC_STGTIME_TSTG : Fld := ⟨Reg.RTC_STGTIME, 30, 1⟩
def F.RTC_STGTIME_DSTG : Fld := ⟨Reg.RTC_STGTIME, 31, 1⟩
def Reg.RTC_STGDATE : Nat := 0x301c
def F.RTC_STGDATE_DATE : Fld := ⟨Reg.RTC_STGDATE, 0, 32⟩
def Reg.RTC_ATIME (i : Nat) : Nat := 0x3020 + i * 12
def F.RTC_ATIME_MATCH (i : Nat) : Fld := ⟨Reg.RTC_ATIME i, 0, 27⟩
def Reg.RTC_ADATE (i : Nat) : Nat := 0x3024 + i * 12
def F.RTC_ADATE_MATCH (i : Nat) : Fld := ⟨Reg.RTC_ADATE i, 0, 13⟩
def Reg.RTC_ACTL (i : Nat) : Nat := 0x3028 + i * 12
def F.RTC_ACTL_EN (i : Nat) : Fld := ⟨Reg.RTC_ACTL i, 0, 1⟩
def F.RTC_ACTL_MASK (i : Nat) : Fld := ⟨Reg.RTC_ACTL i, 1, 6⟩
def F.RTC_ACTL_SIGEN (i : Nat) : Fld := ⟨Reg.RTC_ACTL i, 7, 1⟩
def F.RTC_ACTL_BOBBIN (i : Nat) : Fld := ⟨Reg.RTC_ACTL i, 8, 5⟩
def F.RTC_ACTL_SIGBIT (i : Nat) : Fld := ⟨Reg.RTC_ACTL i, 16, 4⟩
def Reg.RTC_TEMP : Nat := 0x3038
def F.RTC_TEMP_T : Fld := ⟨Reg.RTC_TEMP, 0, 16⟩
def F.RTC_TEMP_TVALID : Fld := ⟨Reg.RTC_TEMP, 16, 1⟩
def Reg.RTC_CORR : Nat := 0x303c
def F.RTC_CORR_C : Fld := ⟨Reg.RTC_CORR, 0, 32⟩
def Reg.RTC_AGE : Nat := 0x3040
def F.RTC_AGE_AGE : Fld := ⟨Reg.RTC_AGE, 0, 24⟩
def Reg.RTC_DIFF : Nat := 0x3044
def F.RTC_DIFF_D : Fld := ⟨Reg.RTC_DIFF, 0, 32⟩
def Reg.RTC_ADJ : Nat := 0x3048
def F.RTC_ADJ_INS : Fld := ⟨Reg.RTC_ADJ, 0, 16⟩
def F.RTC_ADJ_REM : Fld := ⟨Reg.RTC_ADJ, 16, 16⟩
def Reg.RTC_CSEL : Nat := 0x304c
def F.RTC_CSEL_POINT : Fld := ⟨Reg.RTC_CSEL, 0, 6⟩
def Reg.RTC_CVAL : Nat := 0x3050
def F.RTC_CVAL_P : Fld := ⟨Reg.RTC_CVAL, 0, 24⟩
def Reg.RTC_SCAP : Nat := 0x3054
def F.RTC_SCAP_MV : Fld := ⟨Reg.RTC_SCAP, 0, 16⟩
def Reg.RTC_SETAT_S_LO : Nat := 0x3058
def F.RTC_SETAT_S_LO_T : Fld := ⟨Reg.RTC_SETAT_S_LO, 0, 32⟩
def Reg.RTC_SETAT_S_HI : Nat := 0x305c
def F.RTC_SETAT_S_HI_T : Fld := ⟨Reg.RTC_SETAT_S_HI, 0, 16⟩
def Reg.RTC_SETAT_NS : Nat := 0x3060
def F.RTC_SETAT_NS_T : Fld := ⟨Reg.RTC_SETAT_NS, 0, 30⟩

/-! ## 11_metering.md -/

def Reg.MTR_CTL : Nat := 0x70000
def F.MTR_CTL_FNOM : Fld := ⟨Reg.MTR_CTL, 0, 1⟩
def Reg.MTR_INTV : Nat := 0x70004
def F.MTR_INTV_SEC : Fld := ⟨Reg.MTR_INTV, 0, 12⟩
def Reg.MTR_STAT : Nat := 0x70008
def F.MTR_STAT_FLOCK : Fld := ⟨Reg.MTR_STAT, 0, 1⟩
def F.MTR_STAT_CLIP : Fld := ⟨Reg.MTR_STAT, 1, 1⟩
def F.MTR_STAT_OVER : Fld := ⟨Reg.MTR_STAT, 2, 1⟩
def F.MTR_STAT_MAPREF : Fld := ⟨Reg.MTR_STAT, 3, 1⟩
def F.MTR_STAT_INTVREF : Fld := ⟨Reg.MTR_STAT, 4, 1⟩
def F.MTR_STAT_PAIRDIFF : Fld := ⟨Reg.MTR_STAT, 5, 1⟩
def F.MTR_STAT_GAP : Fld := ⟨Reg.MTR_STAT, 6, 1⟩
def Reg.MTR_CMD : Nat := 0x7000c
def F.MTR_CMD_ACCRST : Fld := ⟨Reg.MTR_CMD, 0, 1⟩
def F.MTR_CMD_CONFIRM : Fld := ⟨Reg.MTR_CMD, 16, 16⟩
def Reg.MTR_FREQ : Nat := 0x70010
def F.MTR_FREQ_HZ : Fld := ⟨Reg.MTR_FREQ, 0, 32⟩
def Reg.MTR_ASEL : Nat := 0x70014
def F.MTR_ASEL_CIRCUIT : Fld := ⟨Reg.MTR_ASEL, 0, 3⟩
def F.MTR_ASEL_INDEX : Fld := ⟨Reg.MTR_ASEL, 4, 4⟩
def Reg.MTR_AVAL_LO : Nat := 0x70018
def F.MTR_AVAL_LO_VALUE : Fld := ⟨Reg.MTR_AVAL_LO, 0, 32⟩
def Reg.MTR_AVAL_HI : Nat := 0x7001c
def F.MTR_AVAL_HI_VALUE : Fld := ⟨Reg.MTR_AVAL_HI, 0, 32⟩
def Reg.MTR_CALSEL : Nat := 0x70020
def F.MTR_CALSEL_CH : Fld := ⟨Reg.MTR_CALSEL, 0, 5⟩
def Reg.MTR_CALGAIN : Nat := 0x70024
def F.MTR_CALGAIN_FS : Fld := ⟨Reg.MTR_CALGAIN, 0, 32⟩
def Reg.MTR_CALAUX : Nat := 0x70028
def F.MTR_CALAUX_PHASE : Fld := ⟨Reg.MTR_CALAUX, 0, 16⟩
def F.MTR_CALAUX_PKTH : Fld := ⟨Reg.MTR_CALAUX, 16, 16⟩
def Reg.MTR_INTST_S_LO : Nat := 0x7002c
def F.MTR_INTST_S_LO_T : Fld := ⟨Reg.MTR_INTST_S_LO, 0, 32⟩
def Reg.MTR_INTST_S_HI : Nat := 0x70030
def F.MTR_INTST_S_HI_T : Fld := ⟨Reg.MTR_INTST_S_HI, 0, 16⟩
def Reg.MTR_INTST_NS : Nat := 0x70034
def F.MTR_INTST_NS_T : Fld := ⟨Reg.MTR_INTST_NS, 0, 30⟩
def Reg.MTR_OCCNT : Nat := 0x70038
def F.MTR_OCCNT_OVERS : Fld := ⟨Reg.MTR_OCCNT, 0, 16⟩
def F.MTR_OCCNT_PEAKS : Fld := ⟨Reg.MTR_OCCNT, 16, 16⟩
def Reg.MTR_CNT2 : Nat := 0x7003c
def F.MTR_CNT2_GAPS : Fld := ⟨Reg.MTR_CNT2, 0, 16⟩
def F.MTR_CNT2_CLIPS : Fld := ⟨Reg.MTR_CNT2, 16, 16⟩
def Reg.MTR_KMAP (i : Nat) : Nat := 0x70040 + i * 24
def F.MTR_KMAP_IL1 (i : Nat) : Fld := ⟨Reg.MTR_KMAP i, 0, 5⟩
def F.MTR_KMAP_IL2 (i : Nat) : Fld := ⟨Reg.MTR_KMAP i, 5, 5⟩
def F.MTR_KMAP_IL3 (i : Nat) : Fld := ⟨Reg.MTR_KMAP i, 10, 5⟩
def F.MTR_KMAP_FIRST (i : Nat) : Fld := ⟨Reg.MTR_KMAP i, 15, 7⟩
def F.MTR_KMAP_LAST (i : Nat) : Fld := ⟨Reg.MTR_KMAP i, 22, 7⟩
def F.MTR_KMAP_EN (i : Nat) : Fld := ⟨Reg.MTR_KMAP i, 31, 1⟩
def Reg.MTR_KSEAM (i : Nat) : Nat := 0x70044 + i * 24
def F.MTR_KSEAM_SEAMS (i : Nat) : Fld := ⟨Reg.MTR_KSEAM i, 0, 32⟩
def Reg.MTR_KP (i : Nat) : Nat := 0x70048 + i * 24
def F.MTR_KP_W (i : Nat) : Fld := ⟨Reg.MTR_KP i, 0, 32⟩
def Reg.MTR_KS (i : Nat) : Nat := 0x7004c + i * 24
def F.MTR_KS_VA (i : Nat) : Fld := ⟨Reg.MTR_KS i, 0, 32⟩
def Reg.MTR_KPF (i : Nat) : Nat := 0x70050 + i * 24
def F.MTR_KPF_PF (i : Nat) : Fld := ⟨Reg.MTR_KPF i, 0, 16⟩
def F.MTR_KPF_THD (i : Nat) : Fld := ⟨Reg.MTR_KPF i, 16, 16⟩
def Reg.MTR_KSTAT (i : Nat) : Nat := 0x70054 + i * 24
def F.MTR_KSTAT_EFF (i : Nat) : Fld := ⟨Reg.MTR_KSTAT i, 0, 16⟩
def F.MTR_KSTAT_REV (i : Nat) : Fld := ⟨Reg.MTR_KSTAT i, 16, 1⟩
def F.MTR_KSTAT_OVER (i : Nat) : Fld := ⟨Reg.MTR_KSTAT i, 17, 1⟩
def F.MTR_KSTAT_ZEROE (i : Nat) : Fld := ⟨Reg.MTR_KSTAT i, 18, 1⟩
def Reg.MTR_CCTL (i : Nat) : Nat := 0x71000 + i * 64
def F.MTR_CCTL_EN (i : Nat) : Fld := ⟨Reg.MTR_CCTL i, 0, 1⟩
def F.MTR_CCTL_INTEG (i : Nat) : Fld := ⟨Reg.MTR_CCTL i, 1, 1⟩
def F.MTR_CCTL_FIXED (i : Nat) : Fld := ⟨Reg.MTR_CCTL i, 2, 1⟩
def F.MTR_CCTL_FGAIN (i : Nat) : Fld := ⟨Reg.MTR_CCTL i, 3, 2⟩
def F.MTR_CCTL_OCCYC (i : Nat) : Fld := ⟨Reg.MTR_CCTL i, 8, 8⟩
def F.MTR_CCTL_OCTH (i : Nat) : Fld := ⟨Reg.MTR_CCTL i, 16, 16⟩
def Reg.MTR_CSTAT (i : Nat) : Nat := 0x71004 + i * 64
def F.MTR_CSTAT_GAIN (i : Nat) : Fld := ⟨Reg.MTR_CSTAT i, 0, 2⟩
def F.MTR_CSTAT_CLIP (i : Nat) : Fld := ⟨Reg.MTR_CSTAT i, 2, 1⟩
def F.MTR_CSTAT_OVR (i : Nat) : Fld := ⟨Reg.MTR_CSTAT i, 3, 1⟩
def F.MTR_CSTAT_PEAK (i : Nat) : Fld := ⟨Reg.MTR_CSTAT i, 16, 16⟩
def Reg.MTR_CRMS (i : Nat) : Nat := 0x71008 + i * 64
def F.MTR_CRMS_RMS (i : Nat) : Fld := ⟨Reg.MTR_CRMS i, 0, 32⟩
def Reg.MTR_CFRMS (i : Nat) : Nat := 0x7100c + i * 64
def F.MTR_CFRMS_RMS (i : Nat) : Fld := ⟨Reg.MTR_CFRMS i, 0, 32⟩
def Reg.MTR_CIMPT_LO (i : Nat) : Nat := 0x71010 + i * 64
def F.MTR_CIMPT_LO_E (i : Nat) : Fld := ⟨Reg.MTR_CIMPT_LO i, 0, 32⟩
def Reg.MTR_CIMPT_HI (i : Nat) : Nat := 0x71014 + i * 64
def F.MTR_CIMPT_HI_E (i : Nat) : Fld := ⟨Reg.MTR_CIMPT_HI i, 0, 32⟩
def Reg.MTR_CEXPT_LO (i : Nat) : Nat := 0x71018 + i * 64
def F.MTR_CEXPT_LO_E (i : Nat) : Fld := ⟨Reg.MTR_CEXPT_LO i, 0, 32⟩
def Reg.MTR_CEXPT_HI (i : Nat) : Nat := 0x7101c + i * 64
def F.MTR_CEXPT_HI_E (i : Nat) : Fld := ⟨Reg.MTR_CEXPT_HI i, 0, 32⟩
def Reg.MTR_CIMPF_LO (i : Nat) : Nat := 0x71020 + i * 64
def F.MTR_CIMPF_LO_E (i : Nat) : Fld := ⟨Reg.MTR_CIMPF_LO i, 0, 32⟩
def Reg.MTR_CIMPF_HI (i : Nat) : Nat := 0x71024 + i * 64
def F.MTR_CIMPF_HI_E (i : Nat) : Fld := ⟨Reg.MTR_CIMPF_HI i, 0, 32⟩
def Reg.MTR_CEXPF_LO (i : Nat) : Nat := 0x71028 + i * 64
def F.MTR_CEXPF_LO_E (i : Nat) : Fld := ⟨Reg.MTR_CEXPF_LO i, 0, 32⟩
def Reg.MTR_CEXPF_HI (i : Nat) : Nat := 0x7102c + i * 64
def F.MTR_CEXPF_HI_E (i : Nat) : Fld := ⟨Reg.MTR_CEXPF_HI i, 0, 32⟩

/-! ## 12_sensor_radio.md -/

def Reg.SRU_CTL : Nat := 0x80000
def F.SRU_CTL_EN : Fld := ⟨Reg.SRU_CTL, 0, 1⟩
def F.SRU_CTL_JOINEN : Fld := ⟨Reg.SRU_CTL, 1, 1⟩
def F.SRU_CTL_MODE : Fld := ⟨Reg.SRU_CTL, 2, 2⟩
def F.SRU_CTL_FEC : Fld := ⟨Reg.SRU_CTL, 4, 1⟩
def F.SRU_CTL_IMGTTL : Fld := ⟨Reg.SRU_CTL, 8, 3⟩
def Reg.SRU_STAT : Nat := 0x80004
def F.SRU_STAT_RUN : Fld := ⟨Reg.SRU_STAT, 0, 1⟩
def F.SRU_STAT_CHREF : Fld := ⟨Reg.SRU_STAT, 1, 1⟩
def F.SRU_STAT_DWREF : Fld := ⟨Reg.SRU_STAT, 2, 1⟩
def F.SRU_STAT_FULL : Fld := ⟨Reg.SRU_STAT, 3, 1⟩
def F.SRU_STAT_SCHFULL : Fld := ⟨Reg.SRU_STAT, 4, 1⟩
def F.SRU_STAT_MIC : Fld := ⟨Reg.SRU_STAT, 5, 1⟩
def F.SRU_STAT_SEENEV : Fld := ⟨Reg.SRU_STAT, 6, 1⟩
def F.SRU_STAT_PENDING : Fld := ⟨Reg.SRU_STAT, 7, 1⟩
def F.SRU_STAT_SERVEALL : Fld := ⟨Reg.SRU_STAT, 8, 1⟩
def Reg.SRU_CMD : Nat := 0x80008
def F.SRU_CMD_DROP : Fld := ⟨Reg.SRU_CMD, 0, 1⟩
def F.SRU_CMD_CALL : Fld := ⟨Reg.SRU_CMD, 1, 1⟩
def F.SRU_CMD_REKEY : Fld := ⟨Reg.SRU_CMD, 2, 1⟩
def Reg.SRU_RALLY : Nat := 0x8000c
def F.SRU_RALLY_SEC : Fld := ⟨Reg.SRU_RALLY, 0, 10⟩
def Reg.SRU_WIN : Nat := 0x80010
def F.SRU_WIN_OPEN : Fld := ⟨Reg.SRU_WIN, 0, 8⟩
def F.SRU_WIN_RECOV : Fld := ⟨Reg.SRU_WIN, 8, 8⟩
def Reg.SRU_CHAN : Nat := 0x80014
def F.SRU_CHAN_OPCH : Fld := ⟨Reg.SRU_CHAN, 0, 6⟩
def F.SRU_CHAN_RCH : Fld := ⟨Reg.SRU_CHAN, 8, 6⟩
def F.SRU_CHAN_WCH : Fld := ⟨Reg.SRU_CHAN, 16, 6⟩
def Reg.SRU_HOPSEED : Nat := 0x80018
def F.SRU_HOPSEED_SEED : Fld := ⟨Reg.SRU_HOPSEED, 0, 16⟩
def Reg.SRU_WAKE : Nat := 0x8001c
def F.SRU_WAKE_WREP : Fld := ⟨Reg.SRU_WAKE, 0, 4⟩
def F.SRU_WAKE_WMAX : Fld := ⟨Reg.SRU_WAKE, 8, 8⟩
def Reg.SRU_TXPWR : Nat := 0x80020
def F.SRU_TXPWR_DBM : Fld := ⟨Reg.SRU_TXPWR, 0, 8⟩
def Reg.SRU_ADDR : Nat := 0x80024
def F.SRU_ADDR_ADDR : Fld := ⟨Reg.SRU_ADDR, 0, 32⟩
def Reg.SRU_KEY : Nat := 0x80028
def F.SRU_KEY_NODEK : Fld := ⟨Reg.SRU_KEY, 0, 8⟩
def F.SRU_KEY_BCAST : Fld := ⟨Reg.SRU_KEY, 8, 8⟩
def Reg.SRU_NODES : Nat := 0x8002c
def F.SRU_NODES_COUNT : Fld := ⟨Reg.SRU_NODES, 0, 11⟩
def F.SRU_NODES_DRIFTED : Fld := ⟨Reg.SRU_NODES, 16, 11⟩
def Reg.SRU_SLOTS : Nat := 0x80030
def F.SRU_SLOTS_USED : Fld := ⟨Reg.SRU_SLOTS, 0, 18⟩
def Reg.SRU_SEL : Nat := 0x80034
def F.SRU_SEL_NODE : Fld := ⟨Reg.SRU_SEL, 0, 10⟩
def Reg.SRU_SERVES : Nat := 0x80038
def F.SRU_SERVES_COUNT : Fld := ⟨Reg.SRU_SERVES, 0, 32⟩
def Reg.SRU_LETS : Nat := 0x8003c
def F.SRU_LETS_LETS : Fld := ⟨Reg.SRU_LETS, 0, 16⟩
def F.SRU_LETS_MISS : Fld := ⟨Reg.SRU_LETS, 16, 16⟩
def Reg.SRU_RXERR : Nat := 0x80040
def F.SRU_RXERR_MIC : Fld := ⟨Reg.SRU_RXERR, 0, 16⟩
def F.SRU_RXERR_FCS : Fld := ⟨Reg.SRU_RXERR, 16, 16⟩
def Reg.SRU_DUP : Nat := 0x80044
def F.SRU_DUP_DUP : Fld := ⟨Reg.SRU_DUP, 0, 16⟩
def F.SRU_DUP_EVICT : Fld := ⟨Reg.SRU_DUP, 16, 16⟩
def Reg.SRU_REFUSE : Nat := 0x80048
def F.SRU_REFUSE_DWELL : Fld := ⟨Reg.SRU_REFUSE, 0, 16⟩
def F.SRU_REFUSE_JOIN : Fld := ⟨Reg.SRU_REFUSE, 16, 16⟩
def Reg.SRU_SEEN : Nat := 0x8004c
def F.SRU_SEEN_COUNT : Fld := ⟨Reg.SRU_SEEN, 0, 10⟩
def Reg.SRU_RLYST_S_LO : Nat := 0x80050
def F.SRU_RLYST_S_LO_T : Fld := ⟨Reg.SRU_RLYST_S_LO, 0, 32⟩
def Reg.SRU_RLYST_S_HI : Nat := 0x80054
def F.SRU_RLYST_S_HI_T : Fld := ⟨Reg.SRU_RLYST_S_HI, 0, 16⟩
def Reg.SRU_RLYST_NS : Nat := 0x80058
def F.SRU_RLYST_NS_T : Fld := ⟨Reg.SRU_RLYST_NS, 0, 30⟩
def Reg.SRU_IMGPTR : Nat := 0x8005c
def F.SRU_IMGPTR_PTR : Fld := ⟨Reg.SRU_IMGPTR, 0, 18⟩
def Reg.SRU_IMGDAT : Nat := 0x80060
def F.SRU_IMGDAT_DATA : Fld := ⟨Reg.SRU_IMGDAT, 0, 32⟩
def Reg.SRU_COUNTDN : Nat := 0x80064
def F.SRU_COUNTDN_RALLIES : Fld := ⟨Reg.SRU_COUNTDN, 0, 8⟩
def Reg.SRU_SB (i : Nat) : Nat := 0x80080 + i * 4
def F.SRU_SB_LOCH (i : Nat) : Fld := ⟨Reg.SRU_SB i, 0, 6⟩
def F.SRU_SB_HICH (i : Nat) : Fld := ⟨Reg.SRU_SB i, 8, 6⟩
def F.SRU_SB_PMAX (i : Nat) : Fld := ⟨Reg.SRU_SB i, 16, 8⟩
def Reg.SRU_SBUSED (i : Nat) : Nat := 0x800a0 + i * 4
def F.SRU_SBUSED_MS (i : Nat) : Fld := ⟨Reg.SRU_SBUSED i, 0, 22⟩
def Reg.SRU_SBLIM (i : Nat) : Nat := 0x800c0 + i * 4
def F.SRU_SBLIM_LIMIT (i : Nat) : Fld := ⟨Reg.SRU_SBLIM i, 0, 16⟩
def Reg.SRU_DWELL (i : Nat) : Nat := 0x80100 + i * 4
def F.SRU_DWELL_USED (i : Nat) : Fld := ⟨Reg.SRU_DWELL i, 0, 24⟩
def F.SRU_DWELL_EXCL (i : Nat) : Fld := ⟨Reg.SRU_DWELL i, 31, 1⟩

/-! ## 13_key_store.md -/

def Reg.KST_CTL : Nat := 0x90000
def F.KST_CTL_OPEN : Fld := ⟨Reg.KST_CTL, 0, 1⟩
def Reg.KST_STAT : Nat := 0x90004
def F.KST_STAT_CBUSY : Fld := ⟨Reg.KST_STAT, 0, 1⟩
def F.KST_STAT_PAIRDIFF : Fld := ⟨Reg.KST_STAT, 1, 1⟩
def F.KST_STAT_FULL : Fld := ⟨Reg.KST_STAT, 2, 1⟩
def F.KST_STAT_KDOVF : Fld := ⟨Reg.KST_STAT, 3, 1⟩
def F.KST_STAT_DISC : Fld := ⟨Reg.KST_STAT, 4, 1⟩
def F.KST_STAT_MARKING : Fld := ⟨Reg.KST_STAT, 5, 1⟩
def Reg.KST_CMD : Nat := 0x90008
def F.KST_CMD_CREATE : Fld := ⟨Reg.KST_CMD, 0, 1⟩
def F.KST_CMD_VERIFY : Fld := ⟨Reg.KST_CMD, 1, 1⟩
def F.KST_CMD_COMMIT : Fld := ⟨Reg.KST_CMD, 2, 1⟩
def F.KST_CMD_DISCARD : Fld := ⟨Reg.KST_CMD, 3, 1⟩
def F.KST_CMD_INVALIDATE : Fld := ⟨Reg.KST_CMD, 4, 1⟩
def F.KST_CMD_DELETE : Fld := ⟨Reg.KST_CMD, 5, 1⟩
def F.KST_CMD_DERIVE : Fld := ⟨Reg.KST_CMD, 6, 1⟩
def Reg.KST_SEL : Nat := 0x9000c
def F.KST_SEL_SLOT : Fld := ⟨Reg.KST_SEL, 0, 8⟩
def Reg.KST_RES : Nat := 0x90010
def F.KST_RES_DONE : Fld := ⟨Reg.KST_RES, 0, 1⟩
def F.KST_RES_CODE : Fld := ⟨Reg.KST_RES, 4, 4⟩
def F.KST_RES_SLOT : Fld := ⟨Reg.KST_RES, 8, 8⟩
def F.KST_RES_CMD : Fld := ⟨Reg.KST_RES, 16, 3⟩
def Reg.KST_DEF : Nat := 0x90014
def F.KST_DEF_TYPE : Fld := ⟨Reg.KST_DEF, 0, 3⟩
def F.KST_DEF_USE : Fld := ⟨Reg.KST_DEF, 8, 6⟩
def F.KST_DEF_PARENT : Fld := ⟨Reg.KST_DEF, 24, 8⟩
def Reg.KST_KCVX : Nat := 0x90018
def F.KST_KCVX_KCV : Fld := ⟨Reg.KST_KCVX, 0, 24⟩
def Reg.KST_KDAT : Nat := 0x9001c
def F.KST_KDAT_DATA : Fld := ⟨Reg.KST_KDAT, 0, 32⟩
def Reg.KST_SSTAT : Nat := 0x90020
def F.KST_SSTAT_STATE : Fld := ⟨Reg.KST_SSTAT, 0, 3⟩
def F.KST_SSTAT_PEND : Fld := ⟨Reg.KST_SSTAT, 4, 2⟩
def F.KST_SSTAT_TYPE : Fld := ⟨Reg.KST_SSTAT, 8, 3⟩
def F.KST_SSTAT_DEPTH : Fld := ⟨Reg.KST_SSTAT, 12, 2⟩
def F.KST_SSTAT_USE : Fld := ⟨Reg.KST_SSTAT, 16, 6⟩
def F.KST_SSTAT_PARENT : Fld := ⟨Reg.KST_SSTAT, 24, 8⟩
def Reg.KST_SKCV : Nat := 0x90024
def F.KST_SKCV_KCV : Fld := ⟨Reg.KST_SKCV, 0, 24⟩
def Reg.KST_EPOCH : Nat := 0x90028
def F.KST_EPOCH_EPOCH : Fld := ⟨Reg.KST_EPOCH, 0, 32⟩
def Reg.KST_COUNT : Nat := 0x9002c
def F.KST_COUNT_USED : Fld := ⟨Reg.KST_COUNT, 0, 9⟩
def F.KST_COUNT_ORPH : Fld := ⟨Reg.KST_COUNT, 16, 9⟩
def Reg.KST_DOMAIN : Nat := 0x90030
def F.KST_DOMAIN_HOST : Fld := ⟨Reg.KST_DOMAIN, 0, 8⟩
def F.KST_DOMAIN_UPDATE : Fld := ⟨Reg.KST_DOMAIN, 8, 8⟩
def F.KST_DOMAIN_ATTEST : Fld := ⟨Reg.KST_DOMAIN, 16, 8⟩
def Reg.KST_ORPHUSE : Nat := 0x90034
def F.KST_ORPHUSE_COUNT : Fld := ⟨Reg.KST_ORPHUSE, 0, 16⟩
def F.KST_ORPHUSE_MIGR : Fld := ⟨Reg.KST_ORPHUSE, 16, 16⟩
def Reg.KST_MID_HI : Nat := 0x90038
def F.KST_MID_HI_ID : Fld := ⟨Reg.KST_MID_HI, 0, 32⟩
def Reg.KST_MID_LO : Nat := 0x9003c
def F.KST_MID_LO_ID : Fld := ⟨Reg.KST_MID_LO, 0, 32⟩
def Reg.KST_INFO (i : Nat) : Nat := 0x90040 + i * 4
def F.KST_INFO_INFO (i : Nat) : Fld := ⟨Reg.KST_INFO i, 0, 32⟩
def Reg.KST_SERIAL (i : Nat) : Nat := 0x90050 + i * 4
def F.KST_SERIAL_SN (i : Nat) : Fld := ⟨Reg.KST_SERIAL i, 0, 32⟩
def Reg.KST_APUB (i : Nat) : Nat := 0x90060 + i * 4
def F.KST_APUB_PUB (i : Nat) : Fld := ⟨Reg.KST_APUB i, 0, 32⟩
def Reg.KST_UHASH (i : Nat) : Nat := 0x90080 + i * 4
def F.KST_UHASH_HASH (i : Nat) : Fld := ⟨Reg.KST_UHASH i, 0, 32⟩
def Reg.KST_VER (i : Nat) : Nat := 0x900a0 + i * 4
def F.KST_VER_ID (i : Nat) : Fld := ⟨Reg.KST_VER i, 0, 32⟩
def Reg.KST_ATTSEL : Nat := 0x900b0
def F.KST_ATTSEL_IDX : Fld := ⟨Reg.KST_ATTSEL, 0, 2⟩
def Reg.KST_NONCE (i : Nat) : Nat := 0x900b4 + i * 4
def F.KST_NONCE_NONCE (i : Nat) : Fld := ⟨Reg.KST_NONCE i, 0, 32⟩

/-! ## 14_events_journal_long_ops.md -/

def Reg.EVQ_CTL : Nat := 0xa0000
def F.EVQ_CTL_MODE : Fld := ⟨Reg.EVQ_CTL, 0, 1⟩
def Reg.EVQ_STAT : Nat := 0xa0004
def F.EVQ_STAT_EMODE : Fld := ⟨Reg.EVQ_STAT, 0, 1⟩
def F.EVQ_STAT_EMPTY : Fld := ⟨Reg.EVQ_STAT, 1, 1⟩
def F.EVQ_STAT_FULL : Fld := ⟨Reg.EVQ_STAT, 2, 1⟩
def F.EVQ_STAT_OVERRUN : Fld := ⟨Reg.EVQ_STAT, 3, 1⟩
def F.EVQ_STAT_DBANK : Fld := ⟨Reg.EVQ_STAT, 4, 1⟩
def Reg.EVQ_CMD : Nat := 0xa0008
def F.EVQ_CMD_SWAP : Fld := ⟨Reg.EVQ_CMD, 0, 1⟩
def Reg.EVQ_WM : Nat := 0xa000c
def F.EVQ_WM_LEVEL : Fld := ⟨Reg.EVQ_WM, 0, 12⟩
def Reg.EVQ_WMSTAT : Nat := 0xa0010
def F.EVQ_WMSTAT_WMHIT : Fld := ⟨Reg.EVQ_WMSTAT, 0, 1⟩
def F.EVQ_WMSTAT_PEAK : Fld := ⟨Reg.EVQ_WMSTAT, 16, 12⟩
def Reg.EVQ_WMT_S_LO : Nat := 0xa0014
def F.EVQ_WMT_S_LO_T : Fld := ⟨Reg.EVQ_WMT_S_LO, 0, 32⟩
def Reg.EVQ_WMT_S_HI : Nat := 0xa0018
def F.EVQ_WMT_S_HI_T : Fld := ⟨Reg.EVQ_WMT_S_HI, 0, 16⟩
def Reg.EVQ_WMT_NS : Nat := 0xa001c
def F.EVQ_WMT_NS_T : Fld := ⟨Reg.EVQ_WMT_NS, 0, 30⟩
def Reg.EVQ_LEVEL : Nat := 0xa0020
def F.EVQ_LEVEL_FILL : Fld := ⟨Reg.EVQ_LEVEL, 0, 12⟩
def F.EVQ_LEVEL_DRAIN : Fld := ⟨Reg.EVQ_LEVEL, 16, 12⟩
def Reg.EVQ_LOST : Nat := 0xa0024
def F.EVQ_LOST_COUNT : Fld := ⟨Reg.EVQ_LOST, 0, 32⟩
def Reg.EVQ_SEQ : Nat := 0xa0028
def F.EVQ_SEQ_SEQ : Fld := ⟨Reg.EVQ_SEQ, 0, 32⟩
def Reg.EVQ_LSEQ : Nat := 0xa002c
def F.EVQ_LSEQ_SEQ : Fld := ⟨Reg.EVQ_LSEQ, 0, 31⟩
def Reg.EVQ_PSEL : Nat := 0xa0030
def F.EVQ_PSEL_CODE : Fld := ⟨Reg.EVQ_PSEL, 0, 12⟩
def Reg.EVQ_PMAP : Nat := 0xa0034
def F.EVQ_PMAP_PRIO : Fld := ⟨Reg.EVQ_PMAP, 0, 2⟩
def F.EVQ_PMAP_NOQ : Fld := ⟨Reg.EVQ_PMAP, 2, 1⟩
def Reg.EVQ_POP0 : Nat := 0xa0040
def F.EVQ_POP0_W0 : Fld := ⟨Reg.EVQ_POP0, 0, 32⟩
def Reg.EVQ_POP1 : Nat := 0xa0044
def F.EVQ_POP1_W : Fld := ⟨Reg.EVQ_POP1, 0, 32⟩
def Reg.EVQ_POP2 : Nat := 0xa0048
def F.EVQ_POP2_W : Fld := ⟨Reg.EVQ_POP2, 0, 32⟩
def Reg.EVQ_POP3 : Nat := 0xa004c
def F.EVQ_POP3_W : Fld := ⟨Reg.EVQ_POP3, 0, 32⟩
def Reg.EVQ_POP4 : Nat := 0xa0050
def F.EVQ_POP4_W : Fld := ⟨Reg.EVQ_POP4, 0, 32⟩
def Reg.EVQ_POP5 : Nat := 0xa0054
def F.EVQ_POP5_W : Fld := ⟨Reg.EVQ_POP5, 0, 32⟩
def Reg.EVQ_POP6 : Nat := 0xa0058
def F.EVQ_POP6_W : Fld := ⟨Reg.EVQ_POP6, 0, 32⟩
def Reg.EVQ_POP7 : Nat := 0xa005c
def F.EVQ_POP7_W : Fld := ⟨Reg.EVQ_POP7, 0, 32⟩
def Reg.JNL_STAT : Nat := 0xa1000
def F.JNL_STAT_MARKLOST : Fld := ⟨Reg.JNL_STAT, 0, 1⟩
def F.JNL_STAT_RDERR : Fld := ⟨Reg.JNL_STAT, 1, 1⟩
def F.JNL_STAT_BAD : Fld := ⟨Reg.JNL_STAT, 2, 1⟩
def F.JNL_STAT_RECLOST : Fld := ⟨Reg.JNL_STAT, 3, 1⟩
def F.JNL_STAT_WRAPPED : Fld := ⟨Reg.JNL_STAT, 4, 1⟩
def Reg.JNL_CMD : Nat := 0xa1004
def F.JNL_CMD_MARK : Fld := ⟨Reg.JNL_CMD, 0, 3⟩
def F.JNL_CMD_REWIND : Fld := ⟨Reg.JNL_CMD, 3, 1⟩
def F.JNL_CMD_OLDEST : Fld := ⟨Reg.JNL_CMD, 4, 1⟩
def Reg.JNL_WPTR : Nat := 0xa1008
def F.JNL_WPTR_NUM : Fld := ⟨Reg.JNL_WPTR, 0, 32⟩
def Reg.JNL_COUNT : Nat := 0xa100c
def F.JNL_COUNT_RECS : Fld := ⟨Reg.JNL_COUNT, 0, 19⟩
def Reg.JNL_CUR : Nat := 0xa1010
def F.JNL_CUR_NUM : Fld := ⟨Reg.JNL_CUR, 0, 32⟩
def Reg.JNL_WRAPS : Nat := 0xa1014
def F.JNL_WRAPS_COUNT : Fld := ⟨Reg.JNL_WRAPS, 0, 32⟩
def Reg.JNL_REPAIR : Nat := 0xa1018
def F.JNL_REPAIR_COUNT : Fld := ⟨Reg.JNL_REPAIR, 0, 16⟩
def Reg.JNL_MARK (i : Nat) : Nat := 0xa1020 + i * 4
def F.JNL_MARK_NUM (i : Nat) : Fld := ⟨Reg.JNL_MARK i, 0, 32⟩
def Reg.JNL_MSTAT : Nat := 0xa1040
def F.JNL_MSTAT_VALID : Fld := ⟨Reg.JNL_MSTAT, 0, 8⟩
def F.JNL_MSTAT_LOST : Fld := ⟨Reg.JNL_MSTAT, 8, 8⟩
def Reg.JNL_RD0 : Nat := 0xa1044
def F.JNL_RD0_W0 : Fld := ⟨Reg.JNL_RD0, 0, 32⟩
def Reg.JNL_RD1 : Nat := 0xa1048
def F.JNL_RD1_W : Fld := ⟨Reg.JNL_RD1, 0, 32⟩
def Reg.JNL_RD2 : Nat := 0xa104c
def F.JNL_RD2_W : Fld := ⟨Reg.JNL_RD2, 0, 32⟩
def Reg.JNL_RD3 : Nat := 0xa1050
def F.JNL_RD3_W : Fld := ⟨Reg.JNL_RD3, 0, 32⟩
def Reg.JNL_RD4 : Nat := 0xa1054
def F.JNL_RD4_W : Fld := ⟨Reg.JNL_RD4, 0, 32⟩
def Reg.JNL_RD5 : Nat := 0xa1058
def F.JNL_RD5_W : Fld := ⟨Reg.JNL_RD5, 0, 32⟩
def Reg.JNL_RD6 : Nat := 0xa105c
def F.JNL_RD6_W : Fld := ⟨Reg.JNL_RD6, 0, 32⟩
def Reg.JNL_RD7 : Nat := 0xa1060
def F.JNL_RD7_W : Fld := ⟨Reg.JNL_RD7, 0, 32⟩
def Reg.JNL_QCODE : Nat := 0xa1064
def F.JNL_QCODE_LO : Fld := ⟨Reg.JNL_QCODE, 0, 12⟩
def F.JNL_QCODE_HI : Fld := ⟨Reg.JNL_QCODE, 16, 12⟩
def Reg.JNL_QSRC : Nat := 0xa1068
def F.JNL_QSRC_VAL : Fld := ⟨Reg.JNL_QSRC, 0, 16⟩
def F.JNL_QSRC_MASK : Fld := ⟨Reg.JNL_QSRC, 16, 16⟩
def Reg.JNL_QFROM_S_LO : Nat := 0xa106c
def F.JNL_QFROM_S_LO_T : Fld := ⟨Reg.JNL_QFROM_S_LO, 0, 32⟩
def Reg.JNL_QFROM_S_HI : Nat := 0xa1070
def F.JNL_QFROM_S_HI_T : Fld := ⟨Reg.JNL_QFROM_S_HI, 0, 16⟩
def Reg.JNL_QFROM_NS : Nat := 0xa1074
def F.JNL_QFROM_NS_T : Fld := ⟨Reg.JNL_QFROM_NS, 0, 30⟩
def Reg.JNL_QTO_S_LO : Nat := 0xa1078
def F.JNL_QTO_S_LO_T : Fld := ⟨Reg.JNL_QTO_S_LO, 0, 32⟩
def Reg.JNL_QTO_S_HI : Nat := 0xa107c
def F.JNL_QTO_S_HI_T : Fld := ⟨Reg.JNL_QTO_S_HI, 0, 16⟩
def Reg.LOP_CMD (i : Nat) : Nat := 0x80 + i * 4
def F.LOP_CMD_CODE (i : Nat) : Fld := ⟨Reg.LOP_CMD i, 0, 8⟩
def Reg.LOP_STAT (i : Nat) : Nat := 0xa0 + i * 4
def F.LOP_STAT_STATE (i : Nat) : Fld := ⟨Reg.LOP_STAT i, 0, 3⟩
def F.LOP_STAT_PCT (i : Nat) : Fld := ⟨Reg.LOP_STAT i, 8, 7⟩
def F.LOP_STAT_ERR (i : Nat) : Fld := ⟨Reg.LOP_STAT i, 16, 8⟩
def F.LOP_STAT_CODE (i : Nat) : Fld := ⟨Reg.LOP_STAT i, 24, 8⟩
def Reg.LOP_PART (i : Nat) : Nat := 0xc0 + i * 4
def F.LOP_PART_COUNT (i : Nat) : Fld := ⟨Reg.LOP_PART i, 0, 24⟩
def Reg.LOP_RACK (i : Nat) : Nat := 0xe0 + i * 4
def F.LOP_RACK_WORDS (i : Nat) : Fld := ⟨Reg.LOP_RACK i, 0, 24⟩

/-! ## 15_redundant_pair.md -/

def Reg.XLK_CTL : Nat := 0xb0000
def F.XLK_CTL_JOINEN : Fld := ⟨Reg.XLK_CTL, 0, 1⟩
def Reg.XLK_AUTH : Nat := 0xb0004
def F.XLK_AUTH_PERMIT : Fld := ⟨Reg.XLK_AUTH, 0, 1⟩
def F.XLK_AUTH_HOLD : Fld := ⟨Reg.XLK_AUTH, 8, 1⟩
def Reg.XLK_STAT : Nat := 0xb0008
def F.XLK_STAT_PRESENT : Fld := ⟨Reg.XLK_STAT, 0, 1⟩
def F.XLK_STAT_LINKUP : Fld := ⟨Reg.XLK_STAT, 1, 1⟩
def F.XLK_STAT_HBLINE : Fld := ⟨Reg.XLK_STAT, 2, 1⟩
def F.XLK_STAT_READY : Fld := ⟨Reg.XLK_STAT, 3, 1⟩
def F.XLK_STAT_FENCEOUT : Fld := ⟨Reg.XLK_STAT, 4, 1⟩
def F.XLK_STAT_FENCEIN : Fld := ⟨Reg.XLK_STAT, 5, 1⟩
def F.XLK_STAT_DEGRADED : Fld := ⟨Reg.XLK_STAT, 6, 1⟩
def F.XLK_STAT_DIVERGE : Fld := ⟨Reg.XLK_STAT, 7, 1⟩
def F.XLK_STAT_COPYLOST : Fld := ⟨Reg.XLK_STAT, 8, 1⟩
def F.XLK_STAT_FWDIFF : Fld := ⟨Reg.XLK_STAT, 9, 1⟩
def F.XLK_STAT_JOINFAIL : Fld := ⟨Reg.XLK_STAT, 10, 1⟩
def F.XLK_STAT_TAKEOVER : Fld := ⟨Reg.XLK_STAT, 11, 1⟩
def F.XLK_STAT_SWAPDONE : Fld := ⟨Reg.XLK_STAT, 12, 1⟩
def Reg.XLK_CMD : Nat := 0xb000c
def F.XLK_CMD_SWAP : Fld := ⟨Reg.XLK_CMD, 0, 1⟩
def F.XLK_CMD_RESYNC : Fld := ⟨Reg.XLK_CMD, 1, 1⟩
def F.XLK_CMD_FWCOMMIT : Fld := ⟨Reg.XLK_CMD, 2, 1⟩
def Reg.XLK_COPYSZ : Nat := 0xb0010
def F.XLK_COPYSZ_BYTES : Fld := ⟨Reg.XLK_COPYSZ, 0, 17⟩
def Reg.XLK_COPYT : Nat := 0xb0014
def F.XLK_COPYT_NS : Fld := ⟨Reg.XLK_COPYT, 0, 18⟩
def Reg.XLK_CNT0 : Nat := 0xb0018
def F.XLK_CNT0_COPYLOST : Fld := ⟨Reg.XLK_CNT0, 0, 16⟩
def F.XLK_CNT0_DIVERGE : Fld := ⟨Reg.XLK_CNT0, 16, 16⟩
def Reg.XLK_CNT1 : Nat := 0xb001c
def F.XLK_CNT1_DEGRADED : Fld := ⟨Reg.XLK_CNT1, 0, 16⟩
def F.XLK_CNT1_TAKEOVERS : Fld := ⟨Reg.XLK_CNT1, 16, 16⟩
def Reg.XLK_CNT2 : Nat := 0xb0020
def F.XLK_CNT2_LANEERR : Fld := ⟨Reg.XLK_CNT2, 0, 16⟩
def F.XLK_CNT2_RFMISS : Fld := ⟨Reg.XLK_CNT2, 16, 16⟩
def Reg.XLK_LDLY : Nat := 0xb0024
def F.XLK_LDLY_NS : Fld := ⟨Reg.XLK_LDLY, 0, 16⟩
def Reg.XLK_FMT : Nat := 0xb0028
def F.XLK_FMT_OWN : Fld := ⟨Reg.XLK_FMT, 0, 16⟩
def F.XLK_FMT_PART : Fld := ⟨Reg.XLK_FMT, 16, 16⟩
def Reg.XLK_PID_HI : Nat := 0xb002c
def F.XLK_PID_HI_ID : Fld := ⟨Reg.XLK_PID_HI, 0, 32⟩
def Reg.XLK_PID_LO : Nat := 0xb0030
def F.XLK_PID_LO_ID : Fld := ⟨Reg.XLK_PID_LO, 0, 32⟩
def Reg.XLK_HB : Nat := 0xb0034
def F.XLK_HB_MISSX : Fld := ⟨Reg.XLK_HB, 0, 2⟩
def F.XLK_HB_MISSL : Fld := ⟨Reg.XLK_HB, 8, 2⟩
def Reg.XLK_TKAT_S_LO : Nat := 0xb0038
def F.XLK_TKAT_S_LO_T : Fld := ⟨Reg.XLK_TKAT_S_LO, 0, 32⟩
def Reg.XLK_TKAT_S_HI : Nat := 0xb003c
def F.XLK_TKAT_S_HI_T : Fld := ⟨Reg.XLK_TKAT_S_HI, 0, 16⟩
def Reg.XLK_TKAT_NS : Nat := 0xb0040
def F.XLK_TKAT_NS_T : Fld := ⟨Reg.XLK_TKAT_NS, 0, 30⟩
def Reg.XLK_FWPTR : Nat := 0xb0044
def F.XLK_FWPTR_PTR : Fld := ⟨Reg.XLK_FWPTR, 0, 23⟩
def Reg.XLK_FWDAT : Nat := 0xb0048
def F.XLK_FWDAT_DATA : Fld := ⟨Reg.XLK_FWDAT, 0, 32⟩
def Reg.XLK_FWSTAT : Nat := 0xb004c
def F.XLK_FWSTAT_STATE : Fld := ⟨Reg.XLK_FWSTAT, 0, 2⟩
def F.XLK_FWSTAT_ERR : Fld := ⟨Reg.XLK_FWSTAT, 8, 8⟩
def Reg.XLK_REFRESH : Nat := 0xb0050
def F.XLK_REFRESH_SEG : Fld := ⟨Reg.XLK_REFRESH, 0, 8⟩
def Reg.GLB_ROLE : Nat := 0x10
def F.GLB_ROLE_PMODE : Fld := ⟨Reg.GLB_ROLE, 0, 2⟩
def F.GLB_ROLE_ROLE : Fld := ⟨Reg.GLB_ROLE, 4, 2⟩
def F.GLB_ROLE_HALF : Fld := ⟨Reg.GLB_ROLE, 6, 1⟩
def F.GLB_ROLE_SLOT : Fld := ⟨Reg.GLB_ROLE, 8, 8⟩

/-! ## 16_host_access.md -/

def Reg.HAP_CTL : Nat := 0x1000
def F.HAP_CTL_POSTED : Fld := ⟨Reg.HAP_CTL, 0, 1⟩
def F.HAP_CTL_IPV4EN : Fld := ⟨Reg.HAP_CTL, 1, 1⟩
def F.HAP_CTL_IPV6EN : Fld := ⟨Reg.HAP_CTL, 2, 1⟩
def F.HAP_CTL_VLANEN : Fld := ⟨Reg.HAP_CTL, 3, 1⟩
def F.HAP_CTL_VID : Fld := ⟨Reg.HAP_CTL, 4, 12⟩
def F.HAP_CTL_PCP : Fld := ⟨Reg.HAP_CTL, 16, 3⟩
def F.HAP_CTL_CHAIN : Fld := ⟨Reg.HAP_CTL, 19, 1⟩
def Reg.HAP_STAT : Nat := 0x1004
def F.HAP_STAT_LINK1 : Fld := ⟨Reg.HAP_STAT, 0, 1⟩
def F.HAP_STAT_LINK2 : Fld := ⟨Reg.HAP_STAT, 1, 1⟩
def F.HAP_STAT_GBE1 : Fld := ⟨Reg.HAP_STAT, 2, 1⟩
def F.HAP_STAT_GBE2 : Fld := ⟨Reg.HAP_STAT, 3, 1⟩
def F.HAP_STAT_AUTHF : Fld := ⟨Reg.HAP_STAT, 4, 1⟩
def F.HAP_STAT_STALE : Fld := ⟨Reg.HAP_STAT, 5, 1⟩
def F.HAP_STAT_FULL : Fld := ⟨Reg.HAP_STAT, 6, 1⟩
def F.HAP_STAT_QDROP : Fld := ⟨Reg.HAP_STAT, 7, 1⟩
def F.HAP_STAT_NETREF : Fld := ⟨Reg.HAP_STAT, 8, 1⟩
def F.HAP_STAT_NETPEND : Fld := ⟨Reg.HAP_STAT, 9, 1⟩
def Reg.HAP_WBUSY : Nat := 0x1008
def F.HAP_WBUSY_BUSY : Fld := ⟨Reg.HAP_WBUSY, 0, 20⟩
def Reg.HAP_CMD : Nat := 0x100c
def F.HAP_CMD_NETCOMMIT : Fld := ⟨Reg.HAP_CMD, 0, 1⟩
def F.HAP_CMD_CLOSE : Fld := ⟨Reg.HAP_CMD, 1, 1⟩
def F.HAP_CMD_CLOSEALL : Fld := ⟨Reg.HAP_CMD, 2, 1⟩
def Reg.HAP_PORT : Nat := 0x1010
def F.HAP_PORT_PORT : Fld := ⟨Reg.HAP_PORT, 0, 16⟩
def Reg.HAP_IP4 : Nat := 0x1014
def F.HAP_IP4_ADDR : Fld := ⟨Reg.HAP_IP4, 0, 32⟩
def Reg.HAP_IP4NET : Nat := 0x1018
def F.HAP_IP4NET_PREFIX : Fld := ⟨Reg.HAP_IP4NET, 0, 6⟩
def Reg.HAP_IP4GW : Nat := 0x101c
def F.HAP_IP4GW_ADDR : Fld := ⟨Reg.HAP_IP4GW, 0, 32⟩
def Reg.HAP_IP6 (i : Nat) : Nat := 0x1020 + i * 4
def F.HAP_IP6_ADDR (i : Nat) : Fld := ⟨Reg.HAP_IP6 i, 0, 32⟩
def Reg.HAP_IP6NET : Nat := 0x1030
def F.HAP_IP6NET_PREFIX : Fld := ⟨Reg.HAP_IP6NET, 0, 8⟩
def Reg.HAP_IP6GW (i : Nat) : Nat := 0x1034 + i * 4
def F.HAP_IP6GW_ADDR (i : Nat) : Fld := ⟨Reg.HAP_IP6GW i, 0, 32⟩
def Reg.HAP_MAC_HI : Nat := 0x1044
def F.HAP_MAC_HI_MAC : Fld := ⟨Reg.HAP_MAC_HI, 0, 16⟩
def Reg.HAP_MAC_LO : Nat := 0x1048
def F.HAP_MAC_LO_MAC : Fld := ⟨Reg.HAP_MAC_LO, 0, 32⟩
def Reg.HAP_SESSTO : Nat := 0x104c
def F.HAP_SESSTO_SEC : Fld := ⟨Reg.HAP_SESSTO, 0, 16⟩
def Reg.HAP_SCNT : Nat := 0x1050
def F.HAP_SCNT_OPEN : Fld := ⟨Reg.HAP_SCNT, 0, 4⟩
def F.HAP_SCNT_PEND : Fld := ⟨Reg.HAP_SCNT, 8, 4⟩
def Reg.HAP_ERR0 : Nat := 0x1054
def F.HAP_ERR0_AUTH : Fld := ⟨Reg.HAP_ERR0, 0, 16⟩
def F.HAP_ERR0_STALE : Fld := ⟨Reg.HAP_ERR0, 16, 16⟩
def Reg.HAP_ERR1 : Nat := 0x1058
def F.HAP_ERR1_REJECT : Fld := ⟨Reg.HAP_ERR1, 0, 16⟩
def F.HAP_ERR1_QDROP : Fld := ⟨Reg.HAP_ERR1, 16, 16⟩
def Reg.HAP_DGRAMS : Nat := 0x105c
def F.HAP_DGRAMS_COUNT : Fld := ⟨Reg.HAP_DGRAMS, 0, 32⟩
def Reg.HAP_REPEATS : Nat := 0x1060
def F.HAP_REPEATS_COUNT : Fld := ⟨Reg.HAP_REPEATS, 0, 16⟩
def Reg.HAP_EXMAX : Nat := 0x1064
def F.HAP_EXMAX_US : Fld := ⟨Reg.HAP_EXMAX, 0, 16⟩
def Reg.HAP_SSEL : Nat := 0x1068
def F.HAP_SSEL_INDEX : Fld := ⟨Reg.HAP_SSEL, 0, 3⟩
def Reg.HAP_SID : Nat := 0x106c
def F.HAP_SID_ID : Fld := ⟨Reg.HAP_SID, 0, 32⟩
def Reg.HAP_SXID : Nat := 0x1070
def F.HAP_SXID_XID : Fld := ⟨Reg.HAP_SXID, 0, 32⟩
def Reg.HAP_SPEER : Nat := 0x1074
def F.HAP_SPEER_PORT : Fld := ⟨Reg.HAP_SPEER, 0, 16⟩
def F.HAP_SPEER_V6 : Fld := ⟨Reg.HAP_SPEER, 16, 1⟩
def Reg.HAP_SLAST_S_LO : Nat := 0x1078
def F.HAP_SLAST_S_LO_T : Fld := ⟨Reg.HAP_SLAST_S_LO, 0, 32⟩
def Reg.HAP_SLAST_S_HI : Nat := 0x107c
def F.HAP_SLAST_S_HI_T : Fld := ⟨Reg.HAP_SLAST_S_HI, 0, 16⟩
def Reg.HAP_SLAST_NS : Nat := 0x1080
def F.HAP_SLAST_NS_T : Fld := ⟨Reg.HAP_SLAST_NS, 0, 30⟩
def Reg.HAP_SADDR (i : Nat) : Nat := 0x1084 + i * 4
def F.HAP_SADDR_ADDR (i : Nat) : Fld := ⟨Reg.HAP_SADDR i, 0, 32⟩
def Reg.HAP_PCNT : Nat := 0x1094
def F.HAP_PCNT_RXERR1 : Fld := ⟨Reg.HAP_PCNT, 0, 16⟩
def F.HAP_PCNT_RXERR2 : Fld := ⟨Reg.HAP_PCNT, 16, 16⟩

/-! ## 17_power_hold_restart.md -/

def Reg.GLB_ID : Nat := 0x0
def F.GLB_ID_VARIANT : Fld := ⟨Reg.GLB_ID, 0, 4⟩
def Reg.GLB_STATE : Nat := 0x4
def F.GLB_STATE_STATE : Fld := ⟨Reg.GLB_STATE, 0, 1⟩
def F.GLB_STATE_QPEND : Fld := ⟨Reg.GLB_STATE, 1, 1⟩
def Reg.GLB_CMD : Nat := 0x8
def F.GLB_CMD_QUIET : Fld := ⟨Reg.GLB_CMD, 0, 1⟩
def F.GLB_CMD_WAKE : Fld := ⟨Reg.GLB_CMD, 1, 1⟩
def F.GLB_CMD_PERSIST : Fld := ⟨Reg.GLB_CMD, 2, 1⟩
def F.GLB_CMD_PCLR : Fld := ⟨Reg.GLB_CMD, 3, 1⟩
def F.GLB_CMD_RESTART : Fld := ⟨Reg.GLB_CMD, 4, 1⟩
def F.GLB_CMD_CONFIRM : Fld := ⟨Reg.GLB_CMD, 16, 16⟩
def Reg.GLB_RSTCTL : Nat := 0xc
def F.GLB_RSTCTL_RETAIN : Fld := ⟨Reg.GLB_RSTCTL, 0, 17⟩
def F.GLB_RSTCTL_WDTEN : Fld := ⟨Reg.GLB_RSTCTL, 24, 1⟩
def Reg.GLB_RSTAT : Nat := 0x14
def F.GLB_RSTAT_KIND : Fld := ⟨Reg.GLB_RSTAT, 0, 3⟩
def F.GLB_RSTAT_SAVEKIND : Fld := ⟨Reg.GLB_RSTAT, 3, 2⟩
def F.GLB_RSTAT_JOINED : Fld := ⟨Reg.GLB_RSTAT, 5, 1⟩
def F.GLB_RSTAT_COUNT : Fld := ⟨Reg.GLB_RSTAT, 16, 16⟩
def Reg.GLB_VSCRUB : Nat := 0x18
def F.GLB_VSCRUB_COUNT : Fld := ⟨Reg.GLB_VSCRUB, 0, 16⟩
def Reg.GLB_WDT : Nat := 0x1c
def F.GLB_WDT_MS : Fld := ⟨Reg.GLB_WDT, 0, 14⟩
def Reg.GLB_RST_S_LO : Nat := 0x20
def F.GLB_RST_S_LO_T : Fld := ⟨Reg.GLB_RST_S_LO, 0, 32⟩
def Reg.GLB_RST_S_HI : Nat := 0x24
def F.GLB_RST_S_HI_T : Fld := ⟨Reg.GLB_RST_S_HI, 0, 16⟩
def Reg.GLB_RST_NS : Nat := 0x28
def F.GLB_RST_NS_T : Fld := ⟨Reg.GLB_RST_NS, 0, 30⟩
def Reg.GLB_OUTAGE : Nat := 0x2c
def F.GLB_OUTAGE_MS : Fld := ⟨Reg.GLB_OUTAGE, 0, 32⟩
def Reg.GLB_PSTAT : Nat := 0x30
def F.GLB_PSTAT_PBUSY : Fld := ⟨Reg.GLB_PSTAT, 0, 1⟩
def F.GLB_PSTAT_PVALID : Fld := ⟨Reg.GLB_PSTAT, 1, 1⟩
def F.GLB_PSTAT_PFAIL : Fld := ⟨Reg.GLB_PSTAT, 2, 1⟩
def Reg.PHU_CTL : Nat := 0xc0000
def F.PHU_CTL_HTAUTO : Fld := ⟨Reg.PHU_CTL, 0, 1⟩
def Reg.PHU_STAT : Nat := 0xc0004
def F.PHU_STAT_WARN : Fld := ⟨Reg.PHU_STAT, 0, 1⟩
def F.PHU_STAT_FEEDA : Fld := ⟨Reg.PHU_STAT, 1, 1⟩
def F.PHU_STAT_FEEDB : Fld := ⟨Reg.PHU_STAT, 2, 1⟩
def F.PHU_STAT_LIMITED : Fld := ⟨Reg.PHU_STAT, 3, 1⟩
def F.PHU_STAT_PSBUSY : Fld := ⟨Reg.PHU_STAT, 4, 1⟩
def F.PHU_STAT_BANK : Fld := ⟨Reg.PHU_STAT, 5, 1⟩
def F.PHU_STAT_THREF : Fld := ⟨Reg.PHU_STAT, 6, 1⟩
def F.PHU_STAT_SAVEFAIL : Fld := ⟨Reg.PHU_STAT, 7, 1⟩
def Reg.PHU_WARN : Nat := 0xc0008
def F.PHU_WARN_V : Fld := ⟨Reg.PHU_WARN, 0, 13⟩
def Reg.PHU_SAVE : Nat := 0xc000c
def F.PHU_SAVE_V : Fld := ⟨Reg.PHU_SAVE, 0, 13⟩
def Reg.PHU_RESUME : Nat := 0xc0010
def F.PHU_RESUME_V : Fld := ⟨Reg.PHU_RESUME, 0, 13⟩
def Reg.PHU_PSAVE : Nat := 0xc0014
def F.PHU_PSAVE_SEC : Fld := ⟨Reg.PHU_PSAVE, 0, 10⟩
def Reg.PHU_VIN : Nat := 0xc0018
def F.PHU_VIN_RAIL : Fld := ⟨Reg.PHU_VIN, 0, 13⟩
def F.PHU_VIN_CAPV : Fld := ⟨Reg.PHU_VIN, 16, 13⟩
def Reg.PHU_FEED : Nat := 0xc001c
def F.PHU_FEED_A : Fld := ⟨Reg.PHU_FEED, 0, 13⟩
def F.PHU_FEED_B : Fld := ⟨Reg.PHU_FEED, 16, 13⟩
def Reg.PHU_PWR : Nat := 0xc0020
def F.PHU_PWR_MW : Fld := ⟨Reg.PHU_PWR, 0, 16⟩
def Reg.PHU_CAP : Nat := 0xc0024
def F.PHU_CAP_UF : Fld := ⟨Reg.PHU_CAP, 0, 16⟩
def Reg.PHU_CAPWARN : Nat := 0xc0028
def F.PHU_CAPWARN_UF : Fld := ⟨Reg.PHU_CAPWARN, 0, 16⟩
def Reg.PHU_CAPAT_S_LO : Nat := 0xc002c
def F.PHU_CAPAT_S_LO_T : Fld := ⟨Reg.PHU_CAPAT_S_LO, 0, 32⟩
def Reg.PHU_CAPAT_S_HI : Nat := 0xc0030
def F.PHU_CAPAT_S_HI_T : Fld := ⟨Reg.PHU_CAPAT_S_HI, 0, 16⟩
def Reg.PHU_CAPAT_NS : Nat := 0xc0034
def F.PHU_CAPAT_NS_T : Fld := ⟨Reg.PHU_CAPAT_NS, 0, 30⟩
def Reg.PHU_SAVEINFO : Nat := 0xc0038
def F.PHU_SAVEINFO_US : Fld := ⟨Reg.PHU_SAVEINFO, 0, 12⟩
def F.PHU_SAVEINFO_STEPS : Fld := ⟨Reg.PHU_SAVEINFO, 16, 3⟩
def F.PHU_SAVEINFO_KIND : Fld := ⟨Reg.PHU_SAVEINFO, 24, 1⟩
def Reg.PHU_SAVESEQ : Nat := 0xc003c
def F.PHU_SAVESEQ_SEQ : Fld := ⟨Reg.PHU_SAVESEQ, 0, 32⟩
def Reg.PHU_LSAVE_S_LO : Nat := 0xc0040
def F.PHU_LSAVE_S_LO_T : Fld := ⟨Reg.PHU_LSAVE_S_LO, 0, 32⟩
def Reg.PHU_LSAVE_S_HI : Nat := 0xc0044
def F.PHU_LSAVE_S_HI_T : Fld := ⟨Reg.PHU_LSAVE_S_HI, 0, 16⟩
def Reg.PHU_LSAVE_NS : Nat := 0xc0048
def F.PHU_LSAVE_NS_T : Fld := ⟨Reg.PHU_LSAVE_NS, 0, 30⟩
def Reg.PHU_SAVECNT : Nat := 0xc004c
def F.PHU_SAVECNT_CRIT : Fld := ⟨Reg.PHU_SAVECNT, 0, 16⟩
def F.PHU_SAVECNT_PFAIL : Fld := ⟨Reg.PHU_SAVECNT, 16, 16⟩

def regRowsZon : List RegRow := [
  ⟨0x20000, 512, 32, 4, 4, 0x0, 0xffffffff, 0xffffffff, 0x0, 0x0, 0x0, 0x0, 0x0, 0⟩,
  ⟨0x20010, 512, 32, 1, 0, 0xffff0004, 0xffff000f, 0x1, 0x0, 0x0, 0x0, 0x0, 0x0, 0⟩,
  ⟨0x20014, 512, 32, 1, 0, 0xffffff, 0xffffff, 0x0, 0xffffff, 0x0, 0x0, 0x0, 0x0, 0⟩,
  ⟨0x20018, 512, 32, 1, 0, 0xffff, 0xffffff, 0x0, 0x0, 0x0, 0x0, 0x0, 0x0, 0⟩,
  ⟨0x2001c, 512, 32, 1, 0, 0x0, 0x0, 0x0, 0x0, 0x0, 0x0, 0x0, 0x0, 0⟩]
def regRowsPen : List RegRow := [
  ⟨0x10000, 1, 0, 1, 0, 0x1, 0x1, 0x0, 0x0, 0x0, 0x0, 0x0, 0x0, 0⟩,
  ⟨0x10004, 1, 0, 1, 0, 0x2710, 0xfffff, 0x0, 0x0, 0x0, 0x0, 0x0, 0x0, 0⟩,
  ⟨0x10008, 1, 0, 1, 0, 0x0, 0x0, 0x0, 0x0, 0x70, 0x0, 0x0, 0x0, 0⟩,
  ⟨0x1000c, 1, 0, 1, 0, 0x0, 0x0, 0x0, 0x0, 0x0, 0x3, 0x0, 0x0, 0⟩,
  ⟨0x10010, 1, 0, 1, 0, 0x0, 0xffffffff, 0x0, 0x0, 0x0, 0x0, 0x0, 0x0, 2⟩,
  ⟨0x10014, 1, 0, 1, 0, 0x0, 0xffff, 0x0, 0x0, 0x0, 0x0, 0x0, 0x0, 0⟩,
  ⟨0x10018, 1, 0, 1, 0, 0x0, 0x3fffffff, 0x0, 0x0, 0x0, 0x0, 0x0, 0x0, 0⟩,
  ⟨0x10020, 1, 0, 1, 0, 0x0, 0xfffff, 0x0, 0x0, 0x0, 0x0, 0x0, 0x0, 0⟩,
  ⟨0x10024, 1, 0, 1, 0, 0x0, 0x0, 0x0, 0x0, 0x0, 0x0, 0xffffffff, 0x0, 0⟩,
  ⟨0x10028, 1, 0, 1, 0, 0x0, 0x0, 0x0, 0x0, 0x0, 0x0, 0xffffffff, 0x0, 0⟩,
  ⟨0x1002c, 1, 0, 1, 0, 0x0, 0x0, 0x0, 0x0, 0x0, 0x0, 0x0, 0x0, 0⟩,
  ⟨0x10030, 1, 0, 1, 0, 0x0, 0xffff, 0x0, 0x0, 0x0, 0x0, 0x0, 0x0, 0⟩,
  ⟨0x10034, 1, 0, 1, 0, 0x0, 0x0, 0x0, 0x0, 0x0, 0x0, 0x0, 0x0, 0⟩,
  ⟨0x10038, 1, 0, 1, 0, 0x0, 0x0, 0x0, 0x0, 0x0, 0x0, 0x0, 0x0, 0⟩,
  ⟨0x10040, 8, 4, 1, 0, 0x0, 0x0, 0x0, 0x0, 0x0, 0x0, 0x0, 0x0, 0⟩,
  ⟨0x10060, 8, 4, 1, 0, 0x0, 0x0, 0x0, 0x0, 0x0, 0x0, 0x0, 0x0, 0⟩]
def regRowsBob : List RegRow := [
  ⟨0x11000, 32, 64, 1, 0, 0x0, 0xffff0003, 0x0, 0x0, 0x0, 0x300, 0x0, 0x0, 0⟩,
  ⟨0x11004, 32, 64, 1, 0, 0x0, 0x0, 0x0, 0x0, 0x0, 0x0, 0x0, 0x0, 0⟩,
  ⟨0x11008, 32, 64, 1, 0, 0x0, 0x0, 0x0, 0x0, 0x0, 0x0, 0x0, 0x0, 0⟩,
  ⟨0x1100c, 32, 64, 1, 0, 0x1, 0xffffff, 0x0, 0x0, 0x0, 0x0, 0x0, 0x0, 0⟩,
  ⟨0x11010, 32, 64, 1, 0, 0x0, 0x0, 0x0, 0x0, 0x0, 0x0, 0x0, 0x0, 0⟩,
  ⟨0x11014, 32, 64, 1, 0, 0x0, 0xffffffff, 0x0, 0x0, 0x0, 0x0, 0x0, 0x0, 0⟩,
  ⟨0x11018, 32, 64, 1, 0, 0x2000000, 0x3ff03ff, 0x0, 0x0, 0x0, 0x0, 0x0, 0x0, 0⟩,
  ⟨0x1101c, 32, 64, 1, 0, 0x0, 0x0, 0x0, 0x0, 0x0, 0x0, 0x0, 0x0, 0⟩,
  ⟨0x11020, 32, 64, 1, 0, 0x0, 0x0, 0x0, 0x0, 0x0, 0x0, 0x0, 0x0, 0⟩,
  ⟨0x11024, 32, 64, 1, 0, 0x0, 0x0, 0x0, 0x0, 0x0, 0x0, 0x0, 0x0, 2⟩,
  ⟨0x11028, 32, 64, 1, 0, 0x0, 0x0, 0x0, 0x0, 0x0, 0x0, 0x0, 0x0, 0⟩,
  ⟨0x1102c, 32, 64, 1, 0, 0x0, 0x0, 0x0, 0x0, 0x0, 0x0, 0x0, 0x0, 0⟩,
  ⟨0x11030, 32, 64, 1, 0, 0x0, 0x3f, 0x0, 0x0, 0x0, 0x0, 0x0, 0x0, 0⟩,
  ⟨0x11034, 32, 64, 1, 0, 0x0, 0x0, 0x0, 0x0, 0x0, 0x0, 0x0, 0x0, 0⟩]
def regRowsSme : List RegRow := [
  ⟨0x30000, 1, 0, 1, 0, 0x43, 0x1f3, 0x0, 0x0, 0x0, 0x0, 0x0, 0x0, 0⟩,
  ⟨0x30004, 1, 0, 1, 0, 0xff, 0x0, 0x0, 0x0, 0xc00, 0x0, 0x0, 0x0, 0⟩,
  ⟨0x30008, 1, 0, 1, 0, 0xffffff, 0xffffff, 0x0, 0xffffff, 0x0, 0x0, 0x0, 0x0, 0⟩,
  ⟨0x3000c, 1, 0, 1, 0, 0xb333, 0x1ffff, 0x0, 0x0, 0x0, 0x0, 0x0, 0x0, 0⟩,
  ⟨0x30010, 1, 0, 1, 0, 0xa, 0xfff, 0x0, 0x0, 0x0, 0x0, 0x0, 0x0, 0⟩,
  ⟨0x30014, 1, 0, 1, 0, 0x0, 0x0, 0x0, 0x0, 0x0, 0x1, 0x0, 0x0, 0⟩,
  ⟨0x30020, 1, 0, 1, 0, 0x0, 0x0, 0x0, 0x0, 0x0, 0x0, 0x0, 0x0, 0⟩,
  ⟨0x30024, 1, 0, 1, 0, 0x0, 0x0, 0x0, 0x0, 0x0, 0x0, 0x0, 0x0, 0⟩,
  ⟨0x30028, 1, 0, 1, 0, 0x10000, 0x0, 0x0, 0x0, 0x0, 0x0, 0x0, 0x0, 0⟩,
  ⟨0x3002c, 1, 0, 1, 0, 0x0, 0x0, 0x0, 0x0, 0x0, 0x0, 0x0, 0x0, 0⟩,
  ⟨0x30030, 1, 0, 1, 0, 0x0, 0xffffffff, 0x0, 0x0, 0x0, 0x0, 0x0, 0x0, 0⟩,
  ⟨0x30034, 1, 0, 1, 0, 0x0, 0xffff, 0x0, 0x0, 0x0, 0x0, 0x0, 0x0, 0⟩,
  ⟨0x30038, 1, 0, 1, 0, 0x0, 0xffff, 0x0, 0x0, 0x0, 0x0, 0x0, 0x0, 0⟩,
  ⟨0x3003c, 1, 0, 1, 0, 0x0, 0xffff, 0x0, 0x0, 0x0, 0x0, 0x0, 0x0, 0⟩,
  ⟨0x3006c, 1, 0, 1, 0, 0x0, 0x0, 0x0, 0x0, 0x0, 0x0, 0x0, 0x0, 0⟩,
  ⟨0x30070, 1, 0, 1, 0, 0x0, 0x0, 0x0, 0x0, 0x0, 0x0, 0x0, 0x0, 0⟩,
  ⟨0x30040, 1, 0, 1, 0, 0x10000, 0x7f0fff, 0x0, 0x0, 0x0, 0x0, 0x0, 0x0, 0⟩,
  ⟨0x30044, 1, 0, 1, 0, 0x0, 0xffff, 0x0, 0x0, 0x0, 0x0, 0x0, 0x0, 0⟩,
  ⟨0x30048, 1, 0, 1, 0, 0x0, 0x0, 0x0, 0x0, 0x0, 0x0, 0xffffffff, 0x0, 0⟩,
  ⟨0x30080, 8, 4, 1, 0, 0x0, 0x0, 0x0, 0x0, 0x0, 0x0, 0x0, 0x0, 0⟩,
  ⟨0x30050, 1, 0, 1, 0, 0x0, 0x7fff, 0x0, 0x0, 0x0, 0x0, 0x0, 0x0, 0⟩,
  ⟨0x30054, 1, 0, 1, 0, 0x10000, 0x0, 0x0, 0x0, 0x0, 0x0, 0x0, 0x0, 0⟩,
  ⟨0x30058, 1, 0, 1, 0, 0xffff0190, 0x0, 0x0, 0x0, 0x0, 0x0, 0x0, 0x0, 0⟩,
  ⟨0x3005c, 1, 0, 1, 0, 0x0, 0x0, 0x0, 0x0, 0x0, 0x0, 0x0, 0x0, 0⟩,
  ⟨0x30060, 1, 0, 1, 0, 0x0, 0x1ff, 0x0, 0x0, 0x0, 0x0, 0x0, 0x0, 0⟩,
  ⟨0x30064, 1, 0, 1, 0, 0x10000, 0x0, 0x0, 0x0, 0x0, 0x0, 0x0, 0x0, 0⟩,
  ⟨0x30068, 1, 0, 1, 0, 0x0, 0x0, 0x0, 0x0, 0x0, 0x0, 0x0, 0x0, 0⟩]
def regRowsSea : List RegRow := [
  ⟨0x40000, 1, 0, 1, 0, 0x7d0, 0x1ffff, 0x0, 0x0, 0x0, 0x0, 0x0, 0x0, 0⟩,
  ⟨0x40004, 1, 0, 1, 0, 0x7d0, 0x7ffff, 0x0, 0x0, 0x0, 0x0, 0x0, 0x0, 0⟩,
  ⟨0x40008, 1, 0, 1, 0, 0xf5050, 0x0, 0x0, 0x0, 0x0, 0x0, 0x0, 0x0, 0⟩,
  ⟨0x4000c, 1, 0, 1, 0, 0x3c, 0xfff, 0x0, 0x0, 0x0, 0x0, 0x0, 0x0, 0⟩,
  ⟨0x40010, 1, 0, 1, 0, 0xa, 0xffff, 0x0, 0x0, 0x0, 0x0, 0x0, 0x0, 0⟩,
  ⟨0x40014, 1, 0, 1, 0, 0x1008, 0xffff, 0x0, 0x0, 0x0, 0x0, 0x0, 0x0, 0⟩,
  ⟨0x40018, 1, 0, 1, 0, 0x0, 0xff, 0x0, 0x0, 0x0, 0x0, 0x0, 0x0, 0⟩,
  ⟨0x4001c, 1, 0, 1, 0, 0x0, 0x0, 0x0, 0x0, 0x0, 0x0, 0x0, 0x0, 0⟩,
  ⟨0x40020, 1, 0, 1, 0, 0x0, 0x7ffff, 0x0, 0x0, 0x0, 0x0, 0x0, 0x0, 0⟩,
  ⟨0x40024, 1, 0, 1, 0, 0x0, 0x0, 0x0, 0x0, 0x0, 0x0, 0xffffffff, 0x0, 0⟩,
  ⟨0x40028, 1, 0, 1, 0, 0x0, 0xffffffff, 0x0, 0x0, 0x0, 0x0, 0x0, 0x0, 0⟩,
  ⟨0x4002c, 1, 0, 1, 0, 0x0, 0xffffffff, 0x0, 0x0, 0x0, 0x0, 0x0, 0x0, 2⟩,
  ⟨0x40030, 1, 0, 1, 0, 0x0, 0xffff, 0x0, 0x0, 0x0, 0x0, 0x0, 0x0, 0⟩,
  ⟨0x40034, 1, 0, 1, 0, 0x0, 0x3fffffff, 0x0, 0x0, 0x0, 0x0, 0x0, 0x0, 0⟩]
def regRowsSeam : List RegRow := [
  ⟨0x41000, 32, 256, 1, 0, 0x0, 0x7, 0x0, 0x3, 0x0, 0x0, 0x0, 0x0, 0⟩,
  ⟨0x41004, 32, 256, 1, 0, 0x0, 0x0, 0x0, 0x0, 0x9b0, 0x0, 0x0, 0x0, 0⟩,
  ⟨0x41008, 32, 256, 1, 0, 0x0, 0x0, 0x0, 0x0, 0x0, 0x3, 0x0, 0x0, 0⟩,
  ⟨0x4100c, 32, 256, 1, 0, 0x0, 0x0, 0x0, 0x0, 0x0, 0x0, 0x0, 0x0, 0⟩,
  ⟨0x41010, 32, 256, 1, 0, 0x0, 0x0, 0x0, 0x0, 0x0, 0x0, 0x0, 0x0, 0⟩,
  ⟨0x41014, 32, 256, 1, 0, 0x0, 0x0, 0x0, 0x0, 0x0, 0x0, 0x0, 0x0, 0⟩,
  ⟨0x41018, 32, 256, 1, 0, 0x0, 0x0, 0x0, 0x0, 0x0, 0x0, 0x0, 0x0, 0⟩,
  ⟨0x4101c, 32, 256, 1, 0, 0xf, 0x3ff, 0x0, 0x0, 0x0, 0x0, 0x0, 0x0, 0⟩,
  ⟨0x41020, 32, 256, 1, 0, 0x0, 0xffffffff, 0x0, 0x0, 0x0, 0x0, 0x0, 0x0, 0⟩,
  ⟨0x41024, 32, 256, 1, 0, 0x0, 0xffffffff, 0x0, 0x0, 0x0, 0x0, 0x0, 0x0, 0⟩,
  ⟨0x41028, 32, 256, 1, 0, 0xff, 0x7ff, 0x0, 0x0, 0x0, 0x0, 0x0, 0x0, 0⟩,
  ⟨0x4102c, 32, 256, 1, 0, 0x0, 0x0, 0x0, 0x0, 0x0, 0x1, 0x0, 0x0, 0⟩,
  ⟨0x41030, 32, 256, 4, 8, 0x0, 0xffff, 0x0, 0x0, 0x0, 0x0, 0x0, 0x0, 0⟩,
  ⟨0x41034, 32, 256, 4, 8, 0x0, 0xffffffff, 0x0, 0x0, 0x0, 0x0, 0x0, 0x0, 0⟩,
  ⟨0x41050, 32, 256, 1, 0, 0x0, 0x0, 0x0, 0x0, 0x0, 0x0, 0x0, 0x0, 0⟩,
  ⟨0x41054, 32, 256, 1, 0, 0x0, 0x0, 0x0, 0x0, 0x0, 0x0, 0x0, 0x0, 2⟩,
  ⟨0x41058, 32, 256, 1, 0, 0x0, 0x0, 0x0, 0x0, 0x0, 0x0, 0x0, 0x0, 0⟩,
  ⟨0x4105c, 32, 256, 1, 0, 0x0, 0x0, 0x0, 0x0, 0x0, 0x0, 0x0, 0x0, 0⟩]
def regRowsDia : List RegRow := [
  ⟨0x50000, 1, 0, 1, 0, 0x401, 0xff01, 0x0, 0x0, 0x0, 0x0, 0x0, 0x0, 0⟩,
  ⟨0x50004, 1, 0, 1, 0, 0x3e8, 0xffff, 0x0, 0x0, 0x0, 0x0, 0x0, 0x0, 0⟩,
  ⟨0x50008, 1, 0, 1, 0, 0x15180, 0xffffff, 0x0, 0x0, 0x0, 0x0, 0x0, 0x0, 0⟩,
  ⟨0x5000c, 1, 0, 1, 0, 0x0, 0x0, 0x0, 0x0, 0xe, 0x0, 0x0, 0x0, 0⟩,
  ⟨0x50010, 1, 0, 1, 0, 0x0, 0x0, 0x0, 0x0, 0x0, 0x0, 0x0, 0x0, 0⟩,
  ⟨0x50014, 1, 0, 1, 0, 0x0, 0x0, 0x0, 0x0, 0x0, 0x0, 0x0, 0x0, 0⟩,
  ⟨0x50018, 1, 0, 1, 0, 0x0, 0x0, 0x0, 0x0, 0x0, 0x0, 0x0, 0x0, 0⟩,
  ⟨0x5001c, 1, 0, 1, 0, 0x0, 0xffffffff, 0x0, 0x0, 0x0, 0x0, 0x0, 0x0, 0⟩,
  ⟨0x50020, 1, 0, 1, 0, 0x0, 0xffff, 0x0, 0x0, 0x0, 0x0, 0x0, 0x0, 0⟩,
  ⟨0x50024, 1, 0, 1, 0, 0x0, 0x0, 0x0, 0x0, 0x0, 0x0, 0x0, 0x0, 0⟩,
  ⟨0x50030, 1, 0, 1, 0, 0x0, 0x7fff, 0x0, 0x0, 0x0, 0x0, 0x0, 0x0, 0⟩,
  ⟨0x50034, 1, 0, 1, 0, 0x0, 0x0, 0x0, 0x0, 0x0, 0x0, 0x0, 0x0, 0⟩,
  ⟨0x50038, 1, 0, 1, 0, 0x0, 0x0, 0x0, 0x0, 0x0, 0x0, 0x0, 0x0, 0⟩,
  ⟨0x5003c, 1, 0, 1, 0, 0x0, 0x0, 0x0, 0x0, 0x0, 0x3, 0x0, 0x0, 0⟩,
  ⟨0x50040, 1, 0, 1, 0, 0x0, 0x0, 0x0, 0x0, 0x0, 0x0, 0x0, 0x0, 2⟩,
  ⟨0x50044, 1, 0, 1, 0, 0x0, 0x0, 0x0, 0x0, 0x0, 0x0, 0x0, 0x0, 0⟩,
  ⟨0x50048, 1, 0, 1, 0, 0x0, 0x0, 0x0, 0x0, 0x0, 0x0, 0x0, 0x0, 0⟩]
def regRowsCce : List RegRow := [
  ⟨0x60000, 1, 0, 1, 0, 0x32, 0xff, 0x0, 0x0, 0x0, 0x0, 0x0, 0x0, 0⟩,
  ⟨0x60004, 1, 0, 1, 0, 0x258, 0xffff, 0x0, 0x0, 0x0, 0x0, 0x0, 0x0, 0⟩,
  ⟨0x60008, 1, 0, 1, 0, 0x12c, 0xffff, 0x0, 0x0, 0x0, 0x0, 0x0, 0x0, 0⟩,
  ⟨0x6000c, 1, 0, 1, 0, 0x1f4, 0xffff, 0x0, 0x0, 0x0, 0x0, 0x0, 0x0, 0⟩,
  ⟨0x60010, 1, 0, 1, 0, 0x0, 0x1ffff, 0x0, 0x0, 0x0, 0x0, 0x0, 0x0, 0⟩,
  ⟨0x60014, 1, 0, 1, 0, 0x0, 0x0, 0x0, 0x0, 0x7, 0x0, 0x0, 0x0, 0⟩,
  ⟨0x60018, 1, 0, 1, 0, 0x0, 0x0, 0x0, 0x0, 0x0, 0x0, 0x0, 0x0, 0⟩,
  ⟨0x6001c, 1, 0, 1, 0, 0x0, 0x0, 0x0, 0x0, 0x0, 0x7, 0x0, 0x0, 0⟩,
  ⟨0x60020, 1, 0, 1, 0, 0x0, 0x1ff, 0x0, 0x0, 0x0, 0x0, 0x0, 0x0, 0⟩,
  ⟨0x60024, 1, 0, 1, 0, 0x0, 0x0, 0x0, 0x0, 0x0, 0x0, 0x0, 0x0, 0⟩,
  ⟨0x60028, 1, 0, 1, 0, 0x0, 0x0, 0x0, 0x0, 0x0, 0x0, 0x0, 0x0, 0⟩,
  ⟨0x6002c, 1, 0, 1, 0, 0x0, 0x0, 0x0, 0x0, 0x0, 0x0, 0x0, 0x0, 0⟩,
  ⟨0x60030, 1, 0, 1, 0, 0x0, 0x0, 0x0, 0x0, 0x0, 0x0, 0x0, 0x0, 0⟩,
  ⟨0x60034, 1, 0, 1, 0, 0x10000, 0x0, 0x0, 0x0, 0x0, 0x0, 0x0, 0x0, 0⟩,
  ⟨0x60038, 1, 0, 1, 0, 0x0, 0xffffffff, 0x0, 0x0, 0x0, 0x0, 0x0, 0x0, 0⟩]
def regRowsLoop : List RegRow := [
  ⟨0x61000, 512, 16, 1, 0, 0x4, 0xffffff, 0x0, 0x0, 0x0, 0x0, 0x0, 0x0, 0⟩,
  ⟨0x61004, 512, 16, 1, 0, 0x0, 0xffff, 0x0, 0x0, 0x0, 0x0, 0x0, 0x0, 0⟩,
  ⟨0x61008, 512, 16, 1, 0, 0x4000, 0x0, 0x0, 0x0, 0x0, 0x0, 0x0, 0x0, 0⟩,
  ⟨0x6100c, 512, 16, 1, 0, 0x0, 0x0, 0x0, 0x0, 0x0, 0x0, 0x0, 0x0, 0⟩]
def regRowsCoef : List RegRow := [
  ⟨0x64000, 64, 32, 1, 0, 0x0, 0xffffffff, 0xffffffff, 0x0, 0x0, 0x0, 0x0, 0x0, 0⟩,
  ⟨0x64004, 64, 32, 1, 0, 0x0, 0xffffffff, 0xffffffff, 0x0, 0x0, 0x0, 0x0, 0x0, 0⟩,
  ⟨0x64008, 64, 32, 1, 0, 0x0, 0xffffffff, 0xffffffff, 0x0, 0x0, 0x0, 0x0, 0x0, 0⟩,
  ⟨0x6400c, 64, 32, 1, 0, 0xffff0000, 0xffffffff, 0xffffffff, 0x0, 0x0, 0x0, 0x0, 0x0, 0⟩,
  ⟨0x64010, 64, 32, 1, 0, 0x0, 0xffffff, 0xffffff, 0x0, 0x0, 0x0, 0x0, 0x0, 0⟩,
  ⟨0x64014, 64, 32, 1, 0, 0x0, 0xffff, 0xffff, 0x0, 0x0, 0x0, 0x0, 0x0, 0⟩,
  ⟨0x64018, 64, 32, 1, 0, 0x2710, 0xffffff, 0xffffff, 0x0, 0x0, 0x0, 0x0, 0x0, 0⟩]
def regRowsTbu0 : List RegRow := [
  ⟨0x2000, 1, 0, 1, 0, 0xf, 0x7f0f, 0x0, 0x0, 0x0, 0x0, 0x0, 0x0, 0⟩,
  ⟨0x2004, 1, 0, 1, 0, 0x0, 0x0, 0x0, 0x0, 0xe0, 0x0, 0x0, 0x0, 0⟩,
  ⟨0x2008, 1, 0, 1, 0, 0x0, 0x0, 0x0, 0x0, 0x0, 0xf, 0x0, 0x0, 0⟩,
  ⟨0x200c, 1, 0, 1, 0, 0x1f4, 0xffff, 0x0, 0x0, 0x0, 0x0, 0x0, 0x0, 0⟩,
  ⟨0x2010, 1, 0, 1, 0, 0xf4240, 0x3fffffff, 0x0, 0x0, 0x0, 0x0, 0x0, 0x0, 0⟩,
  ⟨0x2014, 1, 0, 1, 0, 0x30d40, 0xfffff, 0x0, 0x0, 0x0, 0x0, 0x0, 0x0, 0⟩,
  ⟨0x2018, 1, 0, 1, 0, 0x100080, 0xffffffff, 0x0, 0x0, 0x0, 0x0, 0x0, 0x0, 0⟩,
  ⟨0x201c, 1, 0, 1, 0, 0x0, 0x0, 0x0, 0x0, 0x0, 0x0, 0x0, 0x0, 0⟩,
  ⟨0x2020, 1, 0, 1, 0, 0x0, 0xffffffff, 0x0, 0x0, 0x0, 0x0, 0x0, 0x0, 0⟩,
  ⟨0x2024, 1, 0, 1, 0, 0x0, 0x0, 0x0, 0x0, 0x0, 0x0, 0x0, 0x0, 0⟩,
  ⟨0x2028, 1, 0, 1, 0, 0x0, 0x0, 0x0, 0x0, 0x0, 0x0, 0x0, 0x0, 0⟩,
  ⟨0x202c, 1, 0, 1, 0, 0x0, 0xffffffff, 0x0, 0x0, 0x0, 0x0, 0x0, 0x0, 0⟩,
  ⟨0x2030, 1, 0, 1, 0, 0x25, 0xffff, 0xffff, 0x0, 0x0, 0x0, 0x0, 0x0, 0⟩,
  ⟨0x2034, 1, 0, 1, 0, 0x0, 0x0, 0x0, 0x0, 0x0, 0x0, 0x0, 0x0, 0⟩,
  ⟨0x2038, 1, 0, 1, 0, 0x0, 0x0, 0x0, 0x0, 0x0, 0x0, 0x0, 0x0, 0⟩,
  ⟨0x203c, 1, 0, 1, 0, 0x15180, 0xffffff, 0x0, 0x0, 0x0, 0x0, 0x0, 0x0, 0⟩,
  ⟨0x2040, 1, 0, 1, 0, 0x0, 0x0, 0x0, 0x0, 0x0, 0x0, 0x0, 0x0, 2⟩,
  ⟨0x2044, 1, 0, 1, 0, 0x0, 0x0, 0x0, 0x0, 0x0, 0x0, 0x0, 0x0, 0⟩,
  ⟨0x2048, 1, 0, 1, 0, 0x0, 0x0, 0x0, 0x0, 0x0, 0x0, 0x0, 0x0, 0⟩,
  ⟨0x204c, 1, 0, 1, 0, 0x0, 0x0, 0x0, 0x0, 0x0, 0x0, 0x0, 0x0, 2⟩,
  ⟨0x2050, 1, 0, 1, 0, 0x0, 0x0, 0x0, 0x0, 0x0, 0x0, 0x0, 0x0, 0⟩,
  ⟨0x2054, 1, 0, 1, 0, 0x0, 0x0, 0x0, 0x0, 0x0, 0x0, 0x0, 0x0, 0⟩,
  ⟨0x2058, 1, 0, 1, 0, 0x0, 0xffffffff, 0xffffffff, 0x0, 0x0, 0x0, 0x0, 0x0, 2⟩,
  ⟨0x205c, 1, 0, 1, 0, 0x0, 0xffff, 0xffff, 0x0, 0x0, 0x0, 0x0, 0x0, 0⟩,
  ⟨0x2060, 1, 0, 1, 0, 0x0, 0x3fffffff, 0x3fffffff, 0x0, 0x0, 0x0, 0x0, 0x0, 0⟩,
  ⟨0x2064, 1, 0, 1, 0, 0x0, 0xffffffff, 0x0, 0x0, 0x0, 0x0, 0x0, 0x0, 0⟩,
  ⟨0x2068, 1, 0, 1, 0, 0x0, 0xffffffff, 0x0, 0x0, 0x0, 0x0, 0x0, 0x0, 2⟩,
  ⟨0x206c, 1, 0, 1, 0, 0x0, 0xffff, 0x0, 0x0, 0x0, 0x0, 0x0, 0x0, 0⟩,
  ⟨0x2070, 1, 0, 1, 0, 0x0, 0x3fffffff, 0x0, 0x0, 0x0, 0x0, 0x0, 0x0, 0⟩,
  ⟨0x2074, 1, 0, 1, 0, 0x0, 0x0, 0x0, 0x0, 0x0, 0x0, 0x0, 0x0, 1⟩]
def regRowsTbu1 : List RegRow := [
  ⟨0x2078, 1, 0, 1, 0, 0x0, 0x0, 0x0, 0x0, 0x0, 0x0, 0x0, 0x0, 0⟩,
  ⟨0x207c, 1, 0, 1, 0, 0x0, 0x0, 0x0, 0x0, 0x0, 0x0, 0x0, 0x0, 2⟩,
  ⟨0x2080, 1, 0, 1, 0, 0x0, 0x0, 0x0, 0x0, 0x0, 0x0, 0x0, 0x0, 0⟩,
  ⟨0x2084, 1, 0, 1, 0, 0x0, 0x0, 0x0, 0x0, 0x0, 0x0, 0x0, 0x0, 0⟩,
  ⟨0x2088, 1, 0, 1, 0, 0x800100, 0xffffffff, 0x0, 0x0, 0x0, 0x0, 0x0, 0x0, 0⟩,
  ⟨0x208c, 1, 0, 1, 0, 0xa80138, 0xffffffff, 0x0, 0x0, 0x0, 0x0, 0x0, 0x0, 0⟩,
  ⟨0x2090, 1, 0, 1, 0, 0x0, 0x0, 0x0, 0x0, 0x0, 0x0, 0x0, 0x0, 1⟩,
  ⟨0x2094, 1, 0, 1, 0, 0x0, 0x0, 0x0, 0x0, 0x0, 0x0, 0x0, 0x0, 0⟩,
  ⟨0x2098, 1, 0, 1, 0, 0x0, 0x0, 0x0, 0x0, 0x0, 0x0, 0x0, 0x0, 0⟩,
  ⟨0x209c, 1, 0, 1, 0, 0x0, 0xffffffff, 0x0, 0x0, 0x0, 0x0, 0x0, 0x0, 0⟩,
  ⟨0x20a0, 1, 0, 1, 0, 0x0, 0xffffffff, 0x0, 0x0, 0x0, 0x0, 0x0, 0x0, 0⟩,
  ⟨0x20a4, 1, 0, 1, 0, 0x0, 0xffffffff, 0x0, 0x0, 0x0, 0x0, 0x0, 0x0, 0⟩,
  ⟨0x20a8, 1, 0, 1, 0, 0x0, 0x0, 0x0, 0x0, 0x0, 0x0, 0x0, 0x0, 0⟩,
  ⟨0x20ac, 1, 0, 1, 0, 0x0, 0x0, 0x0, 0x0, 0x0, 0x0, 0x0, 0x0, 0⟩,
  ⟨0x20b0, 1, 0, 1, 0, 0x3, 0xf, 0x0, 0x0, 0x0, 0x0, 0x0, 0x0, 0⟩]
def regRowsTbu : List RegRow := regRowsTbu0 ++ regRowsTbu1
def regRowsRtc : List RegRow := [
  ⟨0x3000, 1, 0, 1, 0, 0x3, 0x7, 0x0, 0x7, 0x0, 0x0, 0x0, 0x0, 0⟩,
  ⟨0x3004, 1, 0, 1, 0, 0x800, 0x0, 0x0, 0x0, 0xff2, 0x0, 0x0, 0x0, 0⟩,
  ⟨0x3008, 1, 0, 1, 0, 0x0, 0x0, 0x0, 0x0, 0x0, 0x3, 0x0, 0x0, 0⟩,
  ⟨0x300c, 1, 0, 1, 0, 0x6000000, 0x3f7f7f, 0x3f7f7f, 0x0, 0x0, 0x0, 0x0, 0x0, 0⟩,
  ⟨0x3010, 1, 0, 1, 0, 0x20000101, 0xffff1f3f, 0xffff1f3f, 0x0, 0x0, 0x0, 0x0, 0x0, 0⟩,
  ⟨0x3014, 1, 0, 1, 0, 0x0, 0x0, 0x0, 0x0, 0x0, 0x0, 0x0, 0x0, 0⟩,
  ⟨0x3018, 1, 0, 1, 0, 0x0, 0x0, 0x0, 0x0, 0x0, 0x0, 0x0, 0x0, 0⟩,
  ⟨0x301c, 1, 0, 1, 0, 0x0, 0x0, 0x0, 0x0, 0x0, 0x0, 0x0, 0x0, 0⟩,
  ⟨0x3020, 2, 12, 1, 0, 0x0, 0x7ffffff, 0x0, 0x0, 0x0, 0x0, 0x0, 0x0, 0⟩,
  ⟨0x3024, 2, 12, 1, 0, 0x0, 0x1fff, 0x0, 0x0, 0x0, 0x0, 0x0, 0x0, 0⟩,
  ⟨0x3028, 2, 12, 1, 0, 0x0, 0xf1fff, 0x0, 0x0, 0x0, 0x0, 0x0, 0x0, 0⟩,
  ⟨0x3038, 1, 0, 1, 0, 0x190, 0x0, 0x0, 0x0, 0x0, 0x0, 0x0, 0x0, 0⟩,
  ⟨0x303c, 1, 0, 1, 0, 0x0, 0x0, 0x0, 0x0, 0x0, 0x0, 0x0, 0x0, 0⟩,
  ⟨0x3040, 1, 0, 1, 0, 0x0, 0xffffff, 0x0, 0x0, 0x0, 0x0, 0x0, 0x0, 0⟩,
  ⟨0x3044, 1, 0, 1, 0, 0x0, 0x0, 0x0, 0x0, 0x0, 0x0, 0x0, 0x0, 0⟩,
  ⟨0x3048, 1, 0, 1, 0, 0x0, 0xffffffff, 0x0, 0x0, 0x0, 0x0, 0x0, 0x0, 0⟩,
  ⟨0x304c, 1, 0, 1, 0, 0x0, 0x3f, 0x0, 0x0, 0x0, 0x0, 0x0, 0x0, 0⟩,
  ⟨0x3050, 1, 0, 1, 0, 0x0, 0xffffff, 0x0, 0x0, 0x0, 0x0, 0x0, 0x0, 0⟩,
  ⟨0x3054, 1, 0, 1, 0, 0x0, 0x0, 0x0, 0x0, 0x0, 0x0, 0x0, 0x0, 0⟩,
  ⟨0x3058, 1, 0, 1, 0, 0x0, 0x0, 0x0, 0x0, 0x0, 0x0, 0x0, 0x0, 2⟩,
  ⟨0x305c, 1, 0, 1, 0, 0x0, 0x0, 0x0, 0x0, 0x0, 0x0, 0x0, 0x0, 0⟩,
  ⟨0x3060, 1, 0, 1, 0, 0x0, 0x0, 0x0, 0x0, 0x0, 0x0, 0x0, 0x0, 0⟩]
def regRowsMtr : List RegRow := [
  ⟨0x70000, 1, 0, 1, 0, 0x0, 0x1, 0x0, 0x0, 0x0, 0x0, 0x0, 0x0, 0⟩,
  ⟨0x70004, 1, 0, 1, 0, 0x384, 0xfff, 0x0, 0x0, 0x0, 0x0, 0x0, 0x0, 0⟩,
  ⟨0x70008, 1, 0, 1, 0, 0x0, 0x0, 0x0, 0x0, 0x7e, 0x0, 0x0, 0x0, 0⟩,
  ⟨0x7000c, 1, 0, 1, 0, 0x0, 0x0, 0x0, 0x0, 0x0, 0x1, 0xffff0000, 0x0, 0⟩,
  ⟨0x70010, 1, 0, 1, 0, 0x0, 0x0, 0x0, 0x0, 0x0, 0x0, 0x0, 0x0, 0⟩,
  ⟨0x70014, 1, 0, 1, 0, 0x0, 0xf7, 0x0, 0x0, 0x0, 0x0, 0x0, 0x0, 0⟩,
  ⟨0x70018, 1, 0, 1, 0, 0x0, 0x0, 0x0, 0x0, 0x0, 0x0, 0x0, 0x0, 1⟩,
  ⟨0x7001c, 1, 0, 1, 0, 0x0, 0x0, 0x0, 0x0, 0x0, 0x0, 0x0, 0x0, 0⟩,
  ⟨0x70020, 1, 0, 1, 0, 0x0, 0x1f, 0x0, 0x0, 0x0, 0x0, 0x0, 0x0, 0⟩,
  ⟨0x70024, 1, 0, 1, 0, 0x0, 0xffffffff, 0x0, 0x0, 0x0, 0x0, 0x0, 0x0, 0⟩,
  ⟨0x70028, 1, 0, 1, 0, 0x0, 0xffffffff, 0x0, 0x0, 0x0, 0x0, 0x0, 0x0, 0⟩,
  ⟨0x7002c, 1, 0, 1, 0, 0x0, 0x0, 0x0, 0x0, 0x0, 0x0, 0x0, 0x0, 2⟩,
  ⟨0x70030, 1, 0, 1, 0, 0x0, 0x0, 0x0, 0x0, 0x0, 0x0, 0x0, 0x0, 0⟩,
  ⟨0x70034, 1, 0, 1, 0, 0x0, 0x0, 0x0, 0x0, 0x0, 0x0, 0x0, 0x0, 0⟩,
  ⟨0x70038, 1, 0, 1, 0, 0x0, 0xffffffff, 0x0, 0x0, 0x0, 0x0, 0x0, 0x0, 0⟩,
  ⟨0x7003c, 1, 0, 1, 0, 0x0, 0xffffffff, 0x0, 0x0, 0x0, 0x0, 0x0, 0x0, 0⟩,
  ⟨0x70040, 8, 24, 1, 0, 0x1fc00000, 0x9fffffff, 0x9fffffff, 0x0, 0x0, 0x0, 0x0, 0x0, 0⟩,
  ⟨0x70044, 8, 24, 1, 0, 0x0, 0xffffffff, 0xffffffff, 0x0, 0x0, 0x0, 0x0, 0x0, 0⟩,
  ⟨0x70048, 8, 24, 1, 0, 0x0, 0x0, 0x0, 0x0, 0x0, 0x0, 0x0, 0x0, 0⟩,
  ⟨0x7004c, 8, 24, 1, 0, 0x0, 0x0, 0x0, 0x0, 0x0, 0x0, 0x0, 0x0, 0⟩,
  ⟨0x70050, 8, 24, 1, 0, 0x0, 0x0, 0x0, 0x0, 0x0, 0x0, 0x0, 0x0, 0⟩,
  ⟨0x70054, 8, 24, 1, 0, 0x0, 0x0, 0x0, 0x0, 0x0, 0x0, 0x0, 0x0, 0⟩]
def regRowsChan : List RegRow := [
  ⟨0x71000, 28, 64, 1, 0, 0x1, 0xffffff1f, 0x0, 0x0, 0x0, 0x0, 0x0, 0x0, 0⟩,
  ⟨0x71004, 28, 64, 1, 0, 0x0, 0x0, 0x0, 0x0, 0x4, 0x0, 0x0, 0x0, 0⟩,
  ⟨0x71008, 28, 64, 1, 0, 0x0, 0x0, 0x0, 0x0, 0x0, 0x0, 0x0, 0x0, 0⟩,
  ⟨0x7100c, 28, 64, 1, 0, 0x0, 0x0, 0x0, 0x0, 0x0, 0x0, 0x0, 0x0, 0⟩,
  ⟨0x71010, 28, 64, 1, 0, 0x0, 0x0, 0x0, 0x0, 0x0, 0x0, 0x0, 0x0, 1⟩,
  ⟨0x71014, 28, 64, 1, 0, 0x0, 0x0, 0x0, 0x0, 0x0, 0x0, 0x0, 0x0, 0⟩,
  ⟨0x71018, 28, 64, 1, 0, 0x0, 0x0, 0x0, 0x0, 0x0, 0x0, 0x0, 0x0, 1⟩,
  ⟨0x7101c, 28, 64, 1, 0, 0x0, 0x0, 0x0, 0x0, 0x0, 0x0, 0x0, 0x0, 0⟩,
  ⟨0x71020, 28, 64, 1, 0, 0x0, 0x0, 0x0, 0x0, 0x0, 0x0, 0x0, 0x0, 1⟩,
  ⟨0x71024, 28, 64, 1, 0, 0x0, 0x0, 0x0, 0x0, 0x0, 0x0, 0x0, 0x0, 0⟩,
  ⟨0x71028, 28, 64, 1, 0, 0x0, 0x0, 0x0, 0x0, 0x0, 0x0, 0x0, 0x0, 1⟩,
  ⟨0x7102c, 28, 64, 1, 0, 0x0, 0x0, 0x0, 0x0, 0x0, 0x0, 0x0, 0x0, 0⟩]
def regRowsSru : List RegRow := [
  ⟨0x80000, 1, 0, 1, 0, 0x202, 0x71f, 0x1c, 0x0, 0x0, 0x0, 0x0, 0x0, 0⟩,
  ⟨0x80004, 1, 0, 1, 0, 0x0, 0x0, 0x0, 0x0, 0x7e, 0x0, 0x0, 0x0, 0⟩,
  ⟨0x80008, 1, 0, 1, 0, 0x0, 0x0, 0x0, 0x0, 0x0, 0x7, 0x0, 0x0, 0⟩,
  ⟨0x8000c, 1, 0, 1, 0, 0xa, 0x3ff, 0x3ff, 0x0, 0x0, 0x0, 0x0, 0x0, 0⟩,
  ⟨0x80010, 1, 0, 1, 0, 0x2828, 0xffff, 0xffff, 0x0, 0x0, 0x0, 0x0, 0x0, 0⟩,
  ⟨0x80014, 1, 0, 1, 0, 0x202020, 0x3f3f3f, 0x3f3f3f, 0x0, 0x0, 0x0, 0x0, 0x0, 0⟩,
  ⟨0x80018, 1, 0, 1, 0, 0x1, 0xffff, 0xffff, 0x0, 0x0, 0x0, 0x0, 0x0, 0⟩,
  ⟨0x8001c, 1, 0, 1, 0, 0x803, 0xff0f, 0x0, 0x0, 0x0, 0x0, 0x0, 0x0, 0⟩,
  ⟨0x80020, 1, 0, 1, 0, 0xe, 0xff, 0x0, 0x0, 0x0, 0x0, 0x0, 0x0, 0⟩,
  ⟨0x80024, 1, 0, 1, 0, 0x0, 0xffffffff, 0x0, 0x0, 0x0, 0x0, 0x0, 0x0, 0⟩,
  ⟨0x80028, 1, 0, 1, 0, 0x0, 0xffff, 0x0, 0x0, 0x0, 0x0, 0x0, 0x0, 0⟩,
  ⟨0x8002c, 1, 0, 1, 0, 0x0, 0x0, 0x0, 0x0, 0x0, 0x0, 0x0, 0x0, 0⟩,
  ⟨0x80030, 1, 0, 1, 0, 0x50, 0x0, 0x0, 0x0, 0x0, 0x0, 0x0, 0x0, 0⟩,
  ⟨0x80034, 1, 0, 1, 0, 0x0, 0x3ff, 0x0, 0x0, 0x0, 0x0, 0x0, 0x0, 0⟩,
  ⟨0x80038, 1, 0, 1, 0, 0x0, 0xffffffff, 0x0, 0x0, 0x0, 0x0, 0x0, 0x0, 0⟩,
  ⟨0x8003c, 1, 0, 1, 0, 0x0, 0xffffffff, 0x0, 0x0, 0x0, 0x0, 0x0, 0x0, 0⟩,
  ⟨0x80040, 1, 0, 1, 0, 0x0, 0xffffffff, 0x0, 0x0, 0x0, 0x0, 0x0, 0x0, 0⟩,
  ⟨0x80044, 1, 0, 1, 0, 0x0, 0xffffffff, 0x0, 0x0, 0x0, 0x0, 0x0, 0x0, 0⟩,
  ⟨0x80048, 1, 0, 1, 0, 0x0, 0xffffffff, 0x0, 0x0, 0x0, 0x0, 0x0, 0x0, 0⟩,
  ⟨0x8004c, 1, 0, 1, 0, 0x0, 0x0, 0x0, 0x0, 0x0, 0x0, 0x0, 0x0, 0⟩,
  ⟨0x80050, 1, 0, 1, 0, 0x0, 0x0, 0x0, 0x0, 0x0, 0x0, 0x0, 0x0, 2⟩,
  ⟨0x80054, 1, 0, 1, 0, 0x0, 0x0, 0x0, 0x0, 0x0, 0x0, 0x0, 0x0, 0⟩,
  ⟨0x80058, 1, 0, 1, 0, 0x0, 0x0, 0x0, 0x0, 0x0, 0x0, 0x0, 0x0, 0⟩,
  ⟨0x8005c, 1, 0, 1, 0, 0x0, 0x3ffff, 0x0, 0x0, 0x0, 0x0, 0x0, 0x0, 0⟩,
  ⟨0x80060, 1, 0, 1, 0, 0x0, 0x0, 0x0, 0x0, 0x0, 0x0, 0xffffffff, 0x0, 0⟩,
  ⟨0x80064, 1, 0, 1, 0, 0x0, 0x0, 0x0, 0x0, 0x0, 0x0, 0x0, 0x0, 0⟩,
  ⟨0x80080, 8, 4, 1, 0, 0x0, 0x0, 0x0, 0x0, 0x0, 0x0, 0x0, 0x0, 0⟩,
  ⟨0x800a0, 8, 4, 1, 0, 0x0, 0x0, 0x0, 0x0, 0x0, 0x0, 0x0, 0x0, 0⟩,
  ⟨0x800c0, 8, 4, 1, 0, 0x0, 0xffff, 0x0, 0x0, 0x0, 0x0, 0x0, 0x0, 0⟩,
  ⟨0x80100, 64, 4, 1, 0, 0x0, 0x80000000, 0x0, 0x0, 0x0, 0x0, 0x0, 0x0, 0⟩]
def regRowsKst : List RegRow := [
  ⟨0x90000, 1, 0, 1, 0, 0x1, 0x1, 0x0, 0x1, 0x0, 0x0, 0x0, 0x0, 0⟩,
  ⟨0x90004, 1, 0, 1, 0, 0x0, 0x0, 0x0, 0x0, 0x1e, 0x0, 0x0, 0x0, 0⟩,
  ⟨0x90008, 1, 0, 1, 0, 0x0, 0x0, 0x0, 0x0, 0x0, 0x7f, 0x0, 0x0, 0⟩,
  ⟨0x9000c, 1, 0, 1, 0, 0x0, 0xff, 0x0, 0x0, 0x0, 0x0, 0x0, 0x0, 0⟩,
  ⟨0x90010, 1, 0, 1, 0, 0x0, 0x0, 0x0, 0x0, 0x0, 0x0, 0x0, 0x0, 0⟩,
  ⟨0x90014, 1, 0, 1, 0, 0x1, 0xff003f07, 0x0, 0x0, 0x0, 0x0, 0x0, 0x0, 0⟩,
  ⟨0x90018, 1, 0, 1, 0, 0x0, 0xffffff, 0x0, 0x0, 0x0, 0x0, 0x0, 0x0, 0⟩,
  ⟨0x9001c, 1, 0, 1, 0, 0x0, 0x0, 0x0, 0x0, 0x0, 0x0, 0xffffffff, 0x0, 0⟩,
  ⟨0x90020, 1, 0, 1, 0, 0x0, 0x0, 0x0, 0x0, 0x0, 0x0, 0x0, 0x0, 0⟩,
  ⟨0x90024, 1, 0, 1, 0, 0x0, 0x0, 0x0, 0x0, 0x0, 0x0, 0x0, 0x0, 0⟩,
  ⟨0x90028, 1, 0, 1, 0, 0x0, 0x0, 0x0, 0x0, 0x0, 0x0, 0x0, 0x0, 0⟩,
  ⟨0x9002c, 1, 0, 1, 0, 0x1, 0x0, 0x0, 0x0, 0x0, 0x0, 0x0, 0x0, 0⟩,
  ⟨0x90030, 1, 0, 1, 0, 0x0, 0xffffff, 0x0, 0x0, 0x0, 0x0, 0x0, 0x0, 0⟩,
  ⟨0x90034, 1, 0, 1, 0, 0x0, 0xffff, 0x0, 0x0, 0x0, 0x0, 0x0, 0x0, 0⟩,
  ⟨0x90038, 1, 0, 1, 0, 0x0, 0x0, 0x0, 0x0, 0x0, 0x0, 0x0, 0x0, 1⟩,
  ⟨0x9003c, 1, 0, 1, 0, 0x0, 0x0, 0x0, 0x0, 0x0, 0x0, 0x0, 0x0, 0⟩,
  ⟨0x90040, 4, 4, 1, 0, 0x0, 0xffffffff, 0x0, 0x0, 0x0, 0x0, 0x0, 0x0, 0⟩,
  ⟨0x90050, 4, 4, 1, 0, 0x0, 0x0, 0x0, 0x0, 0x0, 0x0, 0x0, 0x0, 0⟩,
  ⟨0x90060, 8, 4, 1, 0, 0x0, 0x0, 0x0, 0x0, 0x0, 0x0, 0x0, 0x0, 0⟩,
  ⟨0x90080, 8, 4, 1, 0, 0x0, 0x0, 0x0, 0x0, 0x0, 0x0, 0x0, 0x0, 0⟩,
  ⟨0x900a0, 4, 4, 1, 0, 0x0, 0xffffffff, 0x0, 0x0, 0x0, 0x0, 0x0, 0x0, 0⟩,
  ⟨0x900b0, 1, 0, 1, 0, 0x0, 0x3, 0x0, 0x0, 0x0, 0x0, 0x0, 0x0, 0⟩,
  ⟨0x900b4, 4, 4, 1, 0, 0x0, 0xffffffff, 0x0, 0x0, 0x0, 0x0, 0x0, 0x0, 0⟩]
def regRowsEvq : List RegRow := [
  ⟨0xa0000, 1, 0, 1, 0, 0x1, 0x1, 0x0, 0x0, 0x0, 0x0, 0x0, 0x0, 0⟩,
  ⟨0xa0004, 1, 0, 1, 0, 0x3, 0x0, 0x0, 0x0, 0x8, 0x0, 0x0, 0x0, 0⟩,
  ⟨0xa0008, 1, 0, 1, 0, 0x0, 0x0, 0x0, 0x0, 0x0, 0x1, 0x0, 0x0, 0⟩,
  ⟨0xa000c, 1, 0, 1, 0, 0x300, 0xfff, 0x0, 0x0, 0x0, 0x0, 0x0, 0x0, 0⟩,
  ⟨0xa0010, 1, 0, 1, 0, 0x0, 0x0, 0x0, 0x0, 0x0, 0x0, 0x0, 0x1, 0⟩,
  ⟨0xa0014, 1, 0, 1, 0, 0x0, 0x0, 0x0, 0x0, 0x0, 0x0, 0x0, 0x0, 2⟩,
  ⟨0xa0018, 1, 0, 1, 0, 0x0, 0x0, 0x0, 0x0, 0x0, 0x0, 0x0, 0x0, 0⟩,
  ⟨0xa001c, 1, 0, 1, 0, 0x0, 0x0, 0x0, 0x0, 0x0, 0x0, 0x0, 0x0, 0⟩,
  ⟨0xa0020, 1, 0, 1, 0, 0x0, 0x0, 0x0, 0x0, 0x0, 0x0, 0x0, 0x0, 0⟩,
  ⟨0xa0024, 1, 0, 1, 0, 0x0, 0xffffffff, 0x0, 0x0, 0x0, 0x0, 0x0, 0x0, 0⟩,
  ⟨0xa0028, 1, 0, 1, 0, 0x0, 0x0, 0x0, 0x0, 0x0, 0x0, 0x0, 0x0, 0⟩,
  ⟨0xa002c, 1, 0, 1, 0, 0x0, 0x0, 0x0, 0x0, 0x0, 0x0, 0x0, 0x0, 0⟩,
  ⟨0xa0030, 1, 0, 1, 0, 0x0, 0xfff, 0x0, 0x0, 0x0, 0x0, 0x0, 0x0, 0⟩,
  ⟨0xa0034, 1, 0, 1, 0, 0x0, 0x7, 0x0, 0x0, 0x0, 0x0, 0x0, 0x0, 0⟩,
  ⟨0xa0040, 1, 0, 1, 0, 0x0, 0x0, 0x0, 0x0, 0x0, 0x0, 0x0, 0x0, 0⟩,
  ⟨0xa0044, 1, 0, 1, 0, 0x0, 0x0, 0x0, 0x0, 0x0, 0x0, 0x0, 0x0, 0⟩,
  ⟨0xa0048, 1, 0, 1, 0, 0x0, 0x0, 0x0, 0x0, 0x0, 0x0, 0x0, 0x0, 0⟩,
  ⟨0xa004c, 1, 0, 1, 0, 0x0, 0x0, 0x0, 0x0, 0x0, 0x0, 0x0, 0x0, 0⟩,
  ⟨0xa0050, 1, 0, 1, 0, 0x0, 0x0, 0x0, 0x0, 0x0, 0x0, 0x0, 0x0, 0⟩,
  ⟨0xa0054, 1, 0, 1, 0, 0x0, 0x0, 0x0, 0x0, 0x0, 0x0, 0x0, 0x0, 0⟩,
  ⟨0xa0058, 1, 0, 1, 0, 0x0, 0x0, 0x0, 0x0, 0x0, 0x0, 0x0, 0x0, 0⟩,
  ⟨0xa005c, 1, 0, 1, 0, 0x0, 0x0, 0x0, 0x0, 0x0, 0x0, 0x0, 0x0, 0⟩]
def regRowsJnl : List RegRow := [
  ⟨0xa1000, 1, 0, 1, 0, 0x0, 0x0, 0x0, 0x0, 0xb, 0x0, 0x0, 0x0, 0⟩,
  ⟨0xa1004, 1, 0, 1, 0, 0x0, 0x0, 0x0, 0x0, 0x0, 0x8, 0x17, 0x0, 0⟩,
  ⟨0xa1008, 1, 0, 1, 0, 0x0, 0x0, 0x0, 0x0, 0x0, 0x0, 0x0, 0x0, 0⟩,
  ⟨0xa100c, 1, 0, 1, 0, 0x0, 0x0, 0x0, 0x0, 0x0, 0x0, 0x0, 0x0, 0⟩,
  ⟨0xa1010, 1, 0, 1, 0, 0x0, 0xffffffff, 0x0, 0x0, 0x0, 0x0, 0x0, 0x0, 0⟩,
  ⟨0xa1014, 1, 0, 1, 0, 0x0, 0x0, 0x0, 0x0, 0x0, 0x0, 0x0, 0x0, 0⟩,
  ⟨0xa1018, 1, 0, 1, 0, 0x0, 0xffff, 0x0, 0x0, 0x0, 0x0, 0x0, 0x0, 0⟩,
  ⟨0xa1020, 8, 4, 1, 0, 0x0, 0xffffffff, 0x0, 0x0, 0x0, 0x0, 0x0, 0x0, 0⟩,
  ⟨0xa1040, 1, 0, 1, 0, 0x0, 0x0, 0x0, 0x0, 0x0, 0x0, 0x0, 0x0, 0⟩,
  ⟨0xa1044, 1, 0, 1, 0, 0x0, 0x0, 0x0, 0x0, 0x0, 0x0, 0x0, 0x0, 0⟩,
  ⟨0xa1048, 1, 0, 1, 0, 0x0, 0x0, 0x0, 0x0, 0x0, 0x0, 0x0, 0x0, 0⟩,
  ⟨0xa104c, 1, 0, 1, 0, 0x0, 0x0, 0x0, 0x0, 0x0, 0x0, 0x0, 0x0, 0⟩,
  ⟨0xa1050, 1, 0, 1, 0, 0x0, 0x0, 0x0, 0x0, 0x0, 0x0, 0x0, 0x0, 0⟩,
  ⟨0xa1054, 1, 0, 1, 0, 0x0, 0x0, 0x0, 0x0, 0x0, 0x0, 0x0, 0x0, 0⟩,
  ⟨0xa1058, 1, 0, 1, 0, 0x0, 0x0, 0x0, 0x0, 0x0, 0x0, 0x0, 0x0, 0⟩,
  ⟨0xa105c, 1, 0, 1, 0, 0x0, 0x0, 0x0, 0x0, 0x0, 0x0, 0x0, 0x0, 0⟩,
  ⟨0xa1060, 1, 0, 1, 0, 0x0, 0x0, 0x0, 0x0, 0x0, 0x0, 0x0, 0x0, 0⟩,
  ⟨0xa1064, 1, 0, 1, 0, 0xfff0000, 0xfff0fff, 0x0, 0x0, 0x0, 0x0, 0x0, 0x0, 0⟩,
  ⟨0xa1068, 1, 0, 1, 0, 0x0, 0xffffffff, 0x0, 0x0, 0x0, 0x0, 0x0, 0x0, 0⟩,
  ⟨0xa106c, 1, 0, 1, 0, 0x0, 0xffffffff, 0x0, 0x0, 0x0, 0x0, 0x0, 0x0, 2⟩,
  ⟨0xa1070, 1, 0, 1, 0, 0x0, 0xffff, 0x0, 0x0, 0x0, 0x0, 0x0, 0x0, 0⟩,
  ⟨0xa1074, 1, 0, 1, 0, 0x0, 0x3fffffff, 0x0, 0x0, 0x0, 0x0, 0x0, 0x0, 0⟩,
  ⟨0xa1078, 1, 0, 1, 0, 0xffffffff, 0xffffffff, 0x0, 0x0, 0x0, 0x0, 0x0, 0x0, 1⟩,
  ⟨0xa107c, 1, 0, 1, 0, 0xffff, 0xffff, 0x0, 0x0, 0x0, 0x0, 0x0, 0x0, 0⟩]
def regRowsGlb : List RegRow := [
  ⟨0x80, 8, 4, 1, 0, 0x0, 0x0, 0x0, 0x0, 0x0, 0x0, 0xff, 0x0, 0⟩,
  ⟨0xa0, 8, 4, 1, 0, 0x0, 0x0, 0x0, 0x0, 0x0, 0x0, 0x0, 0x0, 0⟩,
  ⟨0xc0, 8, 4, 1, 0, 0x0, 0x0, 0x0, 0x0, 0x0, 0x0, 0x0, 0x0, 0⟩,
  ⟨0xe0, 8, 4, 1, 0, 0x0, 0xffffff, 0x0, 0x0, 0x0, 0x0, 0x0, 0x0, 0⟩,
  ⟨0x10, 1, 0, 1, 0, 0x1, 0x3, 0x0, 0x3, 0x0, 0x0, 0x0, 0x0, 0⟩,
  ⟨0x0, 1, 0, 1, 0, 0x1, 0x0, 0x0, 0x0, 0x0, 0x0, 0x0, 0x0, 0⟩,
  ⟨0x4, 1, 0, 1, 0, 0x0, 0x0, 0x0, 0x0, 0x0, 0x0, 0x0, 0x0, 0⟩,
  ⟨0x8, 1, 0, 1, 0, 0x0, 0x0, 0x0, 0x0, 0x0, 0x1f, 0xffff0000, 0x0, 0⟩,
  ⟨0xc, 1, 0, 1, 0, 0x1000ea6, 0x101ffff, 0x0, 0x101ffff, 0x0, 0x0, 0x0, 0x0, 0⟩,
  ⟨0x14, 1, 0, 1, 0, 0x0, 0x0, 0x0, 0x0, 0x0, 0x0, 0x0, 0x0, 0⟩,
  ⟨0x18, 1, 0, 1, 0, 0x0, 0xffff, 0x0, 0x0, 0x0, 0x0, 0x0, 0x0, 0⟩,
  ⟨0x1c, 1, 0, 1, 0, 0x3e8, 0x3fff, 0x0, 0x0, 0x0, 0x0, 0x0, 0x0, 0⟩,
  ⟨0x20, 1, 0, 1, 0, 0x0, 0x0, 0x0, 0x0, 0x0, 0x0, 0x0, 0x0, 2⟩,
  ⟨0x24, 1, 0, 1, 0, 0x0, 0x0, 0x0, 0x0, 0x0, 0x0, 0x0, 0x0, 0⟩,
  ⟨0x28, 1, 0, 1, 0, 0x0, 0x0, 0x0, 0x0, 0x0, 0x0, 0x0, 0x0, 0⟩,
  ⟨0x2c, 1, 0, 1, 0, 0x0, 0x0, 0x0, 0x0, 0x0, 0x0, 0x0, 0x0, 0⟩,
  ⟨0x30, 1, 0, 1, 0, 0x0, 0x0, 0x0, 0x0, 0x4, 0x0, 0x0, 0x0, 0⟩]
def regRowsXlk : List RegRow := [
  ⟨0xb0000, 1, 0, 1, 0, 0x1, 0x1, 0x0, 0x0, 0x0, 0x0, 0x0, 0x0, 0⟩,
  ⟨0xb0004, 1, 0, 1, 0, 0x1, 0x1, 0x0, 0x1, 0x0, 0x0, 0x0, 0x0, 0⟩,
  ⟨0xb0008, 1, 0, 1, 0, 0x0, 0x0, 0x0, 0x0, 0xdc0, 0x0, 0x0, 0x0, 0⟩,
  ⟨0xb000c, 1, 0, 1, 0, 0x0, 0x0, 0x0, 0x0, 0x0, 0x7, 0x0, 0x0, 0⟩,
  ⟨0xb0010, 1, 0, 1, 0, 0x0, 0x0, 0x0, 0x0, 0x0, 0x0, 0x0, 0x0, 0⟩,
  ⟨0xb0014, 1, 0, 1, 0, 0x0, 0x0, 0x0, 0x0, 0x0, 0x0, 0x0, 0x0, 0⟩,
  ⟨0xb0018, 1, 0, 1, 0, 0x0, 0xffffffff, 0x0, 0x0, 0x0, 0x0, 0x0, 0x0, 0⟩,
  ⟨0xb001c, 1, 0, 1, 0, 0x0, 0xffffffff, 0x0, 0x0, 0x0, 0x0, 0x0, 0x0, 0⟩,
  ⟨0xb0020, 1, 0, 1, 0, 0x0, 0xffffffff, 0x0, 0x0, 0x0, 0x0, 0x0, 0x0, 0⟩,
  ⟨0xb0024, 1, 0, 1, 0, 0x0, 0x0, 0x0, 0x0, 0x0, 0x0, 0x0, 0x0, 0⟩,
  ⟨0xb0028, 1, 0, 1, 0, 0x0, 0x0, 0x0, 0x0, 0x0, 0x0, 0x0, 0x0, 0⟩,
  ⟨0xb002c, 1, 0, 1, 0, 0x0, 0x0, 0x0, 0x0, 0x0, 0x0, 0x0, 0x0, 1⟩,
  ⟨0xb0030, 1, 0, 1, 0, 0x0, 0x0, 0x0, 0x0, 0x0, 0x0, 0x0, 0x0, 0⟩,
  ⟨0xb0034, 1, 0, 1, 0, 0x0, 0x0, 0x0, 0x0, 0x0, 0x0, 0x0, 0x0, 0⟩,
  ⟨0xb0038, 1, 0, 1, 0, 0x0, 0x0, 0x0, 0x0, 0x0, 0x0, 0x0, 0x0, 2⟩,
  ⟨0xb003c, 1, 0, 1, 0, 0x0, 0x0, 0x0, 0x0, 0x0, 0x0, 0x0, 0x0, 0⟩,
  ⟨0xb0040, 1, 0, 1, 0, 0x0, 0x0, 0x0, 0x0, 0x0, 0x0, 0x0, 0x0, 0⟩,
  ⟨0xb0044, 1, 0, 1, 0, 0x0, 0x7fffff, 0x0, 0x0, 0x0, 0x0, 0x0, 0x0, 0⟩,
  ⟨0xb0048, 1, 0, 1, 0, 0x0, 0x0, 0x0, 0x0, 0x0, 0x0, 0xffffffff, 0x0, 0⟩,
  ⟨0xb004c, 1, 0, 1, 0, 0x0, 0x0, 0x0, 0x0, 0x0, 0x0, 0x0, 0x0, 0⟩,
  ⟨0xb0050, 1, 0, 1, 0, 0x0, 0x0, 0x0, 0x0, 0x0, 0x0, 0x0, 0x0, 0⟩]
def regRowsHap : List RegRow := [
  ⟨0x1000, 1, 0, 1, 0, 0x80004, 0xfffff, 0x7fffe, 0x0, 0x0, 0x0, 0x0, 0x0, 0⟩,
  ⟨0x1004, 1, 0, 1, 0, 0x0, 0x0, 0x0, 0x0, 0x1f0, 0x0, 0x0, 0x0, 0⟩,
  ⟨0x1008, 1, 0, 1, 0, 0x0, 0x0, 0x0, 0x0, 0x0, 0x0, 0x0, 0x0, 0⟩,
  ⟨0x100c, 1, 0, 1, 0, 0x0, 0x0, 0x0, 0x0, 0x0, 0x7, 0x0, 0x0, 0⟩,
  ⟨0x1010, 1, 0, 1, 0, 0xb856, 0xffff, 0xffff, 0x0, 0x0, 0x0, 0x0, 0x0, 0⟩,
  ⟨0x1014, 1, 0, 1, 0, 0x0, 0xffffffff, 0xffffffff, 0x0, 0x0, 0x0, 0x0, 0x0, 0⟩,
  ⟨0x1018, 1, 0, 1, 0, 0x18, 0x3f, 0x3f, 0x0, 0x0, 0x0, 0x0, 0x0, 0⟩,
  ⟨0x101c, 1, 0, 1, 0, 0x0, 0xffffffff, 0xffffffff, 0x0, 0x0, 0x0, 0x0, 0x0, 0⟩,
  ⟨0x1020, 4, 4, 1, 0, 0x0, 0xffffffff, 0xffffffff, 0x0, 0x0, 0x0, 0x0, 0x0, 0⟩,
  ⟨0x1030, 1, 0, 1, 0, 0x40, 0xff, 0xff, 0x0, 0x0, 0x0, 0x0, 0x0, 0⟩,
  ⟨0x1034, 4, 4, 1, 0, 0x0, 0xffffffff, 0xffffffff, 0x0, 0x0, 0x0, 0x0, 0x0, 0⟩,
  ⟨0x1044, 1, 0, 1, 0, 0x0, 0x0, 0x0, 0x0, 0x0, 0x0, 0x0, 0x0, 0⟩,
  ⟨0x1048, 1, 0, 1, 0, 0x0, 0x0, 0x0, 0x0, 0x0, 0x0, 0x0, 0x0, 0⟩,
  ⟨0x104c, 1, 0, 1, 0, 0xe10, 0xffff, 0x0, 0x0, 0x0, 0x0, 0x0, 0x0, 0⟩,
  ⟨0x1050, 1, 0, 1, 0, 0x0, 0x0, 0x0, 0x0, 0x0, 0x0, 0x0, 0x0, 0⟩,
  ⟨0x1054, 1, 0, 1, 0, 0x0, 0xffffffff, 0x0, 0x0, 0x0, 0x0, 0x0, 0x0, 0⟩,
  ⟨0x1058, 1, 0, 1, 0, 0x0, 0xffffffff, 0x0, 0x0, 0x0, 0x0, 0x0, 0x0, 0⟩,
  ⟨0x105c, 1, 0, 1, 0, 0x0, 0xffffffff, 0x0, 0x0, 0x0, 0x0, 0x0, 0x0, 0⟩,
  ⟨0x1060, 1, 0, 1, 0, 0x0, 0xffff, 0x0, 0x0, 0x0, 0x0, 0x0, 0x0, 0⟩,
  ⟨0x1064, 1, 0, 1, 0, 0x0, 0x0, 0x0, 0x0, 0x0, 0x0, 0x0, 0x0, 0⟩,
  ⟨0x1068, 1, 0, 1, 0, 0x0, 0x7, 0x0, 0x0, 0x0, 0x0, 0x0, 0x0, 0⟩,
  ⟨0x106c, 1, 0, 1, 0, 0x0, 0x0, 0x0, 0x0, 0x0, 0x0, 0x0, 0x0, 0⟩,
  ⟨0x1070, 1, 0, 1, 0, 0x0, 0x0, 0x0, 0x0, 0x0, 0x0, 0x0, 0x0, 0⟩,
  ⟨0x1074, 1, 0, 1, 0, 0x0, 0x0, 0x0, 0x0, 0x0, 0x0, 0x0, 0x0, 0⟩,
  ⟨0x1078, 1, 0, 1, 0, 0x0, 0x0, 0x0, 0x0, 0x0, 0x0, 0x0, 0x0, 2⟩,
  ⟨0x107c, 1, 0, 1, 0, 0x0, 0x0, 0x0, 0x0, 0x0, 0x0, 0x0, 0x0, 0⟩,
  ⟨0x1080, 1, 0, 1, 0, 0x0, 0x0, 0x0, 0x0, 0x0, 0x0, 0x0, 0x0, 0⟩,
  ⟨0x1084, 4, 4, 1, 0, 0x0, 0x0, 0x0, 0x0, 0x0, 0x0, 0x0, 0x0, 0⟩,
  ⟨0x1094, 1, 0, 1, 0, 0x0, 0xffffffff, 0x0, 0x0, 0x0, 0x0, 0x0, 0x0, 0⟩]
def regRowsPhu : List RegRow := [
  ⟨0xc0000, 1, 0, 1, 0, 0x1, 0x1, 0x0, 0x0, 0x0, 0x0, 0x0, 0x0, 0⟩,
  ⟨0xc0004, 1, 0, 1, 0, 0x0, 0x0, 0x0, 0x0, 0xc0, 0x0, 0x0, 0x0, 0⟩,
  ⟨0xc0008, 1, 0, 1, 0, 0xc80, 0x1fff, 0x0, 0x1fff, 0x0, 0x0, 0x0, 0x0, 0⟩,
  ⟨0xc000c, 1, 0, 1, 0, 0xaf0, 0x1fff, 0x0, 0x1fff, 0x0, 0x0, 0x0, 0x0, 0⟩,
  ⟨0xc0010, 1, 0, 1, 0, 0xd48, 0x1fff, 0x0, 0x1fff, 0x0, 0x0, 0x0, 0x0, 0⟩,
  ⟨0xc0014, 1, 0, 1, 0, 0x3c, 0x3ff, 0x0, 0x0, 0x0, 0x0, 0x0, 0x0, 0⟩,
  ⟨0xc0018, 1, 0, 1, 0, 0x0, 0x0, 0x0, 0x0, 0x0, 0x0, 0x0, 0x0, 0⟩,
  ⟨0xc001c, 1, 0, 1, 0, 0x0, 0x0, 0x0, 0x0, 0x0, 0x0, 0x0, 0x0, 0⟩,
  ⟨0xc0020, 1, 0, 1, 0, 0x0, 0x0, 0x0, 0x0, 0x0, 0x0, 0x0, 0x0, 0⟩,
  ⟨0xc0024, 1, 0, 1, 0, 0x5dc, 0x0, 0x0, 0x0, 0x0, 0x0, 0x0, 0x0, 0⟩,
  ⟨0xc0028, 1, 0, 1, 0, 0x3e8, 0xffff, 0x0, 0x0, 0x0, 0x0, 0x0, 0x0, 0⟩,
  ⟨0xc002c, 1, 0, 1, 0, 0x0, 0x0, 0x0, 0x0, 0x0, 0x0, 0x0, 0x0, 2⟩,
  ⟨0xc0030, 1, 0, 1, 0, 0x0, 0x0, 0x0, 0x0, 0x0, 0x0, 0x0, 0x0, 0⟩,
  ⟨0xc0034, 1, 0, 1, 0, 0x0, 0x0, 0x0, 0x0, 0x0, 0x0, 0x0, 0x0, 0⟩,
  ⟨0xc0038, 1, 0, 1, 0, 0x0, 0x0, 0x0, 0x0, 0x0, 0x0, 0x0, 0x0, 0⟩,
  ⟨0xc003c, 1, 0, 1, 0, 0x0, 0x0, 0x0, 0x0, 0x0, 0x0, 0x0, 0x0, 0⟩,
  ⟨0xc0040, 1, 0, 1, 0, 0x0, 0x0, 0x0, 0x0, 0x0, 0x0, 0x0, 0x0, 2⟩,
  ⟨0xc0044, 1, 0, 1, 0, 0x0, 0x0, 0x0, 0x0, 0x0, 0x0, 0x0, 0x0, 0⟩,
  ⟨0xc0048, 1, 0, 1, 0, 0x0, 0x0, 0x0, 0x0, 0x0, 0x0, 0x0, 0x0, 0⟩,
  ⟨0xc004c, 1, 0, 1, 0, 0x0, 0xffffffff, 0x0, 0x0, 0x0, 0x0, 0x0, 0x0, 0⟩]

/-- The rows of the register region that holds byte address `a` (R520, R521), and no row outside the regions. -/
def regRows (a : Nat) : List RegRow :=
  if a < 0x100 then regRowsGlb
  else if 0x1000 ≤ a ∧ a < 0x1180 then regRowsHap
  else if 0x2000 ≤ a ∧ a < 0x2100 then regRowsTbu
  else if 0x3000 ≤ a ∧ a < 0x30C0 then regRowsRtc
  else if 0x10000 ≤ a ∧ a < 0x10100 then regRowsPen
  else if 0x11000 ≤ a ∧ a < 0x11800 then regRowsBob
  else if 0x20000 ≤ a ∧ a < 0x24000 then regRowsZon
  else if 0x30000 ≤ a ∧ a < 0x30200 then regRowsSme
  else if 0x40000 ≤ a ∧ a < 0x40100 then regRowsSea
  else if 0x41000 ≤ a ∧ a < 0x43000 then regRowsSeam
  else if 0x50000 ≤ a ∧ a < 0x50100 then regRowsDia
  else if 0x60000 ≤ a ∧ a < 0x60100 then regRowsCce
  else if 0x61000 ≤ a ∧ a < 0x63000 then regRowsLoop
  else if 0x64000 ≤ a ∧ a < 0x64800 then regRowsCoef
  else if 0x70000 ≤ a ∧ a < 0x70100 then regRowsMtr
  else if 0x71000 ≤ a ∧ a < 0x71700 then regRowsChan
  else if 0x80000 ≤ a ∧ a < 0x80280 then regRowsSru
  else if 0x90000 ≤ a ∧ a < 0x90180 then regRowsKst
  else if 0xA0000 ≤ a ∧ a < 0xA0080 then regRowsEvq
  else if 0xA1000 ≤ a ∧ a < 0xA1080 then regRowsJnl
  else if 0xB0000 ≤ a ∧ a < 0xB0100 then regRowsXlk
  else if 0xC0000 ≤ a ∧ a < 0xC00C0 then regRowsPhu
  else []

/-- Does byte address `a` name a word of the row. -/
def RegRow.holds (r : RegRow) (a : Nat) : Bool :=
  decide (r.base ≤ a) &&
    (let o := a - r.base
     let i := if r.n1 ≤ 1 then 0 else o / r.st1
     let p := if r.n1 ≤ 1 then o else o % r.st1
     decide (i < max r.n1 1) &&
       (if r.n2 ≤ 1 then p == 0 else (p % r.st2 == 0) && decide (p / r.st2 < r.n2)))

/-- The row of a register word, none at a reserved address. -/
def regRow (a : Nat) : Option RegRow := (regRows a).find? (·.holds a)

end Sys2Proof.Machine
end

