-- ==== Sys2Proof/Machine/ResetMem.lean ====
section
/-!
DEFINITION. Machine/ResetMem.lean: the map of the word store and what a word of it reads as before anything has written it.
Addresses below 0x1_0000_0000 are the host's (R520 to R523); those above hold memories the host cannot address: the curve
banks, the staging buffers, the flash images.
-/

namespace Sys2Proof.Machine

/-! R523: window bases. -/
def progBase : Nat := 0x01000000
def dataBase : Nat := 0x01080000
def curveWin : Nat := 0x010A0000
def nodeBase : Nat := 0x01100000
def radioBase : Nat := 0x01300000
def calBase : Nat := 0x01400000
def jnlBase : Nat := 0x02000000
def lopBase : Nat := 0x03000000

/-! Memories without a host address (R73, R87, R88, R131). -/
def curveBase : Nat := 0x100000000
def penStage : Nat := 0x110000000
def calStage : Nat := 0x120000000
def seaStage : Nat := 0x130000000
def sruStage : Nat := 0x140000000
def fwStage : Nat := 0x150000000
def penFlash : Nat := 0x160000000
def calFlash : Nat := 0x170000000
def fwFlash : Nat := 0x180000000

/-- Program memory, bank `k`, index `p` (R73, R523). -/
def progAddr (k p : Nat) : Nat := progBase + k * 0x40000 + 4 * p

/-- Curve memory, bank `k`, curve `c`, point `p` (R76). -/
def curveAddr (k c p : Nat) : Nat := curveBase + k * 0x10000 + c * 256 + 4 * p

/-- Node table, slot index `i`, word `w` (R37, R523). -/
def nodeAddr (i w : Nat) : Nat := nodeBase + i * 32 + 4 * w

/-- Radio node table, entry `i`, word `w` (R361, R523). -/
def radioAddr (i w : Nat) : Nat := radioBase + i * 64 + 4 * w

/-- What an unwritten word of the node table reads as: zone 511 (R37), LDLY 15 and AGE 0xFFFF (R184). -/
def nodeReset (w : Nat) : Nat :=
  match w with
  | 0 => 511
  | 2 => 15
  | 7 => 0x0000FFFF
  | _ => 0

/-- What an unwritten word of the radio node table reads as: RLEN 31 (R361). -/
def radioReset (w : Nat) : Nat :=
  match w with
  | 2 => 0x1F000000
  | _ => 0

/-- R331, R359: SRU_SB of the FQS-6432-E as it ships: LOCH, HICH and PMAX of each sub-band; entries 5 to 7 read 0. -/
def sbShipped (j : Nat) : Nat := [0x0E0900, 0x0E180A, 0x0E1B19, 0x0E1E1D, 0x142020].getD j 0

/-- R331, R359: SRU_SBLIM of the FQS-6432-E as it ships: the duty ceilings, 0.001 %. -/
def sbLimShipped (j : Nat) : Nat := [100, 1000, 1000, 100, 10000].getD j 0

/-- What a register word reads as after a cold start (R14): its Reset column, MEMBERS of zone 511 (R59, R60), and the sub-band table
(R331). -/
def regReset (a : Nat) : Nat :=
  if a = Reg.ZON_STAT 511 then 4096
  else if 0x80080 ≤ a ∧ a < 0x800A0 ∧ a % 4 = 0 then sbShipped ((a - 0x80080) / 4)
  else if 0x800C0 ≤ a ∧ a < 0x800E0 ∧ a % 4 = 0 then sbLimShipped ((a - 0x800C0) / 4)
  else
  match regRow a with
  | some r => r.reset
  | none => 0

/-- What word `a` of the store reads as before anything has written it.  Program memory before its first PATLOAD reads as the
fill word of R83 (assumption log 4); every other memory reads 0. -/
def resetWord (a : Nat) : Word :=
  if a < progBase then BitVec.ofNat 32 (regReset a)
  else if a < dataBase then 0xFFFFFFFF#32
  else if nodeBase ≤ a ∧ a < nodeBase + 0x20000 then BitVec.ofNat 32 (nodeReset ((a - nodeBase) % 32 / 4))
  else if radioBase ≤ a ∧ a < radioBase + 0x10000 then BitVec.ofNat 32 (radioReset ((a - radioBase) % 64 / 4))
  else 0#32

/-! Fields of the node table (R37, R184) and of the radio node table (R361). -/
namespace F
def NT_ZONE (i : Nat) : Fld := ⟨nodeAddr i 0, 0, 10⟩
def NT_NODEID (i : Nat) : Fld := ⟨nodeAddr i 1, 0, 32⟩
def NT_LDLY (i : Nat) : Fld := ⟨nodeAddr i 2, 0, 10⟩
def NT_CAP (i : Nat) : Fld := ⟨nodeAddr i 2, 16, 16⟩
def NT_POSA (i : Nat) : Fld := ⟨nodeAddr i 3, 0, 8⟩
def NT_POSB (i : Nat) : Fld := ⟨nodeAddr i 3, 8, 8⟩
def NT_STATE (i : Nat) : Fld := ⟨nodeAddr i 3, 16, 3⟩
def NT_RESMAX (i : Nat) : Fld := ⟨nodeAddr i 4, 0, 12⟩
def NT_FWVER (i : Nat) : Fld := ⟨nodeAddr i 4, 16, 16⟩
def NT_RET0 (i : Nat) : Fld := ⟨nodeAddr i 5, 0, 32⟩
def NT_RET1 (i : Nat) : Fld := ⟨nodeAddr i 6, 0, 32⟩
def NT_AGE (i : Nat) : Fld := ⟨nodeAddr i 7, 0, 16⟩
def NT_SCRCERR (i : Nat) : Fld := ⟨nodeAddr i 7, 16, 8⟩
def NT_MISMCNT (i : Nat) : Fld := ⟨nodeAddr i 7, 24, 8⟩
def RT_NODEID (i : Nat) : Fld := ⟨radioAddr i 0, 0, 32⟩
def RT_STATE (i : Nat) : Fld := ⟨radioAddr i 1, 0, 3⟩
def RT_RELAY (i : Nat) : Fld := ⟨radioAddr i 1, 3, 1⟩
def RT_DRIFT (i : Nat) : Fld := ⟨radioAddr i 1, 8, 8⟩
def RT_WADDR (i : Nat) : Fld := ⟨radioAddr i 1, 16, 16⟩
def RT_SLOT (i : Nat) : Fld := ⟨radioAddr i 2, 0, 18⟩
def RT_W (i : Nat) : Fld := ⟨radioAddr i 2, 18, 5⟩
def RT_RLEN (i : Nat) : Fld := ⟨radioAddr i 2, 24, 5⟩
def RT_GMAX (i : Nat) : Fld := ⟨radioAddr i 3, 0, 16⟩
def RT_MISS (i : Nat) : Fld := ⟨radioAddr i 3, 16, 8⟩
def RT_CALLS (i : Nat) : Fld := ⟨radioAddr i 3, 24, 8⟩
def RT_RXFC (i : Nat) : Fld := ⟨radioAddr i 4, 0, 32⟩
def RT_TXFC (i : Nat) : Fld := ⟨radioAddr i 5, 0, 32⟩
def RT_EPOCH (i : Nat) : Fld := ⟨radioAddr i 6, 0, 16⟩
def RT_RSSI (i : Nat) : Fld := ⟨radioAddr i 6, 16, 8⟩
def RT_MARGIN (i : Nat) : Fld := ⟨radioAddr i 6, 24, 8⟩
def RT_QMASK (i : Nat) : Fld := ⟨radioAddr i 7, 0, 16⟩
def RT_SYNC_S (i : Nat) : Fld := ⟨radioAddr i 8, 0, 32⟩
def RT_SYNC_NS (i : Nat) : Fld := ⟨radioAddr i 9, 0, 32⟩
def RT_LETS (i : Nat) : Fld := ⟨radioAddr i 10, 0, 16⟩
def RT_MISSES (i : Nat) : Fld := ⟨radioAddr i 10, 16, 16⟩
def RT_DWMOVE (i : Nat) : Fld := ⟨radioAddr i 11, 0, 16⟩
end F

end Sys2Proof.Machine
end

