-- ==== Sys2Proof/Machine/State.lean ====
section
/-!
DEFINITION. Machine/State.lean: the module's state as plain data.  Every register and memory the host can address is a word of
`State.mem` at its byte address (R520 to R523); state with no address of its own stands in the structures of Machine/Parts.lean.
A field's default value is its value after reset (R14).
-/

namespace Sys2Proof.Machine

/-! ## The module -/

/-- The whole state of one FQS-6432 module. -/
structure State where
  /-- R520 to R523: every register word and window word, and the internal memories of Machine/ResetMem.lean, sparse. -/
  mem : Sp Word := []
  /-- R78 to R80, R154: store addresses of words whose parity is bad. -/
  badPar : List Nat := []
  /-- R250: the time base, TAI nanoseconds (seconds × 10^9 + nanoseconds). -/
  ns : Nat := 0
  /-- R250: the time base's fraction of a nanosecond, in 2^-32 ns. -/
  frac : BitVec 32 := 0
  /-- R25: the last frame start whose steps were done. -/
  lastFrame : Option Nat := none
  /-- R61: the bobbins. -/
  bobs : Sp Bobbin := []
  pen : Pen := {}
  zon : Zon := {}
  /-- R120: the last accepted value of every sensor quantity, by source × 256 + quantity. -/
  sens : Sp (Option Reading) := []
  evq : Evq := {}
  sme : Sme := {}
  sea : Sea := {}
  dia : Dia := {}
  cce : Cce := {}
  tbu : Tbu := {}
  rtc : Rtc := {}
  mtr : Mtr := {}
  sru : Sru := {}
  kst : Kst := {}
  lop : Sp LopSlot := []
  xlk : Xlk := {}
  hap : Hap := {}
  phu : Phu := {}
  /-- R18: staged values of basted (RB) registers, by address. -/
  basted : Sp (Option Word) := []
  mode : PwrMode := .run
  /-- Messages sent, oldest first (what a cable or an antenna carries away). -/
  out : List OutMsg := []
  /-- Instants of rate-limited events. -/
  rates : Rates := []
  /-- R450: STATUS of the last host access. -/
  status : Nat := 0
  /-- R448: words the last host access returned. -/
  rdata : List Word := []
  /-- Counter of the free values used (assumption log 6; the model's own field). -/
  free : Nat := 0
  /-- The commands that are waiting, first in first out. -/
  pending : List Instr := []
deriving DecidableEq, Repr

/-- The module right after reset: every register at its Reset column value (R14), nothing pending. -/
def State.reset : State := {}

/-- Stops of the machine.  None of the module's commands stops it: every command is either carried out, or leaves the
state as the spec says a refused command does. -/
inductive Fault where
  /-- Raised by no command: kept so that the type is not empty. Safe. -/
  | unreachable
deriving DecidableEq, Repr

/-- Commands without a meaning. -/
inductive Refusal where
  /-- Raised by an arm of `exec` whose command has no meaning yet. Safe. -/
  | notModelled (mnemonic : String)
deriving DecidableEq, Repr

/-- What a meaning answers. -/
abbrev Res := Host.Outcome State Fault Refusal

end Sys2Proof.Machine
end

