-- ==== Sys2Proof/Machine/Ops.lean ====
section
/-!
DEFINITION. Machine/Ops.lean: the named operations over the word store, the registers, the time base and the module's state
codes that every family uses.
-/

namespace Sys2Proof.Machine

/-! ## Words and fields -/

/-- The word at byte address `a`. -/
def State.rd (s : State) (a : Nat) : Word := spGet resetWord s.mem a

/-- Write the word at byte address `a`. -/
def State.wr (s : State) (a : Nat) (w : Word) : State := { s with mem := spSet resetWord s.mem a w }

/-- A register field, unsigned. -/
def State.get (s : State) (f : Fld) : Nat := getBits (s.rd f.addr) f.lo f.width

/-- Write a register field; the value is taken modulo the field's width. -/
def State.put (s : State) (f : Fld) (v : Nat) : State := s.wr f.addr (putBits (s.rd f.addr) f.lo f.width v)

/-- A register field in two's complement. -/
def State.sget (s : State) (f : Fld) : Int := toSigned f.width (s.get f)

/-- Write a register field in two's complement. -/
def State.sput (s : State) (f : Fld) (v : Int) : State := s.put f (ofSigned f.width v)

/-- A one-bit field as a truth value. -/
def State.flag (s : State) (f : Fld) : Bool := s.get f == 1

/-- Write a one-bit field. -/
def State.setFlag (s : State) (f : Fld) (b : Bool) : State := s.put f (if b then 1 else 0)

/-- Count one more, modulo the field's width (R17, SUM). -/
def State.inc (s : State) (f : Fld) : State := s.put f (s.get f + 1)

/-- Count `n` more in a field that saturates. -/
def State.incSat (s : State) (f : Fld) (n : Nat := 1) : State := s.put f (min (s.get f + n) (2 ^ f.width - 1))

/-- Write consecutive words from byte address `a`. -/
def State.wrs (s : State) (a : Nat) : List Word → State
  | [] => s
  | w :: ws => (s.wr a w).wrs (a + 4) ws

/-- Read `n` consecutive words from byte address `a`. -/
def State.rds (s : State) (a : Nat) : Nat → List Word
  | 0 => []
  | n + 1 => s.rd a :: s.rds (a + 4) n

/-- Byte `k` of the memory at `a`, words held most significant byte first (the staging buffers and the flash images). -/
def State.rdByte (s : State) (a k : Nat) : Nat := getBits (s.rd (a + k / 4 * 4)) (24 - 8 * (k % 4)) 8

/-- A big-endian number of `n` bytes at byte `k` of the memory at `a`. -/
def State.rdBE (s : State) (a k : Nat) : Nat → Nat
  | 0 => 0
  | n + 1 => s.rdBE a k n * 256 + s.rdByte a (k + n)

/-- The bytes `k` to `k + n − 1` of the memory at `a`. -/
def State.rdBytes (s : State) (a k : Nat) : Nat → List Nat
  | 0 => []
  | n + 1 => s.rdByte a k :: s.rdBytes a (k + 1) n

/-! ## Basted registers (R18, R454) -/

/-- The word `w` with the bits `mask` taken from `v`. -/
def maskIn (w : Word) (mask v : Nat) : Word :=
  (w &&& ~~~(BitVec.ofNat 32 mask)) ||| (BitVec.ofNat 32 v &&& BitVec.ofNat 32 mask)

/-- R463: the RB bits of the register at `a`. -/
def rbMask (a : Nat) : Nat := ((regRow a).map (·.rb)).getD 0

/-- The word that the next commit of a basted register gives: its RB bits as staged, the others as in effect. -/
def State.stagedWord (s : State) (a : Nat) : Word :=
  match spGet (fun _ => none) s.basted a with
  | some w => maskIn (s.rd a) (rbMask a) w.toNat
  | none => s.rd a

/-- Stage the bits `mask` of a basted register. -/
def State.stage (s : State) (a mask v : Nat) : State :=
  let w := maskIn (s.stagedWord a) mask v
  { s with basted := spSet (fun _ => none) s.basted a (some w) }

/-- A basted register takes its staged word. -/
def State.commitWord (s : State) (a : Nat) : State :=
  { s.wr a (s.stagedWord a) with basted := spSet (fun _ => none) s.basted a none }

/-- What is staged for a register is dropped. -/
def State.unstage (s : State) (a : Nat) : State := { s with basted := spSet (fun _ => none) s.basted a none }

/-! ## Parity (R78, R80, R154) -/

/-- Does the word at store address `a` fail its parity. -/
def State.parBad (s : State) (a : Nat) : Bool := s.badPar.contains a

/-- Rewriting a word rewrites its parity. -/
def State.parFix (s : State) (a : Nat) : State := { s with badPar := s.badPar.filter (· != a) }

/-! ## TAI times held in register pairs (R451) -/

/-- TAI ns from the three words S_LO, S_HI, NS at `a`, `a + 4`, `a + 8`. -/
def State.rdTime (s : State) (a : Nat) : Nat :=
  ((s.rd a).toNat + (s.rd (a + 4)).toNat % 65536 * 4294967296) * nsPerSec + (s.rd (a + 8)).toNat % 1073741824

/-- Write a TAI time to the three words S_LO, S_HI, NS. -/
def State.wrTime (s : State) (a t : Nat) : State :=
  ((s.wr a (BitVec.ofNat 32 (t / nsPerSec))).wr (a + 4) (BitVec.ofNat 32 (t / nsPerSec / 4294967296 % 65536))).wr (a + 8)
    (BitVec.ofNat 32 (t % nsPerSec))

/-! ## Bobbins -/

/-- Bobbin `n`. -/
def State.bob (s : State) (n : Nat) : Bobbin := spGet (fun _ => {}) s.bobs n

/-- Replace bobbin `n`. -/
def State.setBob (s : State) (n : Nat) (b : Bobbin) : State := { s with bobs := spSet (fun _ => {}) s.bobs n b }

/-! ## Time and the frame grid -/

/-- The frame period in force, ns (R22, R186). -/
def State.framePeriod (s : State) : Nat := s.sea.fperUs * 1000

/-- The latest frame-grid instant that is not after `t` (R19: whole multiples of the frame period from the TAI second). -/
def State.gridAt (s : State) (t : Nat) : Nat := t - t % s.framePeriod

/-- R25: the next frame-grid instant whose steps have not been done. -/
def State.nextFrame (s : State) : Nat :=
  let g := s.gridAt s.ns
  match s.lastFrame with
  | some l => if l = g then g + s.framePeriod else g
  | none => if g = s.ns then g else g + s.framePeriod

/-- R25: a frame start has been reached whose steps are still to be done. -/
def State.frameDue (s : State) : Bool := decide (s.nextFrame ≤ s.ns)

/-- Is `t` an instant of the tick grid in force (R23). -/
def State.isTick (s : State) (t : Nat) : Bool := t % (s.pen.tickUs * 1000) == 0

/-! ## Module states and roles (R414, R470) -/

/-- The module is in RUN. -/
def State.inRun (s : State) : Bool := s.mode == .run

/-- The module is in RUN or QUIET, where the engines run (R93). -/
def State.inRunQuiet (s : State) : Bool := s.mode == .run || s.mode == .quiet

/-- R526: passes of a background scrub of `period` ns that have fallen due since the last release of reset. -/
def State.scrubsDue (s : State) (period : Nat) : Nat := (s.ns - s.phu.tr) / period

/-- R79, R155: the period of the scrubs of the program and curve banks and of the calibration records, 10 minutes. -/
def scrubPeriod : Nat := 600 * nsPerSec

/-- R413: SOLO or ACTIVE, the roles that act for the module or the pair. -/
def State.acts (s : State) : Bool := s.get F.GLB_ROLE_ROLE ≤ 1

/-- R413, R414: the module is ACTIVE and a standby has joined it. -/
def State.activePaired (s : State) : Bool := s.get F.GLB_ROLE_ROLE == 1 && s.xlk.joined

/-- R413: the module is a STANDBY. -/
def State.isStandby (s : State) : Bool := s.get F.GLB_ROLE_ROLE == 2

/-- R437: the internal switch and the PHYs run: in RUN and QUIET, and in HOLD. -/
def State.portsOn (s : State) : Bool := s.inRunQuiet || s.mode == .hold

/-- The module emits a message. -/
def State.emit (s : State) (m : OutMsg) : State := { s with out := s.out ++ [m] }

/-- R436, R465: the VLAN tag of the frames that the module sends: VID and PCP. -/
def State.vlanTag (s : State) : Option (Nat × Nat) :=
  if s.flag F.HAP_CTL_VLANEN then some (s.get F.HAP_CTL_VID, s.get F.HAP_CTL_PCP) else none

/-! ## Work over lists of units -/

/-- Apply `f` to 0, 1, …, n − 1 in ascending order. -/
def forUp {α : Type} (f : Nat → α → α) (n : Nat) (a : α) : α := (List.range n).foldl (fun a i => f i a) a

/-- Apply `f` to the listed units in order. -/
def forEach {α β : Type} (f : β → α → α) (l : List β) (a : α) : α := l.foldl (fun a i => f i a) a

/-! ## Host answers -/

/-- STATUS codes of R450. -/
def stOk : Nat := 0x00
def stIgnored : Nat := 0x01
def stWidth : Nat := 0x10
def stAlign : Nat := 0x11
def stAddr : Nat := 0x12
def stBusy : Nat := 0x13
def stAuth : Nat := 0x14
def stRole : Nat := 0x15
def stLocked : Nat := 0x16

/-- The access ends with STATUS `c`. -/
def State.answer (s : State) (c : Nat) : State := { s with status := c }

/-- A free value of the model (assumption log 6) and the state that has used it. -/
def State.takeFree (s : State) : State := { s with free := s.free + 1 }

end Sys2Proof.Machine
end

