-- ==== Sys2Proof/Machine/Events.lean ====
section
/-!
DEFINITION. Machine/Events.lean: raising an event (R387 to R402): the record, its number, the journal and the event queue.
-/

namespace Sys2Proof.Machine

/-! ## The record -/

/-- One byte of CRC-16, polynomial 0x1021, most significant bit first (R390). -/
def crc16Byte (crc : BitVec 16) (b : Nat) : BitVec 16 :=
  forUp (fun _ (c : BitVec 16) => if c.msb then (c <<< 1) ^^^ 0x1021#16 else c <<< 1) 8 (crc ^^^ (BitVec.ofNat 16 b <<< 8))

/-- CRC-16 of a byte string, initial value 0xFFFF (R390). -/
def crc16 (bs : List Nat) : BitVec 16 := bs.foldl crc16Byte 0xFFFF#16

/-- The bytes of a word, most significant first. -/
def wordBytes (w : Word) : List Nat := [getBits w 24 8, getBits w 16 8, getBits w 8 8, getBits w 0 8]

/-- The words of a record. -/
def EvRec.words (r : EvRec) : List Word := [r.w0, r.w1, r.w2, r.w3, r.w4, r.w5, r.w6, r.w7]

/-- The record of eight words. -/
def EvRec.ofWords : List Word → EvRec
  | [a, b, c, d, e, f, g, h] => ⟨a, b, c, d, e, f, g, h⟩
  | _ => ⟨0, 0, 0, 0, 0, 0, 0, 0⟩

/-- R390: the CRC of a record, taken with w3 [31:16] as 0. -/
def EvRec.crcOf (r : EvRec) : BitVec 16 :=
  crc16 (({ r with w3 := putBits r.w3 16 16 0 } : EvRec).words.flatMap wordBytes)

/-- The record with its CRC in place. -/
def EvRec.sealed (r : EvRec) : EvRec := { r with w3 := putBits r.w3 16 16 r.crcOf.toNat }

/-- R390: the record's CRC is correct. -/
def EvRec.crcOk (r : EvRec) : Bool := getBits r.w3 16 16 == r.crcOf.toNat

/-- CODE of a record (R387). -/
def EvRec.code (r : EvRec) : Nat := getBits r.w0 16 12

/-- R387: the TAI time stamp of a record, ns. -/
def EvRec.time (r : EvRec) : Nat :=
  (r.w2.toNat + getBits r.w3 0 16 * 4294967296) * nsPerSec + getBits r.w4 0 30

/-- An event to be raised: its code, unit, payload, and, where a rule names them, its priority and its time stamp. -/
structure Ev where
  code : Nat
  unit : Nat := 0
  /-- The payload words that the rule names, from w(5 + skip) on. -/
  pay : List Nat := []
  /-- Payload words before the first that the rule names. -/
  skip : Nat := 0
  prio : Option Nat := none
  stamp : Option Nat := none
  /-- R389: a local record, whatever its code. -/
  loc : Bool := false

/-- R389, R489: the codes of local records, those a module raises from its own hardware or its own copy of a memory
(assumption log 9 lists them). -/
def isLocalCode (c : Nat) : Bool :=
  (c < 0x100 && c != 0x00C) || c / 256 == 0x8 || c / 256 == 0xA || c / 256 == 0xB || (c / 256 == 0xC && c != 0xC03) ||
  [0x104, 0x107, 0x109, 0x210, 0x211, 0x212, 0x213, 0x214, 0x218, 0x219, 0x301, 0x302, 0x30A, 0x30B, 0x30E, 0x311, 0x609,
   0x901, 0x902, 0x904, 0x906, 0x907, 0x908, 0x914, 0x915, 0x917, 0x918].contains c

/-- R392: the reset priority of a code. -/
def defaultPrio (c : Nat) : Nat :=
  if c < 0x100 ∨ c / 256 = 0xA then 3 else if c / 256 = 2 ∨ c / 256 = 4 then 2 else 1

/-- R392: the codes whose NOQ is fixed at 1. -/
def noqFixed (c : Nat) : Bool := (decide (0x610 ≤ c) && decide (c ≤ 0x615)) || c == 0xC01

/-- R392: priority of a code in effect. -/
def State.prioOf (s : State) (c : Nat) : Nat := spGet defaultPrio s.evq.prio c

/-- R392: NOQ of a code in effect. -/
def State.noqOf (s : State) (c : Nat) : Bool :=
  noqFixed c || spGet (fun _ => false) s.evq.noq c

/-- R387: payload word w5 + k of an event; one that the raising rule does not name is a free value (assumption log 8). -/
def Ev.payload (e : Ev) (seq k : Nat) : Word :=
  match (if k < e.skip then none else e.pay[k - e.skip]?) with
  | some v => BitVec.ofNat 32 v
  | none => Config.freePayload e.code k seq

/-- R387 to R390: the record of an event, with number `seq` and LOCAL bit `loc`. -/
def mkRec (s : State) (e : Ev) (loc : Bool) (seq : Nat) : EvRec :=
  let t := e.stamp.getD s.ns
  let prio := e.prio.getD (s.prioOf e.code)
  EvRec.sealed
    { w0 := BitVec.ofNat 32 (0x80000000 + prio % 4 * 0x20000000 + (if loc then 0x10000000 else 0) + e.code % 4096 * 65536 +
              e.code % 4096 / 256 * 4096 + e.unit % 4096)
      w1 := BitVec.ofNat 32 seq
      w2 := BitVec.ofNat 32 (t / nsPerSec)
      w3 := BitVec.ofNat 32 (t / nsPerSec / 4294967296 % 65536)
      w4 := BitVec.ofNat 32 (t % nsPerSec)
      w5 := e.payload seq 0
      w6 := e.payload seq 1
      w7 := e.payload seq 2 }

/-! ## The journal (R399 to R402) -/

/-- Records of the ring. -/
def jnlSize : Nat := 262144

/-- R399: store address of the record with absolute number `n`. -/
def jnlAddr (n : Nat) : Nat := jnlBase + n % jnlSize * 32

/-- R402: marks whose record is the one that journal record `n` overwrites. -/
def State.marksLost (s : State) (n : Nat) : List Nat :=
  (List.range 8).filter fun m =>
    bit (s.get F.JNL_MSTAT_VALID) m && !bit (s.get F.JNL_MSTAT_LOST) m &&
      s.get (F.JNL_MARK_NUM m) == (n + 4294967296 - jnlSize) % 4294967296

/-- R402: marks `m` become LOST. -/
def State.loseMark (s : State) (m : Nat) : State :=
  (s.put F.JNL_MSTAT_LOST (setBit (s.get F.JNL_MSTAT_LOST) m true)).setFlag F.JNL_STAT_MARKLOST true

/-- R401, R411: record `n` is under repair no more: it has been rewritten or overwritten. -/
def State.badDone (s : State) (n : Nat) : State :=
  let l := s.evq.bad.filter (· != n)
  if l = s.evq.bad then s else { s.setFlag F.JNL_STAT_BAD (l != []) with evq := { s.evq with bad := l } }

/-- R399, R402: journal one record, and the events that losing marks raises. -/
def State.journal (s : State) (r : EvRec) : State × List Ev :=
  let n := s.get F.JNL_WPTR_NUM
  let full := s.get F.JNL_COUNT_RECS == jnlSize
  let lost := if full then s.marksLost n else []
  let s0 := if full then s.badDone ((n + 4294967296 - jnlSize) % 4294967296) else s
  let s1 := (s0.wrs (jnlAddr n) r.words).put F.JNL_WPTR_NUM (n + 1)
  let s2 := if full then s1.inc F.JNL_WRAPS_COUNT else s1.inc F.JNL_COUNT_RECS
  let s3 := if s2.get F.JNL_COUNT_RECS == jnlSize then s2.setFlag F.JNL_STAT_WRAPPED true else s2
  (lost.foldl State.loseMark s3, lost.map fun m => { code := 0xC03, unit := m, pay := [s.get (F.JNL_MARK_NUM m)] })

/-! ## The event queue (R393 to R398) -/

/-- R393: the queue is in priority mode. -/
def State.prioMode (s : State) : Bool := s.get F.EVQ_STAT_EMODE == 0

/-- The filling bank (priority mode) or the FIFO. -/
def State.filling (s : State) : List QRec :=
  if s.prioMode then (if s.get F.EVQ_STAT_DBANK == 0 then s.evq.bank1 else s.evq.bank0) else s.evq.fifo

/-- The draining bank; empty in FIFO mode. -/
def State.draining (s : State) : List QRec :=
  if s.prioMode then (if s.get F.EVQ_STAT_DBANK == 0 then s.evq.bank0 else s.evq.bank1) else []

/-- Replace the filling bank or the FIFO. -/
def State.setFilling (s : State) (l : List QRec) : State :=
  if s.prioMode then
    (if s.get F.EVQ_STAT_DBANK == 0 then { s with evq := { s.evq with bank1 := l } } else { s with evq := { s.evq with bank0 := l } })
  else { s with evq := { s.evq with fifo := l } }

/-- Replace the draining bank. -/
def State.setDraining (s : State) (l : List QRec) : State :=
  if s.get F.EVQ_STAT_DBANK == 0 then { s with evq := { s.evq with bank0 := l } } else { s with evq := { s.evq with bank1 := l } }

/-- R395, R397: records at which FULL is set and from which further records are not queued: 1,024 in a bank, 2,045 in the
FIFO. -/
def State.fullAt (s : State) : Nat := if s.prioMode then 1024 else 2045

/-- R395, R397: FULL follows the fill level. -/
def State.setFull (s : State) : State :=
  let full := decide (s.fullAt ≤ s.filling.length)
  if full == s.flag F.EVQ_STAT_FULL then s
  else { s.setFlag F.EVQ_STAT_FULL full with evq := { s.evq with fullNew := full } }

/-- R398: the watermark after an arrival: WMHIT, the time, PEAK, and the event it raises. -/
def State.watermark (s : State) (before : Nat) : State × List Ev :=
  let lvl := s.filling.length
  let wm := s.get F.EVQ_WM_LEVEL
  let s1 := if s.flag F.EVQ_WMSTAT_WMHIT then s.put F.EVQ_WMSTAT_PEAK (max (s.get F.EVQ_WMSTAT_PEAK) lvl) else s
  if wm != 0 && decide (before < wm) && decide (wm ≤ lvl) then
    let s2 := if s.flag F.EVQ_WMSTAT_WMHIT then s1
      else (s1.setFlag F.EVQ_WMSTAT_WMHIT true).put F.EVQ_WMSTAT_PEAK lvl
    (s2.wrTime Reg.EVQ_WMT_S_LO s.ns, [{ code := 0xC02 }])
  else (s1, [])

/-- An event of `code` and `unit` may be raised: none was raised in the last `gap` ns. -/
def State.rateOk (s : State) (code unit gap : Nat) : Bool :=
  s.rates.all fun r => !(r.1 == code && r.2.1 == unit && decide (s.ns < r.2.2 + gap))

/-- Note that a rate-limited event was raised. -/
def State.rateMark (s : State) (code unit : Nat) : State :=
  { s with rates := (code, unit, s.ns) :: s.rates.filter fun r => !(r.1 == code && r.2.1 == unit) }

/-- R395: the queue has no room: count, set OVERRUN, and journal EVQ_OVERRUN at the first loss, at most once per second. -/
def State.overrun (s : State) : State × List Ev :=
  let s1 := (s.inc F.EVQ_LOST_COUNT).setFlag F.EVQ_STAT_OVERRUN true
  if s.evq.fullNew && s.rateOk 0xC01 0 nsPerSec then
    ({ s1.rateMark 0xC01 0 with evq := { s1.evq with fullNew := false } }, [{ code := 0xC01 }])
  else ({ s1 with evq := { s1.evq with fullNew := false } }, [])

/-- R393 to R398: one record arrives at the event queue. -/
def State.enqueue (s : State) (q : QRec) : State × List Ev :=
  if s.fullAt ≤ s.filling.length then s.overrun
  else
    let before := s.filling.length
    let s1 := s.setFilling (s.filling ++ [{ q with arr := s.evq.arrived }])
    (({ s1 with evq := { s1.evq with arrived := s.evq.arrived + 1 } } : State).setFull).watermark before

/-! ## Raising -/

/-- R389: the next number of a record, and the state that has used it. -/
def State.number (s : State) (loc : Bool) : Nat × State :=
  if loc then
    (s.get F.GLB_ROLE_HALF * 2147483648 + s.get F.EVQ_LSEQ_SEQ, s.inc F.EVQ_LSEQ_SEQ)
  else (s.get F.EVQ_SEQ_SEQ, s.inc F.EVQ_SEQ_SEQ)

/-- The priority of the record of an event (R392). -/
def State.evPrio (s : State) (e : Ev) : Nat := e.prio.getD (s.prioOf e.code) % 4

/-- R512: a record of PRIO 3 lights the FAULT indicator. -/
def State.notePrio (s : State) (e : Ev) : State :=
  if s.evPrio e = 3 then { s with evq := { s.evq with prio3 := some s.ns } } else s

/-- R389, R414: a JOINING module that has no copied state yet; all that it raises is its own (assumption log 9). -/
def State.joinsAlone (s : State) : Bool := s.get F.GLB_ROLE_ROLE == 3 && !s.xlk.joinDone

/-- R389: the record of an event is a local one.  Outside a pair every record is shared. -/
def State.recLocal (s : State) (e : Ev) : Bool :=
  e.loc || s.joinsAlone || ((decide (2 ≤ s.get F.GLB_ROLE_ROLE) || s.activePaired) && isLocalCode e.code)

/-- R400: a local record of a module that takes the active module's journal goes to that module, and is the module's own care until it
has come back with the journal tail. -/
def State.relay (s : State) (r : EvRec) : State :=
  { s.emit (.relayRecord r) with evq := { s.evq with relayed := s.evq.relayed ++ [r] } }

/-- R389, R392, R400: one record is created, journalled (a standby's local record is relayed instead) and queued.  A standby raises no
shared record of its own, because the state copy carries it. -/
def State.raise1 (s : State) (e : Ev) : State × List Ev :=
  let loc := s.recLocal e
  if !loc && decide (2 ≤ s.get F.GLB_ROLE_ROLE) then (s, [])
  else
    let (seq, s1) := (s.notePrio e).number loc
    let r := mkRec s e loc seq
    let (s2, ev2) := if s.acts || s.joinsAlone then s1.journal r else (s1.relay r, [])
    if s.noqOf e.code then (s2, ev2)
    else
      let copy := if s.activePaired && !loc then some (s.get F.JNL_WPTR_NUM) else none
      let (s3, ev3) := s2.enqueue { record := r, prio := s.evPrio e, copy := copy }
      (s3, ev2 ++ ev3)

/-- Raise a list of events in order; those that a record gives rise to follow it.  `fuel` bounds the records: at most eight
marks, one watermark and one overrun follow any record. -/
def raiseAll : Nat → List Ev → State → State
  | 0, _, s => s
  | _, [], s => s
  | fuel + 1, e :: es, s =>
    let (s1, more) := s.raise1 e
    raiseAll fuel (es ++ more) s1

/-- Raise one event. -/
def State.raiseEv (s : State) (e : Ev) : State := raiseAll 24 [e] s

/-- Raise event `code` of `unit` with the payload words `pay` from w5 on. -/
def State.raise (s : State) (code unit : Nat) (pay : List Nat := []) : State :=
  s.raiseEv { code := code, unit := unit, pay := pay }

/-- Raise an event whose rule names the payload words from w(5 + `skip`) on, at most once per second. -/
def State.raiseSkip (s : State) (code unit skip : Nat) (pay : List Nat) : State :=
  if s.rateOk code unit nsPerSec then (s.rateMark code unit).raiseEv { code := code, unit := unit, skip := skip, pay := pay } else s

/-- Raise an event at most once in `gap` ns for each key (most rules limit each unit; `key` is then the unit). -/
def State.raiseRated (s : State) (gap code unit : Nat) (pay : List Nat := []) (key : Nat := unit) : State :=
  if s.rateOk code key gap then (s.rateMark code key).raise code unit pay else s

end Sys2Proof.Machine
end

