-- ==== Sys2Proof/Machine/Gate.lean ====
section
/-!
DEFINITION. Machine/Gate.lean: what every host write passes before its own rule (R415, R450), the staging ports (R87), and
host access to pattern data memory (R75, R80).
-/

namespace Sys2Proof.Machine

/-- R415: the writes a STANDBY or JOINING module performs. -/
def standbyWritable (a v : Nat) : Bool :=
  (decide (0x90000 ≤ a) && decide (a < 0x90180)) || (decide (0xB0000 ≤ a) && decide (a < 0xB0100)) ||
  (decide (0xA0000 ≤ a) && decide (a < 0xA0080)) || (decide (0xA1000 ≤ a) && decide (a < 0xA1080)) ||
  (decide (Reg.HAP_PORT ≤ a) && decide (a ≤ Reg.HAP_IP6GW 3)) ||
  [Reg.GLB_ROLE, Reg.GLB_CMD, Reg.HAP_CTL, Reg.HAP_CMD,
   Reg.PEN_IMGPTR, Reg.PEN_IMGDAT, Reg.SEA_IMGPTR, Reg.SEA_IMGDAT, Reg.SRU_IMGPTR, Reg.SRU_IMGDAT].contains a ||
  ((List.range 8).any (fun n => a == Reg.LOP_CMD n) && [0x02, 0x05, 0x06, 0x07, 0x08, 0x09, 0x0A, 0xFE, 0xFF].contains (v % 256))

/-- R415: the module's role refuses the write. -/
def State.roleRefuses (s : State) (a v : Nat) : Bool := decide (2 ≤ s.get F.GLB_ROLE_ROLE) && !standbyWritable a v

/-! ## Voting (R15, R17, R18, R462) -/

/-- R462: the RWV fields of the word at `a`, each as a mask. -/
def rwvFields (a : Nat) : List Nat :=
  if a = Reg.GLB_ROLE then [3]
  else if a = Reg.GLB_RSTCTL then [0x1FFFF, 0x1000000]
  else if a = Reg.SME_PCAP ∨ (Reg.ZON_PCAP 0 ≤ a ∧ a ≤ Reg.ZON_PCAP 511 ∧ a % 32 = Reg.ZON_PCAP 0 % 32) then [0xFFFFFF]
  else if Reg.SEA_CTL 0 ≤ a ∧ a ≤ Reg.SEA_CTL 31 ∧ a % 256 = Reg.SEA_CTL 0 % 256 then [1, 2]
  else if a = Reg.RTC_CTL then [1, 2, 4]
  else if a = Reg.KST_CTL ∨ a = Reg.XLK_AUTH then [1]
  else if a = Reg.PHU_WARN ∨ a = Reg.PHU_SAVE ∨ a = Reg.PHU_RESUME then [0x1FFF]
  else []

/-- R15: the RWV fields of the word at `a` of which one copy disagrees. -/
def State.disagree (s : State) (a : Nat) : List Nat := (rwvFields a).filter fun m => spGet (fun _ => 0) s.phu.odd a &&& m != 0

/-- R15, R18: the copies of the word at `a` are voted: a field that disagrees is corrected and counted. -/
def State.vote (s : State) (a : Nat) : State :=
  forEach (fun _ t => t.incSat F.GLB_VSCRUB_COUNT) (s.disagree a) { s with phu := { s.phu with odd := spSet (fun _ => 0) s.phu.odd a 0 } }

/-- R15: every cycle, every field is voted. -/
def State.voteAll (s : State) : State := forEach (fun a t => t.vote a) (s.phu.odd.map (·.1)) s

/-- R17 (HWWIN), R18: what a write of `v` at `a` writes: a field that the vote corrects in the same cycle keeps its voted value. -/
def State.voteIn (s : State) (a v : Nat) : Nat := (s.disagree a).foldl (fun v m => (maskIn (BitVec.ofNat 32 v) m (s.rd a).toNat).toNat) v

/-! ## Roles and gates -/

/-- R269, R415: a write that the role refuses; SET and SLEW of a standby are refusals of the time base too (assumption log 52). -/
def State.roleAnswer (s : State) (a v : Nat) : State :=
  (if a = Reg.TBU_CMD ∧ s.isStandby ∧ (bit v 1 ∨ bit v 2) then (s.setFlag F.TBU_STAT_REFUSED true).raiseRated nsPerSec 0x906 0 else s).answer stRole

/-- A host write of `v` at address `a` whose own rule is `op`.  In HOLD and KEEP the module performs no host access (R472). -/
def State.hostWr (s : State) (a v : Nat) (op : State → State) : State :=
  if !s.inRunQuiet then s else if s.roleRefuses a v then s.roleAnswer a v else op s

/-- A long operation of code `c` is RUNNING or PAUSED in some slot (R403, R404). -/
def State.lopRunning (s : State) (c : Nat) : Bool :=
  (List.range 8).any fun n =>
    s.get (F.LOP_STAT_CODE n) == c && (s.get (F.LOP_STAT_STATE n) == 1 || s.get (F.LOP_STAT_STATE n) == 2)

/-- R87: a host write of a staging pointer whose buffer is `limit` bytes. -/
def State.stagePtr (s : State) (f : Fld) (limit v : Nat) : State :=
  (if limit < v % 2 ^ f.width then s else s.put f (v % 2 ^ f.width / 4 * 4)).answer stOk

/-- R87: a host write of a staging data port: the word is stored at the pointer, which advances by 4. -/
def State.stageDat (s : State) (f : Fld) (base limit : Nat) (busy : Bool) (v : Word) : State :=
  if busy || decide (limit ≤ s.get f) then s.answer stBusy
  else ((s.wr (base + s.get f) v).put f (s.get f + 4)).answer stOk

end Sys2Proof.Machine
end

