-- ==== Sys2Proof/Machine/Dia.lean ====
section
/-!
DEFINITION. Machine/Dia.lean: lamp diagnostics (chapter 7, R207 to R222).
-/

namespace Sys2Proof.Machine

/-- A channel no report has changed. -/
def noChan : Chan := {}

/-- The record of channel `k` of slot `i`. -/
def State.chan (s : State) (i k : Nat) : Chan := spGet (fun _ => noChan) s.dia.chans (i * 8 + k)

/-- Replace the record of channel `k` of slot `i`. -/
def State.setChan (s : State) (i k : Nat) (c : Chan) : State :=
  { s with dia := { s.dia with chans := spSet (fun _ => noChan) s.dia.chans (i * 8 + k) c } }

/-- R207: OPEN, SHORT and OVERTEMP are failed. -/
def ChState.failed : ChState → Bool
  | .open_ | .short | .overtemp => true
  | _ => false

/-- R208: the state a report of value `v` names, none for 5 to 7 or other bits set. -/
def ChState.ofReport (v : Nat) : Option ChState :=
  match v with
  | 0 => some .ok
  | 1 => some .open_
  | 2 => some .short
  | 3 => some .overtemp
  | 4 => some .unverified
  | _ => none

/-- A calibration record byte in use: record `i`, byte `b` (R127, R523). -/
def State.calByte (s : State) (i b : Nat) : Nat := s.rdByte (calBase + i * 512) b

/-- The mixing engine's state of luminaire `i`. -/
def State.lum (s : State) (i : Nat) : Lum := spGet (fun _ => {}) s.sme.lums i

/-- Replace the mixing engine's state of luminaire `i`. -/
def State.setLum (s : State) (i : Nat) (l : Lum) : State :=
  { s with sme := { s.sme with lums := spSet (fun _ => {}) s.sme.lums i l } }

/-- R208: the fitted channels of slot `i`, a bit mask: FIT of its record, or by the capability word of the node (R179). -/
def State.fitted (s : State) (i : Nat) : Nat :=
  if (s.lum i).rec_ = .empty then 2 ^ (min 8 (s.get (F.NT_CAP i) / 256 % 16)) - 1 else s.calByte i 453

/-- R208: the channels of slot `i` outside the fitted set are OK, with no latch and no count. -/
def State.unfit (s : State) (i : Nat) : State :=
  forUp (fun k s => if bit (s.fitted i) k then s else s.setChan i k noChan) 8 s

/-- R186, R220: the frame period that was in force at the frame start `f`, ns. -/
def State.periodAt (s : State) (f : Nat) : Nat := if f < s.sea.fperFrom then s.sea.fperWas * 1000 else s.framePeriod

/-- R220: the frame index of a frame start. -/
def State.frameIndex (s : State) (f : Nat) : Nat := f / s.periodAt f % 4294967296

/-- R29, R220: the code that the last DRIVE frame of the slot's seam carried for channel `k` of slot `i`; 0 without one. -/
def State.sentCode (s : State) (i k : Nat) : Nat :=
  match (spGet (fun _ => {}) s.sea.seams (i / 128) : Seam).hist with
  | x :: _ => (spGet (fun _ => []) x.2 i).getD k 0
  | [] => 0

/-- R220: a LAMP event, at most 64 in a second; a further one is only counted. -/
def State.lampEvent (s : State) (code slot : Nat) (pay : List Nat) : State :=
  let rec_ := s.dia.recent.filter fun t => s.ns < t + nsPerSec
  if rec_.length < 64 then { s with dia := { s.dia with recent := s.ns :: rec_ } }.raise code slot pay
  else { (s.incSat F.DIA_SUPP_COUNT).setFlag F.DIA_STAT_SUPP true with dia := { s.dia with recent := rec_ } }

/-- R208, R220: record the new state of a channel and raise its event. -/
def State.recordState (s : State) (i k frame : Nat) (new : ChState) : State :=
  let c := s.chan i k
  let s1 := s.setChan i k { c with st := new }
  if c.st = new then s1
  else
    let s2 := s1.wrTime Reg.DIA_LAST_S_LO s.ns
    let pay := [i + k * 4096 + new.code * 65536 + c.st.code * 1048576, frame, s.sentCode i k]
    match new with
    | .open_ => s2.lampEvent 0x401 i pay
    | .short => s2.lampEvent 0x402 i pay
    | .overtemp => s2.lampEvent 0x403 i pay
    | _ => if c.st.failed then s2.lampEvent 0x404 i pay else s2

/-- R211: one hour, the window in which transitions are counted. -/
def flapWindow : Nat := 3600 * nsPerSec

/-- R208, R211, R216: a state report of channel `k` of slot `i` with value `v`, in the frame of index `frame`. -/
def State.stateReport (s : State) (i k v frame : Nat) : State :=
  match ChState.ofReport v with
  | none => s
  | some new =>
    if !bit (s.fitted i) k then s
    else
      let c0 := s.chan i k
      let c := if new = .unverified then c0 else { c0 with vage := 0, aged := false }
      let s := s.setChan i k c
      if c.latched then s
      else if c.st.failed && !new.failed then
        let fl := s.ns :: c.flaps.filter fun t => s.ns < t + flapWindow
        let lim := s.get F.DIA_CTL_FLAPLIM
        let s1 := s.setChan i k { c with flaps := fl }
        if lim ≠ 0 ∧ lim ≤ fl.length then
          ((s1.setChan i k { c with flaps := fl, latched := true }).setFlag F.DIA_STAT_FLAP true).raise 0x406 i
            [i + k * 4096 + c.st.code * 65536 + new.code * 1048576, frame, fl.length]
        else s1.recordState i k frame new
      else s.recordState i k frame new

/-- R208: the FAULT bits of a valid return field are checked against the recorded states. -/
def State.faultCheck (s : State) (i bits : Nat) : State :=
  forUp (fun k s =>
    let c := s.chan i k
    if bit (s.fitted i) k && !c.latched then
      (if bit bits k != c.st.failed then
        s.setChan i k (if 2 ≤ c.dis + 1 then { c with dis := 0, req := true } else { c with dis := c.dis + 1 })
       else s.setChan i k { c with dis := 0 })
    else s) 8 s

/-- R211: CLR of one channel. -/
def Chan.clr (c : Chan) : Chan := { c with latched := false, flaps := [], aged := false }

/-- R222: CLR of the selected channel. -/
def State.diaClr (s : State) : State :=
  let i := s.get F.DIA_SEL_SLOT
  let k := s.get F.DIA_SEL_CH
  (s.setChan i k (s.chan i k).clr).answer stOk

/-- R222: CLRALL. -/
def State.diaClrAll (s : State) : State :=
  (forEach (fun (p : Nat × Chan) s => s.setChan (p.1 / 8) (p.1 % 8) p.2.clr) s.dia.chans s).answer stOk

def execDiaCmdClr (s : State) : Res := .next (s.hostWr Reg.DIA_CMD 1 (·.diaClr))

def execDiaCmdClrall (s : State) : Res := .next (s.hostWr Reg.DIA_CMD 2 (·.diaClrAll))

/-- R216: AGED and its event, once, when the age has reached DIA_UNVLIM. -/
def State.unvAged (s : State) (i k : Nat) : State :=
  let c := s.chan i k
  let lim := s.get F.DIA_UNVLIM_SEC
  if lim ≠ 0 ∧ c.st = .unverified ∧ c.aged = false ∧ lim * nsPerSec ≤ c.vage then
    ((s.setChan i k { c with aged := true }).setFlag F.DIA_STAT_AGED true).raise 0x405 i
      [i + k * 4096, c.vage / nsPerSec, s.sentCode i k]
  else s

def execLampUnverifiedAged (slot : BitVec 12) (ch : BitVec 3) (s : State) : Res := .next (s.unvAged slot.toNat ch.toNat)

/-- R212: the frame that starts at `f` carries a probe request for channel `k` of slot position `p` (0 to 127). -/
def State.probeDue (s : State) (f p k : Nat) : Bool :=
  s.flag F.DIA_CTL_PROBE && (((f / s.framePeriod : Nat) : Int) - (8 * p + k : Nat)) % (s.get F.DIA_PERIOD_FRAMES : Int) == 0

end Sys2Proof.Machine
end

