-- ==== Sys2Proof/Machine/Sense.lean ====
section
/-!
DEFINITION. Machine/Sense.lean: the sensor values and metering values a pattern or a loop can read (R120 to R123).
-/

namespace Sys2Proof.Machine

/-- Key of a sensor quantity: source × 256 + quantity (R121, R122). -/
def senseKey (src q : Nat) : Nat := src % 65536 * 256 + q % 256

/-- A sensor quantity of value `v` with time stamp `t` is accepted. -/
def State.noteSense (s : State) (src q v t : Nat) : State :=
  { s with sens := spSet (fun _ => none) s.sens (senseKey src q) (some ⟨BitVec.ofNat 32 v, t⟩) }

/-- R120: the source `src` holds another device than before, or none: it has no values. -/
def State.forgetSource (s : State) (src : Nat) : State := { s with sens := s.sens.filter fun p => p.1 / 256 != src % 65536 }

/-- R361: bit of a quantity in QMASK. -/
def qmaskBit (q : Nat) : Option Nat :=
  if q = 0x20 then some 0 else if 0x30 ≤ q ∧ q ≤ 0x37 then some (q - 0x2F) else if 0x40 ≤ q ∧ q ≤ 0x45 then some (q - 0x37) else none

/-- R120, R361: node `i` declares quantity `q`. -/
def State.declares (s : State) (i q : Nat) : Bool := match qmaskBit q with | some b => bit (s.get (F.RT_QMASK i)) b | none => false

/-- R122, R179: the node of slot `i` declares the quantity `q` of a return field by its capability word. -/
def State.slotDeclares (s : State) (i q : Nat) : Bool :=
  let cap := s.get (F.NT_CAP i)
  if 0x10 ≤ q ∧ q ≤ 0x17 then bit cap 3 else if q = 0x20 then bit cap 1 else if 0x30 ≤ q ∧ q ≤ 0x37 then bit cap 2 else true

/-- R120, R122: the quantity `q` of the source `src` is one that its node declares. -/
def State.hasQty (s : State) (src q : Nat) : Bool :=
  if src < 0x1000 then s.slotDeclares src q else if src < 0x2000 then s.declares (src - 0x1000) q else true

/-- R122, R137: the ageing factors of luminaire `i`, those of its fitted channels; one without a measurement since the last restart or
reset has the time stamp `t` (assumption log 59). -/
def State.ageValues (s : State) (t : Nat) (m : Sp (Option Reading)) (i : Nat) : Sp (Option Reading) :=
  let l := s.lum i
  if l.rec_ = .empty ∨ s.get (F.NT_NODEID i) = 0 then m
  else forUp (fun k m =>
    if bit (s.fitted i) k then
      spSet (fun _ => none) m (senseKey i (0x18 + k)) (some ⟨BitVec.ofNat 32 (l.age.toList.getD k 65536), (l.ageAt.toList.getD k none).getD t⟩)
    else m) 8 m

/-- R120 to R122: the values of the nodes and of the metering as of now, those of declared quantities, and the ageing factors. -/
def State.senseNow (s : State) : Sp (Option Reading) :=
  (s.sme.lums.map (·.1)).foldl (fun m i => s.ageValues s.ns m i) (s.sens.filter fun p => s.hasQty (p.1 / 256) (p.1 % 256))

/-- R120 to R122: every sensor value as of now: those received, and the module's own (class 0x3), with the present instant as their time
stamp (assumption log 59).  The die temperature is a reading whose value nothing fixes (assumption log 6). -/
def State.senseAll (s : State) : Sp (Option Reading) :=
  let own (q : Nat) (v : Word) (m : Sp (Option Reading)) := spSet (fun _ => none) m (senseKey 0x3000 q) (some ⟨v, s.ns⟩)
  own 0x60 (Config.freeWord s.free) (own 0x61 (BitVec.ofNat 32 (s.get F.SME_ESTPOST_W)) (own 0x62 (BitVec.ofNat 32 (s.get F.SME_PCAP_PCAP))
    (own 0x63 (BitVec.ofNat 32 (s.get F.PHU_VIN_RAIL * 10)) (own 0x64 (BitVec.ofNat 32 (s.get F.TBU_STAT_STATE)) s.senseNow))))

/-- R311: the three current channels that circuit `k` names, 0 for a phase not used. -/
def State.circChans (s : State) (k : Nat) : List Nat :=
  [s.get (F.MTR_KMAP_IL1 k), s.get (F.MTR_KMAP_IL2 k), s.get (F.MTR_KMAP_IL3 k)]

/-- R312: circuit `k` has channels mapped. -/
def State.circMapped (s : State) (k : Nat) : Bool := s.flag (F.MTR_KMAP_EN k) && (s.circChans k).any (· != 0)

/-- Metering energy units of one mWh: 3.6 × 10^9 W·ns, in 2^-90 W·ns / 8,000. -/
def mwhUnit : Nat := 3600000000 * 8000 * 2 ^ 90

/-- R309: accumulator `i` of circuit `k` in its unit (mWh, mvarh, mVAh, mmol). -/
def State.circAcc (s : State) (k i : Nat) : Nat :=
  let v := spGet (fun _ => 0) s.mtr.acc (k * 16 + i)
  if i = 9 then v / (16777216 * 1000000000 * 1000) else v / mwhUnit

/-- R123: the METER values of every circuit with channels mapped, by circuit × 16 + code.  A value of codes 0x00 to 0x06 is 0 before the
first cycle or interval since a restart has given one (assumption log 59). -/
def State.meterAll (s : State) : Sp (Option Word) :=
  (List.range 8).flatMap fun k =>
    if s.circMapped k then
      let v := (spGet (fun _ => {}) s.mtr.circs k : MCirc).vals
      let a (i : Nat) := s.circAcc k i
      ((List.range 7).map fun c => (k * 16 + c, some (v.getD c 0))) ++
        [(k * 16 + 7, some (BitVec.ofNat 32 (a 0))), (k * 16 + 8, some (BitVec.ofNat 32 (a 0 / 4294967296))),
         (k * 16 + 9, some (BitVec.ofNat 32 (a 1))), (k * 16 + 10, some (BitVec.ofNat 32 (a 1 / 4294967296)))]
    else []

end Sys2Proof.Machine
end

