-- ==== Sys2Proof/Machine/Flags.lean ====
section
/-!
DEFINITION. Machine/Flags.lean: results and flags of the bobbin instructions (R101 to R103, R109, R110, R114).
-/

namespace Sys2Proof.Machine

/-- R103: Z and N of a scalar result. -/
def Bobbin.setZN (b : Bobbin) (r : Word) : Bobbin := { b with fz := r == 0, fn := r.msb }

/-- R103: Z of a scalar result. -/
def Bobbin.setZ (b : Bobbin) (r : Word) : Bobbin := { b with fz := r == 0 }

/-- R109: carry out of bit 31 of a sum. -/
def addCarry (x y : Word) : Bool := decide (2 ^ 32 ≤ x.toNat + y.toNat)

/-- R109: signed overflow of a sum. -/
def addOverflow (x y : Word) : Bool :=
  decide (x.toInt + y.toInt < -2147483648) || decide (2147483647 < x.toInt + y.toInt)

/-- R109: C of a difference, x ≥ y unsigned. -/
def subCarry (x y : Word) : Bool := decide (y.toNat ≤ x.toNat)

/-- R109: signed overflow of a difference. -/
def subOverflow (x y : Word) : Bool :=
  decide (x.toInt - y.toInt < -2147483648) || decide (2147483647 < x.toInt - y.toInt)

/-- R109: Z N C V of a sum. -/
def Bobbin.addFlags (b : Bobbin) (x y : Word) : Bobbin :=
  { b.setZN (x + y) with fc := addCarry x y, fv := addOverflow x y }

/-- R109: Z N C V of a difference. -/
def Bobbin.subFlags (b : Bobbin) (x y : Word) : Bobbin :=
  { b.setZN (x - y) with fc := subCarry x y, fv := subOverflow x y }

/-- R109: V of a product, the signed product does not fit 32 bits. -/
def mulOverflow (x y : Word) : Bool :=
  decide (x.toInt * y.toInt < -2147483648) || decide (2147483647 < x.toInt * y.toInt)

/-- R109: the rounded Q16.16 product before saturation. -/
def mulqExact (x y : Word) : Int := (x.toInt * y.toInt + 32768) / 65536

/-- R109: the MULQ result, saturated. -/
def mulq (x y : Word) : Word := BitVec.ofInt 32 (clampInt (-2147483648) 2147483647 (mulqExact x y))

/-- R109: V of MULQ. -/
def mulqOverflow (x y : Word) : Bool :=
  decide (mulqExact x y < -2147483648) || decide (2147483647 < mulqExact x y)

/-- R110: C of a left shift by n, 1 ≤ n ≤ 31: Ga[32 − n]. -/
def shlCarry (x : Word) (n : Nat) : Bool := x.getLsbD (32 - n)

/-- R110: C of a right shift by n, 1 ≤ n ≤ 31: Ga[n − 1]. -/
def shrCarry (x : Word) (n : Nat) : Bool := x.getLsbD (n - 1)

/-- R102: sat16. -/
def sat16 (x : Int) : BitVec 16 := BitVec.ofInt 16 (clampInt 0 65535 x)

/-- Was a value limited by sat16. -/
def sat16Hit (x : Int) : Bool := decide (x < 0) || decide (65535 < x)

/-- The lane values of a vector register. -/
def VReg.lane (v : VReg) (i : Nat) : Int := ((v.toList.getD i 0).toNat : Int)

/-- A vector register whose lane i is `f i`. -/
def VReg.ofFn (f : Nat → BitVec 16) : VReg := Vector.ofFn fun i => f i.val

/-- All eight lanes are 0 (R103). -/
def VReg.isZero (v : VReg) : Bool := v.toList.all (· == 0)

/-- R103, R114: a vector result, its Z, and V = any lane limited. -/
def Bobbin.vecOut (b : Bobbin) (d : BitVec 3) (f : Nat → Int) : Bobbin :=
  let r : VReg := VReg.ofFn fun i => sat16 (f i)
  { b with v := b.v.set d.toNat r, fz := VReg.isZero r, fv := (List.range 8).any fun i => sat16Hit (f i) }

/-- R49, R116: the fraction p / q rounded to the nearest whole number, ties toward 0. -/
def roundTiesToZero (p : Int) (q : Nat) : Int :=
  let m := (2 * p.natAbs + q - 1) / (2 * q)
  if p < 0 then -(m : Int) else (m : Int)

end Sys2Proof.Machine
end

