-- ==== Sys2Proof/Machine/Operands.lean ====
section
/-!
DEFINITION. Machine/Operands.lean: the operand forms of the bobbin instructions (R98, R101, R104, R110): G and V registers,
immediates, shift amounts and data memory addresses.
-/

namespace Sys2Proof.Machine

/-- R61: read a G register; G0 reads 0. -/
def Bobbin.rg (b : Bobbin) (r : BitVec 4) : Word := if r = 0 then 0 else b.g[r.toNat]

/-- R61, R102: write a G register; a write to G0 has no effect. -/
def Bobbin.wg (b : Bobbin) (r : BitVec 4) (w : Word) : Bobbin := if r = 0 then b else { b with g := b.g.set r.toNat w }

/-- Read a V register. -/
def Bobbin.rv (b : Bobbin) (r : BitVec 3) : VReg := b.v[r.toNat]

/-- Write a V register. -/
def Bobbin.wv (b : Bobbin) (r : BitVec 3) (x : VReg) : Bobbin := { b with v := b.v.set r.toNat x }

/-- R102: an 18-bit immediate sign-extended to 32 bits. -/
def sext18 (i : BitVec 18) : Word := i.signExtend 32

/-- R110: the shift amount, Gb[4:0] or the immediate. -/
def Bobbin.shAmt (b : Bobbin) : ShAmt → Nat
  | .reg r => (b.rg r).toNat % 32
  | .imm k => k.toNat

/-- R104: the effective address before its low bits are cleared. -/
def Bobbin.ea (b : Bobbin) (a : BitVec 4) (off : BitVec 18) : Word := b.rg a + sext18 off

/-- R104: the byte address in data memory of an access of `width` bytes (4 or 16), none when it lies outside the window. -/
def Bobbin.dataAt (b : Bobbin) (a : BitVec 4) (off : BitVec 18) (width : Nat) : Option Nat :=
  let e := (b.ea a off).toNat / width * width
  if b.winSize * 256 < e + width then none else some (b.winBase * 256 + e)

/-- R105: the instruction index `off` instructions from the present one. -/
def Bobbin.pcRel (b : Bobbin) {w : Nat} (off : BitVec w) : BitVec 16 := b.pc + off.signExtend 16

/-- R100: does the condition of a branch hold; none for an illegal code. -/
def Bobbin.cond (b : Bobbin) (c : BitVec 4) : Option Bool :=
  match c.toNat with
  | 0 => some b.fz
  | 1 => some (!b.fz)
  | 2 => some (b.fn != b.fv)
  | 3 => some (b.fn == b.fv)
  | 4 => some (!b.fc)
  | 5 => some b.fc
  | 6 => some b.fn
  | 7 => some (!b.fn)
  | 8 => some true
  | _ => none

end Sys2Proof.Machine
end

