-- ==== Sys2Proof/Machine/Zones.lean ====
section
/-!
DEFINITION. Machine/Zones.lean: zones, their staged and committed targets, and the tick commit (chapter 2, R35 to R60).
-/

namespace Sys2Proof.Machine

/-- The unwritten staging entry of a zone. -/
def noStage : ZStage := {}

/-- R45: what is staged for zone `z`. -/
def State.zstage (s : State) (z : Nat) : ZStage := spGet (fun _ => noStage) s.zon.staged z

/-- Replace what is staged for zone `z`. -/
def State.setZstage (s : State) (z : Nat) (x : ZStage) : State :=
  { s with zon := { s.zon with staged := spSet (fun _ => noStage) s.zon.staged z x } }

/-- R43: the host owns zone `z`. -/
def State.hostOwns (s : State) (z : Nat) : Bool := s.flag (F.ZON_CTL_OWNER z)

/-- The two bands of ZON_TGTk as lanes. -/
def State.zband (s : State) (z b : Nat) : BitVec 16 :=
  if z = 511 then 0
  else BitVec.ofNat 16 (s.get (if b % 2 = 0 then F.ZON_TGT_BLO z (b / 2) else F.ZON_TGT_BHI z (b / 2)))

/-- R35, R41, R47: committed target of zone `z`. -/
def State.ztarget (s : State) (z : Nat) : VReg := VReg.ofFn fun b => s.zband z b

/-- Write the committed target of zone `z`. -/
def State.setZtarget (s : State) (z : Nat) (v : VReg) : State :=
  forUp (fun k s => s.wr (Reg.ZON_TGT z k) (BitVec.ofNat 32 ((v.lane (2 * k)).toNat + (v.lane (2 * k + 1)).toNat * 65536))) 4 s

/-- R45: stage all eight bands of zone `z`. -/
def State.stageBands (s : State) (z : Nat) (v : VReg) : State :=
  s.setZstage z { s.zstage z with bands := Vector.ofFn fun i => some (BitVec.ofNat 16 (v.lane i.val).toNat) }

/-- Stage the mode of zone `z`. -/
def State.stageMode (s : State) (z : Nat) (m : Bool) : State := s.setZstage z { s.zstage z with mode := some m }

/-- R43: a bobbin named a zone the host owns: the event, at most once per second per zone. -/
def State.ownerEvent (s : State) (z : Nat) : State := s.raiseRated nsPerSec 0x201 z

/-- R41, R43: ZSET acting on zone `z` (z ≤ 511). -/
def State.zset (s : State) (z : Nat) (v : VReg) : State :=
  if z = 511 then s else if s.hostOwns z then s.ownerEvent z else s.stageBands z v

/-- R41, R43: ZMODE acting on zone `z` (z ≤ 511). -/
def State.zmode (s : State) (z : Nat) (m : Bool) : State :=
  if z = 511 then s else if s.hostOwns z then s.ownerEvent z else s.stageMode z m

/-! ## The tick commit (R46) -/

/-- R46, R49: one zone's staged bands and mode become committed; its old target is the previous one. -/
def State.commitZone (s : State) (z : Nat) : State :=
  let st := s.zstage z
  let old := s.ztarget z
  let new : VReg := VReg.ofFn fun b => ((st.bands.toList.getD b none).getD (BitVec.ofNat 16 (old.lane b).toNat))
  let s1 := if z = 511 then s else s.setZtarget z new
  let s2 := match st.mode with | some m => s1.setFlag (F.ZON_CTL_MODE z) m | none => s1
  s2.setZstage z noStage

/-- R49: note the present targets as those of the previous commit, for the zones where a stage or a ramp can change them. -/
def State.notePrev (s : State) : State :=
  { s with zon := { s.zon with prev := s.zon.staged.map fun p => (p.1, s.ztarget p.1) } }

/-- R39, R57: one slot's staged zone takes effect, and MEMBERS of both zones follow. -/
def State.commitSlot (s : State) (i z : Nat) : State :=
  let old := s.get (F.NT_ZONE i)
  if old = z then s
  else ((s.put (F.NT_ZONE i) z).put (F.ZON_STAT_MEMBERS old) (s.get (F.ZON_STAT_MEMBERS old) - 1)).inc (F.ZON_STAT_MEMBERS z)

/-- R46: every staged band, mode and node zone becomes committed at the instant `c`. -/
def State.commitAll (s : State) (c : Nat) : State :=
  let s0 := s.notePrev
  let s1 := forEach (fun (p : Nat × ZStage) s => s.commitZone p.1) s0.zon.staged s0
  let s2 := forEach (fun (p : Nat × Option Nat) s => match p.2 with | some z => s.commitSlot p.1 z | none => s) s1.zon.node s1
  { s2 with zon := { s2.zon with node := [], commitAt := c, commitN := s2.pen.tickUs * 1000 / s2.framePeriod }
            pen := { s2.pen with lastCommit := some c } }

/-- R49: the target committed at the commit before the last one. -/
def State.zprev (s : State) (z : Nat) : VReg := spGet (fun z => s.ztarget z) s.zon.prev z

/-- R49, R51: index j of the frame that originates at `o`, in the commit in force. -/
def State.rampIndex (s : State) (o : Nat) : Nat := (o - s.framePeriod - s.zon.commitAt) / s.framePeriod

/-- R41, R48, R49: one band of the target of zone `z` for the frame that originates at `o`. -/
def State.frameBand (s : State) (z b o : Nat) : Nat :=
  let new := (s.ztarget z).lane b
  if z = 511 then 0
  else if s.flag (F.ZON_CTL_MODE z) then
    let old := (s.zprev z).lane b
    let n := s.zon.commitN
    let j := min (s.rampIndex o) (n - 1)
    (old + roundTiesToZero ((new - old) * (j + 1)) n).toNat
  else new.toNat

/-- R52: the solve input of band `b` before the clip at 0xFFFF. -/
def State.solveRaw (s : State) (z b o gain : Nat) : Nat := (s.frameBand z b o * gain + 0x2000) / 16384

/-! ## Host writes -/

/-- R43 to R45: a host write to ZON_TGTk[z]. -/
def State.zonTgtWrite (s : State) (z k v : Nat) : State :=
  if z = 511 then s.answer stIgnored
  else if !s.hostOwns z then s.answer stLocked
  else
    let st := s.zstage z
    let b1 := st.bands.toList.set (2 * k) (some (BitVec.ofNat 16 (v % 65536)))
    let b2 := b1.set (2 * k + 1) (some (BitVec.ofNat 16 (v / 65536 % 65536)))
    (s.setZstage z { st with bands := Vector.ofFn fun i => b2.getD i.val none }).answer stOk

/-- R44, R55: a host write of ZON_CTL[z]. -/
def State.zonCtlWrite (s : State) (z v : Nat) : State :=
  let own := bit v 1
  let changed := own != s.hostOwns z
  let s1 := s.setFlag (F.ZON_CTL_OWNER z) own
  let s2 := if changed then s1.setZstage z noStage else s1
  let s3 := if own then s2.stageMode z (bit v 0) else s2
  let s4 := if v / 4 % 4 = 3 then s3 else s3.put (F.ZON_CTL_REACT z) (v / 4 % 4)
  (s4.put (F.ZON_CTL_FCAP z) (v / 65536)).answer stOk

/-- R39, R40: a host write to word 0 of node table entry `i`. -/
def State.nodeZoneWrite (s : State) (i v : Nat) : State :=
  let z := v % 1024
  if 511 < z then
    (s.raise 0x202 (s.get (F.NT_ZONE i)) [i, z]).answer stOk
  else
    { s with zon := { s.zon with node := spSet (fun _ => none) s.zon.node i (some z) } }.answer stOk

end Sys2Proof.Machine
end

