-- ==== Sys2Proof/Machine/Bobbin.lean ====
section
/-!
DEFINITION. Machine/Bobbin.lean: issuing, retiring and faulting of bobbin instructions, groups, ticks and the swap
(chapter 3, R61 to R97).
-/

namespace Sys2Proof.Machine

/-- Why an instruction does not retire. -/
inductive NoRetire where
  /-- R81: the bobbin faults with the code. -/
  | fault (code : Nat)
  /-- R78: the word at the store address fails parity; the bobbin is parked for its repair. -/
  | park (addr : Nat)
deriving DecidableEq, Repr

/-- What the body of an instruction answers: the state after it, the bobbin's PC and wait included, or why it stopped. -/
abbrev Body := Except NoRetire State

/-! ## Groups (R68) -/

/-- R96: PEN_BDAT shows the registers as of the bobbin's last group end. -/
def Bobbin.show (b : Bobbin) : Bobbin := { b with gShow := b.g, vShow := b.v }

/-- R68: bobbin `n`'s group ends. -/
def State.endGroup (s : State) (n : Nat) : State :=
  let s1 := s.setBob n (s.bob n).show
  if s1.pen.cur = some n then { s1 with pen := { s1.pen with cur := none, grpLeft := 0 } } else s1

/-- R70: bobbin `n` has used its budget. -/
def State.exhaust (s : State) (n : Nat) : State :=
  ((s.setBob n { s.bob n with st := .preempted }).incSat (F.PEN_BOVR_OVR n)).raiseRated nsPerSec 0x102 n

/-- R68: one instruction of the group in service has been issued. -/
def State.groupStep (s : State) (n : Nat) : State :=
  if (s.bob n).st ≠ .runnable then s.endGroup n
  else if s.pen.cur = some n then
    (if s.pen.grpLeft ≤ 1 then s.endGroup n else { s with pen := { s.pen with grpLeft := s.pen.grpLeft - 1 } })
  else s.endGroup n

/-- R70, R106: the instruction of bobbin `n` retires after `cost` cycles. -/
def State.retire (s : State) (n cost : Nat) : State :=
  let b := { s.bob n with left := (s.bob n).left - 1, used := (s.bob n).used + 1 }
  let s1 := { s.setBob n b with pen := { s.pen with cyc := s.pen.cyc + cost } }
  let s2 := if b.st = .runnable ∧ b.left = 0 then s1.exhaust n else s1
  s2.groupStep n

/-- R81: bobbin `n` stops at the instruction `w`, which has had no effect. -/
def State.faultBob (s : State) (n code : Nat) (w : Word) : State :=
  let b := s.bob n
  let s1 := s.setBob n { b with st := .faulted, fcode := code, fpc := b.pc }
  ((s1.raise 0x101 n [n % 32 + code % 16 * 256, b.pc.toNat, w.toNat])).endGroup n

/-- R78: bobbin `n` is parked for the repair of the word at store address `a`. -/
def State.park (s : State) (n a : Nat) : State := (s.setBob n { s.bob n with parked := some a }).endGroup n

/-- R108, R417: the inputs frozen at the tick start in force are those of the acting module: on a STANDBY or JOINING module, the
state copy of that tick start or of a later frame start has been applied. -/
def State.snapReady (s : State) : Bool :=
  s.acts || (match s.pen.tickAt, s.xlk.applied with
    | some t, some a => decide (t ≤ a)
    | _, _ => false)

/-- R62, R67, R68, R78, R93: bobbin `n` is the one in service and may issue an instruction. -/
def State.canIssue (s : State) (n : Nat) : Bool :=
  s.inRunQuiet && s.snapReady && s.pen.cur == some n && (s.bob n).st == .runnable && (s.bob n).parked == none &&
    decide (0 < (s.bob n).left)

/-- R73: store address of the word at bobbin `n`'s PC, in the active bank. -/
def State.fetchAddr (s : State) (n : Nat) : Nat := progAddr (s.get F.PEN_STAT_ACTIVE) (s.bob n).pc.toNat

/-! ## Shapes of instruction bodies -/

/-- The next instruction index (R105). -/
def Bobbin.next (b : Bobbin) : Bobbin := { b with pc := b.pc + 1 }

/-- A body that changes only its own bobbin and goes on to the next instruction. -/
def bodyOn (n : Nat) (f : Bobbin → Bobbin) (s : State) : Body := .ok (s.setBob n (f (s.bob n)).next)

/-- A body that always stops with fault `c`. -/
def bodyFault (c : Nat) (_ : State) : Body := .error (.fault c)

/-! ## Group boundaries (R68, R72, R97) -/

/-- R91 step 3, R97: the bobbin is stopped and its registers, flags, signals and waits are cleared. -/
def Bobbin.clear (b : Bobbin) : Bobbin :=
  { b with g := Vector.replicate 16 0, v := Vector.replicate 8 (Vector.replicate 8 0), fz := false, fn := false, fc := false,
           fv := false, pend := 0, wmask := 0, waitK := 0, waitT := 0, waitAt := none, parked := none, st := .stopped }

/-- R62, R96, R97: STOP: the bobbin is STOPPED, whatever its state (a HALTED or FAULTED one too, assumption log 49), and no wait is
in progress any more. -/
def Bobbin.halt (b : Bobbin) : Bobbin := { b with st := .stopped, wmask := 0, waitK := 0, parked := none }

/-- R72: a WAITS bobbin with a matching pending bit becomes runnable, the matched bits cleared. -/
def State.wakeSig (s : State) (n : Nat) : State :=
  let b := s.bob n
  if b.st = .waits ∧ b.pend &&& b.wmask ≠ 0 then
    let s1 := s.setBob n { b with st := .runnable, pend := b.pend &&& ~~~b.wmask, wmask := 0 }
    if b.left = 0 then s1.exhaust n else s1
  else s

/-- R97: the controls of bobbin `n` that wait for a group boundary. -/
def State.bobControls (s : State) (n : Nat) : State :=
  let b := s.bob n
  let b1 := { b with prio := s.get (F.PEN_BCTL_PRIO n) }
  let b2 :=
    if b1.stopReq then { b1.halt with stopReq := false, startReq := false, startPend := false, cmdDone := true }
    else if b1.startReq then
      { b1.clear with pc := BitVec.ofNat 16 (s.get (F.PEN_BCTL_ENTRY n)), fcode := 0, startReq := false, startPend := true }
    else b1
  s.setBob n b2

/-- R68: the bobbin to be served next: the highest priority with a runnable bobbin that has budget left, round robin within it. -/
def State.pick (s : State) : Option Nat :=
  let ready (p n : Nat) : Bool :=
    (s.bob n).st == .runnable && (s.bob n).parked == none && decide (0 < (s.bob n).left) && (s.bob n).prio == p
  [3, 2, 1, 0].findSome? fun p =>
    ((List.range 32).map fun k => (s.pen.last.toList.getD p 31 + 1 + k) % 32).find? (ready p)

/-- R68: the bobbin in service cannot go on, or there is none: the engine is at a group boundary. -/
def State.atBoundary (s : State) : Bool :=
  match s.pen.cur with
  | some n => !((s.bob n).st == .runnable && (s.bob n).parked == none && decide (0 < (s.bob n).left))
  | none => true

/-- The group in service, if any, ends. -/
def State.endService (s : State) : State := match s.pen.cur with | some n => s.endGroup n | none => s

/-- R68, R93, R97: a group boundary: the group in service ends, pending controls act, signalled bobbins wake, and the next
bobbin is chosen. -/
def State.nextGroup (s : State) : State :=
  let s1 := s.endService
  let s2 := forUp (fun n s => s.bobControls n) 32 s1
  if s2.flag F.PEN_CTL_RUN && s2.inRunQuiet then
    let s3 := forUp (fun n s => s.wakeSig n) 32 s2
    match s3.pick with
    | some n =>
      let p := (s3.bob n).prio
      { s3 with pen := { s3.pen with cur := some n, grpLeft := 8,
                                     last := Vector.ofFn fun i => if i.val = p then n else s3.pen.last.toList.getD i.val 31 } }
    | none => s3
  else s2

/-- R68, R93: in RUN and QUIET a group boundary follows once the group in service is over; a group that can go on is not cut short. -/
def State.groupBoundary (s : State) : State := if s.inRunQuiet && s.atBoundary then s.nextGroup else s

/-! ## Issuing an instruction (R67, R68) -/

/-- R67, R78, R81, R106: bobbin `n` issues the instruction of word `w`: its body runs and it retires, or the bobbin is parked
or faults with nothing changed. -/
def State.issueNow (s : State) (n : Nat) (w : Word) (cost : Nat) (body : State → Body) : State :=
  if s.parBad (s.fetchAddr n) then s.park n (s.fetchAddr n)
  else
    match body s with
    | .ok t => t.retire n cost
    | .error (.fault c) => s.faultBob n c w
    | .error (.park a) => s.park n a

/-- R67, R68: the engine's next instruction is bobbin `n`'s, of word `w`.  With no bobbin in service a group boundary comes
first.  A bobbin that the engine does not serve is left as it is (assumption log 12). -/
def State.issue (s : State) (n : Nat) (w : Word) (cost : Nat) (body : State → Body) : State :=
  if s.canIssue n then s.issueNow n w cost body
  else if s.atBoundary && s.groupBoundary.canIssue n then s.groupBoundary.issueNow n w cost body
  else s

/-! ## Tick starts (R63 to R65) -/

/-- R63, R107, R118: the calendar in binary, from its BCD registers. -/
def State.civilNow (s : State) : Civil :=
  let bcd (v : Nat) : Nat := v / 16 * 10 + v % 16
  let y := bcd (s.get F.RTC_DATE_CENT) * 100 + bcd (s.get F.RTC_DATE_YEAR)
  let mo := bcd (s.get F.RTC_DATE_MONTH)
  let d := bcd (s.get F.RTC_DATE_DAY)
  let leap := y % 4 == 0 && (y % 100 != 0 || y % 400 == 0)
  let before := ([0, 31, 59, 90, 120, 151, 181, 212, 243, 273, 304, 334].getD (mo - 1) 0)
  { year := y, month := mo, day := d, dow := s.get F.RTC_TIME_DOW, hour := bcd (s.get F.RTC_TIME_HOUR),
    min := bcd (s.get F.RTC_TIME_MIN), sec := bcd (s.get F.RTC_TIME_SEC),
    doy := before + d + (if leap && decide (2 < mo) then 1 else 0),
    held := s.flag F.RTC_STAT_RANGEEND || s.flag F.RTC_STAT_LEAPHOLD }

/-- R63, R108: latch inputs and host signals at the tick start `t`.  On a STANDBY or JOINING module none of its own sensor and
metering values enters the snapshot: the state copy brings the acting module's.  ZGAIN's gains follow at step 3 of R25 (R107,
`State.latchGains`). -/
def State.latchInputs (s : State) (t : Nat) : State :=
  let s1 := { s with pen := { s.pen with snap :=
    { s.pen.snap with start := t, utcOff := s.sget F.TBU_UTCOFF_SEC, tickUs := s.pen.tickUs, civil := s.civilNow,
                      sens := if s.acts then s.senseAll else s.pen.snap.sens,
                      meter := if s.acts then s.meterAll else s.pen.snap.meter } } }.takeFree
  forUp (fun n s => s.setBob n { s.bob n with pend := (s.bob n).pend ||| (s.bob n).hostPend, hostPend := 0 }) 32 s1

/-- R64 steps 2 and 3: the wait of bobbin `n` is examined at the tick start `t`, once. -/
def State.releaseWaitK (s : State) (n t : Nat) : State :=
  let b := s.bob n
  if b.st = .waitk ∧ b.waitAt ≠ some t then
    (if b.waitK ≤ 1 then s.setBob n { b with st := .runnable, waitK := 0, waitAt := some t }
     else s.setBob n { b with waitK := b.waitK - 1, waitAt := some t })
  else s

/-- R64 step 3: WAITT ends at the first tick start at or after its target. -/
def State.releaseWaitT (s : State) (n t : Nat) : State :=
  let b := s.bob n
  if b.st = .waitt ∧ b.waitT ≤ t then s.setBob n { b with st := .runnable } else s

/-- R96: the instructions that bobbin `n` retired in the tick that ends. -/
def State.tickUsed (s : State) (n : Nat) : State :=
  (s.put (F.PEN_BUSED_USED n) (s.bob n).used).setBob n { s.bob n with used := 0 }

/-- R71, R96: the account of the tick that ends, for bobbin `n`. -/
def State.tickEnd (s : State) (n : Nat) : State :=
  let b := s.bob n
  let s1 := s.tickUsed n
  if b.st = .runnable ∧ s.flag F.PEN_CTL_RUN then
    (s1.incSat (F.PEN_BOVR_LATE n)).raiseRated nsPerSec 0x103 n (key := 0)
  else s1

/-- R64 steps 4 and 5, R74, R97: bobbin `n` at a tick start: PREEMPTED and START-pending bobbins become runnable, the budget is
refilled, an accepted window takes effect (a window accepted while RUN = 0 is held until the first tick start with RUN = 1,
assumption log 49). -/
def State.refill (s : State) (n : Nat) : State :=
  let b := s.bob n
  let bud := s.get (F.PEN_BBUDGET_BUDGET n)
  let b1 := { b with budget := bud, left := bud, winBase := s.get (F.PEN_BWIN_BASE n), winSize := s.get (F.PEN_BWIN_SIZE n) }
  let b2 := if b1.st = .preempted then { b1 with st := .runnable } else b1
  let b3 := if b2.startPend then { b2 with st := .runnable, startPend := false, cmdDone := true } else b2
  s.setBob n b3

/-- R64, R71, R93: the steps at the tick start `t`, done once for each tick start.  The group in service ends with nothing more of it
issued, and a START that waits for a group boundary goes on waiting for the next one after these steps (R97, assumption log 49). -/
def State.tickStart (s : State) (t : Nat) : State :=
  if s.pen.tickAt = some t then s
  else
    let s0 := s.endService
    let s1 := if s0.pen.fresh then s0 else forUp (fun n s => s.tickEnd n) 32 s0
    let s2 := { s1.put F.PEN_CYC_USED s1.pen.cyc with
                pen := { s1.pen with cyc := 0, tickAt := some t, fresh := false,
                                     ticks := if s1.pen.fresh then 0 else s1.pen.ticks + 1 } }
    let s3 := s2.latchInputs t
    if s3.flag F.PEN_CTL_RUN && s3.inRunQuiet then
      let s3r : State := { s3 with pen := { s3.pen with ranAt := some t } }
      let s4 := forUp (fun n s => s.releaseWaitK n t) 32 s3r
      let s5 := forUp (fun n s => s.releaseWaitT n t) 32 s4
      forUp (fun n s => s.refill n) 32 s5
    else s3

/-- R49, R65: an accepted tick takes effect at `t`, a commit of the old tick (one whose steps are still to be done) and a whole
multiple of the new one. -/
def State.tickChange (s : State) (t : Nat) : State :=
  let new := s.get F.PEN_TICK_TICK
  if new ≠ s.pen.tickUs ∧ s.isTick t ∧ t % (new * 1000) = 0 ∧ s.pen.tickAt ≠ some t then { s with pen := { s.pen with tickUs := new } } else s

/-! ## The hitless swap (R90, R91) -/

/-- R90: the armed swap takes place at the tick commit `t`. -/
def State.swapDue (s : State) (t : Nat) : Bool :=
  s.flag F.PEN_STAT_ARMED && s.isTick t && decide (s.rdTime Reg.PEN_SWAPAT_S_LO ≤ t) &&
    decide (s.pen.armAt + 2 * s.framePeriod ≤ t)

/-- R85, R91 steps 3 and 5: bobbin `n` as its entry of the bobbin table at store address `a` gives it.  A bobbin with START set is
RUNNABLE and has no budget before the next tick start with RUN = 1 (assumption log 49).  FCODE and FPC stay (R96). -/
def State.loadBobbin (s : State) (a n : Nat) : State :=
  let e := 64 + 16 * n
  let start := s.rdBE a e 1 % 2
  let pr := s.rdBE a (e + 1) 1
  let entry := s.rdBE a (e + 2) 2
  let bud := s.rdBE a (e + 4) 4
  let base := s.rdBE a (e + 8) 2
  let size := s.rdBE a (e + 10) 2
  let b := ({ s.bob n with stopReq := false, startReq := false, startPend := false } : Bobbin).clear
  let b1 := { b with pc := BitVec.ofNat 16 entry, prio := pr, budget := bud, winBase := base, winSize := size,
                     st := if start = 1 then .runnable else .stopped, used := 0, left := 0 }
  let s1 := ((((s.put (F.PEN_BCTL_PRIO n) pr).put (F.PEN_BCTL_ENTRY n) entry).put (F.PEN_BBUDGET_BUDGET n) bud).put
    (F.PEN_BWIN_BASE n) base).put (F.PEN_BWIN_SIZE n) size
  s1.setBob n b1

/-- R84, R91 step 4: the data-initialisation records of the image at store address `a`, from image byte `k`, `d` of them. -/
def State.applyInit (s : State) (a : Nat) : Nat → Nat → State
  | _, 0 => s
  | k, d + 1 =>
    let off := s.rdBE a k 4
    let len := s.rdBE a (k + 4) 4
    let s1 := forUp (fun j s => (s.wr (dataBase + off + 4 * j) (BitVec.ofNat 32 (s.rdBE a (k + 8 + 4 * j) 4))).parFix
      (dataBase + off + 4 * j)) (len / 4) s
    s1.applyInit a (k + 8 + len) d

/-- Store address of the flash image of bank `k` (R88). -/
def penFlashAt (k : Nat) : Nat := penFlash + k * 0x100000

/-- Image byte at which the data-initialisation records of the image at `a` begin (R84). -/
def State.initAt (s : State) (a : Nat) : Nat := 576 + 4 * s.rdBE a 8 4 + 256 * s.rdBE a 12 2

/-- Load the bobbin table and the data-initialisation records of the active image (R77, R91). -/
def State.startImage (s : State) : State :=
  let a := penFlashAt (s.get F.PEN_STAT_ACTIVE)
  let s1 := forUp (fun n s => s.loadBobbin a n) 32 s
  s1.applyInit a (s1.initAt a) (s1.rdBE a 14 2)

/-- Exchange the two images' identities and hashes (R91 step 2). -/
def State.swapIds (s : State) : State :=
  let a := s.rd Reg.PEN_AID
  let i := s.rd Reg.PEN_IID
  let s1 := (s.wr Reg.PEN_AID i).wr Reg.PEN_IID a
  forUp (fun k t => (t.wr (Reg.PEN_IHASH_A k) (s.rd (Reg.PEN_IHASH_I k))).wr (Reg.PEN_IHASH_I k) (s.rd (Reg.PEN_IHASH_A k))) 8 s1

/-- R91: the swap at the tick commit `t`, after the commit of R46.  The group in service ends (R64), and the tick that ends is accounted
(R96), without LATE: every bobbin is stopped, none goes on.  The now-idle bank is VERIFIED, whatever became of its image (assumption log 49). -/
def State.swapNow (s : State) (t : Nat) : State :=
  let old := s.get F.PEN_AID_ID
  let se := s.endService
  let s0 := if se.pen.fresh then se else forUp (fun n s => s.tickUsed n) 32 se
  let s1 := (s0.swapIds.put F.PEN_STAT_ACTIVE (1 - s.get F.PEN_STAT_ACTIVE)).put F.PEN_STAT_IDLEST 2
  let s2 := { s1 with pen := { s1.pen with cur := none, grpLeft := 0, last := Vector.replicate 4 31, fresh := true } }
  let s3 := s2.startImage
  let s4 := (s3.setFlag F.PEN_STAT_ARMED false).setFlag F.PEN_STAT_SWDONE true
  (s4.tickStart t).raise 0x105 0 [0, s4.get F.PEN_AID_ID, old]

/-- The hash of the idle image, PEN_IHASH_I0 to I7. -/
def State.idleHash (s : State) : List Word := s.rds (Reg.PEN_IHASH_I 0) 8

/-- R90 reason 3, R92: an ACTIVE module of a pair whose partner's idle image, as it was last told, differs from its own. -/
def State.partnerIdleDiffers (s : State) : Bool := s.activePaired && s.xlk.partIdle != s.idleHash

/-- R90: PEN_CMD.SWAP. -/
def State.penSwap (s : State) : State :=
  if s.flag F.PEN_STAT_ARMED then s.answer stOk
  else
    let refuse (r : Nat) := ((s.setFlag F.PEN_STAT_SWDONE false).raise 0x106 0 [r]).answer stOk
    if s.get F.PEN_STAT_IDLEST ≠ 2 then refuse 1
    else if s.lopRunning 0x02 then refuse 2
    else if s.partnerIdleDiffers then refuse 3
    else ({ s.setFlag F.PEN_STAT_ARMED true with pen := { s.pen with armAt := s.ns } }).answer stOk

/-- R90: PEN_CMD.DISARM. -/
def State.penDisarm (s : State) : State :=
  (if s.flag F.PEN_STAT_ARMED then (s.setFlag F.PEN_STAT_ARMED false).setFlag F.PEN_STAT_SWDONE false else s).answer stOk

end Sys2Proof.Machine
end

