-- ==== Sys2Proof/Machine/Isa.lean ====
section
/-!
DEFINITION. Machine/Isa.lean: the meaning of every bobbin instruction (chapter 4, R98 to R125).
-/

namespace Sys2Proof.Machine

/-! ## Integer instructions (R109, R110) -/

def execNop (n : BitVec 5) (s : State) : Res :=
  .next (s.issue n.toNat (bobbinWord (.nop n)) 1 (bodyOn n.toNat fun b => b))

def execAdd (n : BitVec 5) (d a b : BitVec 4) (s : State) : Res :=
  .next (s.issue n.toNat (bobbinWord (.add n d a b)) 1
    (bodyOn n.toNat fun x => (x.addFlags (x.rg a) (x.rg b)).wg d (x.rg a + x.rg b)))

def execSub (n : BitVec 5) (d a b : BitVec 4) (s : State) : Res :=
  .next (s.issue n.toNat (bobbinWord (.sub n d a b)) 1
    (bodyOn n.toNat fun x => (x.subFlags (x.rg a) (x.rg b)).wg d (x.rg a - x.rg b)))

def execMul (n : BitVec 5) (d a b : BitVec 4) (s : State) : Res :=
  .next (s.issue n.toNat (bobbinWord (.mul n d a b)) 2
    (bodyOn n.toNat fun x =>
      ({ x.setZN (x.rg a * x.rg b) with fv := mulOverflow (x.rg a) (x.rg b) } : Bobbin).wg d (x.rg a * x.rg b)))

def execAnd (n : BitVec 5) (d a b : BitVec 4) (s : State) : Res :=
  .next (s.issue n.toNat (bobbinWord (.and n d a b)) 1
    (bodyOn n.toNat fun x => (x.setZN (x.rg a &&& x.rg b)).wg d (x.rg a &&& x.rg b)))

def execOr (n : BitVec 5) (d a b : BitVec 4) (s : State) : Res :=
  .next (s.issue n.toNat (bobbinWord (.or n d a b)) 1
    (bodyOn n.toNat fun x => (x.setZN (x.rg a ||| x.rg b)).wg d (x.rg a ||| x.rg b)))

def execXor (n : BitVec 5) (d a b : BitVec 4) (s : State) : Res :=
  .next (s.issue n.toNat (bobbinWord (.xor n d a b)) 1
    (bodyOn n.toNat fun x => (x.setZN (x.rg a ^^^ x.rg b)).wg d (x.rg a ^^^ x.rg b)))

/-- R110: a shift with result `r`; C takes `c` unless the amount is 0. -/
def Bobbin.shifted (x : Bobbin) (d : BitVec 4) (k : Nat) (r : Word) (c : Bool) : Bobbin :=
  ({ x.setZN r with fc := if k = 0 then x.fc else c } : Bobbin).wg d r

def execShl (n : BitVec 5) (d a : BitVec 4) (k : ShAmt) (s : State) : Res :=
  .next (s.issue n.toNat (bobbinWord (.shl n d a k)) 1
    (bodyOn n.toNat fun x => x.shifted d (x.shAmt k) (x.rg a <<< x.shAmt k) (shlCarry (x.rg a) (x.shAmt k))))

def execShr (n : BitVec 5) (d a : BitVec 4) (k : ShAmt) (s : State) : Res :=
  .next (s.issue n.toNat (bobbinWord (.shr n d a k)) 1
    (bodyOn n.toNat fun x => x.shifted d (x.shAmt k) (x.rg a >>> x.shAmt k) (shrCarry (x.rg a) (x.shAmt k))))

def execSar (n : BitVec 5) (d a : BitVec 4) (k : ShAmt) (s : State) : Res :=
  .next (s.issue n.toNat (bobbinWord (.sar n d a k)) 1
    (bodyOn n.toNat fun x => x.shifted d (x.shAmt k) ((x.rg a).sshiftRight (x.shAmt k)) (shrCarry (x.rg a) (x.shAmt k))))

def execAddi (n : BitVec 5) (d a : BitVec 4) (imm : BitVec 18) (s : State) : Res :=
  .next (s.issue n.toNat (bobbinWord (.addi n d a imm)) 1
    (bodyOn n.toNat fun x => (x.addFlags (x.rg a) (sext18 imm)).wg d (x.rg a + sext18 imm)))

def execLdi (n : BitVec 5) (d : BitVec 4) (imm : BitVec 18) (s : State) : Res :=
  .next (s.issue n.toNat (bobbinWord (.ldi n d imm)) 1 (bodyOn n.toNat fun x => x.wg d (sext18 imm)))

def execLdh (n : BitVec 5) (d a : BitVec 4) (imm : BitVec 18) (s : State) : Res :=
  .next (s.issue n.toNat (bobbinWord (.ldh n d a imm)) 1
    (bodyOn n.toNat fun x => x.wg d (imm ++ (x.rg a).extractLsb' 0 14)))

def execCmp (n : BitVec 5) (a b : BitVec 4) (s : State) : Res :=
  .next (s.issue n.toNat (bobbinWord (.cmp n a b)) 1 (bodyOn n.toNat fun x => x.subFlags (x.rg a) (x.rg b)))

def execCmpi (n : BitVec 5) (a : BitVec 4) (imm : BitVec 18) (s : State) : Res :=
  .next (s.issue n.toNat (bobbinWord (.cmpi n a imm)) 1 (bodyOn n.toNat fun x => x.subFlags (x.rg a) (sext18 imm)))

/-- R109: the register form of MIN and MAX: the chosen operand, Z and N. -/
def Bobbin.choose (x : Bobbin) (d : BitVec 4) (r : Word) : Bobbin := (x.setZN r).wg d r

def execMin (n : BitVec 5) (d a b : BitVec 4) (s : State) : Res :=
  .next (s.issue n.toNat (bobbinWord (.min n d a b)) 1
    (bodyOn n.toNat fun x => x.choose d (if (x.rg b).toInt < (x.rg a).toInt then x.rg b else x.rg a)))

def execMinu (n : BitVec 5) (d a b : BitVec 4) (s : State) : Res :=
  .next (s.issue n.toNat (bobbinWord (.minu n d a b)) 1
    (bodyOn n.toNat fun x => x.choose d (if (x.rg b).toNat < (x.rg a).toNat then x.rg b else x.rg a)))

def execMax (n : BitVec 5) (d a b : BitVec 4) (s : State) : Res :=
  .next (s.issue n.toNat (bobbinWord (.max n d a b)) 1
    (bodyOn n.toNat fun x => x.choose d (if (x.rg a).toInt < (x.rg b).toInt then x.rg b else x.rg a)))

def execMaxu (n : BitVec 5) (d a b : BitVec 4) (s : State) : Res :=
  .next (s.issue n.toNat (bobbinWord (.maxu n d a b)) 1
    (bodyOn n.toNat fun x => x.choose d (if (x.rg a).toNat < (x.rg b).toNat then x.rg b else x.rg a)))

def execMulq (n : BitVec 5) (d a b : BitVec 4) (s : State) : Res :=
  .next (s.issue n.toNat (bobbinWord (.mulq n d a b)) 2
    (bodyOn n.toNat fun x =>
      ({ x.setZN (mulq (x.rg a) (x.rg b)) with fv := mulqOverflow (x.rg a) (x.rg b) } : Bobbin).wg d (mulq (x.rg a) (x.rg b))))

/-! ## Memory instructions (R104, R111, R112) -/

/-- A body that reads `width` bytes of data memory: fault 0x2 outside the window, fault 0x4 on bad parity (R80, R104). -/
def bodyLoad (n : Nat) (a : BitVec 4) (off : BitVec 18) (width : Nat) (f : Bobbin → List Word → Bobbin) (s : State) : Body :=
  match (s.bob n).dataAt a off width with
  | none => .error (.fault 2)
  | some p =>
    if (List.range (width / 4)).any fun k => s.parBad (dataBase + p + 4 * k) then .error (.fault 4)
    else bodyOn n (fun b => f b (s.rds (dataBase + p) (width / 4))) s

/-- A body that writes words to data memory and rewrites their parity (R80, R104). -/
def bodyStore (n : Nat) (a : BitVec 4) (off : BitVec 18) (width : Nat) (f : Bobbin → List Word) (s : State) : Body :=
  match (s.bob n).dataAt a off width with
  | none => .error (.fault 2)
  | some p =>
    let s1 := s.wrs (dataBase + p) (f (s.bob n))
    bodyOn n (fun b => b) (forUp (fun k s => s.parFix (dataBase + p + 4 * k)) (width / 4) s1)

/-- R112: lanes 2k and 2k + 1 of word k. -/
def vecOfWords (ws : List Word) : VReg :=
  VReg.ofFn fun i => BitVec.ofNat 16 (getBits (ws.getD (i / 2) 0) (16 * (i % 2)) 16)

/-- R112: the four words of a vector register. -/
def wordsOfVec (v : VReg) : List Word :=
  (List.range 4).map fun k => BitVec.ofNat 32 ((v.lane (2 * k)).toNat + (v.lane (2 * k + 1)).toNat * 65536)

def execLd (n : BitVec 5) (d a : BitVec 4) (off : BitVec 18) (s : State) : Res :=
  .next (s.issue n.toNat (bobbinWord (.ld n d a off)) 2 (bodyLoad n.toNat a off 4 fun b ws => b.wg d (ws.headD 0)))

def execSt (n : BitVec 5) (d a : BitVec 4) (off : BitVec 18) (s : State) : Res :=
  .next (s.issue n.toNat (bobbinWord (.st n d a off)) 2 (bodyStore n.toNat a off 4 fun b => [b.rg d]))

def execLdv (n : BitVec 5) (d : BitVec 3) (a : BitVec 4) (off : BitVec 18) (s : State) : Res :=
  .next (s.issue n.toNat (bobbinWord (.ldv n d a off)) 6 (bodyLoad n.toNat a off 16 fun b ws => b.wv d (vecOfWords ws)))

def execStv (n : BitVec 5) (d : BitVec 3) (a : BitVec 4) (off : BitVec 18) (s : State) : Res :=
  .next (s.issue n.toNat (bobbinWord (.stv n d a off)) 6 (bodyStore n.toNat a off 16 fun b => wordsOfVec (b.rv d)))

/-! ## Control flow (R105, R113) -/

/-- A body that sets the bobbin's PC itself. -/
def bodyJump (n : Nat) (f : Bobbin → Bobbin) (s : State) : Body := .ok (s.setBob n (f (s.bob n)))

/-- BR: an illegal condition faults; a condition that does not hold goes on. -/
def bodyBranch (n : Nat) (c : BitVec 4) (off : BitVec 22) (s : State) : Body :=
  match (s.bob n).cond c with
  | none => .error (.fault 1)
  | some t => bodyJump n (fun x => { x with pc := if t then x.pcRel off else x.pc + 1 }) s

def execBr (n : BitVec 5) (c : BitVec 4) (off : BitVec 22) (s : State) : Res :=
  .next (s.issue n.toNat (bobbinWord (.br n c off)) 1 (bodyBranch n.toNat c off))

def execJmp (n : BitVec 5) (t : BitVec 16) (s : State) : Res :=
  .next (s.issue n.toNat (bobbinWord (.jmp n t)) 1 (bodyJump n.toNat fun x => { x with pc := t }))

def execCall (n : BitVec 5) (t : BitVec 16) (s : State) : Res :=
  .next (s.issue n.toNat (bobbinWord (.call n t)) 1
    (bodyJump n.toNat fun x => { x.wg 15 ((x.pc + 1).zeroExtend 32) with pc := t }))

def execRet (n : BitVec 5) (a : BitVec 4) (s : State) : Res :=
  .next (s.issue n.toNat (bobbinWord (.ret n a)) 1 (bodyJump n.toNat fun x => { x with pc := (x.rg a).truncate 16 }))

/-- LOOP: d = 0 is illegal. -/
def bodyLoop (n : Nat) (d : BitVec 4) (off : BitVec 18) (s : State) : Body :=
  if d = 0 then .error (.fault 1)
  else bodyJump n (fun x =>
    { x.wg d (x.rg d - 1) with pc := if x.rg d - 1 = 0 then x.pc + 1 else x.pcRel off }) s

def execLoop (n : BitVec 5) (d : BitVec 4) (off : BitVec 18) (s : State) : Res :=
  .next (s.issue n.toNat (bobbinWord (.loop n d off)) 1 (bodyLoop n.toNat d off))

/-! ## Vector instructions (R114, R115) -/

def execVadd (n : BitVec 5) (d a b : BitVec 3) (s : State) : Res :=
  .next (s.issue n.toNat (bobbinWord (.vadd n d a b)) 1
    (bodyOn n.toNat fun x => x.vecOut d fun i => VReg.lane (x.rv a) i + VReg.lane (x.rv b) i))

def execVsub (n : BitVec 5) (d a b : BitVec 3) (s : State) : Res :=
  .next (s.issue n.toNat (bobbinWord (.vsub n d a b)) 1
    (bodyOn n.toNat fun x => x.vecOut d fun i => VReg.lane (x.rv a) i - VReg.lane (x.rv b) i))

def execVscl (n : BitVec 5) (d a : BitVec 3) (g : BitVec 4) (s : State) : Res :=
  .next (s.issue n.toNat (bobbinWord (.vscl n d a g)) 1
    (bodyOn n.toNat fun x => x.vecOut d fun i => (VReg.lane (x.rv a) i * (x.rg g).toInt + 32768) / 65536))

/-- R114: VMIX lane i. -/
def vmixLane (x : Bobbin) (a b : BitVec 3) (g : BitVec 4) (i : Nat) : Int :=
  VReg.lane (x.rv a) i +
    ((VReg.lane (x.rv b) i - VReg.lane (x.rv a) i) * clampInt 0 65536 (x.rg g).toInt + 32768) / 65536

def execVmix (n : BitVec 5) (d a b : BitVec 3) (g : BitVec 4) (s : State) : Res :=
  .next (s.issue n.toNat (bobbinWord (.vmix n d a b g)) 1
    (bodyOn n.toNat fun x => { x.vecOut d (vmixLane x a b g) with fv := x.fv }))

/-- R114: the rounded dot product. -/
def vdotVal (u v : VReg) : Nat := ((List.range 8).foldl (fun t i => t + (u.lane i).toNat * (v.lane i).toNat) 0 + 8) / 16

def execVdot (n : BitVec 5) (g : BitVec 4) (a b : BitVec 3) (s : State) : Res :=
  .next (s.issue n.toNat (bobbinWord (.vdot n g a b)) 3
    (bodyOn n.toNat fun x => (x.setZ (BitVec.ofNat 32 (vdotVal (x.rv a) (x.rv b)))).wg g (BitVec.ofNat 32 (vdotVal (x.rv a) (x.rv b)))))

/-- R114: the sum of the lanes. -/
def vsumVal (v : VReg) : Nat := (List.range 8).foldl (fun t i => t + (v.lane i).toNat) 0

def execVsum (n : BitVec 5) (g : BitVec 4) (a : BitVec 3) (s : State) : Res :=
  .next (s.issue n.toNat (bobbinWord (.vsum n g a)) 1
    (bodyOn n.toNat fun x => (x.setZ (BitVec.ofNat 32 (vsumVal (x.rv a)))).wg g (BitVec.ofNat 32 (vsumVal (x.rv a)))))

def execVext (n : BitVec 5) (g : BitVec 4) (a lane : BitVec 3) (s : State) : Res :=
  .next (s.issue n.toNat (bobbinWord (.vext n g a lane)) 1
    (bodyOn n.toNat fun x =>
      (x.setZ (BitVec.ofInt 32 (VReg.lane (x.rv a) lane.toNat))).wg g (BitVec.ofInt 32 (VReg.lane (x.rv a) lane.toNat))))

def execVins (n : BitVec 5) (d a : BitVec 3) (g : BitVec 4) (lane : BitVec 3) (s : State) : Res :=
  .next (s.issue n.toNat (bobbinWord (.vins n d a g lane)) 1
    (bodyOn n.toNat fun x => x.vecOut d fun i => if i = lane.toNat then (x.rg g).toInt else VReg.lane (x.rv a) i))

/-! ## Curves, time and waits (R116 to R118) -/

/-- R76: the points of a curve, from point 0 to the last one before the first X that is not greater than its predecessor's. -/
def curvePoints : List Word → List (Nat × Nat)
  | [] => []
  | [w] => [(getBits w 16 16, getBits w 0 16)]
  | w :: w' :: t =>
    if getBits w' 16 16 ≤ getBits w 16 16 then [(getBits w 16 16, getBits w 0 16)]
    else (getBits w 16 16, getBits w 0 16) :: curvePoints (w' :: t)

/-- R116: the interpolated value at `x`, for `x` from the first X, and C. -/
def curveIn (x : Nat) : List (Nat × Nat) → Nat × Bool
  | [] => (0, true)
  | [(_, y)] => (y, true)
  | (x0, y0) :: (x1, y1) :: t =>
    if x < x1 then (((y0 : Int) + roundTiesToZero (((y1 : Int) - y0) * (x - x0 : Nat)) (x1 - x0)).toNat, false)
    else if x = x1 ∧ t = [] then (y1, false)
    else curveIn x ((x1, y1) :: t)

/-- R116: CURVE at `x` on the curve's points: y and C. -/
def curveAt (x : Nat) (pts : List (Nat × Nat)) : Nat × Bool :=
  match pts with
  | [] => (0, false)
  | (x0, y0) :: t => if x ≤ x0 then (y0, x != x0) else if t = [] then (y0, true) else curveIn x pts

/-- The words of curve `c` in the active bank, the curve's last point and the point after it included. -/
def State.curveWords (s : State) (c : Nat) : List Word := s.rds (curveAddr (s.get F.PEN_STAT_ACTIVE) c 0) 64

/-- R78, R116: CURVE; a bad word among the points read parks the bobbin. -/
def bodyCurve (n : Nat) (d a : BitVec 4) (c : BitVec 8) (s : State) : Body :=
  let pts := curvePoints (s.curveWords c.toNat)
  let base := curveAddr (s.get F.PEN_STAT_ACTIVE) c.toNat 0
  match (List.range (min 64 (pts.length + 1))).find? fun k => s.parBad (base + 4 * k) with
  | some k => .error (.park (base + 4 * k))
  | none =>
    bodyOn n (fun x =>
      let r := curveAt (min (x.rg a).toNat 65535) pts
      ({ x.setZ (BitVec.ofNat 32 r.1) with fc := r.2 } : Bobbin).wg d (BitVec.ofNat 32 r.1)) s

def execCurve (n : BitVec 5) (d a : BitVec 4) (c : BitVec 8) (s : State) : Res :=
  .next (s.issue n.toNat (bobbinWord (.curve n d a c)) 4 (bodyCurve n.toNat d a c))

/-- R117: TIME code `c` of the tick start. -/
def Snap.time (p : Snap) (c : Nat) : Word :=
  match c with
  | 0 => BitVec.ofNat 32 (p.start / nsPerSec)
  | 1 => BitVec.ofNat 32 (p.start / nsPerSec / 4294967296 % 65536)
  | 2 => BitVec.ofNat 32 (p.start % nsPerSec)
  | 3 => BitVec.ofInt 32 (((p.start / nsPerSec : Nat) - p.utcOff) % 86400)
  | _ => BitVec.ofNat 32 (p.start % nsPerSec / (p.tickUs * 1000))

/-- TIME: codes above 4 are illegal. -/
def bodyTime (n : Nat) (d : BitVec 4) (c : BitVec 18) (s : State) : Body :=
  if 4 < c.toNat then .error (.fault 1) else bodyOn n (fun x => x.wg d (s.pen.snap.time c.toNat)) s

def execTime (n : BitVec 5) (d : BitVec 4) (c : BitVec 18) (s : State) : Res :=
  .next (s.issue n.toNat (bobbinWord (.time n d c)) 1 (bodyTime n.toNat d c))

/-- R118: CIVIL code `c`. -/
def Civil.value (v : Civil) (c : Nat) : Nat :=
  match c with
  | 0 => v.year
  | 1 => v.month
  | 2 => v.day
  | 3 => v.dow
  | 4 => v.hour
  | 5 => v.min
  | 6 => v.sec
  | 7 => v.doy
  | _ => v.hour * 60 + v.min

/-- CIVIL: codes above 8 are illegal. -/
def bodyCivil (n : Nat) (d : BitVec 4) (c : BitVec 18) (s : State) : Body :=
  if 8 < c.toNat then .error (.fault 1)
  else bodyOn n (fun x =>
    let r := BitVec.ofNat 32 (s.pen.snap.civil.value c.toNat)
    ({ x.setZ r with fc := s.pen.snap.civil.held } : Bobbin).wg d r) s

def execCivil (n : BitVec 5) (d : BitVec 4) (c : BitVec 18) (s : State) : Res :=
  .next (s.issue n.toNat (bobbinWord (.civil n d c)) 1 (bodyCivil n.toNat d c))

/-- R116: the target of a WAITT. -/
def waittTarget (start : Nat) (sec nsec : Word) : Nat :=
  (start / nsPerSec / 4294967296 % 65536 * 4294967296 + sec.toNat) * nsPerSec + min nsec.toNat 999999999

/-- R72: WAITT yields only for a time after the tick start. -/
def Bobbin.waitT' (x : Bobbin) (start : Nat) (a b : BitVec 4) : Bobbin :=
  let t := waittTarget start (x.rg a) (x.rg b)
  if start < t then { x with st := .waitt, waitT := t } else x

def execWaitt (n : BitVec 5) (a b : BitVec 4) (s : State) : Res :=
  .next (s.issue n.toNat (bobbinWord (.waitt n a b)) 1 (bodyOn n.toNat fun x => x.waitT' s.pen.snap.start a b))

/-- R72: WAITK n yields until the n-th following tick start; 0 acts as 1. -/
def Bobbin.waitK' (x : Bobbin) (a : BitVec 4) (imm : BitVec 18) (tick : Option Nat) : Bobbin :=
  let k := x.rg a + imm.zeroExtend 32
  { x with st := .waitk, waitK := if k = 0 then 1 else k.toNat, waitAt := tick }

def execWaitk (n : BitVec 5) (a : BitVec 4) (imm : BitVec 18) (s : State) : Res :=
  .next (s.issue n.toNat (bobbinWord (.waitk n a imm)) 1 (bodyOn n.toNat fun x => x.waitK' a imm s.pen.tickAt))

/-! ## Zone instructions (R119) -/

/-- ZSET: fault 0x3 above 511. -/
def bodyZset (n : Nat) (a : BitVec 3) (g : BitVec 4) (s : State) : Body :=
  let z := ((s.bob n).rg g).toNat
  if 511 < z then .error (.fault 3) else bodyOn n (fun b => b) (s.zset z ((s.bob n).rv a))

def execZset (n : BitVec 5) (a : BitVec 3) (g : BitVec 4) (s : State) : Res :=
  .next (s.issue n.toNat (bobbinWord (.zset n a g)) 2 (bodyZset n.toNat a g))

/-- ZGET: the committed target, and Z. -/
def bodyZget (n : Nat) (d : BitVec 3) (g : BitVec 4) (s : State) : Body :=
  let z := ((s.bob n).rg g).toNat
  if 511 < z then .error (.fault 3)
  else bodyOn n (fun b => { b.wv d (s.ztarget z) with fz := VReg.isZero (s.ztarget z) }) s

def execZget (n : BitVec 5) (d : BitVec 3) (g : BitVec 4) (s : State) : Res :=
  .next (s.issue n.toNat (bobbinWord (.zget n d g)) 1 (bodyZget n.toNat d g))

/-- R107, R119: the gain latched at the tick start, 0x4000 for zone 511. -/
def State.zgain (s : State) (z : Nat) : Nat := if z = 511 then 0x4000 else spGet (fun _ => 0x4000) s.pen.snap.gain z

/-- ZGAIN. -/
def bodyZgain (n : Nat) (d a : BitVec 4) (s : State) : Body :=
  let z := ((s.bob n).rg a).toNat
  if 511 < z then .error (.fault 3)
  else bodyOn n (fun b => (b.setZ (BitVec.ofNat 32 (s.zgain z))).wg d (BitVec.ofNat 32 (s.zgain z))) s

/-- R25 step 3, R107: the gains of the tick in progress have been latched.  Between the tick commit and step 3 of its frame start they
have not (assumption log 49). -/
def State.gainReady (s : State) : Bool := s.pen.tickAt.isNone || s.pen.snap.gainAt == s.pen.tickAt

/-- ZGAIN waits for the gains of its tick. -/
def execZgain (n : BitVec 5) (d a : BitVec 4) (s : State) : Res :=
  .next (if s.gainReady then s.issue n.toNat (bobbinWord (.zgain n d a)) 1 (bodyZgain n.toNat d a) else s)

/-- ZMODE. -/
def bodyZmode (n : Nat) (a : BitVec 4) (m : BitVec 1) (s : State) : Body :=
  let z := ((s.bob n).rg a).toNat
  if 511 < z then .error (.fault 3) else bodyOn n (fun b => b) (s.zmode z (m == 1))

def execZmode (n : BitVec 5) (a : BitVec 4) (m : BitVec 1) (s : State) : Res :=
  .next (s.issue n.toNat (bobbinWord (.zmode n a m)) 1 (bodyZmode n.toNat a m))

/-! ## Sensing (R120 to R123) -/

/-- R120: age of a sample at the tick start, whole ms, 0 for a later stamp. -/
def ageMs (start stamp : Nat) : Nat := min ((start - stamp) / 1000000) 0xFFFFFFFE

/-- SENSE: value to Gd, age to G(d+1); d = 15 is illegal. -/
def bodySense (n : Nat) (d a : BitVec 4) (q : BitVec 8) (s : State) : Body :=
  if d = 15 then .error (.fault 1)
  else bodyOn n (fun x =>
    match spGet (fun _ => none) s.pen.snap.sens ((x.rg a).toNat % 65536 * 256 + q.toNat) with
    | some r => ({ x with fz := false }.wg d r.value).wg (d + 1) (BitVec.ofNat 32 (ageMs s.pen.snap.start r.stamp))
    | none => ({ x with fz := true }.wg d 0).wg (d + 1) 0xFFFFFFFF) s

def execSense (n : BitVec 5) (d a : BitVec 4) (q : BitVec 8) (s : State) : Res :=
  .next (s.issue n.toNat (bobbinWord (.sense n d a q)) 4 (bodySense n.toNat d a q))

/-- METER: codes above 0x0A are illegal; a circuit above 7 or without channels gives 0 with Z and C. -/
def bodyMeter (n : Nat) (d a : BitVec 4) (code : BitVec 8) (s : State) : Body :=
  if 10 < code.toNat then .error (.fault 1)
  else bodyOn n (fun x =>
    let v := if 7 < (x.rg a).toNat then none else spGet (fun _ => none) s.pen.snap.meter ((x.rg a).toNat * 16 + code.toNat)
    match v with
    | some w => ({ x.setZ w with fc := false } : Bobbin).wg d w
    | none => ({ x with fz := true, fc := true } : Bobbin).wg d 0) s

def execMeter (n : BitVec 5) (d a : BitVec 4) (code : BitVec 8) (s : State) : Res :=
  .next (s.issue n.toNat (bobbinWord (.meter n d a code)) 1 (bodyMeter n.toNat d a code))

/-! ## Events, signals and status (R124, R125) -/

/-- EMIT: event 0x180 + code with the instruction's priority. -/
def bodyEmit (n : Nat) (prio : BitVec 2) (a b : BitVec 4) (code : BitVec 7) (s : State) : Body :=
  let x := s.bob n
  bodyOn n (fun b => b) (s.raiseEv
    { code := 0x180 + code.toNat, unit := n, pay := [x.pc.toNat * 65536 + n, (x.rg a).toNat, (x.rg b).toNat],
      prio := some prio.toNat })

def execEmit (n : BitVec 5) (prio : BitVec 2) (a b : BitVec 4) (code : BitVec 7) (s : State) : Res :=
  .next (s.issue n.toNat (bobbinWord (.emit n prio a b code)) 1 (bodyEmit n.toNat prio a b code))

/-- SIG: the target's pending bits, at once. -/
def bodySig (n : Nat) (a : BitVec 4) (bits : BitVec 16) (s : State) : Body :=
  let t := ((s.bob n).rg a).toNat % 32
  bodyOn n (fun b => b) (s.setBob t { s.bob t with pend := (s.bob t).pend ||| bits })

def execSig (n : BitVec 5) (a : BitVec 4) (bits : BitVec 16) (s : State) : Res :=
  .next (s.issue n.toNat (bobbinWord (.sig n a bits)) 1 (bodySig n.toNat a bits))

/-- WAITS: go on when a pending bit matches, else yield; mask 0 is illegal. -/
def bodyWaits (n : Nat) (mask : BitVec 16) (s : State) : Body :=
  if mask = 0 then .error (.fault 1)
  else bodyOn n (fun x =>
    if x.pend &&& mask ≠ 0 then { x with pend := x.pend &&& ~~~mask } else { x with st := .waits, wmask := mask }) s

def execWaits (n : BitVec 5) (mask : BitVec 16) (s : State) : Res :=
  .next (s.issue n.toNat (bobbinWord (.waits n mask)) 1 (bodyWaits n.toNat mask))

/-- R125: the status value of bobbin `n` selected by `c`. -/
def State.csr (s : State) (n c : Nat) : Nat :=
  let b := s.bob n
  match c with
  | 0 => n
  | 1 => b.left
  | 2 => b.budget
  | 3 => s.pen.ticks.toNat
  | 4 => b.prio
  | 5 => s.get F.PEN_AID_ID
  | 6 => b.pend.toNat
  | 7 => b.winSize * 256
  | 8 => s.pen.snap.tickUs
  | _ => s.framePeriod / 1000

/-- CSR: numbers above 9 are illegal. -/
def bodyCsr (n : Nat) (d : BitVec 4) (c : BitVec 8) (s : State) : Body :=
  if 9 < c.toNat then .error (.fault 1) else bodyOn n (fun x => x.wg d (BitVec.ofNat 32 (s.csr n c.toNat))) s

def execCsr (n : BitVec 5) (d : BitVec 4) (c : BitVec 8) (s : State) : Res :=
  .next (s.issue n.toNat (bobbinWord (.csr n d c)) 1 (bodyCsr n.toNat d c))

def execHalt (n : BitVec 5) (s : State) : Res :=
  .next (s.issue n.toNat (bobbinWord (.halt n)) 1 (bodyOn n.toNat fun x => { x with st := .halted }))

/-- R99: a word that decodes to no instruction faults with code 0x1; a legal word is no such command and changes nothing. -/
def execIllegalInstruction (n : BitVec 5) (w : BitVec 32) (s : State) : Res :=
  .next (if decodeBobbin n w = .illegalInstruction n w then s.issue n.toNat w 1 (bodyFault 1) else s)

end Sys2Proof.Machine
end

