-- ==== Sys2Proof/Machine/Mix.lean ====
section
/-!
DEFINITION. Machine/Mix.lean: the spectral mixing engine (chapter 5, R127 to R161): calibration records, working inputs, the
solve, the caps and their checks.
-/

namespace Sys2Proof.Machine

/-! ## The calibration record (R127 to R130) -/

/-- A big-endian field of `n` bytes at byte `b` of the record at store address `a`. -/
def State.recU (s : State) (a b n : Nat) : Nat := s.rdBE a b n

/-- A signed 16-bit field of a record. -/
def State.recS (s : State) (a b : Nat) : Int := toSigned 16 (s.rdBE a b 2)

/-- R127: the fields of a record. -/
def State.recM (s : State) (a b k : Nat) : Nat := s.recU a (16 * b + 2 * k) 2
def State.recP (s : State) (a k b : Nat) : Nat := s.recU a (128 + 16 * k + 2 * b) 2
def State.recSd (s : State) (a b k : Nat) : Int := s.recS a (256 + 16 * b + 2 * k)
def State.recKT (s : State) (a k : Nat) : Int := s.recS a (384 + 2 * k)
def State.recIREF (s : State) (a k : Nat) : Nat := s.recU a (400 + 2 * k) 2
def State.recCMAX (s : State) (a k : Nat) : Nat := s.recU a (416 + 2 * k) 2
def State.recWPC (s : State) (a k : Nat) : Nat := s.recU a (432 + 2 * k) 2
def State.recLUMID (s : State) (a : Nat) : Nat := s.recU a 448 4
def State.recFIT (s : State) (a : Nat) : Nat := s.recU a 453 1
def State.recPMASK (s : State) (a : Nat) : Nat := s.recU a 454 1

/-- R128: one byte of CRC-32 of IEEE 802.3, reflected. -/
def crc32Byte (crc : BitVec 32) (b : Nat) : BitVec 32 :=
  forUp (fun _ (c : BitVec 32) => if c.getLsbD 0 then (c >>> 1) ^^^ 0xEDB88320#32 else c >>> 1) 8 (crc ^^^ BitVec.ofNat 32 b)

/-- R128: CRC-32 of a byte string. -/
def crc32 (bs : List Nat) : Nat := ((bs.foldl crc32Byte 0xFFFFFFFF#32) ^^^ 0xFFFFFFFF#32).toNat

/-- Store address of record `i` in use. -/
def calAddr (i : Nat) : Nat := calBase + i * 512

/-- R131: store address of the flash copy of record `i`. -/
def calFlashAddr (i : Nat) : Nat := calFlash + i * 512

/-- R129, R131: the check of the record at store address `a`: 0, or the first failing result of R131 (1 to 4). -/
def State.recCheck (s : State) (a : Nat) : Nat :=
  let fit := s.recFIT a
  let pm := s.recPMASK a
  let rng (p : Nat → Bool) := (List.range 8).all p
  if crc32 (s.rdBytes a 0 508) ≠ s.recU a 508 4 then 1
  else if s.recU a 452 1 ≠ 1 ∨ (s.rdBytes a 455 53).any (· != 0) then 2
  else if fit = 0 ∨ !(rng fun k => !bit pm k || bit fit k) ∨
      !(rng fun k => bit fit k || (s.recKT a k == 0 && s.recIREF a k == 0 && s.recCMAX a k == 0 && s.recWPC a k == 0 &&
          rng fun b => s.recM a b k == 0 && s.recSd a b k == 0)) ∨
      !(rng fun k => bit pm k || rng fun b => s.recP a k b == 0) then 3
  else if !(rng fun k => !bit fit k || decide (1 ≤ s.recCMAX a k)) then 4
  else 0

/-- Copy the 128 words of a record. -/
def State.copyRec (s : State) (src dst : Nat) : State :=
  forUp (fun k t => (t.wr (dst + 4 * k) (s.rd (src + 4 * k))).parFix (dst + 4 * k)) 128 s

/-- R133: the ageing factors of a luminaire start afresh. -/
def Lum.resetAge (l : Lum) : Lum :=
  { l with age := Vector.replicate 8 65536, ageAt := Vector.replicate 8 none, eol := Vector.replicate 8 false }

/-- R131, R133: install the flash copy of record `i` in calibration memory. -/
def State.installRec (s : State) (i : Nat) : State :=
  let fresh := (s.lum i).rec_ == .empty || s.recLUMID (calAddr i) != s.recLUMID (calFlashAddr i)
  let l := s.lum i
  let s1 := s.copyRec (calFlashAddr i) (calAddr i)
  let eols := (l.eol.toList.filter (· == true)).length
  (if fresh then
    (s1.setLum i { l.resetAge with rec_ := .valid }).put F.SME_EOLCNT_COUNT (s.get F.SME_EOLCNT_COUNT - eols)
  else s1.setLum i { l with rec_ := .valid }).unfit i

/-- R481: a record is loaded from flash at a restart, which is no installation: nothing of R133 is reset. -/
def State.reloadRec (s : State) (i : Nat) : State :=
  ((s.copyRec (calFlashAddr i) (calAddr i)).setLum i { s.lum i with rec_ := .valid }).unfit i

/-- R131: the record that CALLOAD has written to flash is installed. -/
def State.installPending (s : State) : State :=
  match s.sme.install with
  | some i => { s.installRec i with sme := { (s.installRec i).sme with install := none, installed := some i } }
  | none => s

/-- R130, R154: the frame being solved takes the slot as INVALID from now on. -/
def Latched.invalidate (l : Latched) (i : Nat) : Latched :=
  { l with lums := l.lums.map fun x => if x.slot = i then { x with rec_ := .invalid } else x }

/-- R154: the slot becomes INVALID, in the frame being solved too. -/
def State.invalidate (s : State) (i : Nat) : State :=
  let s1 := s.setLum i { s.lum i with rec_ := .invalid }
  let s2 : State := { s1 with sme := { s1.sme with latch := s1.sme.latch.map (·.invalidate i) } }
  (s2.setFlag F.SME_STAT_INVAL true).raise 0x214 (s.get (F.NT_ZONE i)) [i]

/-- R154: the repair of record `i` from its flash copy. -/
def State.repairRec (s : State) (i : Nat) : State :=
  if s.recCheck (calFlashAddr i) = 0 then
    ((s.copyRec (calFlashAddr i) (calAddr i)).incSat F.SME_CALFIX_COUNT).raise 0x213 (s.get (F.NT_ZONE i)) [i]
  else s.invalidate i

/-- A word of record `i` fails parity. -/
def State.recParBad (s : State) (i : Nat) : Bool :=
  s.badPar.any fun a => decide (calAddr i ≤ a) && decide (a < calAddr i + 512)

def execSmeCalfix (i : BitVec 12) (s : State) : Res :=
  .next (if s.inRunQuiet ∧ s.recParBad i.toNat ∧ (s.lum i.toNat).rec_ = .valid then s.repairRec i.toNat else s)

/-- R155: the CRC of record `i` in calibration memory is right. -/
def State.recCrcOk (s : State) (i : Nat) : Bool := crc32 (s.rdBytes (calAddr i) 0 508) == s.recU (calAddr i) 508 4

/-- R155: the scrub of one luminaire's record. -/
def State.scrubRec (s : State) (p : Nat × Lum) : State :=
  if p.2.rec_ = .valid ∧ s.recCrcOk p.1 = false then (s.incSat F.SME_CRCERR_COUNT).repairRec p.1 else s

/-- R155, R526: a pass over the VALID records that has fallen due. -/
def State.calScrub (s : State) : State :=
  if s.inRunQuiet && decide (s.phu.scrubC < s.scrubsDue scrubPeriod) then
    forEach (fun (p : Nat × Lum) s => s.scrubRec p) s.sme.lums { s with phu := { s.phu with scrubC := s.phu.scrubC + 1 } }
  else s

def execCalScrubPass (s : State) : Res := .next s.calScrub

/-! ## Temperature and ageing (R136 to R139) -/

/-- R136: T_used takes the last report when it differs by the deadband or more. -/
def Lum.latchTemp (l : Lum) (tdead : Nat) : Lum :=
  match l.tRep with
  | some t => if (tdead : Int) ≤ (t - l.tUsed).natAbs then { l with tUsed := clampInt (-640) 2000 t } else l
  | none => l

/-- R418: what one latch may change: T_used, then the ageing factors in use, channel by channel, while `n` changes are left; with what
is then left. -/
def Lum.latchUpTo (l : Lum) (tdead n : Nat) : Lum × Nat :=
  let t := l.latchTemp tdead
  let x : Lum × Nat := if t.tUsed = l.tUsed then (l, n) else if n = 0 then (l, 0) else (t, n - 1)
  forUp (fun k (x : Lum × Nat) =>
    let a := x.1.age.toList.getD k 65536
    if x.2 = 0 ∨ a = x.1.ageUsed.toList.getD k 65536 then x
    else ({ x.1 with ageUsed := x.1.ageUsed.setIfInBounds k a }, x.2 - 1)) 8 x

/-- R418: a latch of T_used and of the ageing factors in ascending slot order, with at most `n` changes. -/
def latchLums (tdead : Nat) : Nat → Sp Lum → Sp Lum
  | _, [] => []
  | n, p :: l => let x := p.2.latchUpTo tdead n; (p.1, x.1) :: latchLums tdead x.2 l

/-- R418: the changes that a latch of the module may take: 4,096 with a standby; every one that there can be without; none at the standby,
which has those of the copy. -/
def State.latchBudget (s : State) : Nat := if s.isStandby then 0 else if s.activePaired then 4096 else 9 * 4096

/-- R136: the last report of luminaire `l` is older than SME_TSTALE at the instant `t`. -/
def State.tempStale (s : State) (l : Lum) (t : Nat) : Bool :=
  let lim := s.get F.SME_TSTALE_SEC * nsPerSec
  l.rec_ == .valid &&
  match l.tAt, s.sme.firstDrive with
  | some a, _ => decide (lim < t - a)
  | none, some d => decide (lim ≤ t - d)
  | none, none => false

/-- R136: SME_TSCNT, and SME_TSTALE when it rises from 0. -/
def State.countStale (s : State) : State :=
  let n := (s.sme.lums.filter fun p => s.tempStale p.2 s.ns).length
  let old := s.get F.SME_TSCNT_COUNT
  let s1 := s.put F.SME_TSCNT_COUNT n
  if old = 0 ∧ n ≠ 0 then s1.raise 0x217 0 else s1

def execSmeTstale (s : State) : Res := .next (if s.inRunQuiet then s.countStale else s)

/-- R137: nanoseconds of the filter time, 86,400 s. -/
def ageTau : Nat := 86400 * nsPerSec

/-- Round n / d (d > 0) to the nearest whole number; at a tie `up` decides. -/
def roundNear (n : Int) (d : Nat) (up : Bool) : Int :=
  if (2 * n + d) % (2 * d : Int) = 0 ∧ up = false then (2 * n + d) / (2 * d) - 1 else (2 * n + d) / (2 * d)

/-- R137: the new ageing factor of a measurement: E = 2^39 × expected, `meas` the photocurrent, `dt` ns since the last one. -/
def ageStep (a : Nat) (e : Int) (meas dt : Nat) : Nat :=
  let n : Int := (meas : Int) * 2 ^ 55
  let (n, d) : Int × Int := if 131072 * e ≤ n then (131072, 1) else (n, e)
  let num := (a : Int) * d * ageTau + (n - (a : Int) * d) * dt
  let den := (d * ageTau).toNat
  (clampInt 0 131071 (roundNear num den (Config.tieUp 137 num.natAbs))).toNat

/-- R137, R138: a photocurrent of channel `k` of slot `i`, paired with the code the channel applied, sampled at `t`. -/
def State.ageUpdate (s : State) (i k code meas t : Nat) : State :=
  let l := s.lum i
  let a := calAddr i
  let e : Int := (s.recIREF a k * code : Nat) * (16777216 + s.recKT a k * (l.tUsed - 400))
  if !s.acts || s.flag F.SME_CTL_AGEFRZ || l.rec_ == .empty || (s.chan i k).st != .ok || decide (code < 4096) || decide (e ≤ 0) then s
  else
    let old := l.age.toList.getD k 65536
    let dt := match l.ageAt.toList.getD k none with | some p => min (t - p) (3600 * nsPerSec) | none => 0
    let new := ageStep old e meas dt
    let set {α : Type} (v : Vector α 8) (x : α) : Vector α 8 := v.setIfInBounds k x
    let l1 := { l with age := set l.age new, ageAt := set l.ageAt (some t) }
    let s1 := s.setLum i l1
    if new < s.get F.SME_AGELIM_LIMIT ∧ l.eol.toList.getD k false = false then
      ((s1.setLum i { l1 with eol := set l1.eol true }).inc F.SME_EOLCNT_COUNT).raise 0x215 (s.get (F.NT_ZONE i)) [i + k * 4096, new]
    else s1

/-- R139: all ageing factors are written to the flash area not written last. -/
def State.ageingSave (s : State) : State :=
  let img : Sp (Vector Nat 8) := s.sme.lums.filterMap fun p =>
    if p.2.age = Vector.replicate 8 65536 then none else some (p.1, p.2.age)
  if s.sme.ageNewer = 1 then { s with sme := { s.sme with ageFlash0 := some img, ageNewer := 0 } }
  else { s with sme := { s.sme with ageFlash1 := some img, ageNewer := 1 } }

/-- R139: an hour has passed since the last save that was due, counted from the release of reset. -/
def State.ageSaveDue (s : State) : Bool := s.inRunQuiet && decide (s.phu.ageSaves < s.scrubsDue (3600 * nsPerSec))

def execAgeingSave (s : State) : Res :=
  .next (if s.ageSaveDue then { s.ageingSave with phu := { s.phu with ageSaves := s.phu.ageSaves + 1 } } else s)

/-- R138: the channels that have raised SME_EOL since their ageing factor was last reset. -/
def State.eolCount (s : State) : Nat := (s.sme.lums.map fun p => (p.2.eol.toList.filter (· == true)).length).sum

/-- R138, R139: at a restart the factors are restored from the newer valid area; without one they start at 1.0, with the event.  No
restart is a reset by R133: a channel that has raised SME_EOL does not raise it again, and stays counted (assumption log 50). -/
def State.ageRestore (s : State) : State :=
  let pick := if s.sme.ageNewer = 0 then (s.sme.ageFlash0.orElse fun _ => s.sme.ageFlash1)
    else (s.sme.ageFlash1.orElse fun _ => s.sme.ageFlash0)
  let s := s.put F.SME_EOLCNT_COUNT s.eolCount
  match pick with
  | some img => forEach (fun (p : Nat × Vector Nat 8) s => s.setLum p.1 { s.lum p.1 with age := p.2 }) img s
  | none => s.raise 0x219 0

/-! ## Latching the solve inputs (R25 step 3) -/

/-- R52, R223: gain of zone `z` in effect. -/
def State.gainOf (s : State) (z : Nat) : Nat := if z = 511 then 0x4000 else s.get (F.CCE_LOUT_GAIN z)

/-- The latched inputs of one luminaire for the frame that originates at `o`. -/
def State.latchLum (s : State) (i o : Nat) : LumIn :=
  let l := s.lum i
  let z := s.get (F.NT_ZONE i)
  let raw := (List.range 8).map fun b => s.solveRaw z b o (s.gainOf z)
  let fit := s.fitted i
  let failed := (List.range 8).foldl (fun m k => if (s.chan i k).st.failed && bit fit k then m + 2 ^ k else m) 0
  { slot := i, zone := z, u := raw.map (min 65535), clip := raw.any fun x => decide (65535 < x), rec_ := l.rec_,
    failed := failed, tUsed := l.tUsed, age := l.ageUsed.toList }

/-- R57, R59, R208: the zones, 511 apart, that have a member with a fitted channel in a state other than OK. -/
def State.faultZones (s : State) : List Nat :=
  ((s.dia.chans.filterMap fun p =>
    if p.2.st ≠ .ok ∧ bit (s.fitted (p.1 / 8)) (p.1 % 8) then some (s.get (F.NT_ZONE (p.1 / 8))) else none).eraseDups).filter (· != 511)

/-- R25 step 3, R418: latch every solve input for the frame that originates at `o`; the temperatures in use follow the reports, the ageing
factors in use the measurements. -/
def State.latchSolve (s : State) (o : Nat) : State :=
  let td := s.get F.SME_CTL_TDEAD
  let s1 : State := { s with sme := { s.sme with lums := latchLums td s.latchBudget s.sme.lums } }
  let gains : Sp Nat := (List.range 511).filterMap fun z => if s1.gainOf z = 0x4000 then none else some (z, s1.gainOf z)
  let slots : List Nat := s1.sme.lums.filterMap fun p => if p.2.rec_ = .empty ∨ s1.get (F.NT_ZONE p.1) = 511 then none else some p.1
  let lums := slots.map fun i => s1.latchLum i o
  let bad := s1.faultZones
  let zs := (lums.map (·.zone) ++ bad).eraseDups
  let zones := zs.map fun z => ({ zone := z, react := s1.get (F.ZON_CTL_REACT z), fcap := s1.get (F.ZON_CTL_FCAP z),
                                  pcap := s1.get (F.ZON_PCAP_PCAP z), notOk := bad.contains z } : ZoneIn)
  { s1 with zon := { s1.zon with gainLatched := gains }
            sme := { s1.sme with latch := some { origin := o, lums := lums, zones := zones, pcap := s1.get F.SME_PCAP_PCAP,
                                                 iter := s1.get F.SME_CTL_ITER } } }

/-! ## The solve (R140 to R143) -/

/-- R140: MT[b][k] of a luminaire. -/
def State.mt (s : State) (li : LumIn) (b k : Nat) : Int :=
  let a := calAddr li.slot
  let dt := li.tUsed - 400
  let m0 : Int := (s.recM a b k : Int) * 256 + (s.recSd a b k * dt) / 16
  let f : Int := 16777216 + s.recKT a k * dt
  clampInt 0 0xFFFFF ((m0 * f * (li.age.getD k 65536 : Nat) + 2 ^ 43) / 2 ^ 44)

/-- The sum of `f` over 0 to 7. -/
def sum8 (f : Nat → Int) : Int := (List.range 8).foldl (fun t k => t + f k) 0

/-- R141: the live channels of a luminaire. -/
def State.liveMask (s : State) (li : LumIn) (react : Nat) : Nat :=
  let a := calAddr li.slot
  (List.range 8).foldl (fun m k =>
    if bit (s.recFIT a) k && bit (s.recPMASK a) k && !(react == 1 && bit li.failed k) then m + 2 ^ k else m) 0

/-- What a solve gives: the codes, the sum of |r| of the last pass, and whether the last clamp limited a code at CMAX. -/
structure Solved where
  codes : List Nat
  resid : Nat
  satc : Bool
  live : Nat

/-- R142: one refinement pass: the residual of the codes that enter it, and the codes that leave it. -/
def refine (p : Nat → Nat → Int) (mt : Nat → Nat → Int) (cmax : Nat → Int) (live : Nat → Bool) (u : List Nat) (c : List Nat) :
    List Nat × Nat × Bool :=
  let y (b : Nat) : Int := (sum8 (fun k => mt b k * (c.getD k 0 : Nat)) + 524288) / 1048576
  let r := (List.range 8).map fun b => (u.getD b 0 : Int) - y b
  let raw (k : Nat) : Int := (c.getD k 0 : Int) + (sum8 (fun b => p k b * r.getD b 0) + 128) / 256
  ((List.range 8).map fun k => if live k then (clampInt 0 (cmax k) (raw k)).toNat else 0,
   r.foldl (fun t x => t + x.natAbs) 0,
   (List.range 8).any fun k => live k && decide (cmax k < raw k))

/-- Repeat the refinement `n` times, keeping the last residual and clip. -/
def refineN (step : List Nat → List Nat × Nat × Bool) : Nat → List Nat × Nat × Bool → List Nat × Nat × Bool
  | 0, x => x
  | n + 1, x => refineN step n (step x.1)

/-- R142, R143: the solve of one luminaire. -/
def State.solveLum (s : State) (li : LumIn) (react iter : Nat) : Solved :=
  let a := calAddr li.slot
  let lm := s.liveMask li react
  let live (k : Nat) : Bool := bit lm k
  let p (k b : Nat) : Int := if live k then (s.recP a k b : Nat) else 0
  let mts := (List.range 8).map fun b => (List.range 8).map fun k => if live k then s.mt li b k else 0
  let mt (b k : Nat) : Int := (mts.getD b []).getD k 0
  let cmax (k : Nat) : Int := (s.recCMAX a k : Nat)
  let raw0 (k : Nat) : Int := (sum8 (fun b => p k b * (li.u.getD b 0 : Nat)) + 128) / 256
  let c0 := (List.range 8).map fun k => if live k then (clampInt 0 (cmax k) (raw0 k)).toNat else 0
  let clip0 := (List.range 8).any fun k => live k && decide (cmax k < raw0 k)
  let dropped := react == 1 && (List.range 8).any fun k => bit li.failed k && bit (s.recFIT a) k
  let passes := if dropped then max iter 2 else iter
  let step := refine p mt cmax live li.u
  if passes = 0 then { codes := c0, resid := (step c0).2.1, satc := clip0, live := lm }
  else
    let x := refineN step passes (c0, 0, clip0)
    { codes := x.1, resid := x.2.1, satc := x.2.2, live := lm }

/-- R143: RESID of a luminaire. -/
def residOf (r u : Nat) : Nat :=
  if u = 0 then 0 else min 0xFFF (roundNear (4096 * r : Nat) u (Config.tieUp 143 (4096 * r))).toNat

/-- R58: Σ |u − M(T)·c| of a luminaire that is sent codes `c` without a solve of its own: held, INVALID or dark (assumption log
23). -/
def State.unsolvedResid (s : State) (li : LumIn) (c : List Nat) : Nat :=
  (List.range 8).foldl (fun t b =>
    t + ((li.u.getD b 0 : Int) - (sum8 (fun k => s.mt li b k * (c.getD k 0 : Nat)) + 524288) / 1048576).natAbs) 0

/-! ## The caps (R146 to R150) -/

/-- One luminaire's codes on their way through the caps. -/
structure CapLum where
  slot : Nat
  zone : Nat
  codes : List Nat
  sf : Nat
  resid : Nat
  clip : Bool
  satc : Bool
  held : Bool

/-- R53: a cap of 0 forces nonzero codes dark, whatever they are estimated at; else the factor is `f`. -/
def darkScale (cap : Nat) (lit : Bool) (f : Nat) : Nat := if cap = 0 ∧ lit = true then 0 else f

/-- R53, R146: FCAP on one luminaire. -/
def State.fcapLum (s : State) (li : LumIn) (fcap : Nat) (c : List Nat) : List Nat × Nat :=
  let cs (k : Nat) : Int := sum8 fun b => s.mt li b k
  let f := ((sum8 (fun k => cs k * (c.getD k 0 : Nat)) + 524288) / 1048576).toNat
  let sf := darkScale fcap (c.any (· != 0)) (if f ≤ fcap * 8 then 65536 else fcap * 8 * 65536 / f)
  (c.map fun x => x * sf / 65536, sf)

/-- R146: the power of a luminaire's codes, LSB 2^-24 W. -/
def State.lumPower (s : State) (slot : Nat) (c : List Nat) : Nat :=
  (List.range 8).foldl (fun t k => t + s.recWPC (calAddr slot) k * c.getD k 0) 0

/-- The scale factor of a power cap in W on a power in 2^-24 W. -/
def capScale (p cap : Nat) : Nat := if p ≤ cap * 16777216 then 65536 else cap * 2 ^ 40 / p

/-- Whole watts, rounded up. -/
def wattsUp (p : Nat) : Nat := (p + 16777215) / 16777216

/-- One zone's part of the cap stage. -/
structure CapZone where
  zone : Nat
  pz : Nat
  sz : Nat
  bz : Nat
  notOk : Bool

/-- R53, R146: PCAP on one zone. -/
def State.pcapZone (s : State) (zi : ZoneIn) (ls : List CapLum) : CapZone :=
  let mem := ls.filter (·.zone == zi.zone)
  let pz := mem.foldl (fun t l => t + s.lumPower l.slot l.codes) 0
  let sz := darkScale zi.pcap (mem.any fun l => l.codes.any (· != 0)) (capScale pz zi.pcap)
  { zone := zi.zone, pz := pz, sz := sz, bz := (pz * sz + 65535) / 65536, notOk := zi.notOk }

/-! ## A frame's solve and cap stage -/

/-- The latched inputs of a luminaire's zone. -/
def Latched.zoneOf (lt : Latched) (li : LumIn) : ZoneIn :=
  (lt.zones.find? (·.zone == li.zone)).getD { zone := li.zone, react := 1, fcap := 0xFFFF, pcap := 0xFFFFFF, notOk := false }

/-- R141, R218: the luminaire is sent all eight codes as zero and is not solved: a failed channel under REACT 0b10, or none live. -/
def State.lumDark (s : State) (lt : Latched) (li : LumIn) : Bool :=
  let r := (lt.zoneOf li).react
  li.failed != 0 && (r == 2 || (r == 1 && s.liveMask li 1 == 0))

/-- R145: the slots of the frame that are solved, ascending: none of INVALID or dark luminaires. -/
def State.solvedSlots (s : State) (lt : Latched) : List Nat :=
  (lt.lums.filter fun li => li.rec_ != .invalid && !s.lumDark lt li).map (·.slot)

/-- R145: the lane that slot `i` is dealt to, round robin over the lanes in service from the lowest (assumption log 23); none for a
slot that is not solved. -/
def State.laneOf (s : State) (lt : Latched) (i : Nat) : Option Nat :=
  let lanes := (List.range 8).filter fun k => bit (s.get F.SME_STAT_LANES) k
  let solved := s.solvedSlots lt
  if solved.contains i then lanes[solved.idxOf i % lanes.length]? else none

/-- R58, R141, R151, R218: one luminaire of the frame: solved, held, dark or INVALID; its cap-stage input and the state it leaves. -/
def State.frameLum (s : State) (lt : Latched) (faults : List SolveFault) (li : LumIn) : State × CapLum :=
  let zi := lt.zoneOf li
  let l := s.lum li.slot
  let zero := List.replicate 8 0
  let u := li.u.foldl (· + ·) 0
  let out (s : State) (c : List Nat) (resid : Nat) (satc held : Bool) : State × CapLum :=
    let f := s.fcapLum li zi.fcap c
    (s, { slot := li.slot, zone := li.zone, codes := f.1, sf := f.2, resid := resid, clip := li.clip, satc := satc, held := held })
  let unsolved (s : State) (c : List Nat) (held : Bool) : State × CapLum := out s c (residOf (s.unsolvedResid li c) u) false held
  if li.rec_ = .invalid then unsolved (s.setLum li.slot { l with live := 0, held := false }) (l.good.getD zero) false
  else if s.lumDark lt li then unsolved (s.setLum li.slot { l with live := 0, held := false }) zero false
  else
    let r := s.solveLum li zi.react lt.iter
    if ((faults.find? (·.slot == li.slot)).map (·.again)).getD false then
      let s1 := ((s.setLum li.slot { l with live := r.live, held := true }).incSat F.SME_RCNT_HELD).raiseRated nsPerSec 0x211
        li.zone [] (1048576 + li.slot)
      unsolved s1 (l.good.getD zero) true
    else out (s.setLum li.slot { l with live := r.live, held := false, good := some r.codes }) r.codes (residOf r.resid u) r.satc false

/-- All luminaires of the frame, in ascending slot order. -/
def State.frameLums (s : State) (lt : Latched) (faults : List SolveFault) : List LumIn → State × List CapLum
  | [] => (s, [])
  | li :: t =>
    let x := s.frameLum lt faults li
    let y := x.1.frameLums lt faults t
    (y.1, x.2 :: y.2)

/-- R57, R149: ZON_STAT, q and the zone's power in the completed frame. -/
def State.zoneReport (s : State) (ls : List CapLum) (cz : CapZone) (sm : Nat) : State :=
  let z := cz.zone
  let mem := ls.filter (·.zone == z)
  let any (p : CapLum → Bool) := mem.any p
  let szm := cz.sz * sm / 65536
  let sfmin := mem.foldl (fun m l => min m l.sf) 65536
  let fin := mem.foldl (fun t l => t + s.lumPower l.slot (l.codes.map fun x => x * szm / 65536)) 0
  let s1 := (((s.setFlag (F.ZON_STAT_SATG z) (any (·.clip))).setFlag (F.ZON_STAT_SATC z) (any (·.satc))).setFlag
    (F.ZON_STAT_SATF z) (any fun l => decide (l.sf < 65536))).setFlag (F.ZON_STAT_SATP z) (decide (cz.sz < 65536))
  let s2 := (((s1.setFlag (F.ZON_STAT_SATM z) (decide (sm < 65536) && any fun l => l.codes.any (· != 0))).setFlag
    (F.ZON_STAT_FAULT z) cz.notOk).setFlag (F.ZON_STAT_HELD z) (any (·.held))).put (F.ZON_STAT_RESID z)
      (mem.foldl (fun m l => max m l.resid) 0)
  { s2 with sme := { s2.sme with zq := spSet (fun _ => 65536) s2.sme.zq z (sfmin * szm / 65536)
                                 zpwr := spSet (fun _ => 0) s2.sme.zpwr z (wattsUp fin) } }

/-- R57: a zone without luminaires in the completed frame reports nothing. -/
def State.zoneClear (s : State) (z : Nat) : State :=
  let s1 := s.put ⟨Reg.ZON_STAT z, 13, 19⟩ 0
  { s1 with sme := { s1.sme with zq := spDel z s1.sme.zq, zpwr := spDel z s1.sme.zpwr } }

/-- R150: MCAP and its event. -/
def State.mcap (s : State) (pm sm : Nat) : State :=
  let was := s.flag F.SME_STAT_MCAP
  let s1 := s.setFlag F.SME_STAT_MCAP (decide (sm < 65536))
  if decide (sm < 65536) != was then s1.raise 0x216 0 [if sm < 65536 then 1 else 0, wattsUp pm, sm] else s1

/-- R151, R152: note a residue mismatch of a lane; the fourth within 1 s makes the lane due to leave. -/
def State.noteMismatch (s : State) (lane : Nat) : State :=
  let l := (lane, s.ns) :: s.sme.laneMis.filter fun p => s.ns < p.2 + nsPerSec
  let n := (l.filter (·.1 == lane)).length
  let s1 := s.incSat F.SME_RCNT_MISM
  { s1 with sme := { s1.sme with laneMis := l, laneDue := if 4 ≤ n then setBit s.sme.laneDue lane true else s.sme.laneDue } }

/-- R151: the next lane in service after `lane`, or the lane itself if it is the only one. -/
def State.nextLane (s : State) (lane : Nat) : Nat :=
  (((List.range 7).map fun k => (lane + 1 + k) % 8).find? fun k => bit (s.get F.SME_STAT_LANES) k).getD lane

/-- R151, R152: the mismatches of a luminaire's solve, in the lane it was dealt to and, when the recomputation fails too, in the lane
that recomputed it. -/
def State.noteFault (s : State) (lt : Latched) (f : SolveFault) : State :=
  match s.laneOf lt f.slot with
  | some k => if f.again then (s.noteMismatch k).noteMismatch (s.nextLane k) else s.noteMismatch k
  | none => s

/-- R157: the luminaires keep their last good solves: the frame is not a completed one. -/
def State.keepGood (s : State) (old : State) : State :=
  { s with sme := { s.sme with lums := s.sme.lums.map fun p => (p.1, { p.2 with good := (old.lum p.1).good }) } }

/-- R154: the records that the solve of the latched frame reads: one with a bad word is repaired before its luminaire is solved, or the
slot becomes INVALID, in this frame too. -/
def State.repairLatched (s : State) (lt : Latched) : State :=
  forEach (fun (li : LumIn) s => if li.rec_ = .valid ∧ s.recParBad li.slot then s.repairRec li.slot else s) lt.lums s

/-- R146 to R153: the solve and the cap stage of the latched frame, its records repaired, finish. -/
def State.solveLatched (s : State) (faults : List SolveFault) (capFails cycles : Nat) : State :=
  match s.sme.latch with
  | none => s
  | some lt =>
    let s1 := forEach (fun (f : SolveFault) s => s.noteFault lt f) faults s
    let x := s1.frameLums lt faults lt.lums
    if 2 ≤ capFails then
      let s2 := (x.1.keepGood s).raise 0x218 0
      { s2 with sme := { s2.sme with capFailed := true } }
    else
      let s2 := x.1
      let ls := x.2
      let czs := lt.zones.map fun zi => s2.pcapZone zi ls
      let pm := czs.foldl (fun t z => t + z.bz) 0
      let sm := capScale pm lt.pcap
      let szm (z : Nat) : Nat := match czs.find? (·.zone == z) with | some c => c.sz * sm / 65536 | none => 65536
      let codes : Sp (List Nat) := ls.map fun l => (l.slot, l.codes.map fun c => c * szm l.zone / 65536)
      let post := codes.foldl (fun t p => t + s2.lumPower p.1 p.2) 0
      let s3 := forEach (fun z s => s.zoneClear z) (s2.sme.statZones.filter fun z => !(czs.any (·.zone == z))) s2
      let s4 := forEach (fun cz s => s.zoneReport ls cz sm) czs s3
      let s5 := ((((s4.put F.SME_ESTPRE_W (wattsUp pm)).put F.SME_ESTPOST_W (wattsUp post)).put F.SME_SCALE_SM sm).put
        F.SME_SOLVET_CYC cycles).mcap pm sm
      let cs : Sp (List Nat) := lt.lums.map fun li =>
        (li.slot, (List.range 8).map fun k => (sum8 fun b => s2.mt li b k).toNat)
      { s5 with sme := { s5.sme with next := some codes, nextCs := cs, statZones := czs.map (·.zone) } }

/-- R146 to R153: the solve and the cap stage of the latched frame finish. -/
def State.solveComplete (s : State) (faults : List SolveFault) (capFails cycles : Nat) : State :=
  if s.sme.next.isSome || s.sme.capFailed || s.mode != .run then s
  else
    match s.sme.latch with
    | none => s
    | some lt => (s.repairLatched lt).solveLatched faults capFails cycles

def execSolveComplete (faults : List SolveFault) (capFails cycles : Nat) (s : State) : Res :=
  .next (s.solveComplete faults capFails cycles)

/-! ## Lanes (R152) -/

/-- R152: lane `k` leaves service, unless it is the last one. -/
def State.laneOut (s : State) (k : Nat) : State :=
  let lanes := s.get F.SME_STAT_LANES
  if bit s.sme.laneDue k then
    let s1 := { s with sme := { s.sme with laneDue := setBit s.sme.laneDue k false } }
    if bit lanes k ∧ setBit lanes k false ≠ 0 then (s1.put F.SME_STAT_LANES (setBit lanes k false)).raise 0x212 k else s1
  else s

/-- R152: a lane that is due leaves at a frame start. -/
def execSmeLaneOut (lane : BitVec 3) (s : State) : Res := .next (if s.inRunQuiet && s.frameDue then s.laneOut lane.toNat else s)

/-- R152: at a frame start the lanes due to leave do so, and then LANERST returns every lane. -/
def State.lanesAtFrame (s : State) : State :=
  let s1 := forUp (fun k s => s.laneOut k) 8 s
  if s1.sme.laneRst then { s1.put F.SME_STAT_LANES 0xFF with sme := { s1.sme with laneRst := false, laneMis := [] } } else s1

def execSmeCmdLanerst (s : State) : Res :=
  .next (s.hostWr Reg.SME_CMD 1 fun s => { s with sme := { s.sme with laneRst := true } }.answer stOk)

/-! ## Staging (R87) -/

def execSmeCalptrWrite (v : BitVec 32) (s : State) : Res :=
  .next (s.hostWr Reg.SME_CALPTR v.toNat fun s => s.stagePtr F.SME_CALPTR_PTR 32768 v.toNat)

def execSmeCaldatWrite (v : BitVec 32) (s : State) : Res :=
  .next (s.hostWr Reg.SME_CALDAT v.toNat fun s => s.stageDat F.SME_CALPTR_PTR calStage 32768 (s.lopRunning 0x01) v)

end Sys2Proof.Machine
end

