-- ==== Sys2Proof/Machine/Cce.lean ====
section
/-!
DEFINITION. Machine/Cce.lean: the closed-loop control engine (chapter 8, R223 to R249).
-/

namespace Sys2Proof.Machine

/-- Loop `z`'s state beside its registers. -/
def State.loop (s : State) (z : Nat) : Loop := spGet (fun _ => {}) s.cce.loops z

/-- Replace loop `z`'s state. -/
def State.setLoop (s : State) (z : Nat) (l : Loop) : State :=
  { s with cce := { s.cce with loops := spSet (fun _ => {}) s.cce.loops z l } }

/-- R223: mode in effect of loop `z`. -/
def State.emode (s : State) (z : Nat) : LMode :=
  match s.get (F.CCE_LSTAT_EMODE z) with | 1 => .track | 2 => .dli | _ => .open_

/-- R223: requested mode of loop `z`. -/
def State.rmode (s : State) (z : Nat) : LMode :=
  match s.get (F.CCE_LCTL_MODE z) with | 1 => .track | 2 => .dli | _ => .open_

/-! ## The control law (R231, R232, R239) -/

/-- R231: rounding division by a positive number, ties away from zero. -/
def rdiv (n : Int) (d : Nat) : Int := if 0 ≤ n then (2 * n + d) / (2 * d) else -((2 * (-n) + d) / (2 * d))

/-- R238: a coefficient set. -/
structure CoefSet where
  kp : Int
  ki : Int
  ff : Int
  omin : Int
  omax : Int
  slew : Int
deriving DecidableEq, Repr

/-- R238: coefficient set `k` in effect; OMIN > OMAX is read as OMIN = OMAX. -/
def State.coef (s : State) (k : Nat) : CoefSet :=
  let omax := s.get (F.CCE_OLIM_OMAX k)
  { kp := s.sget (F.CCE_KP_KP k), ki := s.sget (F.CCE_KI_KI k), ff := s.sget (F.CCE_FF_FF k),
    omin := (min (s.get (F.CCE_OLIM_OMIN k)) omax : Nat), omax := (omax : Nat), slew := (s.get (F.CCE_SLEW_SLEW k) : Nat) }

/-- What a run of the law gives: the output, the integrator, SAT and SATSRC. -/
structure LawOut where
  u : Int
  i : Int
  sat : Bool
  src : Nat
deriving DecidableEq, Repr

/-- R231: I saturates at ±2^47. -/
def satI (i : Int) : Int := clampInt (-140737488355328) 140737488355328 i

/-- R231, R232, R239: one run of the law: reference `r`, error `e`, `dt` µs, output `u` and integrator `i` before the run, the
holds, and the output a preset run starts from. -/
def law (c : CoefSet) (r e : Int) (dt : Nat) (u i : Int) (holdUp holdDn : Bool) (preset : Option Int) : LawOut :=
  let f := (c.ff * r + 32768) / 65536
  let p := (c.kp * e + 32768) / 65536
  let i1 := match preset with
    | some g => satI ((clampInt c.omin c.omax g - f - p) * 65536)
    | none => satI (i + rdiv (c.ki * e * dt) 1000000)
  let v := f + p + (i1 + 32768) / 65536
  let w1 := clampInt c.omin c.omax v
  let st := rdiv (c.slew * dt) 1000000
  let w2 := if c.slew ≠ 0 then clampInt (u - st) (u + st) w1 else w1
  let w3 := if holdUp && decide (u < w2) then u else w2
  let w := if holdDn && decide (w3 < u) then u else w3
  let atMax := decide (w = c.omax) && decide (0 < e)
  let atMin := decide (w = c.omin) && decide (e < 0)
  let sat := decide (w ≠ v) || atMax || atMin
  { u := w, i := satI (i1 + (w - v) * 65536), sat := sat,
    src := if !sat then 0 else if w ≠ w2 then 3 else if w2 ≠ w1 then 2 else 1 }

/-! ## Measurement and trajectory (R225, R226, R234 to R237) -/

/-- R225: source and quantity of loop `z`'s sensor, none without one. -/
def State.loopSensor (s : State) (z : Nat) : Option (Nat × Nat) :=
  let src := s.get (F.ZON_SRC_SOURCE z)
  let q := s.get (F.ZON_SRC_QTY z)
  if src ≠ 0xFFFF ∧ (q = 0x20 ∨ (0x30 ≤ q ∧ q ≤ 0x37)) then some (src, q) else none

/-- R246: the samples that the loops use: on a standby, those that the active module latched. -/
def State.loopSens (s : State) : Sp (Option Reading) := if s.isStandby then s.cce.sens else s.senseNow

/-- R233, R246: cap ratio of zone `z` that its loop uses: on a standby, that which the active module latched. -/
def State.loopQ (s : State) (z : Nat) : Nat := spGet (fun _ => 65536) (if s.isStandby then s.cce.zq else s.sme.zq) z

/-- R229, R246: step 2 latches the samples and cap ratios that the loops use at this frame start, for the copy. -/
def State.latchLoops (s : State) : State := { s with cce := { s.cce with sens := s.loopSens, zq := if s.isStandby then s.cce.zq else s.sme.zq } }

/-- The newest sample of loop `z`'s sensor. -/
def State.loopSample (s : State) (z : Nat) : Option Reading :=
  match s.loopSensor z with
  | some p => spGet (fun _ => none) s.loopSens (senseKey p.1 p.2)
  | none => none

/-- R226: stale age, ns. -/
def State.staleNs (s : State) : Nat := s.get F.CCE_STALE_TIME * 100000000

/-- R226: loop `z`'s input is stale at `t`. -/
def State.loopStale (s : State) (z t : Nat) : Bool :=
  (s.loopSensor z).isNone ||
  match s.loopSample z with
  | some r => decide (s.staleNs < t - r.stamp)
  | none => decide (s.staleNs < t - (s.loop z).since)

/-- R117, R234: UTC second of day at the instant `t`. -/
def State.utcSod (s : State) (t : Nat) : Nat := ((((t / nsPerSec : Nat) : Int) - s.sget F.TBU_UTCOFF_SEC) % 86400).toNat

/-- R234: second of the photoperiod, D. -/
def State.photoSec (s : State) (t : Nat) : Nat := (((s.utcSod t : Int) - s.get F.CCE_DAYSTART_SEC) % 86400).toNat

/-- R237: the latest photoperiod start at or before `t`, ns. -/
def State.photoStart (s : State) (t : Nat) : Nat := (t / nsPerSec - s.photoSec t) * nsPerSec

/-- R234, R236: the points of the curve that CCE_LCTL[z].CURVE names. -/
def State.loopCurve (s : State) (z : Nat) : List (Nat × Nat) := curvePoints (s.curveWords (s.get (F.CCE_LCTL_CURVE z)))

/-- R236: trajectory rate at `x`, 0 outside the curve. -/
def curveRate (x : Nat) : List (Nat × Nat) → Int
  | (x0, y0) :: (x1, y1) :: t =>
    if x0 ≤ x ∧ x < x1 then
      roundNear (((y1 : Int) - y0) * 8000) (x1 - x0) (Config.tieUp 236 (x1 + y1))
    else curveRate x ((x1, y1) :: t)
  | _ => 0

/-- R237: Imeas in mmol/m², rounded down. -/
def Loop.dli (l : Loop) : Nat := min 0xFFFF (l.imeas.toNat / 16000000000)

/-! ## Transitions (R240 to R244) -/

/-- R245: an event of loop `z`, at most once per second. -/
def State.loopEvent (s : State) (code z : Nat) (outer : Bool) (cause : Nat) : State :=
  let l := s.loop z
  let e := if outer then l.oe else l.e
  let u := if outer then s.get (F.CCE_LSP_INSP z) else s.get (F.CCE_LOUT_GAIN z)
  s.raiseRated nsPerSec code z [z + (if outer then 4096 else 0) + cause * 65536, ofSigned 32 e, u]

/-- R240, R241: loop `z` leaves TRACK or DLI at `t`. -/
def State.loopOpen (s : State) (z t : Nat) : State :=
  let s1 := s.put (F.CCE_LSTAT_EMODE z) 0
  if s.get (F.CCE_LOUT_GAIN z) = 0x4000 then s1
  else (s1.setFlag (F.CCE_LSTAT_RAMP z) true).setLoop z { s1.loop z with ramp0 := s.get (F.CCE_LOUT_GAIN z), rampAt := t }

/-- R244: loop `z` falls back to OPEN at `t` with the cause. -/
def State.fallback (s : State) (z t cause : Nat) (outer : Bool) : State :=
  let s1 := (s.put (F.CCE_LCTL_MODE z) 0).loopOpen z t
  (s1.setFlag F.CCE_STAT_FALLBACK true).loopEvent 0x504 z outer cause

/-- R243: loop `z` has stale input in TRACK or DLI. -/
def State.staleTrip (s : State) (z t : Nat) : State :=
  let s1 := ((s.setFlag (F.CCE_LSTAT_STALE z) true).incSat F.CCE_TRIPS_STALES).setFlag F.CCE_STAT_STALE true
  (s1.loopEvent 0x503 z false 0).fallback z t 2 false

/-- R241: one step of loop `z`'s hand-over ramp at the frame start `t`. -/
def State.rampStep (s : State) (z t : Nat) : State :=
  if s.flag (F.CCE_LSTAT_RAMP z) then
    let l := s.loop z
    let d := 16384 * s.get F.CCE_HSLEW_RATE * (t - l.rampAt) / (10000 * nsPerSec)
    let g := if l.ramp0 < 0x4000 then min 0x4000 (l.ramp0 + d) else max 0x4000 (l.ramp0 - d)
    let s1 := s.put (F.CCE_LOUT_GAIN z) g
    if g = 0x4000 then s1.setFlag (F.CCE_LSTAT_RAMP z) false else s1
  else s

/-- R242: the end of a following-error hold of loop `z`. -/
def State.feRelease (s : State) (z : Nat) (outer : Bool) : State :=
  let l := s.loop z
  let s1 := s.setLoop z (if outer then { l with ofeh := false, ofet := 0, orel := 0, opre := true }
    else { l with feh := false, fet := 0, rel := 0, pre := true })
  if s.emode z = .open_ then s1 else s1.loopEvent 0x502 z outer 0

/-- R242: release both holds of loop `z`. -/
def State.feReleaseAll (s : State) (z : Nat) : State :=
  let s1 := if (s.loop z).feh then s.feRelease z false else s
  if (s1.loop z).ofeh then s1.feRelease z true else s1

/-- R242: loop `z` trips. -/
def State.feTrip (s : State) (z t : Nat) (outer : Bool) : State :=
  let l := s.loop z
  let s1 := s.setLoop z (if outer then { l with ofeh := true, orel := 0 } else { l with feh := true, rel := 0 })
  let s2 := ((s1.incSat F.CCE_TRIPS_TRIPS).setFlag F.CCE_STAT_TRIP true).loopEvent 0x501 z outer 0
  if s.flag (F.CCE_LCTL_FEOPEN z) then s2.fallback z t 1 outer else s2

/-- R242: the following-error account of a run of `dt` µs with error `e`. -/
def State.feStep (s : State) (z t dt : Nat) (e : Int) (outer : Bool) : State :=
  let k := if outer then s.get (F.CCE_LCTL_OCSET z) else s.get (F.CCE_LCTL_ICSET z)
  let lim := s.get (F.CCE_FELIM_FELIM k)
  let time := s.get (F.CCE_FETIME_FETIME k) * 1000
  let l := s.loop z
  let far := lim ≠ 0 ∧ lim < e.natAbs
  if (if outer then l.ofeh else l.feh) then
    let r := if far then 0 else (if outer then l.orel else l.rel) + dt
    let s1 := s.setLoop z (if outer then { l with orel := r } else { l with rel := r })
    if !decide far && decide (time ≤ r) then s1.feRelease z outer else s1
  else
    let tm := if far then (if outer then l.ofet else l.fet) + dt else 0
    let s1 := s.setLoop z (if outer then { l with ofet := tm } else { l with fet := tm })
    if far ∧ time ≤ tm then s1.feTrip z t outer else s1

/-! ## A frame start (R227 to R230) -/

/-- R227: is the frame start `t` an inner instant. -/
def State.innerInstant (s : State) (t : Nat) : Bool := t / s.framePeriod % s.get F.CCE_IDIV_FRAMES == 0

/-- R240: loop `z` enters the mode it requests at the inner instant `t`; without any sample its integrators hold the outputs and its first
runs follow with the first sample. -/
def State.enterMode (s : State) (z t : Nat) : State :=
  let old := s.emode z
  let new := s.rmode z
  if old = new then s
  else if new = .open_ then s.loopOpen z t
  else
    let l := s.loop z
    let toDli := new == .dli
    let none_ := l.m.isNone
    let l1 := { l with
      runs := if toDli then 0 else l.runs
      pre := l.pre || old == LMode.open_ || !toDli
      opre := l.opre || toDli
      doInner := !none_ && (l.doInner || old == LMode.open_ || !toDli)
      doOuter := !none_ && toDli
      since := t }
    let l2 := if none_ then { l1 with pre := false, opre := false, ofirst := toDli, i := (s.get (F.CCE_LOUT_GAIN z) : Int) * 65536,
                                      oi := if toDli then (s.get (F.CCE_LSP_INSP z) : Int) * 65536 else l.oi }
      else { l1 with ofirst := false }
    ((s.setLoop z l2).put (F.CCE_LSTAT_EMODE z) new.code).setFlag (F.CCE_LSTAT_RAMP z) false

/-- R237, R488: the measured integral of loop `z` takes in the run at `t`; a photoperiod start since the last one presets the outer loop
at this run, or, met in QUIET, at the first run afterwards (R230). -/
def State.measureStep (s : State) (z t : Nat) : State :=
  let l := s.loop z
  match l.m with
  | none => s
  | some m =>
    let from_ := l.mp.getD t
    let start := s.photoStart t
    let crossed := decide (from_ < start) && decide (start ≤ t)
    let base := if l.dliRst || crossed then 0 else l.imeas.toNat
    let dt := if l.resumed then 0 else (t - (if crossed then start else from_)) / 1000
    s.setLoop z { l with resumed := false, imeas := BitVec.ofNat 64 (base + m * dt), mp := some t, dliRst := false, opre := l.opre || crossed
                         doOuter := l.doOuter || (crossed && s.emode z == .dli)
                         ofirst := l.ofirst || (crossed && s.emode z == .dli && s.mode != .run) }

/-- R226: the sample of loop `z` is new. -/
def State.sampleNew (s : State) (z : Nat) : Bool :=
  match s.loopSample z with
  | some r => (s.loop z).fresh || (s.loop z).stamp != some r.stamp
  | none => false

/-- R225, R226, R227: loop `z` takes its sample at the inner instant `t` if it is new. -/
def State.takeSample (s : State) (z t : Nat) : State :=
  let l := s.loop z
  let l1 := match s.loopSample z with
    | some r => if s.sampleNew z then { l with m := some (min 0xFFFF (r.value.toNat / 4096)), stamp := some r.stamp, fresh := false } else l
    | none => l
  s.setLoop z { l1 with prepAt := some t, doInner := s.sampleNew z, doOuter := false }

/-- R226, R243: the staleness of loop `z` at the inner instant `t`, whose sample is new or not; in QUIET a loop does not fall back. -/
def State.staleCheck (s : State) (z t : Nat) (isNew : Bool) : State :=
  if s.loopStale z t then
    if s.emode z = LMode.open_ then s.setFlag (F.CCE_LSTAT_STALE z) true else if s.mode == .run then s.staleTrip z t else s
  else if isNew then s.setFlag (F.CCE_LSTAT_STALE z) false else s

/-- R228, R240: the outer loop of a loop in DLI is due: every CCE_ODIV-th run, and with the first sample after an entry without one. -/
def State.outerDue (s : State) (z : Nat) (isNew : Bool) : Bool :=
  s.emode z == .dli && isNew && ((s.loop z).ofirst || decide (s.get F.CCE_ODIV_RUNS ≤ (s.loop z).runs + 1))

/-- R226, R227, R237, R240, R243: the new sample, the staleness check, the mode change and the measured integral of loop `z` at the frame
start `t`, once. -/
def State.prepLoop (s : State) (z t : Nat) : State :=
  if (s.loop z).prepAt = some t ∨ z = 511 ∨ !s.innerInstant t then s
  else
    let isNew := s.sampleNew z
    let s2 := (s.takeSample z t).staleCheck z t isNew
    let s3 := if s.mode == .run then s2.enterMode z t else s2
    let s4 := if s.mode == .run && s3.outerDue z isNew then s3.setLoop z { s3.loop z with doOuter := true } else s3
    if (s4.loop z).doInner then s4.measureStep z t else s4

/-- R228, R236: the outer run of loop `z` at the inner instant `t`, once. -/
def State.outerRun (s : State) (z t : Nat) : State :=
  let l := s.loop z
  if !l.doOuter || l.prepAt != some t || s.emode z != .dli || s.mode != .run then s
  else
    let pts := s.loopCurve z
    let x := s.photoSec t / 2
    let traj : Int := (curveAt x pts).1
    let r := curveRate x pts
    let e := traj - roundNear l.imeas.toNat 16000000000 (Config.tieUp 236 l.imeas.toNat)
    let k := s.get (F.CCE_LCTL_OCSET z)
    let dt := match l.ofp with | some p => (t - p) / 1000 | none => 0
    let insp : Int := s.get (F.CCE_LSP_INSP z)
    let sat := s.flag (F.CCE_LSTAT_SAT z)
    let o := law (s.coef k) r e dt insp l.oi (sat && decide (0 < l.e)) (sat && decide (l.e < 0))
      (if l.opre || l.oset != k then some insp else none)
    let held := l.ofeh
    let s1 := s.setLoop z { l with oi := if held then l.oi else o.i, oe := e, ofp := some t, opre := held && l.opre, oset := k,
                                   outerAt := some t, runs := 0, ofirst := false, doOuter := false }
    let s2 := if held then s1 else (s1.put (F.CCE_LSP_INSP z) o.u.toNat).setFlag (F.CCE_LSTAT_OSAT z) o.sat
    s2.feStep z t dt e true

/-- R233: inner hold-up. -/
def State.innerHoldUp (s : State) (z : Nat) : Bool :=
  decide (s.loopQ z < 65536) || s.flag (F.ZON_STAT_SATG z)

/-- R230, R231, R234, R235: the inner run of loop `z` at the inner instant `t`, once; a loop in OPEN only measures, and in QUIET no loop
runs. -/
def State.innerRun (s : State) (z t : Nat) : State :=
  let l := s.loop z
  if !l.doInner || l.prepAt != some t then s
  else
    let s0 := s.setLoop z { l with doInner := false }
    if s.mode != .run then s0
    else
      let s1 := s0.put (F.CCE_LOUT_MEAS z) (l.m.getD 0)
      let m : Int := (l.m.getD 0 : Nat)
      match s1.emode z with
      | .open_ => (s1.setLoop z { s1.loop z with fp := some t }).put (F.CCE_LSP_INSP z) m.toNat
      | md =>
        let l1 := s1.loop z
        let sp : Int := match md with
          | .dli => s1.get (F.CCE_LSP_INSP z)
          | _ => if s1.flag (F.CCE_LCTL_SPSEL z) then ((curveAt (s1.photoSec t / 2) (s1.loopCurve z)).1 : Nat)
                 else s1.get (F.CCE_LSP_SP z)
        let e := sp - m
        let k := s1.get (F.CCE_LCTL_ICSET z)
        let dt := match l1.fp with | some p => (t - p) / 1000 | none => 0
        let g : Int := s1.get (F.CCE_LOUT_GAIN z)
        let o := law (s1.coef k) sp e dt g l1.i (s1.innerHoldUp z) false (if l1.pre || l1.iset != k then some g else none)
        let held := l1.feh
        let s2 := s1.setLoop z { l1 with i := if held then l1.i else o.i, e := e, fp := some t, pre := held && l1.pre, iset := k,
                                         runs := if md = .dli ∧ l1.outerAt ≠ some t then l1.runs + 1 else l1.runs,
                                         q := s1.loopQ z }
        let s3 := if md = .track then s2.put (F.CCE_LSP_INSP z) sp.toNat else s2
        let s4 := if held then s3
          else ((s3.put (F.CCE_LOUT_GAIN z) o.u.toNat).setFlag (F.CCE_LSTAT_SAT z) o.sat).put (F.CCE_LSTAT_SATSRC z) o.src
        s4.feStep z t dt e false

/-- R229: step 2 of R25 at the frame start `t`: ramps, then outer loops, then inner loops, in ascending zone order. -/
def State.runLoops (s : State) (t : Nat) : State :=
  let s0 := (if s.mode == .run then forUp (fun z s => s.rampStep z t) 511 s else s).latchLoops
  if s0.innerInstant t then
    let s1 := forUp (fun z s => s.prepLoop z t) 511 s0
    let s2 := forUp (fun z s => s.outerRun z t) 511 s1
    forUp (fun z s => s.innerRun z t) 511 s2
  else s0

/-- The frame-grid instant in force. -/
def State.frameNow (s : State) : Nat := s.gridAt s.ns

def execInnerLoopRun (z : BitVec 9) (s : State) : Res :=
  .next (if s.inRunQuiet then (((s.prepLoop z.toNat s.frameNow).outerRun z.toNat s.frameNow).innerRun z.toNat s.frameNow) else s)

def execOuterLoopRun (z : BitVec 9) (s : State) : Res :=
  .next (if s.inRunQuiet then ((s.prepLoop z.toNat s.frameNow).outerRun z.toNat s.frameNow) else s)

/-- R230, R242: loop `z` runs in the mode in which its inner (outer) error counts. -/
def State.feRuns (s : State) (z : Nat) (outer : Bool) : Bool := if outer then s.emode z == .dli else s.emode z != .open_

/-- R242: the loop's timer has reached FETIME and it has not tripped. -/
def State.feDue (s : State) (z : Nat) (outer : Bool) : Bool :=
  let l := s.loop z
  let k := if outer then s.get (F.CCE_LCTL_OCSET z) else s.get (F.CCE_LCTL_ICSET z)
  let held := if outer then l.ofeh else l.feh
  let tm := if outer then l.ofet else l.fet
  s.feRuns z outer && !held && s.get (F.CCE_FELIM_FELIM k) != 0 && decide (0 < tm) && decide (s.get (F.CCE_FETIME_FETIME k) * 1000 ≤ tm)

def execCceFetrip (z : BitVec 9) (outer : Bool) (s : State) : Res :=
  .next (if s.mode == .run && s.feDue z.toNat outer then s.feTrip z.toNat s.frameNow outer else s)

/-- R242: the error of a held loop that has not fallen back has stayed within FELIM for FETIME. -/
def State.feClearDue (s : State) (z : Nat) (outer : Bool) : Bool :=
  let l := s.loop z
  let k := if outer then s.get (F.CCE_LCTL_OCSET z) else s.get (F.CCE_LCTL_ICSET z)
  let lim := s.get (F.CCE_FELIM_FELIM k)
  let near := lim == 0 || decide ((if outer then l.oe else l.e).natAbs ≤ lim)
  s.feRuns z outer && near && (if outer then l.ofeh && decide (s.get (F.CCE_FETIME_FETIME k) * 1000 ≤ l.orel)
    else l.feh && decide (s.get (F.CCE_FETIME_FETIME k) * 1000 ≤ l.rel))

def execCceFeclear (z : BitVec 9) (outer : Bool) (s : State) : Res :=
  .next (if s.mode == .run && s.feClearDue z.toNat outer then s.feRelease z.toNat outer else s)

def execCceStale (z : BitVec 9) (s : State) : Res :=
  .next (if s.mode == .run && z.toNat != 511 && s.emode z.toNat != .open_ && s.loopStale z.toNat s.frameNow then
    s.staleTrip z.toNat s.frameNow else s)

/-! ## Host commands -/

/-- R223, R224, R242: CCE_LCTL[z]. -/
def State.lctlWrite (s : State) (z v : Nat) : State :=
  if z = 511 then s.answer stIgnored
  else
    let s1 := if v % 4 = 3 then s else (s.put (F.CCE_LCTL_MODE z) (v % 4)).feReleaseAll z
    (s1.put ⟨Reg.CCE_LCTL z, 2, 22⟩ (v / 4)).answer stOk

def execCceLctlWrite (z : BitVec 9) (v : BitVec 32) (s : State) : Res :=
  .next (s.hostWr (Reg.CCE_LCTL z.toNat) v.toNat fun s => s.lctlWrite z.toNat v.toNat)

/-- R238, R240: every staged coefficient word becomes effective; the next run of a loop on a changed set is a preset run. -/
def State.cceCommit (s : State) : State :=
  let changed := s.cce.staged.filterMap fun p =>
    match p.2 with | some w => if s.rd p.1 = w then none else some ((p.1 - 0x64000) / 32) | none => none
  let s1 := forEach (fun (p : Nat × Option Word) s => match p.2 with | some w => s.wr p.1 w | none => s) s.cce.staged s
  let s2 : State := { s1 with cce := { s1.cce with
    staged := []
    loops := s1.cce.loops.map fun p =>
      (p.1, { p.2 with pre := p.2.pre || (changed.contains (s1.get (F.CCE_LCTL_ICSET p.1)) && s1.emode p.1 != .open_)
                       opre := p.2.opre || (changed.contains (s1.get (F.CCE_LCTL_OCSET p.1)) && s1.emode p.1 == .dli) }) } }
  s2.answer stOk

def execCceCmdCommit (s : State) : Res := .next (s.hostWr Reg.CCE_CMD 1 (·.cceCommit))

def execCceCmdFeclr (s : State) : Res :=
  .next (s.hostWr Reg.CCE_CMD 2 fun s => (s.feReleaseAll (s.get F.CCE_SEL_LOOP)).answer stOk)

/-- R237: DLIRST. -/
def State.dliReset (s : State) : State :=
  let z := s.get F.CCE_SEL_LOOP
  (s.setLoop z { s.loop z with dliRst := true }).answer stOk

def execCceCmdDlirst (s : State) : Res := .next (s.hostWr Reg.CCE_CMD 4 (·.dliReset))

/-- R56, R226: ZON_SRC[z]; the first sample after it counts as new. -/
def State.zonSrcWrite (s : State) (z v : Nat) : State :=
  ((s.put ⟨Reg.ZON_SRC z, 0, 24⟩ v).setLoop z { s.loop z with fresh := true, stamp := none, m := none, since := s.ns }).answer stOk

end Sys2Proof.Machine
end

