-- ==== Sys2Proof/Machine/Evq.lean ====
section
/-!
DEFINITION. Machine/Evq.lean: the event queue's and the journal's commands (chapter 14, R393 to R402, R410, R411, R526).
-/

namespace Sys2Proof.Machine

/-! ## Reading the queue (R389, R393, R396) -/

/-- Raise the events that a change of the fill level gives rise to. -/
def State.raiseMore (p : State × List Ev) : State := raiseAll 24 p.2 p.1

/-- R389: the record is readable. -/
def QRec.readable (q : QRec) : Bool := q.copy.isNone

/-- R393, R397: the record that a read of EVQ_POP0 returns from a list: the oldest readable one, of the highest PRIO in priority
mode. -/
def nextRec (prio : Bool) (l : List QRec) : Option QRec :=
  let r := l.filter (·.readable)
  let top := (r.map (·.prio)).foldl max 0
  r.find? fun q => !prio || q.prio == top

/-- The list without its first entry equal to `q`. -/
def dropRec (q : QRec) : List QRec → List QRec
  | [] => []
  | x :: t => if x = q then t else x :: dropRec q t

/-- The list that the host reads. -/
def State.readList (s : State) : List QRec := if s.prioMode then s.draining else s.evq.fifo

/-- R410: nothing is readable. -/
def State.evqEmpty (s : State) : Bool := s.readList.all fun q => !q.readable

/-- Replace the list that the host reads. -/
def State.setReadList (s : State) (l : List QRec) : State :=
  if s.prioMode then s.setDraining l else { s with evq := { s.evq with fifo := l } }

/-- R396: EVQ_POP1 to EVQ_POP7 take w1 to w7. -/
def State.popLatch (s : State) (ws : List Word) : State := s.wrs (Reg.EVQ_POP1) (ws.drop 1)

/-- R396: a read of EVQ_POP0. -/
def State.pop0 (s : State) : State × Word :=
  match nextRec s.prioMode s.readList with
  | some q => (((s.setReadList (dropRec q s.readList)).setFull).popLatch q.record.words, q.record.w0)
  | none => (s.popLatch (List.replicate 8 0), 0)

def execEvqPop0Read (s : State) : Res :=
  .next (if s.inRunQuiet then { s.pop0.1.answer stOk with rdata := [s.pop0.2] } else s)

/-! ## Banks and modes (R393, R394, R397) -/

/-- The banks exchange roles. -/
def State.swapBanks (s : State) : State :=
  let before := s.filling.length
  State.raiseMore (((s.put F.EVQ_STAT_DBANK (1 - s.get F.EVQ_STAT_DBANK)).setFull).watermark before)

/-- R393: the banks swap when the draining bank is empty and the filling bank is not. -/
def State.bankSwap (s : State) : State :=
  if s.prioMode && s.draining == [] && s.filling != [] then s.swapBanks else s

def execEvqBankSwap (s : State) : Res := .next s.bankSwap

/-- R394: EVQ_CMD.SWAP. -/
def State.evqSwap (s : State) : State := (if s.prioMode && s.filling != [] then s.swapBanks else s).answer stOk

def execEvqCmdSwap (s : State) : Res := .next (s.hostWr Reg.EVQ_CMD 1 (·.evqSwap))

def execEvqCtlWrite (v : BitVec 32) (s : State) : Res :=
  .next (s.hostWr Reg.EVQ_CTL v.toNat fun s => (s.put F.EVQ_CTL_MODE v.toNat).answer stOk)

/-- R397: a requested mode takes effect once the queue is empty. -/
def State.modeChange (s : State) : State :=
  let want := s.get F.EVQ_CTL_MODE
  let empty := if s.prioMode then s.evq.bank0 == [] && s.evq.bank1 == [] else s.evq.fifo == []
  if want != s.get F.EVQ_STAT_EMODE && empty then (s.put F.EVQ_STAT_EMODE want).setFull else s

def execEvqModeChange (s : State) : Res := .next s.modeChange

/-- R398: a read of EVQ_WMSTAT; one that returns WMHIT clears it and sets PEAK to the present level. -/
def State.wmRead (s : State) : State × Word :=
  let w := s.rd Reg.EVQ_WMSTAT
  if s.flag F.EVQ_WMSTAT_WMHIT then ((s.setFlag F.EVQ_WMSTAT_WMHIT false).put F.EVQ_WMSTAT_PEAK s.filling.length, w) else (s, w)

def execEvqWmstatRead (s : State) : Res :=
  .next (if s.inRunQuiet then { s.wmRead.1.answer stOk with rdata := [s.wmRead.2] } else s)

/-- R392: EVQ_PMAP of the selected code; NOQ of the fixed codes is not written. -/
def State.pmapWrite (s : State) (v : Nat) : State :=
  let c := s.get F.EVQ_PSEL_CODE
  let e := s.evq
  let noq := if noqFixed c then e.noq else spSet (fun _ => false) e.noq c (bit v 2)
  ({ s with evq := { e with prio := spSet defaultPrio e.prio c (v % 4), noq := noq } } : State).answer stOk

/-- R392: EVQ_PMAP as the host reads it. -/
def State.pmapRead (s : State) : Word :=
  let c := s.get F.EVQ_PSEL_CODE
  BitVec.ofNat 32 (s.prioOf c + (if s.noqOf c then 4 else 0))

/-! ## The journal's cursor (R401, R402) -/

/-- R399: the record with absolute number `n`. -/
def State.jnlRec (s : State) (n : Nat) : EvRec := EvRec.ofWords (s.rds (jnlAddr n) 8)

/-- R399: number `n` names a record present. -/
def State.jnlHas (s : State) (n : Nat) : Bool :=
  let d := (s.get F.JNL_WPTR_NUM + 4294967296 - n % 4294967296) % 4294967296
  decide (0 < d) && decide (d ≤ s.get F.JNL_COUNT_RECS)

/-- R401: a read of JNL_RD0. -/
def State.jnlRead (s : State) : State × Word :=
  let n := s.get F.JNL_CUR_NUM
  let r := s.jnlRec n
  if n = s.get F.JNL_WPTR_NUM then (s, 0)
  else if !s.jnlHas n then (s.setFlag F.JNL_STAT_RDERR true, 0)
  else if r.crcOk then ((s.inc F.JNL_CUR_NUM).wrs (Reg.JNL_RD1) (r.words.drop 1), r.w0)
  else ({ s.setFlag F.JNL_STAT_BAD true with evq := { s.evq with bad := n :: s.evq.bad.filter (· != n) } }, 0)

def execJnlRd0Read (s : State) : Res :=
  .next (if s.inRunQuiet then { s.jnlRead.1.answer stOk with rdata := [s.jnlRead.2] } else s)

/-- R401: the record of JNL_RECLOST for number `n`, as `raise1` creates it. -/
def State.recLost (s : State) (n : Nat) : EvRec :=
  let ev : Ev := { code := 0xC05, pay := [n] }
  mkRec s ev (s.recLocal ev) (s.number (s.recLocal ev)).1

/-- R401: record `n`, whose CRC is wrong, is repaired from the partner's copy, or replaced by a copy of JNL_RECLOST. -/
def State.jnlFix (s : State) (n : Nat) (partner : Option EvRec) : State :=
  if !s.jnlHas n || (s.jnlRec n).crcOk then s.badDone n
  else
    match (if s.activePaired || s.isStandby then partner.filter (·.crcOk) else none) with
    | some r => (((s.wrs (jnlAddr n) r.words).badDone n).incSat F.JNL_REPAIR_COUNT).raise 0xC04 0
    | none => (((s.raise 0xC05 0 [n]).setFlag F.JNL_STAT_RECLOST true).wrs (jnlAddr n) (s.recLost n).words).badDone n

def execJnlRepair (n : BitVec 32) (partner : Option EvRec) (s : State) : Res := .next (s.jnlFix n.toNat partner)

/-- R399: the number of the oldest record present. -/
def State.jnlOldest (s : State) : Nat := (s.get F.JNL_WPTR_NUM + 4294967296 - s.get F.JNL_COUNT_RECS) % 4294967296

/-- R401: every record of the journal is checked, and repaired. -/
def State.jnlPass (s : State) (partner : List (Nat × EvRec)) : State :=
  forUp (fun k t => let n := (s.jnlOldest + k) % 4294967296; t.jnlFix n ((partner.find? fun p => p.1 == n).map (·.2)))
    (s.get F.JNL_COUNT_RECS) s

/-- R401: the period of the journal's scrub, 24 hours. -/
def jnlPeriod : Nat := 86400 * nsPerSec

/-- R401, R526: a pass over the journal that has fallen due. -/
def State.jnlScrub (s : State) (partner : List (Nat × EvRec)) : State :=
  if s.inRunQuiet && decide (s.phu.scrubJ < s.scrubsDue jnlPeriod) then
    ({ s with phu := { s.phu with scrubJ := s.phu.scrubJ + 1 } } : State).jnlPass partner
  else s

def execJnlScrubPass (partner : List (BitVec 32 × EvRec)) (s : State) : Res := .next (s.jnlScrub (partner.map fun p => (p.1.toNat, p.2)))

/-- R402: JNL_CMD.REWIND to mark `m`. -/
def State.rewind (s : State) (m : Nat) (oldest : Bool) : State :=
  (if bit (s.get F.JNL_MSTAT_VALID) m && !bit (s.get F.JNL_MSTAT_LOST) m then s.put F.JNL_CUR_NUM (s.get (F.JNL_MARK_NUM m))
   else if oldest then s.put F.JNL_CUR_NUM s.jnlOldest
   else s.setFlag F.JNL_STAT_RDERR true).answer stOk

def execJnlCmdRewind (m : BitVec 3) (oldest : Bool) (s : State) : Res :=
  .next (s.hostWr Reg.JNL_CMD (m.toNat + 8) fun s => s.rewind m.toNat oldest)

/-- R402: a write of mark `m`. -/
def State.markWrite (s : State) (m v : Nat) : State :=
  (((s.put (F.JNL_MARK_NUM m) v).put F.JNL_MSTAT_VALID (setBit (s.get F.JNL_MSTAT_VALID) m true)).put F.JNL_MSTAT_LOST
    (setBit (s.get F.JNL_MSTAT_LOST) m false)).answer stOk

def execJnlMarkWrite (m : BitVec 3) (v : BitVec 32) (s : State) : Res :=
  .next (s.hostWr (Reg.JNL_MARK m.toNat) v.toNat fun s => s.markWrite m.toNat v.toNat)

end Sys2Proof.Machine
end

