-- ==== Sys2Proof/Machine/Crypto.lean ====
section
/-!
DEFINITION. Machine/Crypto.lean: the standard algorithms the spec names: SHA-256, HMAC-SHA-256, HKDF-SHA-256, AES, CCM*, GCM,
AES-CMAC, SHA-512 and Ed25519.  Their definitions are those of the public standards (FIPS 180-4, RFC 2104, RFC 5869, FIPS 197,
RFC 3610, SP 800-38D, SP 800-38B, RFC 8032), which the spec takes as given (assumption log 5, PRESUMED).  Byte strings are
lists of numbers below 256.
-/

namespace Sys2Proof.Machine.Crypto

/-- The big-endian number of a byte string. -/
def ofBytes (bs : List Nat) : Nat := bs.foldl (fun n b => n * 256 + b % 256) 0

/-- The low `n` bytes of a number, most significant first. -/
def toBytes (n v : Nat) : List Nat := (List.range n).map fun i => v / 256 ^ (n - 1 - i) % 256

/-- The low `n` bytes of a number, least significant first. -/
def toBytesLE (n v : Nat) : List Nat := (List.range n).map fun i => v / 256 ^ i % 256

/-- The little-endian number of a byte string. -/
def ofBytesLE (bs : List Nat) : Nat := ofBytes bs.reverse

/-- Exclusive or of two byte strings of one length. -/
def xorBytes (a b : List Nat) : List Nat := List.zipWith (fun x y => x ^^^ y) a b

/-- Cut a list into pieces of `n` elements; `fuel` bounds the pieces. -/
def chunks {α : Type} (n : Nat) : Nat → List α → List (List α)
  | 0, _ => []
  | _, [] => []
  | fuel + 1, l => l.take n :: chunks n fuel (l.drop n)

/-! ## SHA-2 -/

/-- Padding of a message of `len` bytes to blocks of `blk` bytes with a length field of `lb` bytes. -/
def shaPad (blk lb : Nat) (m : List Nat) : List Nat :=
  let z := (2 * blk - 1 - lb - m.length % blk) % blk
  m ++ [0x80] ++ List.replicate z 0 ++ toBytes lb (8 * m.length)

/-- Word `i` of `n` words of `b` bits packed most significant first in one number. -/
def packed (b n v i : Nat) : Nat := v / 2 ^ (b * (n - 1 - i)) % 2 ^ b

/-- The round constants and initial values (FIPS 180-4). -/
def k256 : Nat := 0x428A2F9871374491B5C0FBCFE9B5DBA53956C25B59F111F1923F82A4AB1C5ED5D807AA9812835B01243185BE550C7DC372BE5D7480DEB1FE9BDC06A7C19BF174E49B69C1EFBE47860FC19DC6240CA1CC2DE92C6F4A7484AA5CB0A9DC76F988DA983E5152A831C66DB00327C8BF597FC7C6E00BF3D5A7914706CA63511429296727B70A852E1B21384D2C6DFC53380D13650A7354766A0ABB81C2C92E92722C85A2BFE8A1A81A664BC24B8B70C76C51A3D192E819D6990624F40E3585106AA07019A4C1161E376C082748774C34B0BCB5391C0CB34ED8AA4A5B9CCA4F682E6FF3748F82EE78A5636F84C878148CC7020890BEFFFAA4506CEBBEF9A3F7C67178F2
def h256 : Nat := 0x6A09E667BB67AE853C6EF372A54FF53A510E527F9B05688C1F83D9AB5BE0CD19
def k512 : Nat := 0x428A2F98D728AE227137449123EF65CDB5C0FBCFEC4D3B2FE9B5DBA58189DBBC3956C25BF348B53859F111F1B605D019923F82A4AF194F9BAB1C5ED5DA6D8118D807AA98A303024212835B0145706FBE243185BE4EE4B28C550C7DC3D5FFB4E272BE5D74F27B896F80DEB1FE3B1696B19BDC06A725C71235C19BF174CF692694E49B69C19EF14AD2EFBE4786384F25E30FC19DC68B8CD5B5240CA1CC77AC9C652DE92C6F592B02754A7484AA6EA6E4835CB0A9DCBD41FBD476F988DA831153B5983E5152EE66DFABA831C66D2DB43210B00327C898FB213FBF597FC7BEEF0EE4C6E00BF33DA88FC2D5A79147930AA72506CA6351E003826F142929670A0E6E7027B70A8546D22FFC2E1B21385C26C9264D2C6DFC5AC42AED53380D139D95B3DF650A73548BAF63DE766A0ABB3C77B2A881C2C92E47EDAEE692722C851482353BA2BFE8A14CF10364A81A664BBC423001C24B8B70D0F89791C76C51A30654BE30D192E819D6EF5218D69906245565A910F40E35855771202A106AA07032BBD1B819A4C116B8D2D0C81E376C085141AB532748774CDF8EEB9934B0BCB5E19B48A8391C0CB3C5C95A634ED8AA4AE3418ACB5B9CCA4F7763E373682E6FF3D6B2B8A3748F82EE5DEFB2FC78A5636F43172F6084C87814A1F0AB728CC702081A6439EC90BEFFFA23631E28A4506CEBDE82BDE9BEF9A3F7B2C67915C67178F2E372532BCA273ECEEA26619CD186B8C721C0C207EADA7DD6CDE0EB1EF57D4F7FEE6ED17806F067AA72176FBA0A637DC5A2C898A6113F9804BEF90DAE1B710B35131C471B28DB77F523047D8432CAAB7B40C724933C9EBE0A15C9BEBC431D67C49C100D4C4CC5D4BECB3E42B6597F299CFC657E2A5FCB6FAB3AD6FAEC6C44198C4A475817
def h512 : Nat := 0x6A09E667F3BCC908BB67AE8584CAA73B3C6EF372FE94F82BA54FF53A5F1D36F1510E527FADE682D19B05688C2B3E6C1F1F83D9ABFB41BD6B5BE0CD19137E2179

/-- The rotation amounts of the six functions: for each of Σ0, Σ1 three rotations, for σ0, σ1 two rotations and a shift. -/
structure ShaRot where
  bs0 : Nat × Nat × Nat
  bs1 : Nat × Nat × Nat
  ss0 : Nat × Nat × Nat
  ss1 : Nat × Nat × Nat

def rot256 : ShaRot := ⟨(2, 13, 22), (6, 11, 25), (7, 18, 3), (17, 19, 10)⟩
def rot512 : ShaRot := ⟨(28, 34, 39), (14, 18, 41), (1, 8, 7), (19, 61, 6)⟩

def shaBig {w : Nat} (r : Nat × Nat × Nat) (x : BitVec w) : BitVec w :=
  x.rotateRight r.1 ^^^ x.rotateRight r.2.1 ^^^ x.rotateRight r.2.2

def shaSmall {w : Nat} (r : Nat × Nat × Nat) (x : BitVec w) : BitVec w :=
  x.rotateRight r.1 ^^^ x.rotateRight r.2.1 ^^^ (x >>> r.2.2)

/-- The message schedule, newest word first. -/
def shaSched {w : Nat} (r : ShaRot) : Nat → List (BitVec w) → List (BitVec w)
  | 0, l => l
  | n + 1, l =>
    shaSched r n ((shaSmall r.ss1 (l.getD 1 0) + l.getD 6 0 + shaSmall r.ss0 (l.getD 14 0) + l.getD 15 0) :: l)

/-- One compression of a block's schedule. -/
def shaRounds {w : Nat} (r : ShaRot) (k : List (BitVec w)) (ws : List (BitVec w)) (h : List (BitVec w)) : List (BitVec w) :=
  (List.zip k ws).foldl (fun v kw =>
    match v with
    | [a, b, c, d, e, f, g, hh] =>
      let t1 := hh + shaBig r.bs1 e + ((e &&& f) ^^^ (~~~e &&& g)) + kw.1 + kw.2
      let t2 := shaBig r.bs0 a + ((a &&& b) ^^^ (a &&& c) ^^^ (b &&& c))
      [t1 + t2, a, b, c, d + t1, e, f, g]
    | v => v) h

/-- SHA-256 of a byte string. -/
def sha256 (m : List Nat) : List Nat :=
  let k : List (BitVec 32) := (List.range 64).map fun i => BitVec.ofNat 32 (packed 32 64 k256 i)
  let h0 : List (BitVec 32) := (List.range 8).map fun i => BitVec.ofNat 32 (packed 32 8 h256 i)
  let p := shaPad 64 8 m
  let h := (chunks 64 (p.length / 64) p).foldl (fun h blk =>
    let w16 : List (BitVec 32) := ((chunks 4 16 blk).map fun b => BitVec.ofNat 32 (ofBytes b)).reverse
    List.zipWith (· + ·) h (shaRounds rot256 k (shaSched rot256 48 w16).reverse h)) h0
  h.flatMap fun x => toBytes 4 x.toNat

/-- SHA-512 of a byte string. -/
def sha512 (m : List Nat) : List Nat :=
  let k : List (BitVec 64) := (List.range 80).map fun i => BitVec.ofNat 64 (packed 64 80 k512 i)
  let h0 : List (BitVec 64) := (List.range 8).map fun i => BitVec.ofNat 64 (packed 64 8 h512 i)
  let p := shaPad 128 16 m
  let h := (chunks 128 (p.length / 128) p).foldl (fun h blk =>
    let w16 : List (BitVec 64) := ((chunks 8 16 blk).map fun b => BitVec.ofNat 64 (ofBytes b)).reverse
    List.zipWith (· + ·) h (shaRounds rot512 k (shaSched rot512 64 w16).reverse h)) h0
  h.flatMap fun x => toBytes 8 x.toNat

/-- HMAC-SHA-256. -/
def hmac (key m : List Nat) : List Nat :=
  let k0 := if 64 < key.length then sha256 key else key
  let k := k0 ++ List.replicate (64 - k0.length) 0
  sha256 (k.map (fun b => b ^^^ 0x5C) ++ sha256 (k.map (fun b => b ^^^ 0x36) ++ m))

/-- HKDF-SHA-256: extract. -/
def hkdfExtract (salt ikm : List Nat) : List Nat := hmac (if salt = [] then List.replicate 32 0 else salt) ikm

/-- HKDF-SHA-256: expand, `n` blocks of 32 bytes. -/
def hkdfBlocks (prk info : List Nat) : Nat → Nat → List Nat → List Nat
  | 0, _, _ => []
  | n + 1, i, prev =>
    let t := hmac prk (prev ++ info ++ [i])
    t ++ hkdfBlocks prk info n (i + 1) t

/-- HKDF-SHA-256 expand to `len` bytes. -/
def hkdfExpand (prk info : List Nat) (len : Nat) : List Nat := (hkdfBlocks prk info ((len + 31) / 32) 1 []).take len

/-- HKDF-SHA-256. -/
def hkdf (salt ikm info : List Nat) (len : Nat) : List Nat := hkdfExpand (hkdfExtract salt ikm) info len

/-! ## AES -/

/-- The S-box (FIPS 197), packed. -/
def sboxes : Nat := 0x637C777BF26B6FC53001672BFED7AB76CA82C97DFA5947F0ADD4A2AF9CA472C0B7FD9326363FF7CC34A5E5F171D8311504C723C31896059A071280E2EB27B27509832C1A1B6E5AA0523BD6B329E32F8453D100ED20FCB15B6ACBBE394A4C58CFD0EFAAFB434D338545F9027F503C9FA851A3408F929D38F5BCB6DA2110FFF3D2CD0C13EC5F974417C4A77E3D645D197360814FDC222A908846EEB814DE5E0BDBE0323A0A4906245CC2D3AC629195E479E7C8376D8DD54EA96C56F4EA657AAE08BA78252E1CA6B4C6E8DD741F4BBD8B8A703EB5664803F60E613557B986C11D9EE1F8981169D98E949B1E87E9CE5528DF8CA1890DBFE6426841992D0FB054BB16
def sbox (x : Nat) : Nat := packed 8 256 sboxes (x % 256)

/-- Multiplication by x in GF(2^8). -/
def xtime (a : Nat) : Nat := if a < 128 then 2 * a else (2 * a) % 256 ^^^ 0x1B

/-- Key expansion: words as 4-byte lists, newest first; `i` counts words. -/
def keySched (nk : Nat) : Nat → Nat → Nat → List (List Nat) → List (List Nat)
  | 0, _, _, ws => ws
  | n + 1, i, rc, ws =>
    let prev := ws.headD []
    let t :=
      if i % nk = 0 then xorBytes ((prev.drop 1 ++ prev.take 1).map sbox) [rc, 0, 0, 0]
      else if 6 < nk ∧ i % nk = 4 then prev.map sbox else prev
    keySched nk n (i + 1) (if i % nk = 0 then xtime rc else rc) (xorBytes (ws.getD (nk - 1) []) t :: ws)

/-- Round keys of an AES key of 16 or 32 bytes. -/
def roundKeys (key : List Nat) : List (List Nat) :=
  let nk := key.length / 4
  let ws := (keySched nk (4 * (nk + 7) - nk) nk 1 (chunks 4 nk key).reverse).reverse
  (chunks 4 (nk + 7) ws).map fun g => g.flatten

/-- ShiftRows. -/
def shiftRows (s : List Nat) : List Nat := (List.range 16).map fun i => s.getD ((i + 4 * (i % 4)) % 16) 0

/-- MixColumns. -/
def mixColumns (s : List Nat) : List Nat :=
  (chunks 4 4 s).flatMap fun c =>
    (List.range 4).map fun i =>
      let g (k : Nat) : Nat := c.getD ((i + k) % 4) 0
      xtime (g 0) ^^^ (xtime (g 1) ^^^ g 1) ^^^ g 2 ^^^ g 3

/-- AES encryption of one 16-byte block under expanded keys. -/
def aesWith (rks : List (List Nat)) (blk : List Nat) : List Nat :=
  match rks with
  | [] => blk
  | k0 :: rest =>
    let mid := rest.dropLast.foldl (fun s k => xorBytes (mixColumns (shiftRows (s.map sbox))) k) (xorBytes blk k0)
    xorBytes (shiftRows (mid.map sbox)) (rest.getLastD [])

/-- AES encryption of one block. -/
def aes (key blk : List Nat) : List Nat := aesWith (roundKeys key) blk

/-- CTR encryption with the counter block `ctr i` for block i. -/
def ctrMode (rks : List (List Nat)) (ctr : Nat → List Nat) (i : Nat) : Nat → List Nat → List Nat
  | 0, _ => []
  | _, [] => []
  | fuel + 1, m => xorBytes (m.take 16) (aesWith rks (ctr i)) ++ ctrMode rks ctr (i + 1) fuel (m.drop 16)

/-- Pad with zeros to a multiple of 16 bytes. -/
def pad16 (m : List Nat) : List Nat := m ++ List.replicate ((16 - m.length % 16) % 16) 0

/-- CBC-MAC of a string of whole blocks. -/
def cbcMac (rks : List (List Nat)) (m : List Nat) : List Nat :=
  (chunks 16 (m.length / 16) m).foldl (fun x b => aesWith rks (xorBytes x b)) (List.replicate 16 0)

/-- CCM authentication value with a 13-byte nonce and a tag of `tl` bytes, before encryption. -/
def ccmMac (rks : List (List Nat)) (nonce aad m : List Nat) (tl : Nat) : List Nat :=
  let b0 := ((if aad = [] then 0 else 64) + (tl - 2) / 2 * 8 + 1) :: (nonce ++ toBytes 2 m.length)
  let a := if aad = [] then [] else pad16 (toBytes 2 aad.length ++ aad)
  (cbcMac rks (b0 ++ a ++ pad16 m)).take tl

/-- CCM counter block. -/
def ccmCtr (nonce : List Nat) (i : Nat) : List Nat := 1 :: (nonce ++ toBytes 2 i)

/-- CCM encryption: ciphertext and tag. -/
def ccmSeal (key nonce aad m : List Nat) (tl : Nat) : List Nat × List Nat :=
  let rks := roundKeys key
  (ctrMode rks (ccmCtr nonce) 1 (m.length / 16 + 1) m,
   xorBytes (ccmMac rks nonce aad m tl) (aesWith rks (ccmCtr nonce 0)))

/-- CCM decryption: the plaintext, none when the tag is wrong. -/
def ccmOpen (key nonce aad c tag : List Nat) : Option (List Nat) :=
  let rks := roundKeys key
  let m := ctrMode rks (ccmCtr nonce) 1 (c.length / 16 + 1) c
  if xorBytes (ccmMac rks nonce aad m tag.length) (aesWith rks (ccmCtr nonce 0)) = tag then some m else none

/-- Multiplication in GF(2^128) as GCM orders bits. -/
def gmul (x y : Nat) : Nat :=
  ((List.range 128).foldl (fun (z, v) i =>
    (if y / 2 ^ (127 - i) % 2 = 1 then z ^^^ v else z,
     if v % 2 = 1 then (v / 2) ^^^ 0xE1000000000000000000000000000000 else v / 2)) (0, x)).1

/-- GHASH of whole blocks. -/
def ghash (h : Nat) (m : List Nat) : Nat := (chunks 16 (m.length / 16) m).foldl (fun y b => gmul (y ^^^ ofBytes b) h) 0

/-- GCM counter block for a 12-byte nonce. -/
def gcmCtr (nonce : List Nat) (i : Nat) : List Nat := nonce ++ toBytes 4 i

/-- GCM tag of a ciphertext. -/
def gcmTag (rks : List (List Nat)) (nonce aad c : List Nat) : List Nat :=
  let h := ofBytes (aesWith rks (List.replicate 16 0))
  let s := ghash h (pad16 aad ++ pad16 c ++ toBytes 8 (8 * aad.length) ++ toBytes 8 (8 * c.length))
  xorBytes (toBytes 16 s) (aesWith rks (gcmCtr nonce 1))

/-- GCM encryption: ciphertext and 16-byte tag. -/
def gcmSeal (key nonce aad m : List Nat) : List Nat × List Nat :=
  let rks := roundKeys key
  let c := ctrMode rks (gcmCtr nonce) 2 (m.length / 16 + 1) m
  (c, gcmTag rks nonce aad c)

/-- GCM decryption: the plaintext, none when the tag is wrong. -/
def gcmOpen (key nonce aad c tag : List Nat) : Option (List Nat) :=
  let rks := roundKeys key
  if gcmTag rks nonce aad c = tag then some (ctrMode rks (gcmCtr nonce) 2 (c.length / 16 + 1) c) else none

/-! ## Ed25519 -/

/-- The field prime, the curve constant, the group order and the base point (RFC 8032). -/
def edP : Nat := 2 ^ 255 - 19
def edL : Nat := 2 ^ 252 + 27742317777372353535851937790883648493
def edD : Nat := 0x52036cee2b6ffe738cc740797779e89800700a4d4141d8ab75eb4dca135978a3
def edBx : Nat := 0x216936d3cd6e53fec0a4e231fdd6dc5c692cc7609525a7b2c9562d608f25d51a
def edBy : Nat := 0x6666666666666666666666666666666666666666666666666666666666666658

/-- a^n mod m by squaring; `fuel` bounds the bits of n. -/
def powMod (m : Nat) : Nat → Nat → Nat → Nat
  | 0, _, _ => 1 % m
  | fuel + 1, a, n =>
    let h := powMod m fuel (a * a % m) (n / 2)
    if n % 2 = 1 then a * h % m else h

/-- A point in extended coordinates X, Y, Z, T. -/
structure EdPt where
  x : Nat
  y : Nat
  z : Nat
  t : Nat
deriving DecidableEq

def edAdd (p q : EdPt) : EdPt :=
  let a := (p.y + edP - p.x) * (q.y + edP - q.x) % edP
  let b := (p.y + p.x) * (q.y + q.x) % edP
  let c := 2 * p.t * q.t * edD % edP
  let d := 2 * p.z * q.z % edP
  let e := (b + edP - a) % edP
  let f := (d + edP - c) % edP
  let g := (d + c) % edP
  let h := (b + a) % edP
  ⟨e * f % edP, g * h % edP, f * g % edP, e * h % edP⟩

/-- Scalar multiplication; `fuel` bounds the bits. -/
def edMul : Nat → Nat → EdPt → EdPt
  | 0, _, _ => ⟨0, 1, 1, 0⟩
  | fuel + 1, n, p =>
    let q := edMul fuel (n / 2) (edAdd p p)
    if n % 2 = 1 then edAdd p q else q

def edB : EdPt := ⟨edBx, edBy, 1, edBx * edBy % edP⟩

/-- The 32-byte encoding of a point. -/
def edEnc (p : EdPt) : List Nat :=
  let zi := powMod edP 256 p.z (edP - 2)
  toBytesLE 32 (p.y * zi % edP + p.x * zi % edP % 2 * 2 ^ 255)

/-- The point of a 32-byte encoding. -/
def edDec (bs : List Nat) : Option EdPt :=
  let v := ofBytesLE bs
  let y := v % 2 ^ 255
  let sg := v / 2 ^ 255
  if edP ≤ y then none
  else
    let u := (y * y + edP - 1) % edP
    let w := (edD * y % edP * y + 1) % edP
    let x2 := u * powMod edP 256 w (edP - 2) % edP
    let r := powMod edP 256 x2 ((edP + 3) / 8)
    let x := if r * r % edP = x2 then some r
      else
        let r' := r * powMod edP 256 2 ((edP - 1) / 4) % edP
        if r' * r' % edP = x2 then some r' else none
    match x with
    | none => none
    | some x =>
      if x = 0 ∧ sg = 1 then none
      else
        let x' := if x % 2 = sg then x else (edP - x) % edP
        some ⟨x', y, 1, x' * y % edP⟩

/-- The secret scalar and prefix of a 32-byte seed. -/
def edSecret (seed : List Nat) : Nat × List Nat :=
  let h := sha512 seed
  let a := ofBytesLE (h.take 32)
  (a / 8 % 2 ^ 251 * 8 + 2 ^ 254, h.drop 32)

/-- The public key of a seed. -/
def edPublic (seed : List Nat) : List Nat := edEnc (edMul 256 (edSecret seed).1 edB)

/-- The signature of a message under a seed. -/
def edSign (seed m : List Nat) : List Nat :=
  let (a, pre) := edSecret seed
  let pk := edEnc (edMul 256 a edB)
  let r := ofBytesLE (sha512 (pre ++ m)) % edL
  let rb := edEnc (edMul 256 r edB)
  let k := ofBytesLE (sha512 (rb ++ pk ++ m)) % edL
  rb ++ toBytesLE 32 ((r + k * a) % edL)

/-- Does a 64-byte signature verify under a public key. -/
def edVerify (pk m sig : List Nat) : Bool :=
  let s := ofBytesLE (sig.drop 32)
  match edDec pk, edDec (sig.take 32) with
  | some a, some r =>
    let k := ofBytesLE (sha512 (sig.take 32 ++ pk ++ m)) % edL
    decide (sig.length = 64) && decide (s < edL) && edEnc (edMul 256 s edB) == edEnc (edAdd r (edMul 256 k a))
  | _, _ => false

end Sys2Proof.Machine.Crypto
end

