-- ==== Sys2Proof/Machine/Keys.lean ====
section
/-!
DEFINITION. Machine/Keys.lean: the key slots and the use of a key (chapter 13, R362 to R368, R374, R378, R382).
-/

namespace Sys2Proof.Machine

/-! ## Slots -/

/-- R362: the device root key. -/
def rootKey : List Nat := (List.range 32).map fun i => (Config.rootByte i).toNat

/-- R362, R366: slot 0: in use, type ROOT, an HKDF input (R381). -/
def rootSlot : KSlot := { st := .active, type := 0, use := 2, key := rootKey }

/-- Key slot `n`. -/
def State.kslot (s : State) (n : Nat) : KSlot := if n = 0 then rootSlot else spGet (fun _ => {}) s.kst.slots n

/-- Replace key slot `n`; slot 0 is never written (R362). -/
def State.setKslot (s : State) (n : Nat) (k : KSlot) : State :=
  if n = 0 then s else { s with kst := { s.kst with slots := spSet (fun _ => {}) s.kst.slots n k } }

/-- R364: length of a key of a type, bytes. -/
def keyLen (type : Nat) : Nat := if type = 2 then 16 else 32

/-- R365: the uses that fit a type, a mask. -/
def typeUses (type : Nat) : Nat :=
  match type with
  | 0 => 2
  | 1 => 3
  | 2 => 4
  | 3 => 8
  | 4 => 16
  | 5 => 32
  | _ => 0

/-- R364: the key check value of a key of a type. -/
def kcvOf (type : Nat) (key : List Nat) : Nat :=
  Crypto.ofBytes ((match type with
    | 1 => Crypto.hmac key [0x46, 0x51, 0x53, 0x2D, 0x4B, 0x43, 0x56]
    | 2 | 3 => Crypto.aes key (List.replicate 16 0)
    | 4 => Crypto.sha256 key
    | 5 => Crypto.sha256 (Crypto.edPublic key)
    | _ => [0, 0, 0]).take 3)

/-- The key of slot `n` for use bit `u`, when the slot is ACTIVE and permits the use (R363, R365). -/
def State.keyFor (s : State) (n u : Nat) : Option (List Nat) :=
  let k := s.kslot n
  if k.st = .active ∧ bit k.use u ∧ bit (typeUses k.type) u then some k.key else none

/-- R365, R382, R444: the key of slot `n`, when it may both answer a challenge (HMAC) and give session keys (HKDF). -/
def State.setupKey (s : State) (n : Nat) : Option (List Nat) := (s.keyFor n 0).filter fun _ => (s.keyFor n 1).isSome

/-- R378: a use of the key in slot `n` (for radio node `node`) that is refused because the slot is INVALID or ORPHANED. -/
def State.keyRefused (s : State) (n : Nat) (node : Option Nat := none) : State :=
  let k := s.kslot n
  if k.st = .invalid ∨ k.st = .orphaned then
    (s.incSat F.KST_ORPHUSE_COUNT).raiseRated nsPerSec 0x804 n (match node with | some i => [n, i] | none => [n])
      (n + (match node with | some i => 4096 * (i + 1) | none => 0))
  else s

/-- R367: the node root of radio node `id`. -/
def nodeRoot (key : List Nat) (id : Nat) : List Nat :=
  Crypto.hkdf [] key ([0x46, 0x51, 0x52, 0x4E] ++ Crypto.toBytesLE 4 id) 32

/-- R367: the node radio key of epoch `e`. -/
def nodeEpochKey (nr : List Nat) (e : Nat) : List Nat :=
  Crypto.hkdf [] nr ([0x46, 0x51, 0x52, 0x45] ++ Crypto.toBytesLE 2 e) 16

/-- R367: the host session key. -/
def sessionKey (key hostChal modChal : List Nat) (sid : Nat) : List Nat :=
  Crypto.hkdf (hostChal ++ modChal) key ([0x46, 0x51, 0x48, 0x53] ++ Crypto.toBytes 4 sid) 32

/-- R382: the 8 bytes of the module ID. -/
def State.moduleId (s : State) : List Nat := wordBytes (s.rd Reg.KST_MID_HI) ++ wordBytes (s.rd Reg.KST_MID_LO)

/-- R382: Tq of a TAI time in ns. -/
def timeQ (t : Nat) : Nat := t / nsPerSec / 64

/-- R382: the answer of the module of ID `mid` to a 16-byte challenge. -/
def challengeAnswer (key c mid : List Nat) (tq : Nat) : List Nat :=
  (Crypto.hmac key (c ++ mid ++ Crypto.toBytes 8 tq)).take 16

/-- R382: an answer is right for one of Tq − 1, Tq, Tq + 1. -/
def answerOk (key c mid a : List Nat) (tq : Nat) : Bool :=
  [tq - 1, tq, tq + 1].any fun q => challengeAnswer key c mid q == a

/-- R382, R444: a challenge of the module: 16 bytes that nothing fixes (assumption log 6). -/
def State.newChallenge (s : State) : List Nat := (List.range 4).flatMap fun i => wordBytes (Config.freeWord (s.free + i))

/-- R421, R436, R465: a response goes out; the time since the last byte of its request, at most 200 µs and the wait of 8 µs, is a free value
(assumption log 21), of which HAP_EXMAX keeps the largest. -/
def State.sendResp (s : State) (peer : Peer) (resp : List Nat) : State :=
  ((s.emit (.datagram s.vlanTag peer resp)).put F.HAP_EXMAX_US (max (s.get F.HAP_EXMAX_US) ((Config.freeWord s.free).toNat % 209))).takeFree

end Sys2Proof.Machine
end

