-- ==== Sys2Proof/Machine/Sess.lean ====
section
/-!
DEFINITION. Machine/Sess.lean: the sessions of the register access protocol (chapter 16, R444 to R447).
-/

namespace Sys2Proof.Machine

/-- Session entry `n`. -/
def State.sess (s : State) (n : Nat) : Option HSess := spGet (fun _ => none) s.hap.sess n

/-- Replace session entry `n`. -/
def State.setSess (s : State) (n : Nat) (x : Option HSess) : State :=
  { s with hap := { s.hap with sess := spSet (fun _ => none) s.hap.sess n x } }

/-- R446: session entry `n` ends for a cause. -/
def State.endSess (s : State) (n cause : Nat) : State :=
  match s.sess n with
  | some x => (s.setSess n none).raise 0xB02 n [cause, x.id]
  | none => s

/-- R446: the sessions that `p` accepts end. -/
def State.endSessIf (s : State) (p : HSess → Bool) (cause : Nat) : State :=
  forUp (fun n s => match s.sess n with
    | some x => if p x then s.endSess n cause else s
    | none => s) 8 s

/-- Index of the open session of an ID. -/
def State.sessIdx (s : State) (id : Nat) : Option Nat :=
  (List.range 8).find? fun n => (s.sess n).any fun x => x.id == id

/-- R465: sessions open. -/
def State.sessOpen (s : State) : Nat := ((List.range 8).filter fun n => (s.sess n).isSome).length

/-- R444: seconds for which a set-up stays pending. -/
def setupTime : Nat := 5 * nsPerSec

/-- R444: the set-ups that are pending. -/
def State.pendLive (s : State) : List HPend := s.hap.pend.filter fun p => decide (s.ns < p.at_ + setupTime)

/-- R367, R447: the key of a session: each module derives it from its own host-domain key. -/
def State.sessKey (s : State) (x : HSess) : Option (List Nat) :=
  (s.keyFor x.slot 1).map fun k => sessionKey k x.ch x.cm x.id

end Sys2Proof.Machine
end

