-- ==== Sys2Proof/Machine/SeamFrames.lean ====
section
/-!
DEFINITION. Machine/SeamFrames.lean: the frames of the Bruoza seam protocol and how the module makes and sends them (chapter 6,
R163 to R175, R187 to R191, R196, R200).
-/

namespace Sys2Proof.Machine

/-! ## Check codes (R167) -/

/-- R167: one byte of CRC-8, polynomial 0x07. -/
def crc8Byte (crc : BitVec 8) (b : Nat) : BitVec 8 :=
  forUp (fun _ (c : BitVec 8) => if c.msb then (c <<< 1) ^^^ 0x07#8 else c <<< 1) 8 (crc ^^^ BitVec.ofNat 8 b)

/-- R167: CRC-8 of a byte string. -/
def crc8 (bs : List Nat) : Nat := (bs.foldl crc8Byte 0#8).toNat

/-! ## The state of a seam and of a slot -/

/-- Seam `n`. -/
def State.seam (s : State) (n : Nat) : Seam := spGet (fun _ => {}) s.sea.seams n

/-- Replace seam `n`. -/
def State.setSeam (s : State) (n : Nat) (x : Seam) : State :=
  { s with sea := { s.sea with seams := spSet (fun _ => {}) s.sea.seams n x } }

/-- Node slot `i` = seam × 128 + slot. -/
def State.nslot (s : State) (i : Nat) : NSlot := spGet (fun _ => {}) s.sea.slots i

/-- Replace node slot `i`. -/
def State.setNslot (s : State) (i : Nat) (x : NSlot) : State :=
  { s with sea := { s.sea with slots := spSet (fun _ => {}) s.sea.slots i x } }

/-- R205: SEA_NODES counts of slots in NEWID (2) and LOST (4), as slot `i` goes from state `a` to state `b`. -/
def State.countNode (s : State) (n a b : Nat) : State :=
  let adj (f : Fld) (c : Nat) (s : State) : State :=
    s.put f (s.get f + (if b = c then 1 else 0) - (if a = c then 1 else 0))
  adj (F.SEA_NODES_LOST n) 4 (adj (F.SEA_NODES_NEWID n) 2 s)

/-- R184: a slot's STATE becomes `x`. -/
def State.setNodeState (s : State) (i x : Nat) : State :=
  (s.countNode (i / 128) (s.get (F.NT_STATE i)) x).put (F.NT_STATE i) x

/-- R203, R388: an event of seam `n`, slot `p` of it, payload words after the seam number in w5. -/
def State.seamEvent (s : State) (code n p : Nat) (pay : List Nat := []) : State := s.raise code (n * 128 + p) (n :: pay)

/-! ## Who sends (R200, R413, R423) -/

/-- R423, R430: this module originates frames: SOLO, ACTIVE, or a READY standby whose crosslink is up, from the origin after the frame start
at which it became STANDBY. -/
def State.sends (s : State) : Bool :=
  s.inRunQuiet && !s.flag F.XLK_STAT_FENCEIN &&
    (s.acts || (s.isStandby && s.flag F.XLK_STAT_READY && (s.xlk.lane0 || s.xlk.lane1) && s.xlk.freshAt != some (s.gridAt s.ns)))

/-- R191, R417: a module that takes state copies and is not READY sends nothing, and its sequence numbers and control frames follow those
of the active module all the same. -/
def State.follows (s : State) : Bool :=
  s.inRunQuiet && (s.isStandby || (s.get F.GLB_ROLE_ROLE == 3 && s.xlk.joinDone))

/-- The module works out the frames of its seams: it sends them, or it follows the module that does. -/
def State.originates (s : State) : Bool := s.sends || s.follows

/-- R472, R498, R502: the seam drivers leave the lines at `t`: a frame that has not ended by then is cut off. -/
def State.cutSeams (s : State) (t : Nat) : State :=
  forUp (fun n s => if t < (s.seam n).busyTo then (s.setSeam n { s.seam n with busyTo := t }).emit (.seamCut n t) else s) 32 s

/-- R205: seam `n` carries frames. -/
def State.seamOn (s : State) (n : Nat) : Bool := s.flag (F.SEA_CTL_ENABLE n) && s.flag (F.SEA_CTL_INJECT n)

/-- R163: the DIR of the module's frames on seam `n`. -/
def State.dirB (s : State) (n : Nat) : Bool := s.flag (F.SEA_CTL_TOPO n) && s.flag F.GLB_ROLE_HALF

/-! ## The header (R168 to R170) -/

/-- R168: the frame types. -/
def ftDrive : Nat := 1
def ftEnum : Nat := 2
def ftConfig : Nat := 3
def ftImage : Nat := 4
def ftIdle : Nat := 5
def ftSync : Nat := 6

/-- What a frame header says (R168). -/
structure Hdr where
  typ : Nat
  dirB : Bool
  auth : Bool
  wrap : Bool := false
  seam : Nat
  assign : Bool := false
  count : Nat
  seq : Nat
  at_ : Nat
  corr : Nat := 0
  lead : Nat

/-- Header bytes 1 to 15 (R168). -/
def Hdr.front (h : Hdr) : List Nat :=
  [h.typ * 16 + (if h.dirB then 8 else 0) + (if h.auth then 4 else 0) + (if h.wrap then 2 else 0),
   h.seam + (if h.assign then 128 else 0), h.count] ++ Crypto.toBytes 4 h.seq ++ Crypto.toBytes 4 (h.at_ / nsPerSec) ++
    Crypto.toBytes 4 (h.at_ % nsPerSec)

/-- R168: SOF, the header with its HCRC, and the payload.  Byte 0 stands for the code group K27.7. -/
def Hdr.frame (h : Hdr) (digest : Nat) (payload : List Nat) : List Nat :=
  let body := h.front ++ Crypto.toBytes 8 h.corr ++ Crypto.toBytes 4 digest ++ Crypto.toBytes 3 h.lead
  0xFB :: (body ++ [crc8 body] ++ payload)

/-- R170: DIGEST of a frame's payload. -/
def digestOf (typ : Nat) (payload : List Nat) : Nat :=
  if typ = ftDrive then crc32 ((Crypto.chunks 27 (payload.length / 27) payload).flatMap fun sl => sl.take 18)
  else if typ = ftConfig ∨ typ = ftImage ∨ typ = ftSync then crc32 payload
  else 0

/-- R169: line time of a frame with a payload of `n` bytes, ns. -/
def lineTime (n : Nat) : Nat := 200 * (32 + n)

/-- The header of a frame that originates at `o` on seam `n`, with apply-at `at_`. -/
def State.hdr (s : State) (n typ count o at_ : Nat) : Hdr :=
  { typ := typ, dirB := s.dirB n, auth := s.flag F.XLK_AUTH_HOLD, seam := n, count := count, seq := s.get (F.SEA_SEQ_SEQ n), at_ := at_,
    lead := (at_ - o) / 1000 }

/-- R169, R423: a frame leaves the OUT of seam `n`, when the module is one that sends. -/
def State.putFrame (s : State) (n o : Nat) (bytes : List Nat) : State := if s.sends then s.emit (.seamFrame n o bytes) else s

/-- R191: a frame is sent and the seam's sequence number advances. -/
def State.sendFrame (s : State) (n o : Nat) (bytes : List Nat) : State :=
  let s1 := (s.putFrame n o bytes).inc (F.SEA_SEQ_SEQ n)
  s1.setSeam n { s1.seam n with busyTo := o + 200 * bytes.length, cycleSent := (s1.seam n).cycleSent + 1 }

/-! ## DRIVE and IDLE frames (R171, R172, R208, R212) -/

/-- R172: what the module sends in a RET field (assumption log 14): MCODE 0x3F is reserved, so no node sends it. -/
def retFill : List Nat := List.replicate 8 0xFF

/-- R183: slot `i` is in NEWID, or went from NEWID to LOST and has not been accepted since. -/
def State.notAccepted (s : State) (i : Nat) : Bool :=
  s.get (F.NT_STATE i) == 2 || (s.get (F.NT_STATE i) == 4 && (s.nslot i).back == 2)

/-- R183: the codes sent to slot `i`: those of the solve; zeros before ACCEPT or without a solve. -/
def State.slotCodes (s : State) (codes : Sp (List Nat)) (i : Nat) : List Nat :=
  if s.notAccepted i then List.replicate 8 0
  else ((spGet (fun _ => []) codes i) ++ List.replicate 8 0).take 8

/-- R208: the lowest channel of slot `i` due a state request. -/
def State.reqDue (s : State) (i : Nat) : Option Nat := (List.range 8).find? fun k => (s.chan i k).req

/-- R212: the channel of slot `i` probed in the frame that starts at `f` with codes `c`. -/
def State.probeOf (s : State) (f i : Nat) (c : List Nat) : Option Nat :=
  if bit (s.get (F.NT_CAP i)) 0 ∧ (s.get (F.NT_STATE i) = 1 ∨ s.get (F.NT_STATE i) = 3) then
    (List.range 8).find? fun k => s.probeDue f (i % 128) k && bit (s.fitted i) k && c.getD k 0 != 0
  else none

/-- R171: the 27 bytes of a DRIVE slot. -/
def driveSlot (codes : List Nat) (mreq : Nat) (probe : Option Nat) : List Nat :=
  let mode := mreq + (match probe with | some k => 256 + 512 * k | none => 0)
  let b := codes.flatMap (Crypto.toBytes 2) ++ Crypto.toBytes 2 mode ++ retFill
  b ++ [crc8 b]

/-- R171: the 9 bytes of an IDLE slot. -/
def idleSlot : List Nat := retFill ++ [crc8 retFill]

/-- One DRIVE slot of seam `n`: its bytes, and the state after its requests have been sent. -/
def State.driveOne (s : State) (f i : Nat) (codes : Sp (List Nat)) : State × List Nat :=
  let c := s.slotCodes codes i
  let rq := s.reqDue i
  let pr := s.probeOf f i c
  let s1 := match rq with | some k => s.setChan i k { s.chan i k with req := false } | none => s
  let s2 := if pr.isSome then s1.inc F.DIA_PROBES_COUNT else s1
  (s2, driveSlot c (match rq with | some k => 8 + k | none => 0) pr)

/-- The slots of a DRIVE frame, in slot order. -/
def State.driveSlots (s : State) (f : Nat) (codes : Sp (List Nat)) : List Nat → State × List Nat
  | [] => (s, [])
  | i :: t =>
    let x := s.driveOne f i codes
    let y := x.1.driveSlots f codes t
    (y.1, x.2 ++ y.2)

/-- R169, R171, R191: the DRIVE frame of seam `n` at the frame start `f`. -/
def State.sendDrive (s : State) (n f : Nat) (codes : Sp (List Nat)) : State :=
  let cnt := s.get (F.SEA_NODES_COUNT n)
  let x := s.driveSlots f codes ((List.range cnt).map (n * 128 + ·))
  let q := s.get (F.SEA_SEQ_SEQ n)
  let h := x.1.hdr n ftDrive cnt f (f + s.sea.leadUs * 1000)
  let s1 := x.1.sendFrame n f (h.frame (digestOf ftDrive x.2) x.2)
  let mine := codes.filter fun p => decide (p.1 / 128 = n) && decide (p.1 % 128 < cnt)
  s1.setSeam n { s1.seam n with hist := ((q, mine) :: (s1.seam n).hist).take 65536 }

/-- R216: the DRIVE frames of the present frame start have carried codes to slot `i`. -/
def State.sentTo (s : State) (i : Nat) : Bool :=
  s.originates && s.seamOn (i / 128) && decide (i % 128 < s.get (F.SEA_NODES_COUNT (i / 128)))

/-- R216: the frame just sent adds its period to the age of every UNVERIFIED channel with a nonzero code. -/
def State.ageUnverified (s : State) : State :=
  forEach (fun (p : Nat × Chan) s =>
    let i := p.1 / 8
    let k := p.1 % 8
    let c := s.chan i k
    if c.st = .unverified ∧ s.sentTo i ∧ s.sentCode i k ≠ 0 then
      (s.setChan i k { c with vage := c.vage + s.framePeriod }).unvAged i k
    else s) s.dia.chans s

/-- R171, R200: the IDLE frame of seam `n` at the frame start `f`. -/
def State.sendIdle (s : State) (n f : Nat) : State :=
  let cnt := s.get (F.SEA_NODES_COUNT n)
  s.sendFrame n f ((s.hdr n ftIdle cnt f (f + s.sea.leadUs * 1000)).frame 0 (List.replicate cnt idleSlot).flatten)

/-! ## Tags (R175) -/

/-- R175: the tag of a control frame; none when the module may not send it. -/
def State.seamTag (s : State) (h : Hdr) (payload : List Nat) : Option (List Nat) :=
  let k := s.get F.SEA_KEY_SLOT
  if k = 0 then some (List.replicate 16 0)
  else match s.keyFor k 0 with
    | some key => some ((Crypto.hmac key (({ h with wrap := false } : Hdr).front ++ Crypto.toBytes 4 0 ++ Crypto.toBytes 3 h.lead ++
        payload)).take 16)
    | none => none

/-- R175: the refusal of a control frame on seam `n` under the key of slot `k`. -/
def State.seamNoKey (s : State) (n k : Nat) : State :=
  ((s.setFlag (F.SEA_STAT_NOKEY n) true).keyRefused k).raiseRated nsPerSec 0x311 (n * 128) [n] 0

/-- R170, R175: the bytes of a control frame with its tag and DIGEST. -/
def tagged (h : Hdr) (payload tag : List Nat) : List Nat := h.frame (digestOf h.typ (payload ++ tag)) (payload ++ tag)

/-- R174: the payload of a CONFIG frame up to its tag. -/
def cfgPayload (target : Nat) (items : List CfgItem) : List Nat :=
  [target, items.length, 0, 0] ++ items.flatMap fun x => [x.param, x.index, 0, 0] ++ Crypto.toBytes 4 x.value

/-- R174: the payload of a SYNC frame up to its tag. -/
def State.syncPayload (s : State) (o : Nat) (step reseq : Bool) : List Nat :=
  Crypto.toBytes 6 (o / nsPerSec) ++ Crypto.toBytes 4 (o % nsPerSec) ++
    [(if step then 1 else 0) + (if reseq then 2 else 0), 0] ++ Crypto.toBytes 4 (ofSigned 32 (s.sget F.TBU_UTCOFF_SEC))

/-- R174: the payload of an ENUM frame as the module sends it. -/
def enumPayload : List Nat := [0, 255] ++ List.replicate (128 * 9) 0

/-- R174, R197: the payload of IMAGE block `b` up to its tag. -/
def NodeImg.payload (g : NodeImg) (b : Nat) : List Nat :=
  let d := (g.body.drop (1024 * b)).take 1024
  Crypto.toBytes 4 g.id ++ Crypto.toBytes 2 b ++ Crypto.toBytes 2 ((g.body.length + 1023) / 1024) ++ Crypto.toBytes 2 d.length ++
    [0, 0] ++ d

/-- R197: blocks of a node image. -/
def NodeImg.blocks (g : NodeImg) : Nat := (g.body.length + 1023) / 1024

/-! ## Transit and lead (R187, R188) -/

/-- R187: the transit of seam `n`, ns. -/
def State.transitOf (s : State) (n : Nat) : Nat :=
  if s.flag (F.SEA_STAT_MEASURED n) then s.get (F.SEA_TRANSIT_NS n)
  else 953600 + (List.range 128).foldl (fun t p => t + s.get (F.NT_LDLY (n * 128 + p))) 0

/-- R187: SEA_LEADMIN follows the transits of the enabled seams; without one it keeps its value. -/
def State.leadMin (s : State) : Nat :=
  let on := (List.range 32).filter fun n => s.flag (F.SEA_CTL_ENABLE n)
  if on = [] then s.get F.SEA_LEADMIN_NS else 50000 + on.foldl (fun m n => max m (s.transitOf n)) 0

/-- R187: refresh SEA_LEADMIN. -/
def State.updLeadMin (s : State) : State := s.put F.SEA_LEADMIN_NS s.leadMin

/-- R187: the largest transit that this module has measured on seam `n` in the last second, none without one. -/
def State.ownTransit (s : State) (n : Nat) : Option Nat :=
  let l := (s.seam n).transits.filter fun p => decide (s.ns < p.1 + nsPerSec)
  if l = [] then none else some (l.foldl (fun m p => max m p.2) 0)

/-- R187: the partner's measurement on seam `n`, while it is of the last second. -/
def State.partTransit (s : State) (n : Nat) : Option Nat :=
  match (s.seam n).partTransit with
  | some (t, v) => if s.ns < t + nsPerSec then some v else none
  | none => none

/-- R187: the largest transit of seam `n` in the last second, of both directions in a pair. -/
def State.lastTransit (s : State) (n : Nat) : Option Nat :=
  match s.ownTransit n, s.partTransit n with
  | some a, some b => some (max a b)
  | some a, none => some a
  | none, o => o

/-- R187, R188: SEA_TRANSIT[n] from the measurements of both directions, LEADMIN, and LEADSHORT when the transit has grown so that LEADMIN
is not below SEA_LEAD as it was last accepted: once at the crossing, and again when the host has cleared the flag. -/
def State.showTransit (s : State) (n : Nat) : State :=
  match s.lastTransit n with
  | none => s
  | some t =>
    let s1 := ((s.put (F.SEA_TRANSIT_NS n) t).setFlag (F.SEA_STAT_MEASURED n) true).updLeadMin
    let lead := s.get F.SEA_LEAD_US * 1000
    if s.transitOf n < s1.transitOf n ∧ lead ≤ s1.get F.SEA_LEADMIN_NS ∧
        (s.get F.SEA_LEADMIN_NS < lead ∨ s.flag (F.SEA_STAT_LEADSHORT n) = false) then
      (s1.setFlag (F.SEA_STAT_LEADSHORT n) true).seamEvent 0x309 n 0 []
    else s1

/-- R187: a transit of seam `n` is measured. -/
def State.measureTransit (s : State) (n t : Nat) : State :=
  let x := s.seam n
  (s.setSeam n { x with transits := (s.ns, t) :: x.transits.filter fun p => decide (s.ns < p.1 + nsPerSec) }).showTransit n

end Sys2Proof.Machine
end

