-- ==== Sys2Proof/Machine/Seams.lean ====
section
/-!
DEFINITION. Machine/Seams.lean: what the module does with the frames that arrive at its seam IN ports (chapter 6; R27, R136, R137,
R172, R173, R178, R181 to R185, R187, R193, R195, R199, R208, R382, R422).
-/

namespace Sys2Proof.Machine

/-! ## A received frame -/

/-- A frame as received: its header and payload, and whether HCRC and DIGEST are right (R168, R170). -/
structure Rcvd where
  h : Hdr
  payload : List Nat
  hcrcOk : Bool
  digestOk : Bool

/-- A big-endian field of a byte string. -/
def field (bs : List Nat) (at_ n : Nat) : Nat := Crypto.ofBytes ((bs.drop at_).take n)

/-- R168: read a frame; `secHi` supplies TAI seconds [47:32].  None when it is shorter than a header or its TYPE is not one of
the six. -/
def readFrame (secHi : Nat) (bs : List Nat) : Option Rcvd :=
  let b (i : Nat) : Nat := bs.getD i 0
  let typ := b 1 / 16
  if bs.length < 32 ∨ typ = 0 ∨ 6 < typ then none
  else
    let p := bs.drop 32
    some { h := { typ := typ, dirB := bit (b 1) 3, auth := bit (b 1) 2, wrap := bit (b 1) 1, seam := b 2 % 32,
                  assign := bit (b 2) 7, count := b 3, seq := field bs 4 4,
                  at_ := (secHi * 4294967296 + field bs 8 4) * nsPerSec + field bs 12 4 % 1073741824,
                  corr := field bs 16 8, lead := field bs 28 3 }
           payload := p
           hcrcOk := crc8 ((bs.drop 1).take 30) == b 31
           digestOk := typ == ftEnum || typ == ftIdle || digestOf typ p == field bs 24 4 }

/-- R169: the origin of a frame. -/
def Hdr.origin (h : Hdr) : Nat := h.at_ - h.lead * 1000

/-! ## Acknowledgements (R195, R206) -/

/-- R195, R206: the outstanding control frame of seam `n` ends. -/
def State.ctlEnd (s : State) (n : Nat) (ok : Bool) : State :=
  match (s.seam n).outst with
  | none => s
  | some c =>
    let x := s.seam n
    let x1 := { x with outst := none, imgNext := if c.kind = .image ∧ ok then x.imgNext + 1 else x.imgNext,
                       imgAct := if c.kind = .activate ∧ ok then true else x.imgAct }
    let s1 := (s.setSeam n x1).setFlag (F.SEA_STAT_CFGBUSY n) false
    if c.kind = .host then
      ((s1.setFlag (F.SEA_CFGCMD_BUSY n) false).setFlag (F.SEA_CFGCMD_OK n) ok).setFlag (F.SEA_CFGCMD_FAIL n) !ok
    else s1

/-- R195: the outstanding control frame of seam `n` is abandoned; a frame of NODEIMG will be sent again (R197). -/
def State.ctlFail (s : State) (n : Nat) : State :=
  match (s.seam n).outst with
  | none => s
  | some c => (s.ctlEnd n false).raise 0x307 (n * 128) [c.seq, c.waiting.length, c.waiting.headD 0]

/-- R195: slot `p` of seam `n` acknowledges (or refuses) sequence number [15:0] = `q`. -/
def State.ackFrom (s : State) (n p q : Nat) (nack : Bool) : State :=
  match (s.seam n).outst with
  | none => s
  | some c =>
    if c.seq % 65536 ≠ q ∨ !c.waiting.contains p then s
    else if nack then s.ctlFail n
    else
      let w := c.waiting.filter (· != p)
      let s1 := s.setSeam n { s.seam n with outst := some { c with waiting := w } }
      if w = [] then s1.ctlEnd n true else s1

/-! ## Residence (R185) -/

/-- R185: slot `i` reports a residence of `v` ns. -/
def State.residence (s : State) (i v : Nat) : State :=
  let n := i / 128
  let c := min v 4095
  let s1 := if s.get (F.NT_RESMAX i) < c then s.put (F.NT_RESMAX i) c else s
  let s2 := if s.get (F.SEA_RESMAX_NS n) < c then (s1.put (F.SEA_RESMAX_NS n) c).put (F.SEA_RESMAX_SLOT n) (i % 128) else s1
  if 2000 < v then
    let s3 := (s2.setNslot i { s2.nslot i with slowOk := none }).setFlag (F.SEA_STAT_SLOW n) true
    if s3.get (F.NT_STATE i) = 1 then (s3.setNodeState i 3).seamEvent 0x304 n (i % 128)
    else s3
  else if (s2.nslot i).slowOk.isNone then s2.setNslot i { s2.nslot i with slowOk := some s2.ns } else s2

/-- R185: a SLOW slot whose node has reported residences within 2,000 ns for 60 s leaves SLOW. -/
def State.slowClear (s : State) (i : Nat) : State :=
  match (s.nslot i).slowOk with
  | some t => if s.get (F.NT_STATE i) = 3 ∧ t + 60 * nsPerSec ≤ s.ns then s.setNodeState i 1 else s
  | none => s

def execSlowClear (i : BitVec 12) (s : State) : Res := .next (s.slowClear i.toNat)

/-! ## CONFIG frames waiting (R196) -/

/-- R196: the module's own CONFIG frames go ahead of the host's. -/
def State.queueOwn (s : State) (n : Nat) (rs : List CtlReq) : State :=
  let x := s.seam n
  s.setSeam n { x with queue := x.queue.filter (·.kind != .host) ++ rs ++ x.queue.filter (·.kind == .host) }

/-! ## Challenges (R382) -/

/-- R382: the answer to slot `i`'s last challenge, queued or not yet acknowledged, is dropped. -/
def State.dropAnswer (s : State) (i : Nat) : State :=
  let n := i / 128
  let s1 := if (s.seam n).outst.any fun c => c.kind == .response && c.waiting.contains (i % 128) then s.ctlEnd n false else s
  s1.setSeam n { s1.seam n with queue := (s1.seam n).queue.filter fun r => !(r.kind == .response && r.target == i % 128) }

/-- R196, R382: slot `i` reports challenge word `w`; when all eight are in, the answer is queued in place of any older one. -/
def State.challengeWord (s : State) (i w v : Nat) : State :=
  let n := i / 128
  let c := (s.nslot i).chal.setIfInBounds w (some v)
  if c.toList.all Option.isSome then
    let s1 := (s.setNslot i { s.nslot i with chal := Vector.replicate 8 none }).dropAnswer i
    let k := s.get F.SEA_KEY_SLOT
    match (if k = 0 then none else s.keyFor k 0) with
    | none => s1.keyRefused k
    | some key =>
      let a := challengeAnswer key (c.toList.flatMap fun x => Crypto.toBytes 2 (x.getD 0)) s.moduleId (timeQ s.ns)
      let items := (List.range 4).map fun j => ({ param := 6, index := j, value := field a (4 * j) 4 } : CfgItem)
      s1.queueOwn n [{ kind := .response, target := i % 128, items := items }]
  else s.setNslot i { s.nslot i with chal := c }

/-! ## Return fields (R27, R172, R173) -/

/-- Byte `k` of a return field, and its fields. -/
def RetField.b (f : RetField) (k : Nat) : Nat := f.bytes.getD k 0
def RetField.mism (f : RetField) : Bool := bit (f.b 0) 7
def RetField.mcode (f : RetField) : Nat := f.b 0 % 64
def RetField.temp (f : RetField) : Nat := f.b 2 * 256 + f.b 3
def RetField.mval (f : RetField) : Nat := f.b 4 * 256 + f.b 5
def RetField.lastSeq (f : RetField) : Nat := f.b 6 * 256 + f.b 7

/-- R172: the full sequence number of a DRIVE frame already sent on the seam whose low 16 bits are `q`, exact for 65,536 frames. -/
def State.fullSeq (s : State) (n q : Nat) : Nat :=
  let last := s.get (F.SEA_SEQ_SEQ n) + 4294967295
  (last - (last % 65536 + 65536 - q) % 65536) % 4294967296

/-- R137: the code that channel `k` of slot `i` applied for the sequence number `q`. -/
def State.appliedCode (s : State) (i k q : Nat) : Option Nat :=
  ((s.seam (i / 128)).hist.find? (·.1 == q)).map fun p => (spGet (fun _ => []) p.2 i).getD k 0

/-- R136: the temperature of a return field; 0x8000 carries no reading, and SENSE then gives none. -/
def State.takeTemp (s : State) (i : Nat) (f : RetField) : State :=
  if f.temp = 0x8000 then { s with sens := spSet (fun _ => none) s.sens (senseKey i 0x01) none }
  else
    let t := toSigned 16 f.temp
    (s.setLum i { s.lum i with tRep := some t, tAt := some f.stamp }).noteSense i 0x01 (ofSigned 32 (t * 4096)) f.stamp

/-- R122, R137, R173, R208: the content of a return field of slot `i` that becomes solve and diagnostic input. -/
def State.latchField (s : State) (i : Nat) (f : RetField) : State :=
  let cap := s.get (F.NT_CAP i)
  let m := f.mcode
  let q := s.fullSeq (i / 128) f.lastSeq
  let s1 := ((s.takeTemp i f).noteSense i 0x02 (f.b 0 + f.b 1 * 256) f.stamp).noteSense i 0x03 q f.stamp
  let s2 :=
    if 0x08 ≤ m ∧ m ≤ 0x0F then s1.stateReport i (m - 0x08) f.mval (s1.frameIndex f.origin)
    else if 0x10 ≤ m ∧ m ≤ 0x17 then
      let s2 := if bit cap 3 then s1.noteSense i m f.mval f.stamp else s1
      match s2.appliedCode i (m - 0x10) q with
      | some c => s2.ageUpdate i (m - 0x10) c f.mval f.stamp
      | none => s2
    else if m = 0x20 ∧ bit cap 1 then s1.noteSense i 0x20 (f.mval * 4096) f.stamp
    else if 0x28 ≤ m ∧ m ≤ 0x2F ∧ bit cap 2 then s1.noteSense i (0x08 + m) (f.mval * 4096) f.stamp
    else s1
  s2.faultCheck i (f.b 1)

/-- R173, R185, R193, R195: what a valid return field tells the seam controller, whether it arrived at this module's IN or at its partner's
(every field counts once in each module) and a LOST slot takes back the state that it had (assumption log 58). -/
def State.noteField (s : State) (i : Nat) (f : RetField) : State :=
  let n := i / 128
  let s1 := (s.wr (nodeAddr i 5) (BitVec.ofNat 32 (field f.bytes 0 4))).wr (nodeAddr i 6) (BitVec.ofNat 32 (field f.bytes 4 4))
  let s2 := s1.setNslot i { s1.nslot i with last := some s1.ns }
  let s3 := if s2.get (F.NT_STATE i) = 4 then s2.setNodeState i (s2.nslot i).back else s2
  let s4 := if f.mism then
      ((s3.incSat (F.SEA_MISM_MISM n)).incSat (F.NT_MISMCNT i)).raiseRated nsPerSec 0x305 (n * 128 + i % 128) [n] (n * 128)
    else s3
  let m := f.mcode
  let v := f.mval
  if m = 0x01 then s4.residence i v
  else if m = 0x02 then s4.put (F.NT_FWVER i) v
  else if m = 0x03 then (s4.put (F.NT_CAP i) v).unfit i
  else if m = 0x04 then s4.ackFrom n (i % 128) v false
  else if m = 0x05 then s4.ackFrom n (i % 128) v true
  else if m = 0x06 then s4.incSat (F.SEA_MISM_LATE n) v
  else if m = 0x21 then s4.setNslot i { s4.nslot i with image := v }
  else if 0x30 ≤ m ∧ m ≤ 0x37 then s4.challengeWord i (m - 0x30) v
  else s4

/-- R219, R422: the module is half of a joined pair, where return fields are latched by the latch map. -/
def State.paired (s : State) : Bool := s.activePaired || s.isStandby

/-- R191: sequence number `a` is newer than `b`. -/
def seqNewer (a b : Nat) : Bool :=
  let d := (a + 4294967296 - b) % 4294967296
  decide (1 ≤ d) && decide (d ≤ 2147483647)

/-- R422: keep the newest valid return field of a direction for the next latch. -/
def NSlot.hold (x : NSlot) (f : RetField) : NSlot :=
  let newer : Option RetField → Bool := fun o => match o with | some g => !seqNewer g.seq f.seq | none => true
  if f.dirB then (if newer x.fieldB then { x with fieldB := some f } else x)
  else (if newer x.fieldA then { x with fieldA := some f } else x)

/-- R27, R422: a valid return field of slot `i`.  Outside a pair it is taken at once, as it arrived before the next latch; in a
pair it is held for the latch, and relayed when it arrived here. -/
def State.takeField (s : State) (i : Nat) (f : RetField) (here : Bool) : State :=
  let s1 := s.noteField i f
  if s1.paired then
    let s2 := s1.setNslot i ((s1.nslot i).hold f)
    if here then s2.emit (.relayField i f) else s2
  else s1.latchField i f

/-- R422: the newest field of a slot not yet latched, of each direction and of both. -/
def NSlot.waitA (x : NSlot) : Option RetField := x.fieldA.orElse fun _ => x.heldA
def NSlot.waitB (x : NSlot) : Option RetField := x.fieldB.orElse fun _ => x.heldB

/-- R422: at a frame start a standby keeps apart what has arrived before it. -/
def NSlot.shelve (x : NSlot) : NSlot := { x with heldA := x.waitA, heldB := x.waitB, fieldA := none, fieldB := none }

/-- R422: the newest held field of a slot and its direction. -/
def NSlot.newest (x : NSlot) : Option RetField :=
  match x.waitA, x.waitB with
  | some a, some b => if seqNewer b.seq a.seq then some b else some a
  | some a, none => some a
  | none, o => o

/-- R422: the active module latches the newest held field of every slot; the latch map names the choices (true: DIR = 1). -/
def State.latchFields (s : State) : State × List (Nat × Bool) :=
  forEach (fun (p : Nat × NSlot) (x : State × List (Nat × Bool)) =>
    match p.2.newest with
    | some f =>
      let s1 := x.1.setNslot p.1 { x.1.nslot p.1 with fieldA := none, fieldB := none, heldA := none, heldB := none }
      (s1.latchField p.1 f, x.2 ++ [(p.1, f.dirB)])
    | none => x) s.sea.slots (s, [])

/-- R422: a standby's frame start. -/
def State.shelveFields (s : State) : State :=
  { s with sea := { s.sea with slots := s.sea.slots.map fun p => (p.1, p.2.shelve) } }

/-! ## The slots of a received frame -/

/-- R184, R205: a return field of slot `i` fails its SCRC. -/
def State.scrcFail (s : State) (i : Nat) : State :=
  ((s.incSat (F.SEA_ERR_SCRC (i / 128))).incSat (F.NT_SCRCERR i)).raiseRated nsPerSec 0x306 i [i / 128] (i / 128 * 128)

/-- One slot of a DRIVE or IDLE frame of seam `n`: its position, its bytes with the SCRC last. -/
def State.takeSlot (s : State) (n : Nat) (r : Rcvd) (sof p : Nat) (sl : List Nat) : State :=
  let i := n * 128 + p
  let body := sl.take (sl.length - 1)
  let ret := body.drop (body.length - 8)
  if crc8 body ≠ sl.getLastD 0 then s.scrcFail i
  else if ret = retFill then s
  else s.takeField i { bytes := ret, dirB := r.h.dirB, seq := r.h.seq, origin := r.h.origin, stamp := sof } true

/-- The slots of a frame, in slot order. -/
def State.takeSlots (s : State) (n : Nat) (r : Rcvd) (sof : Nat) : Nat → List (List Nat) → State
  | _, [] => s
  | p, sl :: t => (s.takeSlot n r sof p sl).takeSlots n r sof (p + 1) t

/-- R171: the slots of a payload. -/
def Rcvd.slots (r : Rcvd) : List (List Nat) :=
  let w := if r.h.typ = ftDrive then 27 else 9
  (Crypto.chunks w (min r.h.count 128) r.payload).filter fun c => c.length == w

/-- R199: the positions (from 1) whose return fields are in the frame. -/
def Rcvd.reporting (r : Rcvd) : List Nat :=
  (List.range r.slots.length).filterMap fun p =>
    let sl := r.slots.getD p []
    let body := sl.take (sl.length - 1)
    if crc8 body = sl.getLastD 0 ∧ body.drop (body.length - 8) ≠ retFill then some (p + 1) else none

/-- R199: the wrap state of seam `n` after a DRIVE or IDLE frame: what arrives wrapped at this module's own IN counts (assumption log 58). -/
def State.wrapCheck (s : State) (n : Nat) (r : Rcvd) : State :=
  if !r.h.wrap then s.setFlag (F.SEA_STAT_WRAP n) false
  else
    let cnt := s.get (F.SEA_NODES_COUNT n)
    let last := if r.h.dirB then r.reporting.foldl (fun m p => max m (cnt + 1 - p)) 0 else r.reporting.foldl max 0
    if last = 0 then s
    else
      let f := if r.h.dirB then F.SEA_BREAK_LASTB n else F.SEA_BREAK_LASTA n
      let s1 := (s.setFlag (F.SEA_STAT_WRAP n) true).put f last
      if !s.flag (F.SEA_STAT_WRAP n) || s.get f != last then s1.seamEvent 0x30A n 0 [last] else s1

/-- R178: in a pair, the delay check of a frame from the partner. -/
def State.delayCheck (s : State) (n sof : Nat) (r : Rcvd) : State :=
  if s.flag (F.SEA_CTL_TOPO n) && (r.h.dirB != s.dirB n) && !r.h.wrap then
    let dly := if r.h.dirB then s.get (F.NT_LDLY (n * 128)) else s.get (F.SEA_TAILDLY_NS n)
    let d : Int := ((sof : Int) - r.h.origin - dly) * 65536 - r.h.corr
    let x := s.seam n
    if d.natAbs ≤ 100 * 65536 then s.setSeam n { x with dlySince := none }
    else match x.dlySince with
      | none => s.setSeam n { x with dlySince := some s.ns }
      | some t =>
        if t + nsPerSec ≤ s.ns ∧ !s.flag (F.SEA_STAT_DLYERR n) then
          (s.setFlag (F.SEA_STAT_DLYERR n) true).seamEvent 0x30E n 0 [ofSigned 32 (d / 65536)]
        else s
  else s

/-! ## ENUM results (R180 to R183) -/

/-- R174, R180: the records of a received ENUM payload and its CNT; none when the complement or a record's CRC is wrong. -/
def enumRead (p : List Nat) : Option (List EnumRec × Nat) :=
  let cnt := p.getD 0 0
  let recs := Crypto.chunks 9 (min cnt 128) (p.drop 2)
  if cnt + p.getD 1 0 ≠ 255 ∨ recs.length ≠ min cnt 128 ∨ recs.any fun r => r.length != 9 || crc8 (r.take 8) != r.getD 8 0 then none
  else some (recs.map fun r => { id := field r 0 4, cap := field r 4 2, fw := field r 6 2 }, cnt)

/-- R183: slot `p` of seam `n` after an assigning ENUM that found `cnt` nodes, `x` at this place. -/
def State.assignSlot (s : State) (n cnt p : Nat) (x : Option EnumRec) : State :=
  let i := n * 128 + p
  match x with
  | some e =>
    let new := s.get (F.NT_NODEID i) != e.id
    let s1 := ((((s.put (F.NT_NODEID i) e.id).put (F.NT_CAP i) e.cap).put (F.NT_FWVER i) e.fw).put (F.NT_POSA i) (p + 1)).put
      (F.NT_POSB i) (cnt - p)
    let s2 := (if new then (s1.setNodeState i 2).forgetSource i else s1).unfit i
    s2.setNslot i { s2.nslot i with since := s2.ns }
  | none =>
    let s1 := ((((s.put (F.NT_NODEID i) 0).put (F.NT_POSA i) 0).put (F.NT_POSB i) 0).setNodeState i 0).forgetSource i
    s1.setNslot i {}

/-- R177, R196: the CONFIG frames that give the nodes of seam `n` their link delays. -/
def State.delayReqs (s : State) (n : Nat) : List CtlReq :=
  let cnt := s.get (F.SEA_NODES_COUNT n)
  (List.range cnt).map fun p =>
    { kind := .own, target := p,
      items := [{ param := 3, index := 0, value := s.get (F.NT_LDLY (n * 128 + p)) },
                { param := 4, index := 0, value := if p + 1 = cnt then s.get (F.SEA_TAILDLY_NS n)
                                                   else s.get (F.NT_LDLY (n * 128 + p + 1)) }] }

/-- R196: the CONFIG frame that gives the nodes NODE_HOLD. -/
def State.holdReq (s : State) : CtlReq :=
  { kind := .own, target := 255, items := [{ param := 1, index := 0, value := s.get F.SEA_HOLD_SEC }] }

/-- R182: the first position (from 1) at which a census differs from the node table. -/
def State.censusDiff (s : State) (n : Nat) (l : List EnumRec) : Option Nat :=
  let cnt := s.get (F.SEA_NODES_COUNT n)
  ((List.range (max cnt l.length)).find? fun p =>
    (if p < cnt then s.get (F.NT_NODEID (n * 128 + p)) else 0) != ((l[p]?.map (·.id)).getD 0)).map (· + 1)

/-- R181, R205: an ENUM of seam `n` has ended with the final CNT `cnt`. -/
def State.enumCount (s : State) (n cnt : Nat) : State :=
  let s0 := ((s.setSeam n { s.seam n with enumOwn := none, enumPart := none }).setFlag (F.SEA_STAT_ENUMBUSY n) false).put
    (F.SEA_NODES_SEEN n) cnt
  let s1 := s0.setFlag (F.SEA_STAT_OVERFLOW n) (decide (128 < cnt))
  if 128 < cnt then s1.seamEvent 0x302 n 0 [cnt] else s1

/-- R181, R182, R183: an ENUM of seam `n` has given the list `l` in A order with final CNT `cnt`. -/
def State.enumDone (s : State) (n : Nat) (l : List EnumRec) (cnt : Nat) : State :=
  let x := s.seam n
  let s2 := s.enumCount n cnt
  let s3 :=
    if x.enumAssign then
      let s3 := forUp (fun p s => s.assignSlot n l.length p l[p]?) 128 (s2.put (F.SEA_NODES_COUNT n) l.length)
      s3.queueOwn n (s3.delayReqs n ++ [s3.holdReq])
    else match s2.censusDiff n l with
      | some p => (s2.setFlag (F.SEA_STAT_TOPO n) true).seamEvent 0x303 n (p - 1) [p]
      | none => s2
  s3.seamEvent 0x301 n 0 [l.length]

/-- R181: the lists of both directions are in; one that is not the other reversed changes nothing in the node table. -/
def State.enumPair (s : State) (n : Nat) : State :=
  match (s.seam n).enumOwn, (s.seam n).enumPart with
  | some o, some p =>
    let a := if s.flag F.GLB_ROLE_HALF then o else p
    let b := if s.flag F.GLB_ROLE_HALF then p else o
    if a.1.map (·.id) = (b.1.map (·.id)).reverse then s.enumDone n a.1 a.2
    else ((s.enumCount n a.2).setFlag (F.SEA_STAT_TOPO n) true).seamEvent 0x303 n 0
  | _, _ => s

/-- R180, R181: an ENUM frame arrives at the IN of seam `n`; a module alone has its list in A order from DIR = 0, in B order from
DIR = 1. -/
def State.enumArrives (s : State) (n : Nat) (r : Rcvd) : State :=
  if !s.flag (F.SEA_STAT_ENUMBUSY n) then s
  else match enumRead r.payload with
    | none => (s.incSat (F.SEA_ERR_INVAL n)).setFlag (F.SEA_STAT_ENUMBUSY n) false
    | some x =>
      if s.flag (F.SEA_CTL_TOPO n) && s.paired then (s.setSeam n { s.seam n with enumOwn := some x, enumSend := some x }).enumPair n
      else s.enumDone n (if r.h.dirB then x.1.reverse else x.1) x.2

/-- R92, R181, R187, R346: what this module tells its partner of its idle image, its seams and its radio. -/
def State.seamPeer (s : State) : SeamPeer :=
  { enums := (List.range 32).filterMap fun n => (s.seam n).enumSend.map fun x => (n, x)
    transits := (List.range 32).filterMap fun n => (s.ownTransit n).map fun t => (n, t)
    acts := s.sru.acts
    idle := s.rds (Reg.PEN_IHASH_I 0) 8
    sid := s.hap.lastSid }

/-- R181: the lists have gone to the partner. -/
def State.peerTold (s : State) : State :=
  forUp (fun n s => if (s.seam n).enumSend.isSome then s.setSeam n { s.seam n with enumSend := none } else s) 32
    { s with sru := { s.sru with acts := [] } }

/-- R92, R181, R187, R444: what the partner tells of its idle image, its sessions and its seams. -/
def State.hearPeer (s' : State) (p : SeamPeer) : State :=
  let s : State := { s' with xlk := { s'.xlk with partIdle := p.idle }, hap := { s'.hap with lastSid := max s'.hap.lastSid p.sid } }
  let s1 := forEach (fun (q : Nat × Nat) s => (s.setSeam q.1 { s.seam q.1 with partTransit := some (s.ns, q.2) }).showTransit q.1) p.transits s
  forEach (fun (q : Nat × List EnumRec × Nat) s =>
    if s.flag (F.SEA_STAT_ENUMBUSY q.1) then (s.setSeam q.1 { s.seam q.1 with enumPart := some q.2 }).enumPair q.1 else s) p.enums s1

/-! ## Reception -/

/-- R253: latency of a seam's line receiver, ns. -/
def seamLatency : Nat := 36

/-- R27, R166 to R199, R253: a frame whose SOF was captured at `k277` has arrived at the IN of seam `n`; its EOF is now. -/
def State.seamReceive (s : State) (n k277 : Nat) (bs : List Nat) : State :=
  let sof := k277 - seamLatency
  if !s.flag (F.SEA_CTL_ENABLE n) || !s.inRunQuiet then s
  else
    let s0 := s.wrTime (Reg.SEA_LAST_S_LO n) sof
    match readFrame (s.ns / nsPerSec / 4294967296) bs with
    | none => s0.incSat (F.SEA_ERR_INVAL n)
    | some r =>
      if !r.hcrcOk then s0.incSat (F.SEA_ERR_INVAL n)
      else
        let s1 := if r.digestOk then s0 else s0.incSat (F.SEA_ERR_INVAL n)
        let s2 := s1.delayCheck n sof r
        if r.h.typ = ftDrive ∨ r.h.typ = ftIdle then
          let s3 := s2.takeSlots n r sof 0 r.slots
          let s4 := s3.wrapCheck n r
          if r.h.typ = ftDrive ∧ !r.h.wrap then
            s4.measureTransit n (lineTime (27 * r.h.count) + r.h.corr / 65536 + s4.get (F.SEA_TAILDLY_NS n))
          else s4
        else if r.h.typ = ftEnum then s2.enumArrives n r
        else s2

def execSeamFrameReceived (n : BitVec 5) (sof : Nat) (bytes : List (BitVec 8)) (s : State) : Res :=
  .next (s.seamReceive n.toNat sof (bytes.map (·.toNat)))

/-- R185: no valid return field of slot `i` for 50 frame periods. -/
def State.nodeSilent (s : State) (i : Nat) : Bool :=
  let x := s.nslot i
  let st := s.get (F.NT_STATE i)
  (st == 1 || st == 2 || st == 3) && s.seamOn (i / 128) &&
    decide ((match x.last with | some t => max t x.since | none => x.since) + 50 * s.framePeriod ≤ s.ns)

/-- R185: slot `i` becomes LOST. -/
def State.nodeLost (s : State) (i : Nat) : State :=
  if s.nodeSilent i then
    ((s.setNslot i { s.nslot i with back := s.get (F.NT_STATE i) }).setNodeState i 4).seamEvent 0x310 (i / 128) (i % 128)
  else s

def execSeaNodeLost (i : BitVec 12) (s : State) : Res := .next (s.nodeLost i.toNat)

/-- R199: the IN of an enabled seam has no signal. -/
def execSeamSignalLost (n : BitVec 5) (s : State) : Res :=
  .next (if s.flag (F.SEA_CTL_ENABLE n.toNat) then (s.setFlag (F.SEA_STAT_LINK n.toNat) false).seamEvent 0x30B n.toNat 0 else s)

/-- R166, R205: the IN of an enabled seam has code-group lock. -/
def execSeamLinkLock (n : BitVec 5) (s : State) : Res :=
  .next (if s.flag (F.SEA_CTL_ENABLE n.toNat) then s.setFlag (F.SEA_STAT_LINK n.toNat) true else s)

end Sys2Proof.Machine
end

