-- ==== Sys2Proof/Machine/Sru.lean ====
section
/-!
DEFINITION. Machine/Sru.lean: the sensor radio (chapter 12, R329 to R361): physical layer, frames and the dwell accountant.
-/

namespace Sys2Proof.Machine

/-! ## State -/

/-- What the module keeps of radio node `i`. -/
def State.rnode (s : State) (i : Nat) : RNode := spGet (fun _ => {}) s.sru.nodes i

/-- Replace radio node `i`. -/
def State.setRnode (s : State) (i : Nat) (x : RNode) : State :=
  { s with sru := { s.sru with nodes := spSet (fun _ => {}) s.sru.nodes i x } }

/-- R484: the radio node table goes to its flash copy. -/
def State.radioSave (s : State) : State :=
  { s with sru := { s.sru with
      flash := s.mem.filter fun p => decide (radioBase ≤ p.1) && decide (p.1 < radioBase + 0x10000)
      nodes := s.sru.nodes.map fun p => (p.1, { p.2 with incs := 0 }) } }

/-- R484: the broadcast counter goes to its flash copy. -/
def Sru.saveBcast (r : Sru) : Sru := { r with bflash := r.bfc, bincs := 0 }

/-- R361: states of an entry. -/
def rsFree : Nat := 0
def rsReserved : Nat := 1
def rsActive : Nat := 2
def rsDrifted : Nat := 3
def rsLost : Nat := 4

/-- R358: an event of node `i`. -/
def State.nodeEvent (s : State) (code i : Nat) : State := s.raise code i [i, s.get (F.RT_NODEID i)]

/-- R346, R347, R484: node `i` becomes DRIFTED. -/
def State.drift (s : State) (i : Nat) : State :=
  ((((s.put (F.RT_STATE i) rsDrifted).put (F.RT_CALLS i) 0).setRnode i { s.rnode i with ex := none }).radioSave).nodeEvent 0x703 i

/-- R334: the module may transmit: the radio is enabled and SRU_ADDR names a sender. -/
def State.radioOn (s : State) : Bool :=
  s.inRunQuiet && s.flag F.SRU_CTL_EN && s.get F.SRU_ADDR_ADDR != 0 && s.get F.SRU_ADDR_ADDR != 0xFFFFFFFF

/-- R5: the module is an FQS-6432-E. -/
def State.variantE (s : State) : Bool := s.get F.GLB_ID_VARIANT == 1

/-! ## Configuration (R329 to R332, R339, R340) -/

/-- The basted configuration words, in effect or staged. -/
structure RCfg where
  mode : Nat
  fec : Bool
  rally : Nat
  opn : Nat
  recov : Nat
  op : Nat
  rch : Nat
  wch : Nat
  seed : Nat

/-- The configuration that `w` gives. -/
def rcfgOf (w : Nat → Word) : RCfg :=
  let c := w Reg.SRU_CTL
  let n := w Reg.SRU_WIN
  let h := w Reg.SRU_CHAN
  { mode := getBits c 2 2, fec := getBits c 4 1 == 1, rally := getBits (w Reg.SRU_RALLY) 0 10, opn := getBits n 0 8, recov := getBits n 8 8,
    op := getBits h 0 6, rch := getBits h 8 6, wch := getBits h 16 6, seed := getBits (w Reg.SRU_HOPSEED) 0 16 }

/-- The configuration in force. -/
def State.rcfg (s : State) : RCfg := rcfgOf s.rd

/-- R329: duration of one octet, µs. -/
def octetUs (mode : Nat) : Nat := match mode with | 0 => 160 | 1 => 80 | _ => 40

/-- R340: airtime of a frame with `n` octets of PSDU, µs: SHR 6 octets, PHR 2, doubled with FEC after the SHR. -/
def RCfg.airUs (c : RCfg) (n : Nat) : Nat := (6 + (2 + n) * (if c.fec then 2 else 1)) * octetUs c.mode

/-- R341: duration of the SHR, µs. -/
def RCfg.shrUs (c : RCfg) : Nat := 6 * octetUs c.mode

/-- R340: airtime of a frame with `l` octets of payload, µs. -/
def RCfg.frameUs (c : RCfg) (l : Nat) : Nat := c.airUs (30 + l)

/-- R340: W of a node whose largest reply payload is `rlen`. -/
def RCfg.width (c : RCfg) (rlen : Nat) : Nat := (2 * (c.frameUs 16 + 900 + c.frameUs rlen) + 2499) / 2500

/-- R339: slots of a rally. -/
def RCfg.slots (c : RCfg) : Nat := c.rally * 400

/-- R331: the sub-bands of the FQS-6432-E, lower and upper edge in kHz. -/
def subBands : List (Nat × Nat) := [(863000, 865000), (865000, 868000), (868000, 868600), (868700, 869200), (869400, 869650)]

/-- R330: the sub-band that holds channel `n` in a mode. -/
def subBandOf (mode n : Nat) : Option Nat :=
  let f := 863100 + n * 200
  let h := if mode = 0 then 100 else 200
  (List.range 5).find? fun j => let b := subBands.getD j (0, 0); decide (b.1 + h ≤ f) && decide (f + h ≤ b.2)

/-- R331: the duty ceiling of a sub-band, 0.001 %. -/
def sbCeiling (j : Nat) : Nat := sbLimShipped j

/-- R331: the power ceiling of a sub-band, dBm. -/
def sbPower (j : Nat) : Nat := if j = 4 then 20 else 14

/-- R329, R331: the power of a transmission on channel `c`, dBm: SRU_TXPWR, at most the ceiling of the channel's sub-band. -/
def State.sendPower (s : State) (c : Nat) : Int :=
  let top : Int := if s.variantE then (match subBandOf s.rcfg.mode c with | some j => sbPower j | none => 20) else 20
  min top (s.sget F.SRU_TXPWR_DBM)

/-- R330, R360: channel `n` is usable in a mode. -/
def State.chanUsable (s : State) (mode n : Nat) : Bool :=
  !s.variantE || (decide (n ≤ 33) && (subBandOf mode n).isSome && !s.flag (F.SRU_DWELL_EXCL n))

/-- R332: the operating, recovery and wake channels are usable in every mode given. -/
def State.chansOk (s : State) (c : RCfg) (modes : List Nat) : Bool :=
  modes.all fun m => s.chanUsable m c.op && s.chanUsable m c.rch && s.chanUsable m c.wch

/-! ## Hopping (R349) -/

/-- R349: one step of the hop generator. -/
def hopStep (st : Nat) : Nat := if st % 2 = 1 then (st / 2) ^^^ 0xB400 else st / 2

/-- R349: the first of `c`, `c + 1`, …, modulo 64, not yet in the list. -/
def hopFree (l : List Nat) (c : Nat) : Nat := (((List.range 64).map fun k => (c + k) % 64).find? fun x => !l.contains x).getD c

/-- R349: HOP of a seed. -/
def hopTable (seed : Nat) : List Nat :=
  (forUp (fun _ (p : Nat × List Nat) => let st := hopStep p.1; (st, p.2 ++ [hopFree p.2 (st % 64)])) 64 (seed, [])).2

/-- R349: the channel of the slots that begin at `t`. -/
def State.slotChan (s : State) (t : Nat) : Nat :=
  if s.variantE then s.get F.SRU_CHAN_OPCH
  else
    let hop := hopTable (s.get F.SRU_HOPSEED_SEED)
    let k := t / 2500000 % 64
    (((List.range 64).map fun d => hop.getD ((k + d) % 64) 0).find? fun c => !s.flag (F.SRU_DWELL_EXCL c)).getD (hop.getD k 0)

/-! ## The dwell accountant (R353) -/

/-- R353: own airtime, µs, at time `t` of the transmissions that `p` accepts, in the last `win` ns. -/
def State.airtime (s : State) (t win : Nat) (p : Air → Bool) : Nat :=
  (s.sru.air.filter fun a => decide (t < a.at_ + win) && p a).foldl (fun x a => x + a.us) 0

/-- R353: a transmission of `us` on channel `c` at `t` keeps within the limit. -/
def State.airOk (s : State) (t c us : Nat) : Bool :=
  if s.variantE then
    match subBandOf s.rcfg.mode c with
    | some j => decide (s.airtime t (3600 * nsPerSec) (·.band == some j) + us ≤ s.get (F.SRU_SBLIM_LIMIT j) * 36000)
    | none => false
  else decide (s.airtime t (20 * nsPerSec) (·.chan == c) + us ≤ 400000)

/-- R353: a transmission is refused and moved. -/
def State.dwellMove (s : State) (i : Option Nat) : State :=
  let s1 := (s.incSat F.SRU_REFUSE_DWELL).setFlag F.SRU_STAT_DWREF true
  match i with
  | some i => (s1.incSat (F.RT_DWMOVE i)).raiseRated (60 * nsPerSec) 0x706 i [i, s.get (F.RT_NODEID i)] 0
  | none => s1.raiseRated (60 * nsPerSec) 0x706 0 [] 0

/-- R353: an airtime is noted; those older than an hour are forgotten. -/
def State.noteAir (s : State) (t c us : Nat) : State :=
  { s with sru := { s.sru with air := (s.sru.air.filter fun a => decide (t < a.at_ + 3600 * nsPerSec)) ++
    [{ at_ := t, chan := c, band := subBandOf s.rcfg.mode c, us := us }] } }

/-! ## Frames (R334 to R338) -/

/-- One byte of the 2-octet FCS of IEEE 802.15.4. -/
def fcsByte (crc : BitVec 16) (b : Nat) : BitVec 16 :=
  forUp (fun _ (c : BitVec 16) => if c.getLsbD 0 then (c >>> 1) ^^^ 0x8408#16 else c >>> 1) 8 (crc ^^^ BitVec.ofNat 16 b)

/-- R329: FCS of a PSDU without it. -/
def fcs (bs : List Nat) : List Nat := Crypto.toBytesLE 2 (bs.foldl fcsByte 0#16).toNat

/-- R334: the fields of a frame. -/
structure RFrame where
  typ : Nat
  /-- Bits [7:4] of byte 0, which a sender leaves 0. -/
  top : Nat := 0
  ttl : Nat := 0
  rdly : Nat := 0
  src : Nat
  dst : Nat
  msg : Nat
  fc : Nat
  payload : List Nat
  mic : List Nat := []

/-- R334: bytes 4 to 19. -/
def RFrame.ids (f : RFrame) : List Nat :=
  Crypto.toBytesLE 4 f.src ++ Crypto.toBytesLE 4 f.dst ++ Crypto.toBytesLE 4 f.msg ++ Crypto.toBytesLE 4 f.fc

/-- R336: the nonce. -/
def RFrame.nonce (f : RFrame) : List Nat := Crypto.toBytesLE 4 f.src ++ Crypto.toBytesLE 4 f.fc ++ Crypto.toBytesLE 4 f.msg ++ [6]

/-- R336: payload bytes sent in the clear. -/
def RFrame.clear (f : RFrame) : Nat := if f.typ = 5 then 2 else 0

/-- R336: the authenticated header. -/
def RFrame.aad (f : RFrame) : List Nat := (f.top * 16 + f.typ) :: (f.ids ++ f.payload.take f.clear)

/-- R334, R336: the PSDU of a frame under a key. -/
def RFrame.psdu (f : RFrame) (key : List Nat) : List Nat :=
  let c := Crypto.ccmSeal key f.nonce f.aad (f.payload.drop f.clear) 8
  let b := [f.typ, f.ttl] ++ Crypto.toBytesLE 2 f.rdly ++ f.ids ++ f.payload.take f.clear ++ c.1 ++ c.2
  b ++ fcs b

/-- R334, R335, R337: the frame in a PSDU; none when the FCS, the length or the type is wrong. -/
def parseFrame (b : List Nat) : Option RFrame :=
  let n := b.length
  let le (k w : Nat) : Nat := Crypto.ofBytesLE ((b.drop k).take w)
  let t := b.getD 0 0 % 16
  if n < 30 ∨ 127 < n ∨ b.drop (n - 2) ≠ fcs (b.take (n - 2)) ∨ t = 0 ∨ 8 < t then none
  else some { typ := t, top := b.getD 0 0 / 16, ttl := b.getD 1 0 % 8, rdly := le 2 2, src := le 4 4, dst := le 8 4, msg := le 12 4, fc := le 16 4,
              payload := (b.drop 20).take (n - 30), mic := (b.drop (n - 10)).take 8 }

/-- R336: the frame with its payload decrypted, when the MIC is right under a key. -/
def RFrame.open_ (f : RFrame) (key : List Nat) : Option RFrame :=
  (Crypto.ccmOpen key f.nonce f.aad (f.payload.drop f.clear) f.mic).map fun p => { f with payload := f.payload.take f.clear ++ p }

/-- R367, R380: the node roots of node `id`: from the ACTIVE copy, and from a VERIFIED PENDING copy. -/
def State.nodeRoots (s : State) (id : Nat) : List (Bool × List Nat) :=
  let n := s.get F.SRU_KEY_NODEK
  match s.keyFor n 1 with
  | some k => (false, nodeRoot k id) :: (if (s.kslot n).pend = .verified then [(true, nodeRoot (s.kslot n).pkey id)] else [])
  | none => []

/-- R380: the node root under which node `i` is served. -/
def State.nodeRootOf (s : State) (i : Nat) : Option (List Nat) :=
  let l := s.nodeRoots (s.get (F.RT_NODEID i))
  match l.find? fun p => p.1 == (s.rnode i).copy with
  | some p => some p.2
  | none => l.head?.map (·.2)

/-- R337: a frame whose MIC or counter is wrong: counted, and reported once per second for each source. -/
def State.micFail (s : State) (i : Option Nat) (src : Nat) : State :=
  let s1 := (s.incSat F.SRU_RXERR_MIC).setFlag F.SRU_STAT_MIC true
  if s1.rateOk 0x708 (src + 65536) nsPerSec then
    (s1.rateMark 0x708 (src + 65536)).raiseEv (match i with
      | some i => { code := 0x708, unit := i, pay := [i, src] }
      | none => { code := 0x708, skip := 1, pay := [src] })
  else s1

/-- A frame that fails its FCS, or of an unknown type (R335). -/
def State.fcsFail (s : State) : State := s.incSat F.SRU_RXERR_FCS

/-- R337, R484: the module's counter toward node `i` advances. -/
def State.bumpTx (s : State) (i : Nat) : State :=
  let x := s.rnode i
  let s1 := (s.put (F.RT_TXFC i) (s.get (F.RT_TXFC i) + 1)).setRnode i { x with incs := x.incs + 1 }
  if 1023 ≤ x.incs then s1.radioSave else s1

/-- R338: a rekey of node `i` begins. -/
def State.startRekey (s : State) (i : Nat) : State :=
  match (s.rnode i).rekey with
  | some _ => s
  | none => s.setRnode i { s.rnode i with rekey := some ((s.get (F.RT_EPOCH i) + 1) % 65536) }

/-- R338: a counter of node `i` has reached 0xFFFF_0000. -/
def State.rekeyCheck (s : State) (i : Nat) : State :=
  if 0xFFFF0000 ≤ s.get (F.RT_TXFC i) ∨ 0xFFFF0000 ≤ s.get (F.RT_RXFC i) then s.startRekey i else s

/-- R334, R338, R353: a frame to node `i` leaves at `t` on channel `c`, never with counter 0xFFFF_FFFF; the caller has asked the accountant. -/
def State.sendNode (s : State) (i typ ttl msg t c : Nat) (payload : List Nat) : State :=
  let fc := s.get (F.RT_TXFC i)
  if fc = 0xFFFFFFFF then s
  else match s.nodeRootOf i with
  | none => s.keyRefused (s.get F.SRU_KEY_NODEK) (some (s.get (F.RT_NODEID i)))
  | some nr =>
    let f : RFrame := { typ := typ, ttl := ttl, src := s.get F.SRU_ADDR_ADDR, dst := s.get (F.RT_NODEID i), msg := msg, fc := fc,
                        payload := payload }
    let s1 := s.emit (.radioFrame c t (s.sendPower c) (f.psdu (nodeEpochKey nr (s.get (F.RT_EPOCH i)))))
    ((s1.noteAir t c (s.rcfg.frameUs payload.length)).bumpTx i).rekeyCheck i

/-- R336, R337, R338: a broadcast leaves at `t` on channel `c` under the broadcast key; R353 has been asked. -/
def State.sendAll (s : State) (typ ttl t c : Nat) (payload : List Nat) : State :=
  let n := s.get F.SRU_KEY_BCAST
  if 0xFFFFFFFF ≤ s.sru.bfc then s
  else match s.keyFor n 2 with
  | none => s.keyRefused n
  | some key =>
    let f : RFrame := { typ := typ, ttl := ttl, src := s.get F.SRU_ADDR_ADDR, dst := 0xFFFFFFFF, msg := (Config.freeWord s.free).toNat,
                        fc := s.sru.bfc, payload := payload }
    let save := decide (1023 ≤ s.sru.bincs)
    let s1 := ((s.takeFree).emit (.radioFrame c t (s.sendPower c) (f.psdu key))).noteAir t c (s.rcfg.frameUs payload.length)
    { s1 with sru := { s1.sru with bfc := s.sru.bfc + 1, bincs := if save then 0 else s.sru.bincs + 1,
                                   bflash := if save then s.sru.bfc + 1 else s.sru.bflash } }

/-- R342: the eight time bytes of a SERVE that begins at `t`. -/
def RCfg.timeBytes (c : RCfg) (t : Nat) : List Nat :=
  let e := t + c.shrUs * 1000
  Crypto.toBytesLE 4 (e / nsPerSec % 4294967296) ++ Crypto.toBytesLE 4 (e % nsPerSec)

/-- The time of an instant as 6 bytes of seconds and 4 of nanoseconds (R348, R350). -/
def time10 (t : Nat) : List Nat := Crypto.toBytesLE 6 (t / nsPerSec) ++ Crypto.toBytesLE 4 (t % nsPerSec)

/-! ## Allocation (R339, R340, R348) -/

/-- The entries that have a wake slot. -/
def State.placed (s : State) : List Nat := (List.range 1024).filter fun i => decide (2 ≤ s.get (F.RT_STATE i))

/-- R340: entry with address `id` that is not FREE. -/
def State.entryOf (s : State) (id : Nat) : Option Nat :=
  (List.range 1024).find? fun i => s.get (F.RT_STATE i) != rsFree && s.get (F.RT_NODEID i) == id

/-- A run of `w` slots at `a` is free of the runs in `l`. -/
def runFree (l : List (Nat × Nat)) (a w : Nat) : Bool := l.all fun r => decide (a + w ≤ r.1) || decide (r.1 + r.2 ≤ a)

/-- R339: first fit: the lowest start at which `w` slots are free: the first wake slot or the end of a run. -/
def firstFit (c : RCfg) (l : List (Nat × Nat)) (w : Nat) : Option Nat :=
  ((c.opn :: l.map fun r => r.1 + r.2).filter fun a => decide (a + w + c.recov ≤ c.slots) && runFree l a w).min?

/-- R339, R340: the plan of a configuration: every placed node's slot and width, in ascending order; none when one cannot be
placed. -/
def State.plan (s : State) (c : RCfg) : Option (List (Nat × Nat × Nat)) :=
  let want := s.placed.map fun i => (i, c.width (s.get (F.RT_RLEN i)))
  let put1 (l : List (Nat × Nat × Nat)) (e : Nat × Nat) : Option (List (Nat × Nat × Nat)) :=
    (firstFit c (l.map fun r => r.2) e.2).map fun a => l ++ [(e.1, a, e.2)]
  want.foldl (fun p e => p.bind fun l => put1 l e) (some [])

/-- The runs in force, without node `i`'s. -/
def State.runs (s : State) (i : Nat) : List (Nat × Nat) :=
  (s.placed.filter (· != i)).map fun j => (s.get (F.RT_SLOT j), s.get (F.RT_W j))

/-- The configuration that is staged. -/
def State.rcfgNext (s : State) : RCfg := rcfgOf s.stagedWord

/-- R348: wake addresses not used: the lowest from 1 (assumption log 18). -/
def State.freeWaddr (s : State) : Nat :=
  ((List.range 1025).find? fun k => s.placed.all fun i => s.get (F.RT_WADDR i) != k + 1).getD 0 + 1

end Sys2Proof.Machine
end

