-- ==== Sys2Proof/Machine/SruRx.lean ====
section
/-!
DEFINITION. Machine/SruRx.lean: what the sensor radio sends in its windows and wake slots, and what it receives (chapter 12, R339
to R356).
-/

namespace Sys2Proof.Machine

/-- 2.5 ms, ns (R339). -/
def slotNs : Nat := 2500000

/-- Start of the present rally; rallies are counted from `base` (R339). -/
def State.rallyNow (s : State) : Nat :=
  let r := s.get F.SRU_RALLY_SEC * nsPerSec
  s.sru.base + (s.ns - s.sru.base) / r * r

/-- R355: this module serves every slot. -/
def State.servesAll (s : State) : Bool := !s.sru.split

/-- R355: this module serves the wake slot that begins at slot `a`. -/
def State.servesSlot (s : State) (a : Nat) : Bool := s.servesAll && s.acts || s.sru.split && a % 2 == s.get F.GLB_ROLE_HALF

/-! ## Wake slots (R341 to R346) -/

/-- R342: PLAN with a countdown. -/
def planCmd (c : RCfg) (slot w count : Nat) : List Nat :=
  1 :: (Crypto.toBytesLE 4 (c.rally + c.mode * 1024 + (if c.fec then 4096 else 0) + slot * 8192) ++ [w, count, 0])

/-- R342: RADIO with a countdown. -/
def radioCmd (c : RCfg) (count : Nat) : List Nat := 2 :: (Crypto.toBytesLE 2 c.seed ++ [c.op, c.rch, c.wch, count, 0])

/-- Rallies that lie before the instant `t`, counted from the present rally. -/
def State.ralliesTo (s : State) (t : Nat) : Nat := (t - s.sru.rally.getD 0) / (s.get F.SRU_RALLY_SEC * nsPerSec)

/-- R338, R352, R354: the command of the next SERVE to node `i`, with its eight bytes; PLAN and RADIO alternate. -/
def State.nextCmd (s : State) (i : Nat) : List Nat :=
  let x := s.rnode i
  match s.sru.cfgAt with
  | some t =>
    let c := s.rcfgNext
    let left := s.ralliesTo t
    if left % 2 = 1 then
      match s.sru.next.find? fun e => e.1 == i with
      | some e => planCmd c e.2.1 e.2.2 left
      | none => []
    else radioCmd c left
  | none =>
    match x.rekey, x.act with
    | some e, _ => 3 :: (Crypto.toBytesLE 2 e ++ [0, 0, 0, 0, 0])
    | none, some a => 5 :: (Crypto.toBytesLE 4 a.1 ++ [min 255 (s.ralliesTo a.2), 0, 0])
    | none, none => []

/-- R346: the guard of node `i` exceeds its GMAX. -/
def State.guardOver (s : State) (i : Nat) : Bool :=
  decide (s.get (F.RT_GMAX i) * 1000000000 < 2 * (s.get (F.RT_DRIFT i) + 1) * (s.ns - (s.rnode i).sync) + 100000000000)

/-- R355: the counters that `a` adds to. -/
def State.radioCount (s : State) (a : RadioAct) : State :=
  match a with
  | .served => s.inc F.SRU_SERVES_COUNT
  | .let_ i => (s.incSat F.SRU_LETS_LETS).incSat (F.RT_LETS i)
  | .moved i => ((s.incSat F.SRU_REFUSE_DWELL).setFlag F.SRU_STAT_DWREF true).incSat (F.RT_DWMOVE i)

/-- R355: the module counts `a`; a standby tells its partner of it. -/
def State.radioNote (s : State) (a : RadioAct) : State :=
  let s1 := s.radioCount a
  if s1.isStandby then { s1 with sru := { s1.sru with acts := s1.sru.acts ++ [a] } } else s1

/-- R353: a SERVE or LET of node `i` is moved to its next wake slot. -/
def State.moveNode (s : State) (i : Nat) : State :=
  (s.radioNote (.moved i)).raiseRated (60 * nsPerSec) 0x706 i [i, s.get (F.RT_NODEID i)] 0

/-- R346, R355: what the partner's serving adds to the counters; a wake slot that its accountant has moved is not missed. -/
def State.hearRadio (s : State) (l : List RadioAct) : State :=
  forEach (fun a s => match a with
    | .moved i =>
      let s1 := s.moveNode i
      if ((s1.rnode i).ex.map (·.own)) = some false then s1.setRnode i { s1.rnode i with ex := none } else s1
    | _ => s.radioCount a) l s

/-- R92, R181, R187, R355: what the partner tells. -/
def State.hearPartner (s : State) (p : SeamPeer) : State := (s.hearPeer p).hearRadio p.acts

/-- R341, R346, R353, R355: node `i`'s wake slot begins at `t0`; of a slot that the partner serves the module notes what is sent. -/
def State.serve (s : State) (i t0 : Nat) : State :=
  let x := s.rnode i
  if s.get (F.RT_TXFC i) = 0xFFFFFFFF then s.drift i
  else if !s.servesSlot (s.get (F.RT_SLOT i)) then
    s.setRnode i { x with ex := some { t0 := t0, own := false, payload := s.rcfg.timeBytes t0 ++ s.nextCmd i } }
  else
    let ch := s.slotChan t0
    let pay := s.rcfg.timeBytes t0 ++ s.nextCmd i
    let us := s.rcfg.frameUs pay.length
    if !s.airOk t0 ch us then s.moveNode i
    else if (s.nodeRootOf i).isNone then s.keyRefused (s.get F.SRU_KEY_NODEK) (some (s.get (F.RT_NODEID i)))
    else
      let msg := (Config.freeWord s.free).toNat
      let s1 := (s.takeFree).sendNode i 1 0 msg t0 ch pay
      (s1.radioNote .served).setRnode i
        { s1.rnode i with ex := some { t0 := t0, msg := msg, payload := pay, txEnd := t0 + us * 1000 } }

/-- R341: the wake slot of node `i`, when it has begun in the present rally. -/
def State.wakeSlot (s : State) (i : Nat) : State :=
  match s.sru.rally with
  | none => s
  | some r =>
    let t0 := r + s.get (F.RT_SLOT i) * slotNs
    let x := s.rnode i
    if s.radioOn && s.get (F.RT_STATE i) == rsActive && x.served != some r && decide (t0 ≤ s.ns) &&
        decide (s.ns < t0 + s.get (F.RT_W i) * slotNs) then
      let s1 := s.setRnode i { x with served := some r, ex := none }
      if s1.guardOver i then (if s1.acts then s1.drift i else s1) else s1.serve i t0
    else s

def execWakeSlot (i : BitVec 10) (s : State) : Res := .next (s.wakeSlot i.toNat)

/-- R341: the LET of node `i`: the SERVE's MSGID and payload again, 900 µs and the longest REPLY after the SERVE. -/
def State.letTimeout (s : State) (i : Nat) : State :=
  match (s.rnode i).ex with
  | none => s
  | some e =>
    let t := e.txEnd + (900 + s.rcfg.frameUs (s.get (F.RT_RLEN i))) * 1000
    if !s.radioOn || !e.own || e.recover || e.letSent || decide (s.ns < t) || s.get (F.RT_TXFC i) == 0xFFFFFFFF then s
    else
      let ch := s.slotChan e.t0
      let us := s.rcfg.frameUs e.payload.length
      if !s.airOk t ch us then (s.setRnode i { s.rnode i with ex := none }).moveNode i
      else if (s.nodeRootOf i).isNone then s.keyRefused (s.get F.SRU_KEY_NODEK) (some (s.get (F.RT_NODEID i)))
      else
        let s1 := s.sendNode i 2 0 e.msg t ch e.payload
        (s1.radioNote (.let_ i)).setRnode i
          { s1.rnode i with ex := some { e with letSent := true, txEnd := t + us * 1000 } }

def execLetTimeout (i : BitVec 10) (s : State) : Res := .next (s.letTimeout i.toNat)

/-- R346: node `i`'s wake slot is over and unanswered. -/
def State.slotMissed (s : State) (i : Nat) : State :=
  match (s.rnode i).ex with
  | none => s
  | some e =>
    if e.recover || decide (s.ns < e.t0 + s.get (F.RT_W i) * slotNs) then s
    else
      let s1 := s.setRnode i { s.rnode i with ex := none }
      if !s1.acts || (e.own && !e.letSent) then s1
      else
        let s2 := (((s1.put (F.RT_MISS i) (min 255 (s1.get (F.RT_MISS i) + 1))).incSat (F.RT_MISSES i)).incSat F.SRU_LETS_MISS).radioSave
        if 2 ≤ s2.get (F.RT_MISS i) ∨ s2.guardOver i then s2.drift i else s2

def execWakeSlotMissed (i : BitVec 10) (s : State) : Res := .next (s.slotMissed i.toNat)

/-! ## Receiving a REPLY (R333, R343, R344, R347) -/

/-- R333: demodulator latency, µs. -/
def RCfg.latencyUs (c : RCfg) : Nat := [45, 85, 25, 45, 15, 25].getD (2 * c.mode + (if c.fec then 1 else 0)) 0

/-- R509: sensitivity, dBm. -/
def RCfg.sensitivity (c : RCfg) : Int := [-109, -112, -106, -109, -99, -102].getD (2 * c.mode + (if c.fec then 1 else 0)) 0

/-- R343: a radio value in the format of R122. -/
def radioValue (q v : Nat) : Nat :=
  if q = 0x40 ∨ q = 0x43 then ofSigned 32 (toSigned 16 v * 256)
  else if q = 0x41 then v * 128
  else if q = 0x42 ∨ q = 0x44 then v
  else v * 4096

/-- R120, R122: values of quantities that node `i` does not declare do not exist. -/
def State.forgetUndeclared (s : State) (i : Nat) : State :=
  { s with sens := s.sens.filter fun p => p.1 / 256 != 0x1000 + i || s.declares i (p.1 % 256) }

/-- R343, R344: the records of a REPLY of node `i` sampled at `t`; 0x45 is not sent. -/
def State.takeValues (s : State) (i t : Nat) : List (List Nat) → State
  | [] => s
  | r :: rs =>
    let q := r.getD 0 0
    let s1 := if s.declares i q && q != 0x45
      then s.noteSense (0x1000 + i) q (radioValue q (Crypto.ofBytesLE (r.drop 1))) t else s
    s1.takeValues i t rs

/-- R338: a rekey completes: both counters start again at 0 under the new epoch. -/
def State.finishRekey (s : State) (i e : Nat) : State :=
  ((((s.put (F.RT_EPOCH i) e).put (F.RT_TXFC i) 0).put (F.RT_RXFC i) 0).setRnode i
    { s.rnode i with rekey := none, hist := false, rxOther := none }).nodeEvent 0x709 i

/-- R352: once every node of the image has all of it, ACTIVATE goes to each with one countdown, a free number of rallies. -/
def State.imageProgress (s : State) : State :=
  match s.sru.img with
  | none => s
  | some g =>
    if g.activated || !(g.nodes.all fun i => (s.rnode i).image == 2) then s
    else
      let at_ := s.sru.rally.getD 0 + (1 + (Config.freeWord s.free).toNat % 255) * s.get F.SRU_RALLY_SEC * nsPerSec
      let s1 := forEach (fun i s => s.setRnode i { s.rnode i with act := some (g.id, at_) }) g.nodes s.takeFree
      { s1 with sru := { s1.sru with img := some { g with activated := true } } }

/-- R354: the exchange `e` announced the staged configuration, as it has stood since it was written. -/
def State.announces (s : State) (e : RExch) : Bool :=
  let cmd := e.payload.getD 8 0
  (cmd == 1 || cmd == 2) && !e.recover && s.sru.cfgAt.isSome && decide (s.sru.cfgSet ≤ e.t0)

/-- R342, R343: the effects of STATUS, when the REPLY answers the exchange `e`. -/
def State.replyStatus (s : State) (i st : Nat) (e : Option RExch) : State :=
  let x := s.rnode i
  let cmd := (e.map fun e => e.payload.getD 8 0).getD 0
  let ok := bit st 0
  let s1 := (s.put (F.RT_RELAY i) (st / 8)).setRnode i
    { x with image := st / 16 % 4, told := x.told || (e.map s.announces).getD false, act := if cmd = 5 ∧ ok then none else x.act }
  let s2 := match x.rekey with
    | some ep => if cmd = 3 ∧ ok then s1.finishRekey i ep else s1
    | none => s1
  (if s.get (F.RT_RELAY i) ≠ st / 8 % 2 then s2.radioSave else s2).imageProgress

/-- R343 to R347: a REPLY of node `i` whose MIC is right, stamped `t`; `e` is the exchange it answers. -/
def State.acceptReply (s : State) (i t rssi : Nat) (f : RFrame) (copy : Bool) (e : Option RExch) : State :=
  let x := s.rnode i
  let p := f.payload
  let back := s.get (F.RT_STATE i) == rsDrifted
  let margin := toSigned 8 rssi - s.rcfg.sensitivity
  let smp := t - Crypto.ofBytesLE ((p.drop 1).take 2) * 1000000
  let n := min 9 (p.getD 3 0)
  let s1 := ((((s.put (F.RT_RXFC i) f.fc).put (F.RT_RSSI i) rssi).put (F.RT_MARGIN i) (ofSigned 8 margin)).put (F.RT_SYNC_S i)
    (t / nsPerSec)).put (F.RT_SYNC_NS i) (t % nsPerSec)
  let inc := x.incs + 1
  let s2 := (((s1.put (F.RT_MISS i) 0).put (F.RT_CALLS i) 0).put (F.RT_STATE i) rsActive).setRnode i
    { x with hist := true, copy := copy, ex := none, lastMsg := some f.msg, sync := t, incs := inc,
             rxOther := if copy != x.copy && x.hist then some (s.get (F.RT_RXFC i)) else x.rxOther }
  let s3 := if back || x.incs ≥ 1023 || s.get (F.RT_MISS i) != 0 || s.get (F.RT_CALLS i) != 0 then s2.radioSave else s2
  let s4 := if back then s3.nodeEvent 0x704 i else s3
  let s5' := s4.takeValues i smp ((List.range n).map fun k => (p.drop (4 + 3 * k)).take 3)
  let s5 := if s5'.declares i 0x45 then s5'.noteSense (0x1000 + i) 0x45 (ofSigned 32 (margin * 65536)) t else s5'
  (s5.replyStatus i (p.getD 0 0) e).rekeyCheck i

/-- R337: the counter `fc` is not greater than the last one accepted from node `i` under that copy of the key. -/
def State.oldCounter (s : State) (i : Nat) (copy : Bool) (fc : Nat) : Bool :=
  let x := s.rnode i
  if copy == x.copy then x.hist && decide (fc ≤ s.get (F.RT_RXFC i)) else match x.rxOther with | some c => decide (fc ≤ c) | none => false

/-- R337, R341, R355, R380: a REPLY `f` from node `i`, stamped `t`; in a pair the receptions of one MSGID are merged into the first. -/
def State.reply (s : State) (i t rssi : Nat) (f : RFrame) (relayed : Bool) : State :=
  let x := s.rnode i
  let late (e : RExch) : Bool := decide (e.txEnd + (800 + s.rcfg.shrUs) * 1000 < t)
  let answers : Bool := match x.ex with
    | some e => relayed || !e.own || (e.msg == f.msg && !late e)
    | none => relayed
  match s.nodeRoots f.src with
  | [] => s.keyRefused (s.get F.SRU_KEY_NODEK) (some f.src)
  | l =>
    match l.findSome? fun p => (f.open_ (nodeEpochKey p.2 (s.get (F.RT_EPOCH i)))).map fun g => (p.1, g) with
    | none => s.micFail (some i) f.src
    | some (copy, g) =>
      if s.paired && x.lastMsg == some f.msg then s
      else if s.oldCounter i copy f.fc then s.micFail (some i) f.src
      else if answers then s.acceptReply i t rssi g copy x.ex else s

/-- R355: a standby, or an active module of a pair, passes what it received to its partner unless the partner's serving
produced it. -/
def State.passRadio (s : State) (t rssi tx : Nat) (psdu : List Nat) (partners : Bool) : State :=
  if (s.isStandby || s.activePaired) && !partners then s.emit (.relayRadio t rssi tx psdu) else s

/-- R337, R343: a PSDU received in a wake slot or after a RECOVER. -/
def State.replyReceived (s : State) (t rssi : Nat) (psdu : List Nat) (relayed : Bool) : State :=
  match parseFrame psdu with
  | none => s.fcsFail
  | some f =>
    if f.typ ≠ 3 ∨ f.dst ≠ s.get F.SRU_ADDR_ADDR then s
    else
      match s.entryOf f.src with
      | none => s
      | some i =>
        let st := s.get (F.RT_STATE i)
        let partners := relayed || ((s.rnode i).ex.map fun e => !e.own).getD false
        let s1 := s.passRadio t rssi (s.get (F.RT_TXFC i)) psdu partners
        if st = rsActive ∨ (st = rsDrifted ∧ (s.rnode i).ex.isSome) then s1.reply i t rssi f relayed else s1

def execReplyReceived (t : Nat) (rssi : BitVec 8) (psdu : List (BitVec 8)) (s : State) : Res :=
  .next (if s.radioOn then s.replyReceived (t - s.rcfg.latencyUs * 1000) rssi.toNat (psdu.map (·.toNat)) false else s)

/-! ## Joining and flooding (R348 to R351) -/

/-- R351: the pairs of the seen-cache that are 60 s old leave it. -/
def State.seenExpire (s : State) : State :=
  { s with sru := { s.sru with seen := s.sru.seen.filter fun p => decide (s.ns < p.2.2 + 60 * nsPerSec) } }

/-- R351: a flooded frame's pair enters the seen-cache; when it is full the oldest leaves early. -/
def State.seenAdd (s : State) (src msg : Nat) : State :=
  let add (l : List (Nat × Nat × Nat)) : Sru := { s.sru with seen := l ++ [(src, msg, s.ns)] }
  if s.sru.seen.length < 512 then { s with sru := add s.sru.seen }
  else (({ s with sru := add (s.sru.seen.drop 1) } : State).incSat F.SRU_DUP_EVICT).setFlag F.SRU_STAT_SEENEV true

/-- R348: the payload of an ADMIT of node `i` that begins at `t`. -/
def State.admitPayload (s : State) (i t : Nat) (answer : List Nat) : List Nat :=
  let c := s.rcfg
  Crypto.toBytesLE 3 (s.get (F.RT_SLOT i)) ++ [s.get (F.RT_W i)] ++ Crypto.toBytesLE 2 (s.get (F.RT_WADDR i)) ++
    Crypto.toBytesLE 2 c.rally ++ [c.mode + (if c.fec then 4 else 0)] ++ time10 s.rallyNow ++ time10 (t + c.shrUs * 1000) ++
    Crypto.toBytesLE 2 (s.get (F.RT_EPOCH i)) ++ answer

/-- R348, R353, R382: ADMIT is sent to node `i` at `t` in an open window, or waits for the next one. -/
def State.sendAdmit (s : State) (i t : Nat) : State :=
  let x := s.rnode i
  let us := s.rcfg.frameUs 47
  match s.nodeRootOf i with
  | none => s.keyRefused (s.get F.SRU_KEY_NODEK) (some (s.get (F.RT_NODEID i)))
  | some nr =>
    if !s.airOk t (s.slotChan s.rallyNow) us then
      let s1 := s.dwellMove (some i)
      { s1 with sru := { s1.sru with admits := s1.sru.admits ++ [i] } }
    else
      let a := challengeAnswer nr x.chal s.moduleId (timeQ s.ns)
      let s1 := (s.takeFree).sendNode i 6 3 (Config.freeWord s.free).toNat t (s.slotChan s.rallyNow) (s.admitPayload i t a)
      s1.setRnode i { s1.rnode i with sync := t }

/-- R340, R348, R358: a plan that cannot be made; `node` is the entry and the node ID of a JOIN that cannot be placed. -/
def State.schedFull (s : State) (node : Option (Nat × Nat)) : State :=
  (s.setFlag F.SRU_STAT_SCHFULL true).raise 0x70A ((node.map (·.1)).getD 0) ((node.map fun p => [p.1, p.2]).getD [])

/-- R340, R354: slot and width of node `i` in the staged plan, for a reply payload of `rlen`. -/
def State.nextRun (s : State) (i rlen : Nat) : Option (Nat × Nat) :=
  let c := s.rcfgNext
  let w := c.width rlen
  let others := (s.sru.next.filter (·.1 != i)).map (·.2)
  match s.sru.next.find? (·.1 == i) with
  | some e => if runFree others e.2.1 w ∧ e.2.1 + w + c.recov ≤ c.slots then some (e.2.1, w) else none
  | none => (firstFit c others w).map fun a => (a, w)

/-- R354: node `i` takes its place in the staged plan. -/
def State.joinPlan (s : State) (i rlen : Nat) : State :=
  if s.sru.cfgAt.isNone then s
  else match s.nextRun i rlen with
    | some r => { s with sru := { s.sru with next := s.sru.next.filter (·.1 != i) ++ [(i, r)] } }
    | none => s

/-- R348: the wake slot of node `i` for a reply payload of `rlen`: its present start when it has one, else first fit; it must
also fit in a staged plan. -/
def State.placeNode (s : State) (i rlen : Nat) : Option Nat :=
  let c := s.rcfg
  let w := c.width rlen
  let has := decide (2 ≤ s.get (F.RT_STATE i))
  let a := if has then
      let a := s.get (F.RT_SLOT i)
      if runFree (s.runs i) a w ∧ a + w + c.recov ≤ c.slots then some a else none
    else firstFit c (s.runs i) w
  if s.sru.cfgAt.isSome && (s.nextRun i rlen).isNone then none else a

/-- R382: the challenge that a JOIN under epoch `ep` carries. -/
def joinChallenge (f : RFrame) (ep : Nat) : List Nat :=
  Crypto.toBytesLE 4 f.src ++ Crypto.toBytesLE 4 f.msg ++ Crypto.toBytesLE 4 f.fc ++ Crypto.toBytesLE 2 ep ++ [0, 0]

/-- R348: node `f.src`, whose JOIN `f` verified, takes entry `i` at slot `a`. -/
def State.admitNode (s : State) (i a : Nat) (f : RFrame) (copy : Bool) : State :=
  let p := f.payload
  let ep := Crypto.ofBytesLE (p.take 2)
  let rlen := min 31 (p.getD 6 0)
  let had := decide (2 ≤ s.get (F.RT_STATE i))
  let waddr := if had then s.get (F.RT_WADDR i) else s.freeWaddr
  let fl := p.getD 2 0
  let s1 := (((((s.put (F.RT_NODEID i) f.src).put (F.RT_STATE i) rsActive).setFlag (F.RT_RELAY i) (Config.joinFlag 0 fl)).put
    (F.RT_DRIFT i) (p.getD 3 0)).put (F.RT_WADDR i) waddr).put (F.RT_SLOT i) a
  let s2 := (((((s1.put (F.RT_W i) (s.rcfg.width rlen)).put (F.RT_RLEN i) rlen).put (F.RT_GMAX i)
    (Crypto.ofBytesLE ((p.drop 4).take 2))).put (F.RT_MISS i) 0).put (F.RT_CALLS i) 0).put (F.RT_RXFC i) f.fc
  let s3 := (s2.put (F.RT_EPOCH i) ep).put (F.RT_QMASK i) (Crypto.ofBytesLE ((p.drop 7).take 2))
  let x := s.rnode i
  let other := if ep ≠ s.get (F.RT_EPOCH i) then none else if copy != x.copy && x.hist then some (s.get (F.RT_RXFC i)) else x.rxOther
  let s4 := (((s3.joinPlan i rlen).forgetUndeclared i).setRnode i
    { x with hist := true, copy := copy, rxOther := other, ex := none, canImage := Config.joinFlag 1 fl, rekey := none,
             chal := joinChallenge f ep, joinAt := s.ns, sync := s.ns }).radioSave
  (s4.sendAdmit i s.ns).nodeEvent 0x701 i

/-- R348: a JOIN that verified. -/
def State.joinOk (s : State) (f : RFrame) (copy : Bool) : State :=
  let rlen := min 31 (f.payload.getD 6 0)
  let entry := match s.entryOf f.src with
    | some i => some i
    | none => (List.range 1024).find? fun i => s.get (F.RT_STATE i) == rsFree
  if !s.acts || !s.flag F.SRU_CTL_JOINEN then s
  else
    match entry with
    | none => ((s.setFlag F.SRU_STAT_FULL true).incSat F.SRU_REFUSE_JOIN).raiseEv { code := 0x702, skip := 1, pay := [f.src] }
    | some i =>
      match s.placeNode i rlen with
      | none => (s.incSat F.SRU_REFUSE_JOIN).schedFull (some (i, f.src))
      | some a => s.admitNode i a f copy

/-- R336, R337, R348: a JOIN under its stated epoch; one that a cache eviction lets through again repeats its ADMIT (R351). -/
def State.joinFrame (s : State) (f : RFrame) : State :=
  let ep := Crypto.ofBytesLE (f.payload.take 2)
  let e := s.entryOf f.src
  let stale : Bool := match e with
    | some i => decide (2 ≤ s.get (F.RT_STATE i)) && decide (ep < s.get (F.RT_EPOCH i))
    | none => false
  let old (copy : Bool) : Bool := match e with
    | some i => ep == s.get (F.RT_EPOCH i) && s.oldCounter i copy f.fc
    | none => false
  let again : Option Nat := e.filter fun i =>
    decide (2 ≤ s.get (F.RT_STATE i)) && (s.rnode i).chal == joinChallenge f ep && decide (s.ns < (s.rnode i).joinAt + 60 * nsPerSec)
  if f.dst ≠ s.get F.SRU_ADDR_ADDR ∨ f.src = 0 ∨ f.src = 0xFFFFFFFF ∨ f.payload.length < 9 ∨ stale then s
  else
    match s.nodeRoots f.src with
    | [] => s.keyRefused (s.get F.SRU_KEY_NODEK) (some f.src)
    | l =>
      match l.findSome? fun p => (f.open_ (nodeEpochKey p.2 ep)).map fun g => (p.1, g) with
      | none => s.micFail e f.src
      | some (copy, g) =>
        match again with
        | some i => if s.acts && s.flag F.SRU_CTL_JOINEN then s.sendAdmit i s.ns else s
        | none => if old copy then s.micFail e f.src else s.joinOk g copy

/-- R336, R337: a BEACON or an IMAGE of another sender: its MIC under the broadcast key and its counter are checked; it has no effect of its
own here.  An ADMIT is for a node. -/
def State.broadcastFrame (s : State) (f : RFrame) : State :=
  if f.dst ≠ 0xFFFFFFFF ∨ f.typ = 6 ∨ f.src = 0 ∨ f.src = 0xFFFFFFFF then s
  else
    match s.keyFor (s.get F.SRU_KEY_BCAST) 2 with
    | none => s.keyRefused (s.get F.SRU_KEY_BCAST)
    | some key =>
      let last := spGet (fun _ => none) s.sru.bcastRx f.src
      if (f.open_ key).isNone ∨ (last.map fun c => decide (f.fc ≤ c)) = some true then s.micFail none f.src
      else { s with sru := { s.sru with bcastRx := spSet (fun _ => none) s.sru.bcastRx f.src (some f.fc) } }

/-- R350, R351: a flooded frame: BEACON, JOIN, ADMIT or IMAGE. -/
def State.floodReceived (s : State) (t : Nat) (psdu : List Nat) (join relayed : Bool) : State :=
  match parseFrame psdu with
  | none => s.fcsFail
  | some f =>
    if f.typ < 4 ∨ f.typ = 8 ∨ (join ∧ f.typ ≠ 5) then s
    else
      let s0 := s.seenExpire
      if s0.sru.seen.any fun p => p.1 == f.src && p.2.1 == f.msg then s0.incSat F.SRU_DUP_DUP
      else
        let s1 := (s0.seenAdd f.src f.msg).passRadio t 0 0 psdu relayed
        if f.typ = 5 then s1.joinFrame f else s1.broadcastFrame f

def execJoinReceived (t : Nat) (psdu : List (BitVec 8)) (s : State) : Res :=
  .next (if s.radioOn then s.floodReceived (t - s.rcfg.latencyUs * 1000) (psdu.map (·.toNat)) true false else s)

def execFloodReceived (t : Nat) (psdu : List (BitVec 8)) (s : State) : Res :=
  .next (if s.radioOn then s.floodReceived (t - s.rcfg.latencyUs * 1000) (psdu.map (·.toNat)) false false else s)

def execSeenCacheExpiry (s : State) : Res := .next s.seenExpire

/-- R355: a reception that the partner relays. -/
def State.radioRelayed (s : State) (t rssi tx : Nat) (psdu : List Nat) : State :=
  if !(s.activePaired || s.isStandby) then s
  else
    match parseFrame psdu with
    | none => s
    | some f =>
      if f.typ = 3 then
        let s1 := match s.entryOf f.src with
          | some i => s.put (F.RT_TXFC i) (max (s.get (F.RT_TXFC i)) tx)
          | none => s
        s1.replyReceived t rssi psdu true
      else s.floodReceived t psdu false true

/-! ## Rally start, open window, recovery window (R339, R347, R350, R352) -/

/-- R347: a call of node `i` ended without a valid reply. -/
def State.callFailed (s : State) (i : Nat) : State :=
  let s1 := (s.put (F.RT_CALLS i) (min 255 (s.get (F.RT_CALLS i) + 1))).setRnode i { s.rnode i with ex := none }
  (if s.get F.SRU_WAKE_WMAX ≤ s1.get (F.RT_CALLS i) then (s1.put (F.RT_STATE i) rsLost).nodeEvent 0x705 i else s1).radioSave

/-- R347: node `i`'s RECOVER is outstanding. -/
def State.calling (s : State) (i : Nat) : Bool := ((s.rnode i).ex.map (·.recover)).getD false

def execSruLost (i : BitVec 10) (s : State) : Res :=
  .next (match (s.rnode i.toNat).ex with
    | some e => if e.recover && decide (e.txEnd + (800 + s.rcfg.shrUs) * 1000 < s.ns) then s.callFailed i.toNat else s
    | none => s)

/-- R350: the BEACON of a rally that begins at `r`, or its move to the next open window. -/
def State.beacon (s : State) (r : Nat) : State :=
  let c := s.rcfg
  let ch := s.slotChan r
  if !s.airOk r ch (c.frameUs 14) then s.dwellMove none
  else s.sendAll 4 3 r ch (time10 (r + c.shrUs * 1000) ++ Crypto.toBytesLE 2 c.rally ++
    Crypto.toBytesLE 2 (getBits (s.rd Reg.TBU_UTCOFF) 0 16))

/-- R352: bytes of IMAGE block `b`. -/
def RImage.block (g : RImage) (b : Nat) : List Nat :=
  let d := (g.body.drop (64 * b)).take 64
  Crypto.toBytesLE 4 g.id ++ Crypto.toBytesLE 2 b ++ Crypto.toBytesLE 2 ((g.body.length + 63) / 64) ++ d ++ List.replicate (64 - d.length) 0

/-- R352: up to `n` IMAGE frames from `t` on, as long as they end by `stop`. -/
def State.floodImage (s : State) (stop : Nat) : Nat → Nat → State
  | 0, _ => s
  | n + 1, t =>
    match s.sru.img with
    | none => s
    | some g =>
      let us := s.rcfg.frameUs 72
      let ch := s.slotChan s.rallyNow
      if g.activated || decide (stop < t + us * 1000) then s
      else if !s.airOk t ch us then s.dwellMove none
      else
        let s1 := s.sendAll 7 (s.get F.SRU_CTL_IMGTTL) t ch (g.block g.next)
        let nx := if (g.next + 1) * 64 < g.body.length then g.next + 1 else 0
        ({ s1 with sru := { s1.sru with img := some { g with next := nx } } } : State).floodImage stop n (t + us * 1000)

/-- R354: the staged configuration takes effect at `c`. -/
def State.radioChange (s : State) (c : Nat) : State :=
  let plan := s.sru.next
  let missed := s.placed.filter fun i => s.get (F.RT_STATE i) == rsActive && !(s.rnode i).told
  let s1 := forEach (fun a s => s.commitWord a) [Reg.SRU_CTL, Reg.SRU_RALLY, Reg.SRU_WIN, Reg.SRU_CHAN, Reg.SRU_HOPSEED] s
  let s2 := forEach (fun (e : Nat × Nat × Nat) s => ((s.put (F.RT_SLOT e.1) e.2.1).put (F.RT_W e.1) e.2.2).setRnode e.1
    { s.rnode e.1 with told := false }) plan s1
  let s3 := ({ s2 with sru := { s2.sru with base := c, cfgAt := none, next := [] } } : State).radioSave
  if s3.acts then forEach (fun i s => s.drift i) missed s3 else s3

/-- R354: the change instant has come. -/
def State.radioChangeDue (s : State) : State :=
  match s.sru.cfgAt with
  | some c => if c ≤ s.ns then s.radioChange c else s
  | none => s

def execRadioConfigChange (s : State) : Res := .next (if s.inRunQuiet then s.radioChangeDue else s)

/-- R339: the latest rally start has come and has not been taken. -/
def State.rallyStart (s : State) : State :=
  let s0 := s.radioChangeDue
  let r := s0.rallyNow
  if !s0.radioOn || s0.sru.rally == some r then s0
  else
    let pair := s0.activePaired || s0.isStandby
    let s1 := forEach (fun i s => if s.calling i then s.callFailed i else s) s0.placed s0
    let s2 := ({ s1 with sru := { s1.sru with rally := some r, split := pair } }.seenExpire).wrTime Reg.SRU_RLYST_S_LO r
    let s3 := if pair then s2.setFlag F.SRU_STAT_SERVEALL false else s2
    if !s3.acts then s3
    else
      let c := s3.rcfg
      let s5 := s3.beacon r
      let t1 := r + c.frameUs 14 * 1000
      let due := s5.sru.admits
      let s6 := forEach (fun i (p : State × Nat) => (p.1.sendAdmit i p.2, p.2 + c.frameUs 47 * 1000)) due
        (({ s5 with sru := { s5.sru with admits := [] } } : State), t1)
      s6.1.floodImage (r + c.opn * slotNs) 8 s6.2

def execRallyStart (s : State) : Res := .next s.rallyStart

/-- R347: the node to be called: the one a CALL named, if it is DRIFTED still, else the next DRIFTED entry in ascending order. -/
def State.nextCall (s : State) : Option Nat :=
  let drifted (i : Nat) : Bool := s.get (F.RT_STATE i) == rsDrifted
  (s.sru.call.filter drifted).orElse fun _ => ((List.range 1024).map fun k => (s.sru.called + 1 + k) % 1024).find? drifted

/-- R347: node `i` is called at `t` on WCH and then sent RECOVER on RCH, 2 ms after the last repetition (assumption log 18).  The
spec gives no order for the bytes of the sync word and of WADDR: the more significant byte goes first (assumption log 55). -/
def State.callNode (s : State) (i t : Nat) : State :=
  let c := s.rcfg
  let reps := s.get F.SRU_WAKE_WREP
  let t1 := t + (8 * reps - 1) * 1000000
  let t2 := t1 + 2000000
  let us := c.frameUs 16
  let moved (s : State) : State := { s.dwellMove (some i) with sru := { (s.dwellMove (some i)).sru with call := some i } }
  let w := [s.get (F.RT_WADDR i) / 256, s.get (F.RT_WADDR i) % 256]
  if !s.airOk t c.wch (7000 * reps) then moved s
  else
    let s1 := (s.emit (.wakeCall c.wch t (s.sendPower c.wch) ([0xAA, 0xAA, 0xB3, 0x8F] ++ w ++ [crc8 w]) reps)).noteAir t c.wch (7000 * reps)
    if !s1.airOk t2 c.rch us then moved s1
    else if s1.get (F.RT_TXFC i) = 0xFFFFFFFF ∨ (s1.nodeRootOf i).isNone then
      let s2 := if (s1.nodeRootOf i).isNone then s1.keyRefused (s1.get F.SRU_KEY_NODEK) (some (s1.get (F.RT_NODEID i))) else s1
      s2.setRnode i { s1.rnode i with ex := some { t0 := t, recover := true, txEnd := t2 } }
    else
      let pay := c.timeBytes t2 ++ planCmd c (s.get (F.RT_SLOT i)) (s.get (F.RT_W i)) 0
      let msg := (Config.freeWord s1.free).toNat
      let s2 := ((s1.takeFree).sendNode i 8 0 msg t2 c.rch pay).inc F.SRU_SERVES_COUNT
      s2.setRnode i { s2.rnode i with ex := some { t0 := t, recover := true, msg := msg, payload := pay, txEnd := t2 + us * 1000 } }

/-- R347: the recovery window of the present rally. -/
def State.recoveryWindow (s : State) : State :=
  match s.sru.rally with
  | none => s
  | some r =>
    let c := s.rcfg
    let t := r + (c.slots - c.recov) * slotNs
    if !s.radioOn || !s.acts || s.sru.recovered == some r || decide (s.ns < t) then s
    else
      match s.nextCall with
      | none => { s with sru := { s.sru with recovered := some r, call := none } }
      | some i => ({ s with sru := { s.sru with recovered := some r, call := none, called := i } } : State).callNode i t

def execRecoveryWindow (s : State) : Res := .next s.recoveryWindow

/-! ## Host writes (R331, R332, R338, R354, R359 to R361) -/

def execSruRekey (i : BitVec 10) (s : State) : Res :=
  .next (if s.radioOn && decide (2 ≤ s.get (F.RT_STATE i.toNat)) then s.rekeyCheck i.toNat else s)

/-- R332: a channel setting is refused. -/
def State.chanRefused (s : State) : State := (s.setFlag F.SRU_STAT_CHREF true).raise 0x707 0

/-- The register that `radioConfigWrite` names. -/
def radioCfgReg (k : Nat) : Nat := [Reg.SRU_CTL, Reg.SRU_RALLY, Reg.SRU_WIN, Reg.SRU_CHAN, Reg.SRU_HOPSEED].getD k Reg.SRU_HOPSEED

/-- R354: the basted bits of the register. -/
def radioCfgMask (k : Nat) : Nat := [0x1C, 0x3FF, 0xFFFF, 0x3F3F3F, 0xFFFF].getD k 0xFFFF

/-- R354: the first rally start at least 3 rallies after now. -/
def State.changeAt (s : State) : Nat :=
  let r := s.get F.SRU_RALLY_SEC * nsPerSec
  s.sru.base + ((s.ns - s.sru.base) + 3 * r + (r - 1)) / r * r

/-- R354: no node has been told of the staged configuration. -/
def Sru.untold (r : Sru) : Sp RNode := r.nodes.filterMap fun p => let x := { p.2 with told := false }; if x = {} then none else some (p.1, x)

/-- R332, R340, R354: a write of a radio configuration register is checked whole and staged, or refused. -/
def State.radioConfig (s : State) (k v : Nat) : State :=
  let a := radioCfgReg k
  let s1 := s.stage a (radioCfgMask k) v
  let c := s1.rcfgNext
  let range := decide (1 ≤ c.rally) && decide (c.rally ≤ 600) && decide (30 ≤ c.opn) && decide (30 ≤ c.recov) && c.seed != 0
  let s2 :=
    if c.mode = 3 ∨ !s.chansOk c (if k = 3 then [c.mode, s.rcfg.mode] else [c.mode]) then s.chanRefused
    else if !range then s
    else match s1.plan c with
    | none => s.schedFull none
    | some l =>
      let s3 := if s1.stagedWord a = s.rd a ∧ s.sru.cfgAt.isNone then s
        else { s1 with sru := { s1.sru with cfgAt := some s.changeAt, cfgSet := s.ns, next := l, nodes := s1.sru.untold } }
      if k = 0 then ((s3.put F.SRU_CTL_EN v).put F.SRU_CTL_JOINEN (v / 2)).put F.SRU_CTL_IMGTTL (v / 256) else s3
  s2.answer stOk

def execRadioConfigWrite (k : BitVec 3) (v : BitVec 32) (s : State) : Res :=
  .next (s.hostWr (radioCfgReg k.toNat) v.toNat (·.radioConfig k.toNat v.toNat))

/-- R332: SRU_TXPWR: a power above the ceiling stores the ceiling. -/
def State.sruTxpwr (s : State) (v : Nat) : State :=
  let top : Int := if s.variantE then (match subBandOf s.rcfg.mode (s.get F.SRU_CHAN_OPCH) with | some j => sbPower j | none => 20) else 20
  (s.sput F.SRU_TXPWR_DBM (min top (toSigned 8 (v % 256)))).answer stOk

def execSruTxpwrWrite (v : BitVec 32) (s : State) : Res := .next (s.hostWr Reg.SRU_TXPWR v.toNat (·.sruTxpwr v.toNat))

/-- R331: SRU_SBLIM[j]. -/
def State.sruSblim (s : State) (j v : Nat) : State :=
  (s.put (F.SRU_SBLIM_LIMIT j) (min (v % 65536) (if s.variantE then sbCeiling j else 0))).answer stOk

/-- R332, R360: SRU_DWELL[i].EXCL. -/
def State.sruDwell (s : State) (i v : Nat) : State :=
  let x := bit v 31
  let s1 := s.setFlag (F.SRU_DWELL_EXCL i) x
  if s.variantE ∧ 33 < i then s.answer stIgnored
  else if s.variantE then
    (if s1.chansOk s.rcfg [s.rcfg.mode] && s1.chansOk s.rcfgNext [s.rcfgNext.mode] then s1 else s.chanRefused).answer stOk
  else (if (List.range 64).all fun c => s1.flag (F.SRU_DWELL_EXCL c) then s.chanRefused else s1).answer stOk

/-- R352 to R354: nothing waits for entry `i` any more. -/
def Sru.leave (r : Sru) (i : Nat) : Sru :=
  { r with admits := r.admits.filter (· != i), next := r.next.filter (·.1 != i)
           img := r.img.map fun g => { g with nodes := g.nodes.filter (· != i) } }

/-- R120, R361: entry `i` becomes FREE, and what its node measured is gone. -/
def State.radioFree (s : State) (i : Nat) : State :=
  let s1 := ((forUp (fun w s => s.wr (radioAddr i w) (resetWord (radioAddr i w))) 16 s).setRnode i {}).forgetSource (0x1000 + i)
  { s1 with sru := s1.sru.leave i }.radioSave

def execSruCmdDrop (s : State) : Res := .next (s.hostWr Reg.SRU_CMD 1 fun s => (s.radioFree (s.get F.SRU_SEL_NODE)).answer stOk)

/-- R347: CALL. -/
def State.sruCall (s : State) : State :=
  if s.get (F.RT_STATE (s.get F.SRU_SEL_NODE)) = rsDrifted then { s with sru := { s.sru with call := some (s.get F.SRU_SEL_NODE) } } else s

def execSruCmdCall (s : State) : Res := .next (s.hostWr Reg.SRU_CMD 2 fun s => s.sruCall.answer stOk)

/-- R338: REKEY. -/
def State.sruRekey (s : State) : State :=
  if 2 ≤ s.get (F.RT_STATE (s.get F.SRU_SEL_NODE)) then s.startRekey (s.get F.SRU_SEL_NODE) else s

def execSruCmdRekey (s : State) : Res := .next (s.hostWr Reg.SRU_CMD 4 fun s => s.sruRekey.answer stOk)

/-- R361: a host write of word `w` of entry `i`. -/
def State.radioNode (s : State) (i w v : Nat) : State :=
  let st := s.get (F.RT_STATE i)
  match w with
  | 0 =>
    if rsActive ≤ st then s.answer stLocked
    else if v % 4294967296 = 0 then (s.radioFree i).answer stOk
    else ((((s.put (F.RT_NODEID i) v).put (F.RT_STATE i) rsReserved).forgetSource (0x1000 + i)).radioSave).answer stOk
  | 2 => if rsActive ≤ st then s.answer stLocked else ((s.put (F.RT_RLEN i) (v / 16777216)).radioSave).answer stOk
  | 10 => (s.wr (radioAddr i 10) (BitVec.ofNat 32 v)).answer stOk
  | 11 => (s.put (F.RT_DWMOVE i) v).answer stOk
  | _ => s.answer stIgnored

def execRadioNodeWrite (i : BitVec 10) (w : BitVec 4) (v : BitVec 32) (s : State) : Res :=
  .next (s.hostWr (radioAddr i.toNat w.toNat) v.toNat (·.radioNode i.toNat w.toNat v.toNat))

def execSruImgptrWrite (v : BitVec 32) (s : State) : Res :=
  .next (s.hostWr Reg.SRU_IMGPTR v.toNat fun s => s.stagePtr F.SRU_IMGPTR_PTR 131072 v.toNat)

def execSruImgdatWrite (v : BitVec 32) (s : State) : Res :=
  .next (s.hostWr Reg.SRU_IMGDAT v.toNat fun s => s.stageDat F.SRU_IMGPTR_PTR sruStage 131072 (s.lopRunning 0x04) v)

/-- R380: KST_MIGR: ACTIVE and DRIFTED radio nodes still on the ACTIVE copy while a PENDING one is VERIFIED. -/
def State.kstMigr (s : State) : Nat :=
  if (s.kslot (s.get F.SRU_KEY_NODEK)).pend = .verified then
    (s.placed.filter fun i => s.get (F.RT_STATE i) != rsLost && !(s.rnode i).copy).length
  else 0

/-- R338, R356: the partner has failed: the module serves every slot, the counters that both use gain 16 (and never wrap), and a wake slot of the partner that has begun
does not count. -/
def State.radioTakeover (s : State) : State :=
  let s1 := forEach (fun i s =>
    let x := s.rnode i
    (s.put (F.RT_TXFC i) (min 0xFFFFFFFF (s.get (F.RT_TXFC i) + 16))).setRnode i
      { x with ex := if (x.ex.map (·.own)).getD true then x.ex else none }) ((List.range 1024).filter fun i => s.get (F.RT_STATE i) != rsFree) s
  { s1.setFlag F.SRU_STAT_SERVEALL true with sru := { s1.sru with split := false, acts := [], bfc := s1.sru.bfc + 16 } }

end Sys2Proof.Machine
end

