-- ==== Sys2Proof/Machine/Kst.lean ====
section
/-!
DEFINITION. Machine/Kst.lean: the key store's commands (chapter 13, R369 to R380).
-/

namespace Sys2Proof.Machine

/-! ## Results (R376, R379) -/

def krOk : Nat := 0
def krFull : Nat := 1
def krParent : Nat := 2
def krDepth : Nat := 3
def krNotVerified : Nat := 4
def krKcvFail : Nat := 5
def krLocked : Nat := 6
def krBusy : Nat := 7
def krOrphaned : Nat := 8
def krInvalid : Nat := 9
def krChildren : Nat := 10
def krUse : Nat := 11

/-- R385: KST_RES. -/
def State.kres (s : State) (done : Bool) (code slot cmd : Nat) : State :=
  (((s.setFlag F.KST_RES_DONE done).put F.KST_RES_CODE code).put F.KST_RES_SLOT slot).put F.KST_RES_CMD cmd

/-- R372: outside an authenticated session, once OPEN is clear, the write is refused. -/
def State.kstAuth (s : State) (auth : Bool) : Bool := auth || s.flag F.KST_CTL_OPEN

/-- R376: a command is running. -/
def State.kstBusy (s : State) : Bool := s.flag F.KST_STAT_CBUSY || s.flag F.KST_STAT_MARKING

/-- R372, R376, R378: what every command but CREATE passes: authority, one command at a time, not slot 0, not a slot that is never
used again (`live`). -/
def State.kstCmd (s : State) (auth live : Bool) (cmd : Nat) (op : Nat → State → State) : State :=
  let n := s.get F.KST_SEL_SLOT
  let k := s.kslot n
  s.hostWr Reg.KST_CMD (2 ^ cmd) fun s =>
    if !s.kstAuth (auth || cmd == 1) then s.answer stAuth
    else (
      if s.kstBusy then s.kres true krBusy n cmd
      else if cmd ≠ 0 ∧ n = 0 then s.kres true krLocked n cmd
      else if live ∧ (k.st = .invalid ∨ k.st = .free) then s.kres true krInvalid n cmd
      else if live ∧ k.st = .orphaned then s.kres true krOrphaned n cmd
      else op n s).answer stOk

/-- Codes of the commands: the bits of KST_CMD (R385). -/
def kcCreate : Nat := 0
def kcVerify : Nat := 1
def kcCommit : Nat := 2
def kcDiscard : Nat := 3
def kcInvalidate : Nat := 4
def kcDelete : Nat := 5
def kcDerive : Nat := 6

/-! ## Create, write, verify (R369 to R371) -/

/-- R370: CREATE. -/
def State.kstCreate (s : State) : State :=
  let type := s.get F.KST_DEF_TYPE
  let use := s.get F.KST_DEF_USE
  let par := s.get F.KST_DEF_PARENT
  let p := s.kslot par
  match ((List.range 255).map (· + 1)).find? fun n => (s.kslot n).st == .free with
  | none => ((s.setFlag F.KST_STAT_FULL true).raise 0x806 0).kres true krFull 0 kcCreate
  | some n =>
    if p.st ≠ .active then s.kres true krParent 0 kcCreate
    else if 3 ≤ p.depth then s.kres true krDepth 0 kcCreate
    else if type = 0 ∨ 5 < type ∨ (type = 5 ∧ use ≠ 32) then s.kres true krUse 0 kcCreate
    else (s.setKslot n { st := .new, type := type, use := use, parent := par, depth := p.depth + 1 }).kres true krOk n kcCreate

def execKstCmdCreate (auth : Bool) (s : State) : Res := .next (s.kstCmd auth false kcCreate fun _ s => s.kstCreate)

/-- R369, R371: the key bytes of a PENDING copy; bytes never written are free values (assumption log 6). -/
def State.pendBytes (s : State) (k : KSlot) : List Nat :=
  if k.pend = .empty then (List.range (keyLen k.type)).map fun i => (Config.freeWord (s.free + i)).toNat % 256 else k.pkey

/-- R371: a word at the pointer of KST_KDAT. -/
def State.kdat (s : State) (v : Word) : State :=
  let n := s.get F.KST_SEL_SLOT
  let k := s.kslot n
  let p := s.kst.kptr
  if n = 0 then s.answer stLocked
  else if k.type = 5 ∧ k.st ≠ .free then ((s.put F.KST_RES_CODE krUse).put F.KST_RES_SLOT n).answer stOk
  else if k.st ≠ .new ∧ k.st ≠ .active then s.answer stIgnored
  else if keyLen k.type ≤ 4 * p then (s.setFlag F.KST_STAT_KDOVF true).answer stOk
  else
    let b := s.pendBytes k
    let s1 := s.setKslot n { k with pend := .written, gen := false, pkey := b.take (4 * p) ++ wordBytes v ++ b.drop (4 * p + 4) }
    ({ s1 with kst := { s1.kst with kptr := p + 1 }, free := s.free + (if k.pend = .empty then 32 else 0) } : State).answer stOk

def execKstKdatWrite (auth : Bool) (v : BitVec 32) (s : State) : Res :=
  .next (s.hostWr Reg.KST_KDAT v.toNat fun s => if s.kstAuth auth then s.kdat v else s.answer stAuth)

/-- R369: KST_SEL. -/
def State.kstSel (s : State) (v : Nat) : State :=
  ({ s.put F.KST_SEL_SLOT v with kst := { s.kst with kptr := 0 } } : State).answer stOk

def execKstSelWrite (v : BitVec 32) (s : State) : Res := .next (s.hostWr Reg.KST_SEL v.toNat (·.kstSel v.toNat))

/-- R369: DERIVE. -/
def State.kstDerive (s : State) (n : Nat) : State :=
  let k := s.kslot n
  let p := s.kslot k.parent
  if k.type = 5 then s.kres true krUse n kcDerive
  else if p.st = .invalid then (s.keyRefused k.parent).kres true krInvalid n kcDerive
  else if p.st = .orphaned then (s.keyRefused k.parent).kres true krOrphaned n kcDerive
  else
    match s.keyFor k.parent 1 with
    | none => s.kres true krUse n kcDerive
    | some key =>
      let info := (s.rds (Reg.KST_INFO 0) 4).flatMap wordBytes
      (s.setKslot n { k with pend := .written, gen := false, pkey := Crypto.hkdf [] key info (keyLen k.type) }).kres true krOk n kcDerive

def execKstCmdDerive (auth : Bool) (s : State) : Res := .next (s.kstCmd auth true kcDerive fun n s => s.kstDerive n)

/-- R371: VERIFY. -/
def State.kstVerify (s : State) (n : Nat) : State :=
  let k := s.kslot n
  if k.pend = .empty then s.kres true krNotVerified n kcVerify
  else if kcvOf k.type k.pkey = s.get F.KST_KCVX_KCV then (s.setKslot n { k with pend := .verified }).kres true krOk n kcVerify
  else ((s.setKslot n { k with pend := .failed }).raise 0x802 n [n]).kres true krKcvFail n kcVerify

def execKstCmdVerify (auth : Bool) (s : State) : Res := .next (s.kstCmd auth true kcVerify fun n s => s.kstVerify n)

/-- R369: DISCARD. -/
def State.kstDiscard (s : State) (n : Nat) : State :=
  (s.setKslot n { s.kslot n with pend := .empty, pkey := [], gen := false }).kres true krOk n kcDiscard

def execKstCmdDiscard (auth : Bool) (s : State) : Res := .next (s.kstCmd auth false kcDiscard fun n s => s.kstDiscard n)

/-! ## Commit (R373) -/

/-- R373: word 0 of a commit record. -/
def commitWord0 (slot copy op epoch : Nat) : Word := BitVec.ofNat 32 (slot + copy * 256 + op * 512 + epoch % 65536 * 65536)

/-- R373: word 1 of a commit record. -/
def commitWord1 (w : Word) : Word := BitVec.ofNat 32 (crc32 (wordBytes w))

/-- R373: COMMIT begins to write its record. -/
def State.kstCommitCmd (s : State) (n : Nat) : State :=
  let k := s.kslot n
  if k.pend ≠ .verified then s.kres true krNotVerified n kcCommit
  else
    let w := commitWord0 n (1 - k.copy) (if k.gen then 3 else 0) (s.get F.KST_EPOCH_EPOCH + 1)
    ({ s with kst := { s.kst with commit := some ⟨n, w, k.pkey⟩, log := (w, none) :: s.kst.log } } : State).setFlag F.KST_STAT_CBUSY true
      |>.kres false krOk n kcCommit

def execKstCmdCommit (auth : Bool) (s : State) : Res := .next (s.kstCmd auth true kcCommit fun n s => s.kstCommitCmd n)

/-- R373: the copies of a slot exchange roles; `key` is the one whose commit was written. -/
def KSlot.swap (k : KSlot) (key : List Nat) : KSlot :=
  { k with st := .active, key := key, pkey := [], pend := .empty, copy := 1 - k.copy, gen := false }

/-- R373, R484: word 1 of the commit record has been programmed: the new key is in force. -/
def State.kstCommit (s : State) : State :=
  match s.kst.commit with
  | none => s
  | some c =>
    let k := (s.kslot c.slot).swap c.key
    let s1 := s.setKslot c.slot k
    let s2 : State := { s1 with kst := { s1.kst with commit := none, log := (c.word0, some (commitWord1 c.word0)) :: s1.kst.log.drop 1 } }
    let s3 := ((s2.inc F.KST_EPOCH_EPOCH).setFlag F.KST_STAT_CBUSY false).kres true krOk c.slot kcCommit
    let s4 := s3.raise 0x801 c.slot [c.slot, kcvOf k.type k.key]
    let s5 := if c.slot = s4.get F.KST_DOMAIN_HOST then s4.setFlag F.KST_CTL_OPEN false else s4
    let s6' := s5.endSessIf (fun x => x.slot == c.slot) 4
    let s6 := if c.slot = s6'.get F.SRU_KEY_BCAST then { s6' with sru := s6'.sru.saveBcast } else s6'
    if c.slot = s6.get F.SRU_KEY_NODEK then
      { s6 with sru := { s6.sru with nodes := s6.sru.nodes.map fun p => (p.1, { p.2 with copy := false, rxOther := none }) } }
    else s6

def execKstCommit (s : State) : Res := .next (if s.inRunQuiet then s.kstCommit else s)

/-! ## Invalidation and deletion (R377, R378) -/

/-- R366: slot `a` is an ancestor of slot `n`; the depth is at most 3. -/
def State.isAncestor (s : State) (a n : Nat) : Bool :=
  let up (n : Nat) : Nat := if n = 0 then 0 else (s.kslot n).parent
  n != a && (s.kslot n).st != .free && (up n == a || up (up n) == a || up (up (up n)) == a) && n != 0

/-- A finished record in the key log. -/
def State.keyLog (s : State) (w : Word) : State :=
  { s with kst := { s.kst with log := (w, some (commitWord1 w)) :: s.kst.log } }

/-- R377: INVALIDATE. -/
def State.kstInvalidate (s : State) (n : Nat) : State :=
  let k := s.kslot n
  let d := (List.range 256).filter fun m => s.isAncestor n m
  let s1 := ((s.setKslot n { k with st := .invalid }).keyLog (commitWord0 n k.copy 1 (s.get F.KST_EPOCH_EPOCH + 1))).inc F.KST_EPOCH_EPOCH
  let s2 := (s1.raise 0x803 n [n, d.length]).endSessIf (fun x => x.slot == n) 4
  let s3 : State := { s2 with kst := { s2.kst with marks := d } }
  (s3.setFlag F.KST_STAT_MARKING (d != [])).kres (d == []) krOk n kcInvalidate

def execKstCmdInvalidate (auth : Bool) (s : State) : Res := .next (s.kstCmd auth true kcInvalidate fun n s => s.kstInvalidate n)

/-- R377: the next descendant is marked. -/
def State.orphanMark (s : State) : State :=
  match s.kst.marks with
  | [] => s
  | n :: l =>
    let s1 := (s.setKslot n { s.kslot n with st := .orphaned }).endSessIf (fun x => x.slot == n) 4
    let s2 : State := { s1 with kst := { s1.kst with marks := l } }
    if l = [] then (s2.setFlag F.KST_STAT_MARKING false).setFlag F.KST_RES_DONE true else s2

def execOrphanMark (s : State) : Res := .next (if s.inRunQuiet then s.orphanMark else s)

/-- R378: DELETE. -/
def State.kstDelete (s : State) (n : Nat) : State :=
  let k := s.kslot n
  if k.st ≠ .invalid ∧ k.st ≠ .orphaned then s.kres true krLocked n kcDelete
  else if (List.range 256).any fun m => m != 0 && (s.kslot m).st != .free && (s.kslot m).parent == n then s.kres true krChildren n kcDelete
  else
    (((s.setKslot n {}).keyLog (commitWord0 n k.copy 2 (s.get F.KST_EPOCH_EPOCH + 1))).inc F.KST_EPOCH_EPOCH).kres true krOk n kcDelete

def execKstCmdDelete (auth : Bool) (s : State) : Res := .next (s.kstCmd auth false kcDelete fun n s => s.kstDelete n)

/-- R376: a write to KST_CMD with more than one bit set performs none. -/
def State.kstMany (s : State) (v : Nat) : State :=
  (s.kres true krLocked (s.get F.KST_SEL_SLOT) (((List.range 7).find? fun b => bit v b).getD 0)).answer stOk

/-! ## The other registers and the pair (R372, R380) -/

/-- R372: KST_CTL: OPEN can be cleared, never set again. -/
def State.kstCtl (s : State) (v : Nat) : State := (if v % 2 = 0 then s.setFlag F.KST_CTL_OPEN false else s).answer stOk

def execKstCtlWrite (v : BitVec 32) (s : State) : Res := .next (s.hostWr Reg.KST_CTL v.toNat fun t => (t.vote Reg.KST_CTL).kstCtl (s.voteIn Reg.KST_CTL v.toNat))

/-- R380: the KCVs of this module's ACTIVE slots. -/
def State.kcvs (s : State) : List (Nat × Nat) :=
  ((List.range 256).filter fun n => n != 0 && (s.kslot n).st == .active).map fun n => (n, kcvOf (s.kslot n).type (s.kslot n).key)

/-- R380: the active module compares its KCVs with its partner's; a standby sends its own. -/
def State.kcvCompare (s : State) (l : List (Nat × Nat)) : State :=
  if s.isStandby then s.emit (.kcvs s.kcvs)
  else if s.activePaired then
    let own := s.kcvs
    match (List.range 256).find? fun n => own.find? (fun p => p.1 == n) != l.find? (fun p => p.1 == n) with
    | some n => (s.setFlag F.KST_STAT_PAIRDIFF true).raise 0x807 n [n]
    | none => s
  else s

def execKcvCompare (partner : List (BitVec 8 × BitVec 24)) (s : State) : Res :=
  .next (s.kcvCompare (partner.map fun p => (p.1.toNat, p.2.toNat)))

def execRadioRelayReceived (t : Nat) (rssi : BitVec 8) (tx : BitVec 32) (psdu : List (BitVec 8)) (s : State) : Res :=
  .next (s.radioRelayed t rssi.toNat tx.toNat (psdu.map (·.toNat)))

/-! ## Restart (R375) -/

/-- R375: the key log is read at a restart: a record without a correct word 1 is discarded, every PENDING copy
is emptied, and marking that was under way is finished. -/
def State.kstRestart (s : State) : State :=
  let n0 := (s.kst.slots.filter fun p => p.2.pend != .empty).map (·.1)
  let s1 : State := { s with kst := { s.kst with
    commit := none, marks := [], log := s.kst.log.filter fun p => p.2 == some (commitWord1 p.1)
    slots := s.kst.slots.map fun p => (p.1, { p.2 with
      pend := .empty, pkey := [], gen := false, st := if s.kst.marks.contains p.1 then .orphaned else p.2.st }) } }
  forEach (fun n s => (s.setFlag F.KST_STAT_DISC true).raise 0x805 n [n]) n0 s1

end Sys2Proof.Machine
end

