-- ==== Sys2Proof/Machine/Pattern.lean ====
section
/-!
DEFINITION. Machine/Pattern.lean: the meanings of the pattern engine's and the zones' commands (chapters 2 and 3) other than
the bobbin instructions and PATLOAD.
-/

namespace Sys2Proof.Machine

/-- The frame-grid instant in force: the latest one not after the present time. -/
def State.gridNow (s : State) : Nat := s.gridAt s.ns

/-- R46: a tick commit is due at the grid instant in force and has not been done. -/
def State.commitDue (s : State) : Bool :=
  s.inRunQuiet && s.isTick s.gridNow && s.pen.lastCommit != some s.gridNow && s.lastFrame != some s.gridNow

/-- R25 step 1, R46, R64, R65, R91: the tick commit at `f`: a tick change, the commit, and then an armed swap or the start of the
next tick. -/
def State.tickSteps (s : State) (f : Nat) : State :=
  if s.isTick f && s.pen.tickAt != some f then
    let s1 := s.tickChange f
    let s2 := if s.commitDue then s1.commitAll f else s1
    if s2.swapDue f then s2.swapNow f else s2.tickStart f
  else s

def execTickCommit (s : State) : Res := .next (if s.commitDue then s.tickSteps s.gridNow else s)

/-- R63, R93: the grid instant in force is a tick start at which the engine was not frozen, so that a wait may end. -/
def State.releasing (s : State) : Bool := s.flag F.PEN_CTL_RUN && s.inRunQuiet && s.pen.ranAt == some s.gridNow

/-- R63, R72, R93: bobbin `n`'s WAITK is examined at the tick start, and at no other instant. -/
def State.releaseK (s : State) (n : Nat) : State := if s.releasing then s.releaseWaitK n s.gridNow else s

def execWaitkRelease (n : BitVec 5) (s : State) : Res := .next (s.releaseK n.toNat)

/-- R63, R72, R93: a WAITT bobbin is released at the tick start, and at no other instant. -/
def State.releaseT (s : State) (n : Nat) : State := if s.releasing then s.releaseWaitT n s.gridNow else s

def execWaittRelease (n : BitVec 5) (s : State) : Res := .next (s.releaseT n.toNat)

def execTickChange (s : State) : Res := .next (if s.inRunQuiet then s.tickChange s.gridNow else s)

/-- R90, R91: the armed swap takes place with the tick commit that is due, and never after it. -/
def State.patternSwap (s : State) : State := if s.commitDue && s.swapDue s.gridNow then s.tickSteps s.gridNow else s

def execPatternSwap (s : State) : Res := .next s.patternSwap

def execGroupBoundary (s : State) : Res := .next s.groupBoundary

/-- R70: a runnable bobbin with no budget left becomes PREEMPTED. -/
def execPenBudget (n : BitVec 5) (s : State) : Res :=
  .next (if (s.bob n.toNat).st = .runnable ∧ (s.bob n.toNat).left = 0 then s.exhaust n.toNat else s)

/-! ## Parity repair (R78, R79) -/

/-- Memory (0 program, 1 curve), bank and word index of a store address of program or curve memory. -/
def parPlace (a : Nat) : Nat × Nat × Nat :=
  if a < dataBase then (0, (a - progBase) / 0x40000, (a - progBase) % 0x40000 / 4)
  else (1, (a - curveBase) / 0x10000, (a - curveBase) % 0x10000 / 4)

/-- R78, R83, R84: the copy in flash of a word of program or curve memory. -/
def State.flashWord (s : State) (a : Nat) : Word :=
  let (m, k, i) := parPlace a
  let f := penFlashAt k
  let len := s.rdBE f 8 4
  if m = 0 then (if i < len then BitVec.ofNat 32 (s.rdBE f (576 + 4 * i) 4) else 0xFFFFFFFF#32)
  else (if i / 64 < s.rdBE f 12 2 then BitVec.ofNat 32 (s.rdBE f (576 + 4 * len + 4 * i) 4) else 0)

/-- R78: one word is rewritten from its flash copy, counted and reported. -/
def State.parRepair (s : State) (a : Nat) : State :=
  let p := parPlace a
  (((s.wr a (s.flashWord a)).parFix a).incSat F.PEN_PFIX_COUNT).raise 0x104 0 [p.1, p.2.1, p.2.2]

/-- R78: the repair for which bobbin `n` is parked ends: the word is rewritten and the bobbin may retry, or it faults with
code 0x5. -/
def State.penPfix (s : State) (n : Nat) (ok : Bool) : State :=
  match (s.bob n).parked with
  | none => s
  | some a =>
    let s1 := s.setBob n { s.bob n with parked := none }
    if ok then (if s.parBad a then s1.parRepair a else s1) else s1.faultBob n 5 (s1.rd (s1.fetchAddr n))

def execPenPfix (n : BitVec 5) (flashOk : Bool) (s : State) : Res := .next (s.penPfix n.toNat flashOk)

/-- Store addresses of program and curve memory. -/
def isEngineMem (a : Nat) : Bool :=
  (decide (progBase ≤ a) && decide (a < dataBase)) || (decide (curveBase ≤ a) && decide (a < curveBase + 0x20000))

/-- R79, R526: a pass of the scrub of program and curve memory that has fallen due repairs every word whose parity is bad.  What a
pass does with a word whose flash copy fails its own check the spec does not say, and the pass has no such case (assumption log
49). -/
def State.programScrub (s : State) : State :=
  if s.inRunQuiet && decide (s.phu.scrubP < s.scrubsDue scrubPeriod) then
    forEach (fun a s => s.parRepair a) (s.badPar.filter isEngineMem) { s with phu := { s.phu with scrubP := s.phu.scrubP + 1 } }
  else s

def execProgramScrubPass (s : State) : Res := .next s.programScrub

/-! ## Host writes (R65, R74, R75, R80, R87, R90, R93, R97) -/

/-- R93: PEN_CTL. -/
def execPenCtlWrite (v : BitVec 32) (s : State) : Res :=
  .next (s.hostWr Reg.PEN_CTL v.toNat fun s => (s.put F.PEN_CTL_RUN (getBits v 0 1)).answer stOk)

/-- R23: `t` µs is a tick that suits a frame period of `f` µs. -/
def tickFits (t f : Nat) : Bool := decide (0 < t) && 1000000 % t == 0 && t % f == 0

/-- R65, R66: PEN_TICK. -/
def State.penTick (s : State) (v : Nat) : State :=
  let t := v % 1048576
  if tickFits t s.sea.fperUs && tickFits t (s.get F.SEA_FPER_US) then (s.put F.PEN_TICK_TICK t).answer stOk
  else ((s.setFlag F.PEN_STAT_TICKREF true).raise 0x108 0).answer stOk

def execPenTickWrite (v : BitVec 32) (s : State) : Res := .next (s.hostWr Reg.PEN_TICK v.toNat (·.penTick v.toNat))

def execPenCmdSwap (s : State) : Res := .next (s.hostWr Reg.PEN_CMD 1 (·.penSwap))

def execPenCmdDisarm (s : State) : Res := .next (s.hostWr Reg.PEN_CMD 2 (·.penDisarm))

def execPenImgptrWrite (v : BitVec 32) (s : State) : Res :=
  .next (s.hostWr Reg.PEN_IMGPTR v.toNat fun s => s.stagePtr F.PEN_IMGPTR_PTR 524288 v.toNat)

def execPenImgdatWrite (v : BitVec 32) (s : State) : Res :=
  .next (s.hostWr Reg.PEN_IMGDAT v.toNat fun s => s.stageDat F.PEN_IMGPTR_PTR penStage 524288 (s.lopRunning 0x02) v)

/-- R63, R72: PEN_HSIG. -/
def State.penHsig (s : State) (v : Nat) : State :=
  let n := v % 32
  (s.setBob n { s.bob n with hostPend := (s.bob n).hostPend ||| BitVec.ofNat 16 (v / 65536) }).answer stOk

def execPenHsigWrite (v : BitVec 32) (s : State) : Res := .next (s.hostWr Reg.PEN_HSIG v.toNat (·.penHsig v.toNat))

/-- R75, R80: a host write of one word of pattern data memory at byte `a`. -/
def State.penDataWrite (s : State) (a : Nat) (v : Word) : State :=
  if a % 4 ≠ 0 then s.answer stAlign else ((s.wr (dataBase + a) v).parFix (dataBase + a)).answer stOk

def execPenDataWrite (a : BitVec 17) (v : BitVec 32) (s : State) : Res :=
  .next (s.hostWr (dataBase + a.toNat) v.toNat (·.penDataWrite a.toNat v))

/-- R80: a host read of one word of pattern data memory. -/
def State.penDataRead (s : State) (a : Nat) : State :=
  if a % 4 ≠ 0 then { s.answer stAlign with rdata := [] }
  else
    let s1 := if s.parBad (dataBase + a) then (s.setFlag F.PEN_STAT_DPAR true).raise 0x109 0 [a] else s
    { s1.answer stOk with rdata := [s.rd (dataBase + a)] }

def execPenDataRead (a : BitVec 17) (s : State) : Res := .next (if s.inRunQuiet then s.penDataRead a.toNat else s)

/-- R97: a START or STOP written for bobbin `n`.  With RUN = 0 a START acts at once, unless a group is still in service: the bobbins
freeze at its end (R93), and that boundary is the START's too. -/
def State.bobCommand (s : State) (n : Nat) (start stop : Bool) : State :=
  let b := s.bob n
  if stop then
    (if b.startPend then s.setBob n { b with startPend := false, startReq := false, stopReq := false, cmdDone := true }
     else s.setBob n { b with stopReq := true, startReq := false, cmdDone := false })
  else if start then
    let s1 := s.setBob n { b with startReq := true, stopReq := false, startPend := false, cmdDone := false }
    if s.flag F.PEN_CTL_RUN || s.pen.cur.isSome then s1 else s1.bobControls n
  else s

/-- R97: PEN_BCTL[n]. -/
def State.penBctl (s : State) (n v : Nat) : State :=
  (((s.put (F.PEN_BCTL_PRIO n) (v % 4)).put (F.PEN_BCTL_ENTRY n) (v / 65536)).bobCommand n (bit v 8) (bit v 9)).answer stOk

def execPenBctlStart (n : BitVec 5) (v : BitVec 32) (s : State) : Res :=
  .next (s.hostWr (Reg.PEN_BCTL n.toNat) v.toNat fun s => s.penBctl n.toNat (setBit v.toNat 8 true))

def execPenBctlStop (n : BitVec 5) (v : BitVec 32) (s : State) : Res :=
  .next (s.hostWr (Reg.PEN_BCTL n.toNat) v.toNat fun s => s.penBctl n.toNat (setBit v.toNat 9 true))

/-- R97: PEN_BBUDGET[n]; a write of 0 is ignored. -/
def State.penBbudget (s : State) (n v : Nat) : State :=
  if v % 16777216 = 0 then s.answer stIgnored else (s.put (F.PEN_BBUDGET_BUDGET n) v).answer stOk

def execPenBbudgetWrite (n : BitVec 5) (v : BitVec 32) (s : State) : Res :=
  .next (s.hostWr (Reg.PEN_BBUDGET n.toNat) v.toNat fun s => s.penBbudget n.toNat v.toNat)

/-- R74: PEN_BWIN[n]; a window of size 0 or beyond 128 KiB is ignored and returns OK. -/
def State.penBwin (s : State) (n v : Nat) : State :=
  let base := v % 1024
  let size := v / 65536 % 1024
  (if size = 0 ∨ 512 < base + size then s else (s.put (F.PEN_BWIN_BASE n) base).put (F.PEN_BWIN_SIZE n) size).answer stOk

def execPenBwinWrite (n : BitVec 5) (v : BitVec 32) (s : State) : Res :=
  .next (s.hostWr (Reg.PEN_BWIN n.toNat) v.toNat fun s => s.penBwin n.toNat v.toNat)

def execNodeZoneWrite (i : BitVec 12) (v : BitVec 32) (s : State) : Res :=
  .next (s.hostWr (nodeAddr i.toNat 0) v.toNat fun s => s.nodeZoneWrite i.toNat v.toNat)

def execZonTgtWrite (z : BitVec 9) (k : BitVec 2) (v : BitVec 32) (s : State) : Res :=
  .next (s.hostWr (Reg.ZON_TGT z.toNat k.toNat) v.toNat fun s => s.zonTgtWrite z.toNat k.toNat v.toNat)

def execZonCtlWrite (z : BitVec 9) (v : BitVec 32) (s : State) : Res :=
  .next (s.hostWr (Reg.ZON_CTL z.toNat) v.toNat fun s => s.zonCtlWrite z.toNat v.toNat)

end Sys2Proof.Machine
end

