-- ==== Sys2Proof/Machine/SeamCtl.lean ====
section
/-!
DEFINITION. Machine/SeamCtl.lean: what the seam controller originates in the auxiliary window, its schedule, and the host's writes
to the seam registers (chapter 6; R162, R175, R177, R182, R183, R186 to R190, R194 to R197, R206).
-/

namespace Sys2Proof.Machine

/-! ## The auxiliary window (R189, R190) -/

/-- A time rounded up to a whole microsecond (R169). -/
def ceilUs (t : Nat) : Nat := (t + 999) / 1000 * 1000

/-- R166, R189: the earliest origin of a frame on seam `n`: 1.28 µs after the EOF of the last one. -/
def State.auxFrom (s : State) (n : Nat) : Nat := ceilUs (max s.ns ((s.seam n).busyTo + 200 + 1280))

/-- R189: the auxiliary window of seam `n` is open in the present frame cycle. -/
def State.auxOpen (s : State) (n : Nat) : Bool :=
  s.originates && s.seamOn n && s.sea.sentAt == some (s.gridAt s.ns)

/-- R189: a frame with a payload of `len` bytes that originates at `o` ends inside the window. -/
def State.auxFits (s : State) (o len : Nat) : Bool :=
  decide (o + lineTime len + 200 + 1280 ≤ s.gridAt s.ns + s.framePeriod)

/-- Apply-at of an auxiliary frame that originates at `o`. -/
def State.auxAt (s : State) (o : Nat) : Nat := o + s.sea.leadUs * 1000

/-- R189, R190: the SYNC of the present TAI second has not been sent on seam `n`, and it fits. -/
def State.syncDue (s : State) (n : Nat) : Bool := decide ((s.seam n).syncSec < s.ns / nsPerSec) && s.auxFits (s.auxFrom n) 32

/-- R190: SYNC, once in each TAI second. -/
def State.auxSync (s : State) (n : Nat) : State :=
  let x := s.seam n
  let o := s.auxFrom n
  if s.syncDue n then
    let p := s.syncPayload o x.stepped x.reseq
    let h := s.hdr n ftSync 0 o (s.auxAt o)
    match s.seamTag h p with
    | some t =>
      let s1 := s.sendFrame n o (tagged h p t)
      s1.setSeam n { s1.seam n with syncSec := s.ns / nsPerSec, stepped := false, reseq := false }
    | none => s.seamNoKey n (s.get F.SEA_KEY_SLOT)
  else s

/-- R182: an ENUM is in progress on seam `n` and may still bring its result: the frame comes back within one frame period, and in a
pair the lists have been exchanged within another (one that does not come back is given up then, assumption log 51). -/
def State.enumWaits (s : State) (n : Nat) : Bool :=
  s.flag (F.SEA_STAT_ENUMBUSY n) && decide (s.ns < (s.seam n).enumAt + 2 * s.framePeriod)

/-- R205: an ENUM that has been given up is no longer in progress. -/
def State.enumLost (s : State) (n : Nat) : State :=
  if s.flag (F.SEA_STAT_ENUMBUSY n) && !s.enumWaits n then s.setFlag (F.SEA_STAT_ENUMBUSY n) false else s

/-- R182, R189: an ENUM has been asked for on seam `n`, none is in progress, and it fits. -/
def State.enumDue (s : State) (n : Nat) : Bool :=
  (s.seam n).enumReq.isSome && !s.enumWaits n && s.auxFits (s.auxFrom n) enumPayload.length

/-- R182: a requested ENUM. -/
def State.auxEnum (s : State) (n : Nat) : State :=
  match (s.seam n).enumReq with
  | none => s
  | some a =>
    let o := s.auxFrom n
    if !s.enumDue n then s
    else
      let h := { s.hdr n ftEnum 0 o (s.auxAt o) with assign := a }
      let s1 := s.sendFrame n o (h.frame 0 enumPayload)
      (s1.setSeam n { s1.seam n with enumReq := none, enumAssign := a, enumOwn := none, enumPart := none, enumSend := none, enumAt := o }).setFlag
        (F.SEA_STAT_ENUMBUSY n) true

/-- R195: the slots a broadcast must reach: PRESENT and SLOW. -/
def State.present (s : State) (n : Nat) : List Nat :=
  (List.range 128).filter fun p => s.get (F.NT_STATE (n * 128 + p)) == 1 || s.get (F.NT_STATE (n * 128 + p)) == 3

/-- A control frame is sent for the first time. -/
def State.sendCtl (s : State) (n o : Nat) (kind : CtlKind) (bytes : List Nat) (waiting : List Nat) : State :=
  let q := s.get (F.SEA_SEQ_SEQ n)
  let s1 := s.sendFrame n o bytes
  let s2 := (s1.setSeam n { s1.seam n with outst := some { kind := kind, key := s.get F.SEA_KEY_SLOT, seq := q, bytes := bytes, waiting := waiting, resends := 0,
                                                           sentAt := s.gridAt s.ns } }).setFlag (F.SEA_STAT_CFGBUSY n) true
  if waiting = [] then s2.ctlEnd n true else s2

/-- R197: apply-at of a request whose time is `at_`, in a frame that originates at `o`; none while it is too far for LEAD.  A time that is
no whole microsecond is rounded down, as LEAD and origins are whole (assumption log 58). -/
def State.reqAt (s : State) (r : CtlReq) (o : Nat) : Option Nat :=
  match r.at_ with
  | none => some (s.auxAt o)
  | some t => if t ≤ s.auxAt o then some (s.auxAt o) else if (t - o) / 1000 < 16777216 then some (t / 1000 * 1000) else none

/-- R175, R195, R196: the first waiting CONFIG frame whose apply-at a frame can carry. -/
def State.auxConfig (s : State) (n : Nat) : State :=
  let x := s.seam n
  match x.queue.find? fun r => (s.reqAt r (s.auxFrom n)).isSome with
  | some r =>
    let o := s.auxFrom n
    let p := cfgPayload r.target r.items
    match s.reqAt r o with
    | none => s
    | some at_ =>
      if x.outst.isSome || !s.auxFits o (p.length + 16) then s
      else
        let h := s.hdr n ftConfig 0 o at_
        match s.seamTag h p with
        | some t =>
          let w := if r.target = 255 then s.present n else [r.target]
          (s.setSeam n { x with queue := x.queue.erase r }).sendCtl n o r.kind (tagged h p t) w
        | none => s.seamNoKey n (s.get F.SEA_KEY_SLOT)
  | none => s

/-- R189: line time that IMAGE frames have used on seam `n` in the present TAI second, ns. -/
def State.imgUsed (s : State) (n : Nat) : Nat := if (s.seam n).imgSec = s.ns / nsPerSec then (s.seam n).imgLine else 0

/-- R189, R195, R197: the next IMAGE block, within 20 % of the line time of each TAI second; in a pair once the standby has the image
too. -/
def State.auxImage (s : State) (n : Nat) : State :=
  match s.sea.img with
  | none => s
  | some g =>
    let x := s.seam n
    let o := s.auxFrom n
    let p := g.payload x.imgNext
    let used := s.imgUsed n
    let lt := lineTime (p.length + 16)
    if (s.activePaired && !s.sea.imgTold) || !bit g.mask n || decide (g.blocks ≤ x.imgNext) || x.outst.isSome ||
        !s.auxFits o (p.length + 16) || decide (200000000 < used + lt) then s
    else
      let h := s.hdr n ftImage 0 o (s.auxAt o)
      match s.seamTag h p with
      | some t =>
        let w := (s.present n).filter fun q => bit (s.get (F.NT_CAP (n * 128 + q))) 4
        (s.setSeam n { x with imgSec := s.ns / nsPerSec, imgLine := used + lt }).sendCtl n o .image (tagged h p t) w
      | none => s.seamNoKey n (s.get F.SEA_KEY_SLOT)

/-- R189: the auxiliary window of seam `n`, frames in order of priority. -/
def State.auxWindow (s : State) (n : Nat) : State :=
  if s.auxOpen n then ((((s.enumLost n).auxSync n).auxEnum n).auxConfig n).auxImage n else s

def execAuxWindow (n : BitVec 5) (s : State) : Res := .next (s.auxWindow n.toNat)

/-! ## Resending (R195) -/

/-- R195: the resend interval has passed since the outstanding frame was last sent. -/
def State.resendDue (s : State) (c : CtlOut) : Bool := decide (c.sentAt + s.get F.SEA_RESEND_INTV * s.framePeriod ≤ s.ns)

/-- R175: control frames may be tagged under the key of slot `k`. -/
def State.seamKeyOk (s : State) (k : Nat) : Bool := k == 0 || (s.keyFor k 0).isSome

/-- R189: a SYNC or an ENUM that can be sent now goes first. -/
def State.auxFirst (s : State) (n : Nat) : Bool := (s.syncDue n && s.seamKeyOk (s.get F.SEA_KEY_SLOT)) || s.enumDue n

/-- R189: line time that the frame `c` takes from the share of IMAGE frames, ns. -/
def CtlOut.imgLine (c : CtlOut) : Nat := if c.kind = .image then 200 * c.bytes.length else 0

/-- R175, R189, R191, R195: the outstanding frame is sent again under its number and its tag, when it fits as at its first sending and no
frame of a higher priority waits. -/
def State.resend (s : State) (n : Nat) : State :=
  match (s.seam n).outst with
  | some c =>
    let o := s.auxFrom n
    let used := s.imgUsed n + c.imgLine
    if s.resendDue c && decide (c.resends < s.get F.SEA_RESEND_RETRY) && s.auxOpen n && !s.auxFirst n && s.auxFits o (c.bytes.length - 32) &&
        (c.kind != .image || decide (used ≤ 200000000)) then
      if s.seamKeyOk c.key then
        let s1 := s.putFrame n o c.bytes
        let x := s1.seam n
        let x1 := if c.kind = .image then { x with imgSec := s.ns / nsPerSec, imgLine := used } else x
        s1.setSeam n { x1 with outst := some { c with resends := c.resends + 1, sentAt := s.gridAt s.ns }, busyTo := o + 200 * c.bytes.length }
      else s.seamNoKey n c.key
    else s
  | none => s

def execControlFrameResend (n : BitVec 5) (s : State) : Res := .next (s.resend n.toNat)

/-- R195: after the last resend has gone unanswered the frame is abandoned. -/
def State.resendFail (s : State) (n : Nat) : State :=
  match (s.seam n).outst with
  | some c => if s.resendDue c && decide (s.get F.SEA_RESEND_RETRY ≤ c.resends) then s.ctlFail n else s
  | none => s

def execSeaResendFail (n : BitVec 5) (s : State) : Res := .next (s.resendFail n.toNat)

/-! ## Census and ENUM requests (R182) -/

/-- An ENUM is asked for on seam `n`; an assigning one is not displaced by a census. -/
def State.askEnum (s : State) (n : Nat) (assign : Bool) : State :=
  let x := s.seam n
  s.setSeam n { x with enumReq := some (assign || x.enumReq == some true) }

/-- R182: the census of the present TAI second. -/
def State.census (s : State) : State :=
  let sec := s.ns / nsPerSec
  let c := s.get F.SEA_CENSUS_SEC
  if c ≠ 0 ∧ sec % c = 0 ∧ s.sea.censusSec ≠ sec then
    let s1 := { s with sea := { s.sea with censusSec := sec } }
    forUp (fun n s => if s.flag (F.SEA_CTL_ENABLE n) then s.askEnum n false else s) 32 s1
  else s

def execCensus (s : State) : Res := .next (if s.inRunQuiet then s.census else s)

def execSeaCmdEnum (n : BitVec 5) (s : State) : Res :=
  .next (s.hostWr (Reg.SEA_CMD n.toNat) 1 fun s => (s.askEnum n.toNat true).answer stOk)

def execSeaCmdCensus (n : BitVec 5) (s : State) : Res :=
  .next (s.hostWr (Reg.SEA_CMD n.toNat) 2 fun s => (s.askEnum n.toNat false).answer stOk)

/-- R162, R182, R205: a host write of SEA_CTL[n]. -/
def State.seaCtl (s : State) (n v : Nat) : State :=
  let was := s.flag (F.SEA_CTL_ENABLE n)
  let wasOn := s.seamOn n
  let s1 := ((s.put (F.SEA_CTL_ENABLE n) (v % 2)).put (F.SEA_CTL_INJECT n) (v / 2 % 2)).put (F.SEA_CTL_TOPO n) (v / 4 % 2)
  let empty := (List.range 128).all fun p => s.get (F.NT_NODEID (n * 128 + p)) == 0
  let s2 := if bit v 0 && !was && empty then s1.askEnum n true else s1
  let s3 := if bit v 0 then s2 else s2.setFlag (F.SEA_STAT_LINK n) false
  let s4 := if s3.seamOn n && !wasOn then
      forUp (fun p s => let i := n * 128 + p
                        if s.get (F.NT_STATE i) = 0 then s else s.setNslot i { s.nslot i with since := s.ns }) 128 s3
    else s3
  s4.updLeadMin.answer stOk

def execSeaCtlWrite (n : BitVec 5) (v : BitVec 32) (s : State) : Res :=
  let a := Reg.SEA_CTL n.toNat
  .next (s.hostWr a v.toNat fun t => (t.vote a).seaCtl n.toNat (s.voteIn a v.toNat))

/-! ## Frame period and lead (R186, R188) -/

/-- R22, R66, R186: a frame period of `t` µs is allowed. -/
def State.fperOk (s : State) (t : Nat) : Bool :=
  decide (1000 ≤ t) && decide (t ≤ 100000) && 1000000 % t == 0 && tickFits s.pen.tickUs t && tickFits (s.get F.PEN_TICK_TICK) t &&
    decide (s.sea.leadUs ≤ 3 * t) && decide (s.get F.SEA_LEAD_US ≤ 3 * t)

/-- R186: a host write of SEA_FPER. -/
def State.seaFper (s : State) (v : Nat) : State :=
  let t := v % 131072
  (if s.fperOk t then { s.put F.SEA_FPER_US t with sea := { s.sea with fperAt := s.ns } } else s.seamEvent 0x30F 0 0).answer stOk

def execSeaFperWrite (v : BitVec 32) (s : State) : Res := .next (s.hostWr Reg.SEA_FPER v.toNat (·.seaFper v.toNat))

/-- R186: an accepted frame period takes effect at the next TAI second. -/
def State.fperChange (s : State) : State :=
  if s.sea.fperAt / nsPerSec < s.ns / nsPerSec ∧ s.get F.SEA_FPER_US ≠ s.sea.fperUs then
    { s with sea := { s.sea with fperUs := s.get F.SEA_FPER_US, fperWas := s.sea.fperUs, fperFrom := s.ns - s.ns % nsPerSec } }
  else s

def execFramePeriodChange (s : State) : Res := .next s.fperChange

/-- R188: a host write of SEA_LEAD. -/
def State.seaLead (s : State) (v : Nat) : State :=
  let t := v % 524288
  let ok := decide (s.get F.SEA_LEADMIN_NS < t * 1000) && decide (t ≤ 3 * s.sea.fperUs) && decide (t ≤ 3 * s.get F.SEA_FPER_US)
  (if ok then { s.put F.SEA_LEAD_US t with sea := { s.sea with leadAt := s.ns } } else s.seamEvent 0x308 0 0).answer stOk

def execSeaLeadWrite (v : BitVec 32) (s : State) : Res := .next (s.hostWr Reg.SEA_LEAD v.toNat (·.seaLead v.toNat))

/-- R188: an accepted lead takes effect for frames from the next TAI second on. -/
def State.leadChange (s : State) : State :=
  if s.sea.leadAt / nsPerSec < s.ns / nsPerSec then { s with sea := { s.sea with leadUs := s.get F.SEA_LEAD_US } } else s

def execLeadChange (s : State) : Res := .next s.leadChange

/-! ## The host's CONFIG frames (R196, R206) -/

/-- R205: the writable bits of the SEA_CFG register at offset `a` of seam `n`, none when there is no such register. -/
def cfgMask (a : Nat) : Option Nat :=
  if a = 0x28 then some 0x7FF
  else if 0x30 ≤ a ∧ a < 0x50 ∧ a % 8 = 0 then some 0xFFFF
  else if 0x30 ≤ a ∧ a < 0x50 ∧ a % 8 = 4 then some 0xFFFFFFFF
  else none

/-- R196, R206: GO. -/
def State.cfgGo (s : State) (n : Nat) : State :=
  let k := s.get (F.SEA_CFGTGT_N n)
  (if s.flag (F.SEA_CFGCMD_BUSY n) || k == 0 || decide (4 < k) then s
   else
    let items := (List.range k).map fun i =>
      ({ param := s.get (F.SEA_CFGP_PARAM n i), index := s.get (F.SEA_CFGP_INDEX n i), value := s.get (F.SEA_CFGV_VALUE n i) } : CfgItem)
    let x := s.seam n
    (s.setSeam n { x with queue := x.queue ++ [{ kind := .host, target := s.get (F.SEA_CFGTGT_TARGET n), items := items }] }).setFlag
      (F.SEA_CFGCMD_BUSY n) true).answer stOk

/-- R205, R206: a host write of SEA_CFGCMD[n]. -/
def State.cfgCmd (s : State) (n v : Nat) : State :=
  if bit v 0 then s.cfgGo n else s.answer (if s.flag (F.SEA_CFGCMD_BUSY n) then stBusy else stOk)

/-- R206: a host write to a SEA_CFG register. -/
def State.seaCfg (s : State) (n a v : Nat) : State :=
  match cfgMask a with
  | none => if a = 0x2C then s.cfgCmd n v else s.answer stIgnored
  | some m =>
    if s.flag (F.SEA_CFGCMD_BUSY n) then s.answer stBusy
    else (s.wr (Reg.SEA_CTL n + a) (BitVec.ofNat 32 (v &&& m))).answer stOk

def execSeaCfgWrite (n : BitVec 5) (a : BitVec 8) (v : BitVec 32) (s : State) : Res :=
  .next (s.hostWr (Reg.SEA_CTL n.toNat + a.toNat) v.toNat fun s => s.seaCfg n.toNat a.toNat v.toNat)

def execSeaCfgcmdGo (n : BitVec 5) (s : State) : Res :=
  .next (s.hostWr (Reg.SEA_CFGCMD n.toNat) 1 fun s => s.cfgGo n.toNat)

/-! ## Node table writes (R177, R183, R184) -/

/-- R183, R184: a host write of word 3 of entry `i` with ACCEPT. -/
def State.nodeAccept (s : State) (i : Nat) : State :=
  let s1 := if s.get (F.NT_STATE i) = 2 then s.setNodeState i 1 else s
  (if (s1.nslot i).back = 2 then s1.setNslot i { s1.nslot i with back := 1 } else s1).answer stOk

def execNodeAccept (i : BitVec 12) (s : State) : Res :=
  .next (s.hostWr (nodeAddr i.toNat 3) 0x80000000 fun s => s.nodeAccept i.toNat)

/-- R177: the CONFIG frames that a changed link delay of slot `p` of seam `n` calls for. -/
def State.delayChanged (s : State) (n p : Nat) : State :=
  s.queueOwn n ((s.delayReqs n).filter fun r => r.target == p || r.target + 1 == p)

/-- R184: a host write of word 7 of entry `i`: its two counters. -/
def State.nodeCounts (s : State) (i v : Nat) : State := ((s.put (F.NT_SCRCERR i) (v / 65536)).put (F.NT_MISMCNT i) (v / 16777216)).answer stOk

/-- R177, R184: a host write of word 2 of entry `i`. -/
def State.nodeLdly (s : State) (i v : Nat) : State :=
  (((s.put (F.NT_LDLY i) v).updLeadMin).delayChanged (i / 128) (i % 128)).answer stOk

def execNodeLdlyWrite (i : BitVec 12) (v : BitVec 32) (s : State) : Res :=
  .next (s.hostWr (nodeAddr i.toNat 2) v.toNat fun s => s.nodeLdly i.toNat v.toNat)

/-- R177, R205: a host write of SEA_TAILDLY[n]. -/
def State.tailDly (s : State) (n v : Nat) : State :=
  (((s.put (F.SEA_TAILDLY_NS n) v).updLeadMin).delayChanged n (s.get (F.SEA_NODES_COUNT n) - 1)).answer stOk

/-- R196, R204: a host write of SEA_HOLD; a value outside 1 to 3,600 is ignored. -/
def State.seaHold (s : State) (v : Nat) : State :=
  let t := v % 4096
  if t = 0 ∨ 3600 < t then s.answer stIgnored
  else
    let s1 := s.put F.SEA_HOLD_SEC t
    (forUp (fun n s => if s.flag (F.SEA_CTL_ENABLE n) then s.queueOwn n [s.holdReq] else s) 32 s1).answer stOk

/-- R204: a host write of SEA_RESEND; an INTV of 0 is ignored. -/
def State.seaResend (s : State) (v : Nat) : State :=
  let s1 := s.put F.SEA_RESEND_RETRY (v / 256)
  (if v % 256 = 0 then s1 else s1.put F.SEA_RESEND_INTV v).answer stOk

def execSeaImgptrWrite (v : BitVec 32) (s : State) : Res :=
  .next (s.hostWr Reg.SEA_IMGPTR v.toNat fun s => s.stagePtr F.SEA_IMGPTR_PTR 262144 v.toNat)

def execSeaImgdatWrite (v : BitVec 32) (s : State) : Res :=
  .next (s.hostWr Reg.SEA_IMGDAT v.toNat fun s => s.stageDat F.SEA_IMGPTR_PTR seaStage 262144 (s.lopRunning 0x03) v)

end Sys2Proof.Machine
end

