-- ==== Sys2Proof/Machine/Tbu.lean ====
section
/-!
DEFINITION. Machine/Tbu.lean: the time base: its ordinary clock and servo, its transparent clock, steps, slews and the UTC offset
(chapter 9, R250 to R270), but for the carrying out of a step (Machine/TimeStep.lean).
-/

namespace Sys2Proof.Machine

/-! ## The clock (R250, R251) -/

/-- R251: the limit of TBU_FREQ. -/
def freqMax : Int := 34359738

/-- R250: the time base after one TIME cycle. -/
def State.timeCycle (s : State) : State :=
  let f : Int := s.frac.toNat + s.sget F.TBU_FREQ_FREQ
  { s with ns := (((s.ns : Int) + 8 + f / 4294967296).toNat), frac := BitVec.ofInt 32 f }

/-! ## State and events -/

/-- R257: codes of TBU_STAT.STATE. -/
def tbFree : Nat := 0
def tbLocked : Nat := 1
def tbHold : Nat := 2

/-- TBU_STAT.STATE. -/
def State.tbState (s : State) : Nat := s.get F.TBU_STAT_STATE

/-- R290: the discipline of the calendar is active. -/
def State.discActive (s : State) : Bool :=
  s.flag F.RTC_CTL_DISC && s.flag F.TBU_STAT_VALID && (s.tbState == tbLocked || s.flag F.TBU_STAT_SRC)

/-- R290: DISCACT follows the discipline, whose first comparison is at the next TAI second. -/
def State.discTrack (s : State) : State :=
  if s.discActive == s.flag F.RTC_STAT_DISCACT then s
  else
    let s1 := s.setFlag F.RTC_STAT_DISCACT s.discActive
    { s1 with rtc := { s1.rtc with since := if s.discActive then some s.ns else none, ageSum := 0, ageFrom := s.ns, ageDone := none,
                                   nowAt := none,
                                   cmpAt := if s.discActive then some ((s.ns / nsPerSec + 1) * nsPerSec) else none } }

/-- R257: the time base enters a state, with the events of leaving and entering LOCKED, each at most once per second. -/
def State.tbEnter (s : State) (x : Nat) : State :=
  let was := s.tbState
  let s1 := s.put F.TBU_STAT_STATE x
  let s2 := if was = tbLocked ∧ x ≠ tbLocked then s1.raiseRated nsPerSec 0x902 0 [x] else s1
  let s3 := if x = tbLocked ∧ was ≠ tbLocked then s2.raiseRated nsPerSec 0x901 0 else s2
  ({ s3 with tbu := { s3.tbu with good := 0, far := 0, holdAt := if x = tbHold then some s3.ns else none,
                                  freqs := if x = tbLocked ∧ was ≠ tbLocked then [(s3.ns, s3.sget F.TBU_FREQ_FREQ)]
                                           else s3.tbu.freqs } }).discTrack

/-- R269: how fast a slew runs while TBU_FREQ is `f`: what it makes up each ns, in 1 / (8 × 2^32) ns. -/
def Slew.rate (w : Slew) (f : Int) : Nat := (f - w.base).natAbs

/-- R269: what the slew has left to make up at `t`, TBU_FREQ having been `f`. -/
def Slew.leftAt (w : Slew) (f : Int) (t : Nat) : Nat := w.left - w.rate f * (t - w.at_)

/-- R251, R269: the trim in effect, but for a slew. -/
def State.baseFreq (s : State) : Int := (s.tbu.slew.map (·.base)).getD (s.sget F.TBU_FREQ_FREQ)

/-- R269: a slew in progress runs on a trim of `v` from now. -/
def State.slewOn (s : State) (v : Int) : State :=
  match s.tbu.slew with
  | some w => { s with tbu := { s.tbu with slew := some { w with base := clampInt (-freqMax) freqMax v, at_ := s.ns
                                                                 left := w.leftAt (s.sget F.TBU_FREQ_FREQ) s.ns } } }
  | none => s

/-- R251, R269: the trim takes the value `v`, and TBU_FREQ that with a slew in progress; while LOCKED the value is noted for R258. -/
def State.setFreq (s : State) (v : Int) : State :=
  let f := clampInt (-freqMax) freqMax (v + (s.tbu.slew.map (·.by_)).getD 0)
  let s1 := (s.slewOn v).sput F.TBU_FREQ_FREQ f
  if s.tbState = tbLocked then { s1 with tbu := { s1.tbu with freqs := (s.ns, f) :: s1.tbu.freqs } } else s1

/-- R256: TBU_FREQ units of `n / d` ppb. -/
def freqOf (n : Int) (d : Nat) : Int := roundNear (n * 34359738368) (1000000000 * d) (Config.tieUp 256 n.natAbs)

/-- Whole ns of an exact offset as a register shows it; the rounding is open (assumption log 15). -/
def showNs (rule : Nat) (n : Int) (d : Nat) : Int :=
  if n % d = 0 then n / d else n / d + (if Config.fracUp rule n.natAbs then 1 else 0)

/-- R258: the mean of TBU_FREQ over the last 64 s of LOCKED up to `t`; `l` lists the values, newest first. -/
def freqMean (t : Nat) (l : List (Nat × Int)) (cur : Int) : Int :=
  let from_ := t - 64 * nsPerSec
  let go := l.foldl (fun (x : Nat × Int × Nat) p =>
    let a := max p.1 from_
    if a < x.1 then (a, x.2.1 + p.2 * (x.1 - a : Nat), x.2.2 + (x.1 - a)) else x) (t, 0, 0)
  if go.2.2 = 0 then cur else showNs 258 go.2.1 go.2.2

/-- R255, R263: the module's own servo follows PTP (not as a standby, whose source is the partner). -/
def State.ptpSteers (s : State) : Bool := s.flag F.TBU_CTL_SERVO && !s.flag F.TBU_STAT_SRC && !s.isStandby

/-- R257, R258, R263: entry to HOLDOVER; the ordinary clock of a standby steers nothing. -/
def State.enterHold (s : State) : State :=
  let f := freqMean s.ns s.tbu.freqs (s.sget F.TBU_FREQ_FREQ)
  (if s.ptpSteers then s.setFreq f else s).tbEnter tbHold

/-! ## Offsets and the servo (R255 to R257) -/

/-- The denominator of an offset: units of 1 / (840 × 2^17) ns. -/
def offUnit : Nat := 840 * 131072

/-- R255: MPD in offset units, none before the first measurement. -/
def State.mpd (s : State) : Option Int :=
  let l := s.tbu.ds
  if l = [] then none else some (l.foldl (· + ·) 0 * ((840 / l.length : Nat) : Int))

/-- R260, R269: a step is requested; during a step it waits for G2. -/
def State.askStep (s : State) (r : StepReq) : State :=
  let s1 := s.setFlag F.TBU_STAT_STEPPING true
  match s.tbu.step with
  | none => { s1 with tbu := { s1.tbu with step := some r } }
  | some _ => { s1 with tbu := { s1.tbu with stepNext := some r } }

/-- R256, R260: the servo law on an offset `o`, in offset units.  A standby (cause 3) requests no step: R264. -/
def State.servo (s : State) (o : Int) (cause : Nat) : State :=
  let u : Int := offUnit
  if (s.get F.TBU_STEPTH_NS : Int) * u < o.natAbs then
    if cause == 3 then s else s.askStep { cause := cause, delta := some (-(showNs 256 o offUnit)) }
  else
    let lim : Int := (s.get F.TBU_SLEWMAX_PPB : Int) * (u * 256)
    let i := clampInt (-lim) lim (s.tbu.i + s.get F.TBU_SERVO_KI * o)
    let y := clampInt (-lim) lim (-(s.get F.TBU_SERVO_KP * o + i))
    { s.setFreq (freqOf y (offUnit * 256)) with tbu := { (s.setFreq (freqOf y (offUnit * 256))).tbu with i := i } }

/-- R257: an offset counts toward LOCKED or out of it. -/
def State.lockCount (s : State) (o : Int) : State :=
  let u : Int := offUnit
  let th : Int := (s.get F.TBU_LOCKTH_NS : Int) * u
  let a : Int := o.natAbs
  let s1 := { s with tbu := { s.tbu with good := if a ≤ th then s.tbu.good + 1 else 0, far := if 4 * th < a then s.tbu.far + 1 else 0,
                                         monGood := if a ≤ th then s.tbu.monGood + 1 else 0 } }
  if s1.tbState = tbFree ∧ 16 ≤ s1.tbu.good ∧ s1.tbu.step.isNone ∧ s1.flag F.TBU_CTL_SERVO then s1.tbEnter tbLocked
  else if s1.tbState = tbLocked ∧ 4 ≤ s1.tbu.far then s1.tbEnter tbFree
  else s1

/-- R253: the latency of the PHY of a port at its present speed, ns. -/
def State.phyLatency (s : State) (eth2 tx : Bool) : Nat :=
  let gbe := s.flag (if eth2 then F.HAP_STAT_GBE2 else F.HAP_STAT_GBE1)
  s.get (match gbe, tx with
    | true, false => F.TBU_PHY1G_RX | true, true => F.TBU_PHY1G_TX | false, false => F.TBU_PHY100_RX | false, true => F.TBU_PHY100_TX)

/-- R255, R256: the offset of a complete Sync. -/
def State.takeSync (s : State) (x : PtpSync) : State :=
  let s0 := { s.inc F.TBU_RXCNT_SYNC with tbu := { s.tbu with sync := some x } }
  match s.mpd with
  | none => s0
  | some m =>
    let o : Int := (((x.t2 : Int) - x.t1) * 65536 - x.corr) * 1680 - m
    let s1 := s0.sput F.TBU_OFFSET_NS (clampInt (-2147483648) 2147483647 (showNs 255 o offUnit))
    let s2 := if s1.ptpSteers then s1.servo o 1 else s1
    s2.lockCount o

/-- R254: the message is one the ordinary clock takes: transport enabled, domain right. -/
def State.ptpTakes (s : State) (h : PtpHdr) : Bool :=
  (if h.v6 then s.flag F.TBU_CTL_IPV6 else s.flag F.TBU_CTL_IPV4) && h.domain == s.get F.TBU_CTL_DOMAIN && s.inRunQuiet

/-- A malformed PTP message is counted. -/
def State.ptpBad (s : State) : State := s.incSat F.TBU_ERRCNT_MSG

/-- R255: TBU_ASYM in 2^-16 ns. -/
def State.asym (s : State) : Int := s.sget F.TBU_ASYM_NS * 65536

/-- R253, R255, R257: a Sync arrives, its start stamped `t2` at the boundary to the PHY. -/
def State.syncReceived (s : State) (h : PtpHdr) (two : Bool) (t1 t2 : Nat) (logInt : Int) : State :=
  if h.bad then s.ptpBad
  else if !s.ptpTakes h || s.tbu.sel != some h.port then s
  else
    let s1 := { s.sput F.TBU_INTV_SYNC logInt with tbu := { s.tbu with syncAt := some s.ns } }
    let s2 := if s1.tbState = tbHold then s1.tbEnter tbFree else s1
    let x : PtpSync := { t1 := t1, t2 := t2 - s.phyLatency h.eth2 false, corr := h.corr + s.asym, eth2 := h.eth2 }
    if two then { s2 with tbu := { s2.tbu with waiting := some (h.seq, x) } } else s2.takeSync x

def execPtpSyncReceived (h : PtpHdr) (two : Bool) (t1 t2 : Nat) (logInt : Int) (s : State) : Res :=
  .next (s.syncReceived h two t1 t2 logInt)

/-- R255: one delay measurement from a complete Sync, t3, t4 and the corrections of the answer. -/
def State.measureDelay (s : State) (x : PtpSync) (t3 t4 : Nat) (corr : Int) : State :=
  let d : Int := ((x.t2 : Int) - x.t1) * 65536 - x.corr + (((t4 : Int) - t3) * 65536 - (corr - s.asym))
  if d < 0 then s.incSat F.TBU_ERRCNT_DELAY
  else
    let s2 := { s with tbu := { s.tbu with ds := (d :: s.tbu.ds).take 8 } }
    s2.sput F.TBU_MPD_NS (showNs 270 ((s2.mpd).getD 0) offUnit)

/-- R255: the Sync with number `q` is complete: the Delay_Req sent after it can be measured. -/
def State.completeSync (s : State) (q : Nat) (x : PtpSync) : State :=
  match s.tbu.dreq with
  | some r =>
    if r.awaits ≠ some q then s
    else match r.resp with
      | some (t4, corr) => ({ s with tbu := { s.tbu with dreq := none } }).measureDelay x r.t3 t4 corr
      | none => { s with tbu := { s.tbu with dreq := some { r with sync := x, awaits := none } } }
  | none => s

/-- R255: the Follow_Up of a two-step Sync. -/
def State.followUp (s : State) (h : PtpHdr) (t1 : Nat) : State :=
  if h.bad then s.ptpBad
  else if !s.ptpTakes h || s.tbu.sel != some h.port then s
  else match s.tbu.waiting with
    | some (q, x) =>
      if q = h.seq then
        let y : PtpSync := { x with t1 := t1, corr := x.corr + h.corr }
        (({ s with tbu := { s.tbu with waiting := none } }).takeSync y).completeSync q y
      else s
    | none => s

def execFollowUpReceived (h : PtpHdr) (t1 : Nat) (s : State) : Res := .next (s.followUp h t1)

/-- R255: the latest Sync received, with its number while its Follow_Up is awaited. -/
def State.latestSync (s : State) : Option (PtpSync × Option Nat) :=
  match s.tbu.waiting, s.tbu.sync with
  | some (q, w), some x => if x.t2 ≤ w.t2 then some (w, some q) else some (x, none)
  | some (q, w), none => some (w, some q)
  | none, some x => some (x, none)
  | none, none => none

/-- R253, R254, R255: a Delay_Req leaves, its start stamped `t3` at the boundary to the PHY; one that had no answer is counted. -/
def State.delayReq (s : State) (seq t3 : Nat) : State :=
  match s.tbu.sel, s.latestSync with
  | some _, some (x, q) =>
    if !s.inRunQuiet then s
    else
      let s1 := if s.tbu.dreq.isSome then s.incSat F.TBU_ERRCNT_DELAY else s
      { s1.emit (.delayReq s.vlanTag seq) with tbu := { s1.tbu with dreq := some { seq := seq, t3 := t3 + s.phyLatency x.eth2 true, sync := x, awaits := q } } }
  | _, _ => s

def execDelayReqSend (seq t3 : Nat) (s : State) : Res := .next (s.delayReq seq t3)

/-- R255: the answer to the Delay_Req outstanding. -/
def State.delayResp (s : State) (h : PtpHdr) (t4 : Nat) (logMin : Int) : State :=
  if h.bad then s.ptpBad
  else if !s.ptpTakes h || s.tbu.sel != some h.port then s
  else match s.tbu.dreq with
    | some r =>
      if r.seq ≠ h.seq then s
      else if r.awaits.isSome then
        { s.sput F.TBU_INTV_DREQ logMin with tbu := { s.tbu with dreq := some { r with resp := some (t4, h.corr) } } }
      else ({ s.sput F.TBU_INTV_DREQ logMin with tbu := { s.tbu with dreq := none } }).measureDelay r.sync r.t3 t4 h.corr
    | none => s

def execDelayRespReceived (h : PtpHdr) (t4 : Nat) (logMin : Int) (s : State) : Res := .next (s.delayResp h t4 logMin)

/-! ## Best master clock (R254, R257) -/

/-- Nanoseconds of a logarithmic message interval, 2^l s. -/
def logNs (l : Int) : Nat := if 0 ≤ l then nsPerSec * 2 ^ l.toNat else nsPerSec / 2 ^ (-l).toNat

/-- The order of two data sets: the values compared first to last. -/
def lexLt : List Nat → List Nat → Bool
  | a :: as, b :: bs => decide (a < b) || (a == b && lexLt as bs)
  | _, _ => false

/-- R254: master `a` is better than master `b` (IEEE 1588-2019, clause 9.3.4; assumption log 16). -/
def PtpMaster.better (a b : PtpMaster) : Bool :=
  if a.data.gm = b.data.gm then lexLt [a.data.steps, a.port] [b.data.steps, b.port]
  else
    let key (m : PtpMaster) : List Nat := [m.data.prio1, m.data.cls, m.data.acc, m.data.var, m.data.prio2, m.data.gm]
    lexLt (key a) (key b)

/-- R254: a master qualifies at `t` with two Announce messages in the last four intervals and fewer than 255 steps; the selected one stays
until its receipt timeout (clause 9.3; assumption log 16). -/
def PtpMaster.qualified (m : PtpMaster) (t : Nat) (sel : Option Nat) : Bool :=
  decide (m.data.steps < 255) &&
    (sel == some m.port || match m.prev with | some p => decide (t ≤ p + 4 * logNs m.data.logInt) | none => false)

/-- R254: the best of the masters heard. -/
def State.bestMaster (s : State) : Option PtpMaster :=
  (s.tbu.masters.filter fun m => m.qualified s.ns s.tbu.sel).foldl
    (fun b m => match b with | some x => if m.better x then some m else b | none => some m) none

/-- The present grandmaster identity as reported. -/
def State.gmId (s : State) : Nat := s.get F.TBU_GMID_HI_ID * 4294967296 + s.get F.TBU_GMID_LO_ID

/-- R254, R257: the selected master's Announce values are reported; a new grandmaster identity is an event and ends LOCKED. -/
def State.reportMaster (s : State) (m : PtpMaster) : State :=
  let d := m.data
  let s1 := ((s.put F.TBU_GMQ_CLASS d.cls).put F.TBU_GMQ_ACC d.acc).put F.TBU_GMQ_STEPS d.steps
  let s2 := (((s1.sput F.TBU_GMUTC_SEC d.utc).setFlag F.TBU_STAT_LEAP61 d.leap61).setFlag F.TBU_STAT_LEAP59 d.leap59).setFlag
    F.TBU_STAT_UTCVALID d.utcValid
  let s3 := s2.setFlag F.TBU_STAT_TRACE d.trace
  if s.gmId = d.gm then s3
  else
    let s4 := ((s3.put F.TBU_GMID_HI_ID (d.gm / 4294967296)).put F.TBU_GMID_LO_ID d.gm).setFlag F.TBU_STAT_GMCHG true
    let s5 := s4.raiseSkip 0x904 0 1 [d.gm / 4294967296, d.gm % 4294967296]
    if s5.tbState = tbLocked then s5.tbEnter tbFree else s5

/-- R254: select the best master heard. -/
def State.selectMaster (s : State) : State :=
  match s.bestMaster with
  | none => { s with tbu := { s.tbu with sel := none } }
  | some m =>
    let s1 := if s.tbu.sel = some m.port then s
      else { s with tbu := { s.tbu with sel := some m.port, waiting := none, sync := none, syncAt := some s.ns, dreq := none } }
    s1.reportMaster m

/-- R254: an Announce arrives. -/
def State.announce (s : State) (h : PtpHdr) (a : AnnData) : State :=
  if h.bad then s.ptpBad
  else if !s.ptpTakes h then s
  else
    let old := s.tbu.masters.find? (·.port == h.port)
    let m : PtpMaster := { port := h.port, data := a, last := s.ns, prev := old.map (·.last) }
    let s1 := { s.inc F.TBU_RXCNT_ANN with tbu := { s.tbu with masters := m :: s.tbu.masters.filter (·.port != h.port) } }
    s1.selectMaster

def execAnnounceReceived (h : PtpHdr) (a : AnnData) (s : State) : Res := .next (s.announce h a)

/-- R257: the Announce receipt timeout of the selected master. -/
def State.announceTimeout (s : State) : State :=
  match s.tbu.masters.find? (fun m => s.tbu.sel == some m.port) with
  | some m =>
    if m.last + s.get F.TBU_ANNTO_COUNT * logNs m.data.logInt ≤ s.ns then
      let s1 := { s with tbu := { s.tbu with masters := s.tbu.masters.filter (·.port != m.port), sel := none } }
      let s2 := if s1.tbState = tbLocked then s1.enterHold else s1
      s2.selectMaster
    else s
  | none => s

def execAnnounceTimeout (s : State) : Res := .next s.announceTimeout

/-- R257: no Sync from the selected master for 4 Sync intervals. -/
def State.syncTimeout (s : State) : State :=
  match s.tbu.syncAt with
  | some t => if s.tbState = tbLocked ∧ t + 4 * logNs (s.sget F.TBU_INTV_SYNC) ≤ s.ns then s.enterHold else s
  | none => s

def execSyncTimeout (s : State) : Res := .next s.syncTimeout

/-- R258, R270: TBU_HOLD, whole seconds in HOLDOVER. -/
def State.holdSec (s : State) : Nat :=
  match s.tbu.holdAt with
  | some t => if s.tbState = tbHold then min 16777215 ((s.ns - t) / nsPerSec) else 0
  | none => 0

/-- R257: TBU_HOLD reaches TBU_HOLDMAX. -/
def execTbuHoldend (s : State) : Res :=
  .next (if s.tbState = tbHold ∧ s.get F.TBU_HOLDMAX_SEC ≤ s.holdSec then (s.tbEnter tbFree).raiseRated nsPerSec 0x908 0 else s)

/-! ## The transparent clock (R259) -/

/-- The four 16-bit words of a 64-bit value. -/
def words16 (v : Int) : List Nat := (List.range 4).map fun k => ofSigned 64 v / 65536 ^ k % 65536

/-- Ones' complement sum of 16-bit words. -/
def onesSum (l : List Nat) : Nat := l.foldl (fun a b => (a + b) % 65536 + (a + b) / 65536) 0

/-- R259: the UDP checksum of a message whose correction field changes from `old` to `new`; a datagram without one (IPv4) stays so. -/
def udpSum (sum : Nat) (old new : Int) : Nat :=
  if sum = 0 then 0
  else
    let x := 65535 - onesSum ([65535 - sum] ++ (words16 old).map (65535 - ·) ++ words16 new)
    if x = 0 then 65535 else x

/-- R253, R259: residence of a message that entered at ETH1 or ETH2 and leaves at the other, both stamps on the medium, ns. -/
def State.ptpResidence (s : State) (fromEth2 : Bool) (i e : Nat) : Int :=
  ((e : Int) + s.phyLatency (!fromEth2) true) - ((i : Int) - s.phyLatency fromEth2 false)

/-- R20, R259, R436, R437: a PTP message in transit; with TCEN its residence is added to a Sync or Delay_Req and the UDP checksum follows. -/
def State.ptpTransit (s : State) (corr : Int) (event fromEth2 : Bool) (i e sum : Nat) : State :=
  if !s.flag F.HAP_CTL_CHAIN || !s.portsOn then s
  else if s.flag F.TBU_CTL_TCEN && event then
    let c := corr + s.ptpResidence fromEth2 i e * 65536
    (s.inc F.TBU_TCCNT_COUNT).emit (.ptpForward c (udpSum sum corr c))
  else s.emit (.ptpForward corr sum)

def execPtpTransit (corr : PtpCarried) (event : Bool) (ingress : PtpArrival) (egress : Nat) (s : State) : Res :=
  .next (s.ptpTransit corr.corr event ingress.fromEth2 ingress.stamp egress corr.sum.toNat)

/-! ## Host commands (R269, R270) -/

/-- R266, R269: a command is refused. -/
def State.tbRefuse (s : State) : State := ((s.setFlag F.TBU_STAT_REFUSED true).raiseRated nsPerSec 0x906 0).answer stOk

/-- R269: what refuses SET and SLEW in every role. -/
def State.tbTaken (s : State) : Bool := s.flag F.TBU_CTL_SERVO || s.tbu.step.isSome || s.tbu.slew.isSome

/-- R269: SET and SLEW are refused. -/
def State.tbBusy (s : State) : Bool := s.tbTaken || s.isStandby

/-- R270: CAP. -/
def State.tbCap (s : State) : State := (s.wrTime Reg.TBU_CAP_S_LO s.ns).answer stOk

def execTbuCmdCap (s : State) : Res := .next (s.hostWr Reg.TBU_CMD 1 (·.tbCap))

/-- The TAI time staged in TBU_SET. -/
def State.stagedTime (s : State) (a : Nat) : Nat :=
  ((s.stagedWord a).toNat + (s.stagedWord (a + 4)).toNat % 65536 * 4294967296) * nsPerSec + (s.stagedWord (a + 8)).toNat % 1073741824

/-- R269: SET. -/
def State.tbSet (s : State) : State :=
  if s.tbBusy then s.tbRefuse
  else (s.askStep { cause := 2, delta := none }).answer stOk

def execTbuCmdSet (s : State) : Res := .next (s.hostWr Reg.TBU_CMD 2 (·.tbSet))

/-- R269: a slew begins: TBU_SLEWMAX is added to the trim until |TBU_ADJ| has been made up. -/
def State.slewBegin (s : State) : State :=
  let adj := s.sget F.TBU_ADJ_NS
  let r := freqOf (s.get F.TBU_SLEWMAX_PPB) 1
  let base := s.sget F.TBU_FREQ_FREQ
  if adj = 0 then s
  else
    let s1 : State := { s.setFlag F.TBU_STAT_STEPPING true with
      tbu := { s.tbu with slew := some { by_ := if adj < 0 then -r else r, base := base, left := adj.natAbs * 34359738368, at_ := s.ns } } }
    s1.setFreq base

/-- R269: SLEW. -/
def State.tbSlew (s : State) : State := if s.tbBusy then s.tbRefuse else s.slewBegin.answer stOk

def execTbuCmdSlew (s : State) : Res := .next (s.hostWr Reg.TBU_CMD 4 (·.tbSlew))

/-- R269: the adjustment is complete when nothing of it is left. -/
def State.slewOver (s : State) : Bool := (s.tbu.slew.map fun w => w.leftAt (s.sget F.TBU_FREQ_FREQ) s.ns == 0).getD false

/-- R269: a complete adjustment ends, and the trim goes on without it. -/
def State.slewDone (s : State) : State :=
  if s.slewOver then
    let s1 : State := { s.setFlag F.TBU_STAT_STEPPING s.tbu.step.isSome with tbu := { s.tbu with slew := none } }
    s1.setFreq s.baseFreq
  else s

def execSlewComplete (s : State) : Res := .next s.slewDone

/-- R280: the notice of an armed change of exactly 1 s, 500 ms before it takes effect. -/
def State.leapNotice (s : State) : State :=
  match s.tbu.utcArm with
  | some a =>
    let d := a.offset - s.sget F.TBU_UTCOFF_SEC
    if (d = 1 ∨ d = -1) ∧ a.noticed = false ∧ a.at_ ≤ s.ns + 500000000 then
      { s with tbu := { s.tbu with utcArm := some { a with noticed := true } }
               rtc := { s.rtc with leap := some (decide (d = -1), a.at_ - 500000000) } }
    else s
  | none => s

/-- R266, R280: the staged offset is armed for TBU_UTCAT, or for the next TAI second when that time has passed; a notice that is due is
delivered at once. -/
def State.armUtc (s : State) : State :=
  let at_ := s.rdTime Reg.TBU_UTCAT_S_LO
  let t := if s.ns < at_ then at_ else (s.ns / nsPerSec + 1) * nsPerSec
  let off := toSigned 16 (getBits (s.stagedWord Reg.TBU_UTCOFF) 0 16)
  ({ s.setFlag F.TBU_STAT_ARMED true with tbu := { s.tbu with utcArm := some { offset := off, at_ := t } } }).leapNotice.answer stOk

/-- R266: UTCARM. -/
def State.utcArmCmd (s : State) : State :=
  match s.tbu.utcArm with
  | some a => if a.noticed then s.tbRefuse else s.armUtc
  | none => s.armUtc

def execTbuCmdUtcarm (s : State) : Res := .next (s.hostWr Reg.TBU_CMD 8 (·.utcArmCmd))

/-- R266: the armed offset takes effect. -/
def State.utcChange (s : State) : State :=
  match s.tbu.utcArm with
  | some a =>
    if a.at_ ≤ s.ns then
      let old := s.sget F.TBU_UTCOFF_SEC
      let s1 := { (s.setFlag F.TBU_STAT_ARMED false).unstage Reg.TBU_UTCOFF with tbu := { s.tbu with utcArm := none } }
      if a.offset = old then s1
      else (s1.sput F.TBU_UTCOFF_SEC a.offset).raiseSkip 0x905 0 1 [ofSigned 32 old, ofSigned 32 a.offset]
    else s
  | none => s

def execUtcOffsetChange (s : State) : Res := .next s.utcChange

/-- R269, R421: a standby performs a TBU_CMD that its active module has: the step of a SET comes with the state copy (R264). -/
def State.tbuCopied (s : State) (v : Nat) : State :=
  let s1 := if bit v 0 then s.tbCap else s
  let s2 := if (bit v 1 || bit v 2) && (s1.tbTaken || (bit v 1 && bit v 2)) then s1.setFlag F.TBU_STAT_REFUSED true
    else if bit v 2 then s1.slewBegin else s1
  if !bit v 3 then s2
  else if (s2.tbu.utcArm.map (·.noticed)).getD false then s2.setFlag F.TBU_STAT_REFUSED true
  else s2.armUtc

/-- R256, R257, R270: a host write of TBU_CTL. -/
def State.tbCtl (s : State) (v : Nat) : State :=
  let s1 := s.wr Reg.TBU_CTL (BitVec.ofNat 32 (v &&& 0x7F0F))
  let s2 := if bit v 0 then s1
    else
      let s2 := s1.setFreq (s1.sget F.TBU_RATE_RATE)
      if s2.tbState = tbFree then s2 else s2.tbEnter tbFree
  s2.answer stOk

def execTbuCtlWrite (v : BitVec 32) (s : State) : Res := .next (s.hostWr Reg.TBU_CTL v.toNat (·.tbCtl v.toNat))

/-- R251, R270: a host write of TBU_RATE stores the nearer limit. -/
def State.tbRate (s : State) (v : Nat) : State :=
  let r := clampInt (-freqMax) freqMax (toSigned 32 (v % 4294967296))
  let s1 := s.sput F.TBU_RATE_RATE r
  (if s.flag F.TBU_CTL_SERVO then s1 else s1.setFreq r).answer stOk

/-! ## The pair's time (R263, R264) -/

/-- R263, R264: a time mark of the active module reaches the standby. -/
def State.timeMark (s : State) (mark stamp : Nat) : State :=
  if !s.isStandby then s
  else
    let x : Int := (stamp : Int) - mark - s.get F.XLK_LDLY_NS
    let s1 := (s.sput F.TBU_XOFF_NS (clampInt (-2147483648) 2147483647 x)).setFlag F.TBU_STAT_SRC true |>.discTrack
    let s2 := if s1.flag F.TBU_CTL_SERVO then s1.servo (x * (offUnit : Nat)) 3 else s1
    if x.natAbs ≤ 100 then { s2 with tbu := { s2.tbu with xoffSince := none } }
    else match s2.tbu.xoffSince with
      | none => { s2 with tbu := { s2.tbu with xoffSince := some s2.ns } }
      | some t => if t + nsPerSec ≤ s2.ns then s2.raiseSkip 0x907 0 1 [ofSigned 32 x] else s2

def execTimeMarkReceived (mark stamp : Nat) (s : State) : Res := .next (s.timeMark mark stamp)

end Sys2Proof.Machine
end

