-- ==== Sys2Proof/Machine/Rtc.lean ====
section
/-!
DEFINITION. Machine/Rtc.lean: the calendar clock, its alarms, compensation and discipline (chapter 10, R271 to R294).
-/

namespace Sys2Proof.Machine

/-! ## The calendar as a count of seconds (R271 to R273) -/

/-- R273: leap years. -/
def leapYear (y : Nat) : Bool := (y % 4 == 0 && y % 100 != 0) || y % 400 == 0

/-- R273: days of a month. -/
def monthDays (y m : Nat) : Nat := if m = 2 then (if leapYear y then 29 else 28) else if m = 4 ∨ m = 6 ∨ m = 9 ∨ m = 11 then 30 else 31

/-- Days from 2000-01-01 to a date of the calendar's range. -/
def dayNumber (y m d : Nat) : Nat :=
  let n := y - 2000
  let before := (List.range (m - 1)).foldl (fun t k => t + monthDays y (k + 1)) 0
  365 * n + (n + 3) / 4 - (n + 99) / 100 + (n + 399) / 400 + before + (d - 1)

/-- The date of a day number: year, month, day. -/
def dayDate (n : Nat) : Nat × Nat × Nat :=
  let doe := (n + 730425) % 146097
  let yoe := (doe - doe / 1460 + doe / 36524 - doe / 146096) / 365
  let doy := doe - (365 * yoe + yoe / 4 - yoe / 100)
  let mp := (5 * doy + 2) / 153
  let m := if mp < 10 then mp + 3 else mp - 9
  (yoe + (n + 730425) / 146097 * 400 + (if m ≤ 2 then 1 else 0), m, doy - (153 * mp + 2) / 5 + 1)

/-- Two BCD digits. -/
def toBcd (v : Nat) : Nat := v / 10 * 16 + v % 10
def ofBcd (v : Nat) : Nat := v / 16 * 10 + v % 16

/-- R271: seconds in the calendar's range. -/
def calSeconds : Nat := 146097 * 86400

/-- R293: RTC_TIME and RTC_DATE of second `l` from 2000-01-01 00:00:00; R272: DOW is derived. -/
def calTime (l : Nat) : Word :=
  BitVec.ofNat 32 (toBcd (l % 60) + toBcd (l / 60 % 60) * 256 + toBcd (l / 3600 % 24) * 65536 + ((l / 86400 + 5) % 7 + 1) * 16777216)
def calDate (l : Nat) : Word :=
  let d := dayDate (l / 86400)
  BitVec.ofNat 32 (toBcd d.2.2 + toBcd d.2.1 * 256 + toBcd (d.1 % 100) * 65536 + toBcd (d.1 / 100) * 16777216)

/-- R275: a digit above 9. -/
def badBcd (v : Nat) : Bool := decide (9 < v % 16) || decide (9 < v / 16)

/-- R275: a calendar value without fault, as a count of seconds. -/
def calRead (t d : Word) : Option Nat :=
  let f (w : Word) (lo n : Nat) : Nat := getBits w lo n
  let sec := f t 0 7; let mi := f t 8 7; let hr := f t 16 6
  let da := f d 0 6; let mo := f d 8 5; let yr := f d 16 8; let ce := f d 24 8
  if [sec, mi, hr, da, mo, yr, ce].any badBcd then none
  else
    let y := ofBcd ce * 100 + ofBcd yr
    if 59 < ofBcd sec ∨ 59 < ofBcd mi ∨ 23 < ofBcd hr ∨ ofBcd mo = 0 ∨ 12 < ofBcd mo ∨ ofBcd ce < 20 ∨ 23 < ofBcd ce ∨
        ofBcd da = 0 ∨ monthDays y (ofBcd mo) < ofBcd da then none
    else some (dayNumber y (ofBcd mo) (ofBcd da) * 86400 + ofBcd hr * 3600 + ofBcd mi * 60 + ofBcd sec)

/-- The calendar's present second. -/
def State.calNow (s : State) : Nat := (calRead (s.rd Reg.RTC_TIME) (s.rd Reg.RTC_DATE)).getD 0

/-- The calendar takes second `l`. -/
def State.setCal (s : State) (l : Nat) : State := (s.wr Reg.RTC_TIME (calTime l)).wr Reg.RTC_DATE (calDate l)

/-- R280: the time base's UTC as a calendar second; none outside the range. -/
def State.utcCal (s : State) : Option Nat :=
  let u : Int := (s.ns / nsPerSec : Nat) - s.sget F.TBU_UTCOFF_SEC - 946684800
  if 0 ≤ u ∧ u < calSeconds then some u.toNat else none

/-! ## Alarms (R281 to R286) -/

/-- R281: alarm `n` matches second `l`. -/
def State.alarmMatch (s : State) (n l : Nat) : Bool :=
  let m := s.get (F.RTC_ACTL_MASK n)
  let t := calTime l
  let d := calDate l
  let at_ := s.rd (Reg.RTC_ATIME n)
  let ad := s.rd (Reg.RTC_ADATE n)
  let eq (k : Nat) (w v : Word) (lo wd : Nat) : Bool := !bit m k || getBits w lo wd == getBits v lo wd
  eq 0 t at_ 0 7 && eq 1 t at_ 8 7 && eq 2 t at_ 16 6 && eq 3 d ad 0 6 && eq 4 d ad 8 5 && eq 5 t at_ 24 3

/-- R63, R282: the signal that alarm `n` is configured to deliver, latched at the next tick start. -/
def State.alarmSignal (s : State) (n : Nat) : State :=
  if s.flag (F.RTC_ACTL_SIGEN n) then
    let b := s.get (F.RTC_ACTL_BOBBIN n)
    s.setBob b { s.bob b with hostPend := (s.bob b).hostPend ||| BitVec.ofNat 16 (2 ^ s.get (F.RTC_ACTL_SIGBIT n)) }
  else s

/-- R282, R283: ALMn is set, and LATEn for a second that is not the one the calendar holds. -/
def State.alarmFlags (s : State) (n : Nat) (late : Bool) : State :=
  let s1 := s.put F.RTC_STAT_ALM (setBit (s.get F.RTC_STAT_ALM) n true)
  if late then s1.put F.RTC_STAT_LATE (setBit (s1.get F.RTC_STAT_LATE) n true) else s1

/-- R282, R286: alarm `n` fires for second `l`. -/
def State.alarmFire (s : State) (n l : Nat) (late : Bool) : State :=
  let s1 := s.alarmFlags n late
  if !s1.acts then s1
  else (s1.raise 0x912 0 [n + (if late then 2 else 0), (calDate l).toNat, (calTime l).toNat]).alarmSignal n

/-- R285: in KEEP a match sets ALMn and its first second is recorded. -/
def State.alarmKeep (s : State) (n l : Nat) (late : Bool) : State :=
  let s1 := s.alarmFlags n late
  if (s1.rtc.keep.toList.getD n none).isSome then s1
  else { s1 with rtc := { s1.rtc with keep := s1.rtc.keep.setIfInBounds n (some (calDate l, calTime l, late)) } }

/-- R281, R283: the seconds from the one after `a` to `b` that alarm `n` matches; a move backward enters `b` alone. -/
def State.alarmSpan (s : State) (n a b : Nat) : List Nat :=
  (((List.range (b - a - 1)).map fun k => a + 1 + k) ++ [b]).filter fun l => s.alarmMatch n l

/-- R283: the enabled alarms, as the calendar moves from second `a` to second `b`. -/
def State.alarms (s : State) (a b : Nat) : State :=
  forUp (fun n s =>
    if !s.flag (F.RTC_ACTL_EN n) then s
    else match s.alarmSpan n a b with
      | [] => s
      | l :: _ => if s.mode == .keep then s.alarmKeep n l (l != b) else s.alarmFire n b (l != b)) 2 s

/-- R285, R286: the alarms that matched in KEEP are raised, and their signals delivered, by a module that acts. -/
def State.keepAlarms (s : State) : State :=
  let s1 := forUp (fun n s => match s.rtc.keep.toList.getD n none with
    | none => s
    | some (d, t, late) => (s.raise 0x912 0 [n + (if late then 2 else 0) + 4, d.toNat, t.toNat]).alarmSignal n) 2 s
  { s1 with rtc := { s1.rtc with keep := Vector.replicate 2 none } }

/-- R284: an alarm register value with a digit above 9 or a field out of range. -/
def alarmBad (k : Nat) (v : Nat) : Bool :=
  let f (lo n : Nat) : Nat := v / 2 ^ lo % 2 ^ n
  match k with
  | 0 => badBcd (f 0 7) || badBcd (f 8 7) || badBcd (f 16 6) || decide (59 < ofBcd (f 0 7)) || decide (59 < ofBcd (f 8 7)) ||
      decide (23 < ofBcd (f 16 6)) || f 24 3 == 0
  | 1 => badBcd (f 0 6) || badBcd (f 8 5) || decide (31 < ofBcd (f 0 6)) || ofBcd (f 0 6) == 0 || decide (12 < ofBcd (f 8 5)) ||
      ofBcd (f 8 5) == 0
  | _ => false

/-- R284: a host write of an alarm register. -/
def State.alarmWrite (s : State) (n k v : Nat) : State :=
  let w (a m : Nat) : State := (s.wr a (BitVec.ofNat 32 (v &&& m))).answer stOk
  if alarmBad k v then (s.setFlag F.RTC_STAT_DATEINV true).answer stOk
  else match k with
    | 0 => w (Reg.RTC_ATIME n) 0x073F7F7F
    | 1 => w (Reg.RTC_ADATE n) 0x00001F3F
    | 2 => w (Reg.RTC_ACTL n) 0x000F1FFF
    | _ => s.answer stIgnored

def execRtcAlarmWrite (n : BitVec 1) (k : BitVec 2) (v : BitVec 32) (s : State) : Res :=
  .next (s.hostWr (Reg.RTC_ATIME n.toNat + 4 * k.toNat) v.toNat fun s => s.alarmWrite n.toNat k.toNat v.toNat)

/-! ## Setting (R274 to R277) -/

/-- R274: a host write of RTC_TIME or RTC_DATE. -/
def State.rtcStage (s : State) (date : Bool) (v : Nat) : State :=
  (if date then (s.put F.RTC_STGDATE_DATE (v &&& 0xFFFF1F3F)).setFlag F.RTC_STGTIME_DSTG true
   else (s.put F.RTC_STGTIME_TIME (v &&& 0x003F7F7F)).setFlag F.RTC_STGTIME_TSTG true).answer stOk

def execRtcStageWrite (date : Bool) (v : BitVec 32) (s : State) : Res :=
  .next (s.hostWr (if date then Reg.RTC_DATE else Reg.RTC_TIME) v.toNat fun s => s.rtcStage date v.toNat)

/-- R274: COMMIT. -/
def State.rtcCommitCmd (s : State) : State := { s with rtc := { s.rtc with commit := true } }.answer stOk

def execRtcCmdCommit (s : State) : Res := .next (s.hostWr Reg.RTC_CMD 1 (·.rtcCommitCmd))

/-- R274: staging and both flags are cleared. -/
def State.rtcUnstage (s : State) : State := (s.wr Reg.RTC_STGTIME 0).wr Reg.RTC_STGDATE 0

/-- R293: the prescaler has the phase `sub` now. -/
def State.setSub (s : State) (sub : Nat) : State := { s.put F.RTC_SUBSEC_COUNT sub with rtc := { s.rtc with subAt := s.ns } }

/-- R277: within one cycle of 32.768 kHz, ns. -/
def rtcCycle : Nat := 30517

/-- R277: `t` lies in the present RTC cycle; the time base stands still in KEEP (R486), the RTC does not. -/
def State.rtcSame (s : State) (t : Nat) : Bool := s.mode != .keep && decide (s.ns < t + rtcCycle)

/-- R274, R291: the calendar takes second `b` by a commit or a discipline step. -/
def State.calTake (s : State) (b sub : Nat) : State :=
  let a := s.calNow
  let s1 := ((s.setCal b).setSub sub).setFlag F.RTC_STAT_VALID true
  let s2 := (s1.setFlag F.RTC_STAT_RANGEEND false).wrTime Reg.RTC_SETAT_S_LO s1.ns
  s2.alarms a b

/-! ## Reading (R278) -/

def execRtcTimeRead (sub : BitVec 15) (s : State) : Res :=
  .next (if s.inRunQuiet then
    { s.answer stOk with rdata := [s.rd Reg.RTC_TIME]
                         rtc := { s.rtc with snapDate := some (s.rd Reg.RTC_DATE), snapSub := some (BitVec.ofNat 32 sub.toNat) } }
    else s)

/-! ## The second (R279 to R282) -/

/-- R280: a leap notice applies to this increment. -/
def State.leapApply (s : State) (neg : Bool) : State :=
  let tod := s.calNow % 86400
  let off := if neg then tod != 86398 else tod != 86399
  let s1 := { s.setFlag F.RTC_STAT_LEAPDONE true with rtc := { s.rtc with leap := none, skipTo := s.ns + 2 * nsPerSec } }
  if s.mode = .keep then s1 else s1.raise 0x913 0 [(if neg then 1 else 0) + (if off then 2 else 0)]

/-- The calendar advances by `k` seconds, with its alarms; it stops at the end of its range (R279). -/
def State.calAdvance (s : State) (k : Nat) : State :=
  let a := s.calNow
  if a + 1 = calSeconds then
    (if s.mode = .keep then s.setFlag F.RTC_STAT_RANGEEND true else (s.setFlag F.RTC_STAT_RANGEEND true).raise 0x914 0)
  else
    let b := min (a + k) (calSeconds - 1)
    (s.setCal b).alarms a b

/-- R279 to R282: the calendar's second increment; in KEEP a notice that has been delivered applies too. -/
def State.secondNow (s : State) : State :=
  if s.flag F.RTC_STAT_RANGEEND then s
  else match s.rtc.leap with
    | some (neg, t) =>
      if t ≤ s.ns ∨ s.mode = .keep then
        (if neg then (s.leapApply true).calAdvance 2 else (s.leapApply false).setFlag F.RTC_STAT_LEAPHOLD true)
      else (s.setFlag F.RTC_STAT_LEAPHOLD false).calAdvance 1
    | none => (s.setFlag F.RTC_STAT_LEAPHOLD false).calAdvance 1

/-- R277: an increment that waited for the commit takes place: none came in its RTC cycle, or it was refused. -/
def State.heldSecond (s : State) : State :=
  match s.rtc.held with
  | some _ => ({ s with rtc := { s.rtc with held := none } } : State).secondNow
  | none => s

/-- R277: the RTC cycle of an increment that waits is over. -/
def State.rtcSettle (s : State) : State := if (s.rtc.held.map fun t => !s.rtcSame t).getD false then s.heldSecond else s

/-- R277: a second increment.  One in the RTC cycle of a commit is discarded; while a commit is on its way, it waits to the end of its RTC
cycle. -/
def State.rtcSecond (s : State) : State :=
  if (s.rtc.takenAt.map fun t => s.rtcSame t).getD false then { s with rtc := { s.rtc with takenAt := none } }
  else
    let s1 := s.heldSecond.setSub 0
    if s1.rtc.commit && s1.mode != .keep then { s1 with rtc := { s1.rtc with held := some s1.ns } } else s1.secondNow

def execRtcSecond (s : State) : Res := .next s.rtcSecond

/-- R274 to R277: the commit is applied; refused or rejected, it discards no increment. -/
def State.rtcCommit (u : State) : State :=
  if !u.rtc.commit then u
  else
    let s := u.rtcSettle
    let s0 := { s with rtc := { s.rtc with commit := false } }
    if s.discActive then
      (((s0.rtcUnstage.setFlag F.RTC_STAT_SETREF true).setFlag F.RTC_STAT_CMDDONE false).raise 0x916 0).heldSecond
    else
      let t := if s.flag F.RTC_STGTIME_TSTG then s.rd Reg.RTC_STGTIME else s.rd Reg.RTC_TIME
      let d := if s.flag F.RTC_STGTIME_DSTG then s.rd Reg.RTC_STGDATE else s.rd Reg.RTC_DATE
      match calRead t d with
      | none =>
        (((s0.rtcUnstage.setFlag F.RTC_STAT_DATEINV true).setFlag F.RTC_STAT_CMDDONE false).raiseEv
          { code := 0x911, skip := 1, pay := [(s.rd Reg.RTC_STGDATE).toNat, (s.rd Reg.RTC_STGTIME).toNat] }).heldSecond
      | some b =>
        let s1 := ((s0.rtcUnstage.setFlag F.RTC_STAT_LEAPHOLD false).setFlag F.RTC_STAT_CMDDONE true).calTake b 0
        { s1 with rtc := { s1.rtc with takenAt := some s.ns, held := none } }

def execRtcCommitApply (s : State) : Res := .next s.rtcCommit

def execLeapNotice (s : State) : Res := .next s.leapNotice

/-! ## Compensation (R287 to R289) -/

/-- R287: the crystal error at `t` (1/16 °C), 1/8 ppb, without RTC_AGE. -/
def crystalError (c : List Int) (t : Int) : Int :=
  let x := clampInt 0 2048 (t + 640)
  let i := min 31 (x / 64).toNat
  let p := c.getD i 0
  let q := c.getD (i + 1) 0
  let n := (q - p) * (x - 64 * i)
  p + (if 0 ≤ n then roundTiesToZero n 64 else -(roundTiesToZero (-n) 64))

/-- R288: cycles taken from the accumulator in one period, removed negative, at most 256. -/
def drainAcc (acc : Int) : Int × Int :=
  let n : Int := min 256 (acc.natAbs / 1953125 : Nat)
  if 0 ≤ acc then (acc - n * 1953125, -n) else (acc + n * 1953125, n)

/-- R287 to R289: the 8 s step: the sensor and the accumulator. -/
def State.rtcTemp (s : State) (r : Option Int) : State :=
  let ok : Option Int := r.filter fun t => decide (-720 ≤ t) && decide (t ≤ 1520)
  let s1 := match r with | some t => s.sput F.RTC_TEMP_T t | none => s
  let s2 := match ok with
    | some t => { (s1.setFlag F.RTC_TEMP_TVALID true).setFlag F.RTC_STAT_TSENS false with rtc := { s1.rtc with temp := t } }
    | none => ((s1.setFlag F.RTC_TEMP_TVALID false).setFlag F.RTC_STAT_TSENS true).raiseRated (3600 * nsPerSec) 0x917 0
  if s2.flag F.RTC_CTL_COMP then
    let c := crystalError s2.rtc.curve.toList s2.rtc.temp + s2.sget F.RTC_AGE_AGE
    let x := drainAcc (s2.rtc.acc + c * 64)
    { s2.sput F.RTC_CORR_C c with rtc := { s2.rtc with acc := x.1, sched := s2.rtc.sched + x.2 } }
  else s2.sput F.RTC_CORR_C 0

def execRtcTempRead (t : Option (BitVec 16)) (s : State) : Res := .next (s.rtcTemp (t.map (·.toInt)))

/-- R288, R291: one cycle is inserted or removed. -/
def State.adjCycle (s : State) (ins : Bool) : State :=
  if ins then (s.inc F.RTC_ADJ_INS).inc F.RTC_SUBSEC_COUNT else s.inc F.RTC_ADJ_REM

/-- R291: whole windows of 24 h of discipline that have ended; the sum of one that ended with AGEAUTO set waits for its update. -/
def State.rollAge (s : State) : State :=
  let w := (s.ns - s.rtc.ageFrom) / (86400 * nsPerSec)
  if w = 0 then s
  else { s with rtc := { s.rtc with
    ageDone := if s.flag F.RTC_CTL_AGEAUTO && s.discActive then some (if w = 1 then s.rtc.ageSum else 0) else none
    ageSum := 0, ageFrom := s.rtc.ageFrom + w * (86400 * nsPerSec) } }

/-- R288, R291: the next scheduled adjustment, the compensation's before the slew's. -/
def State.rtcAdjust (s : State) : State :=
  let s := s.rollAge
  let r := s.rtc
  if r.sched ≠ 0 then
    { s.adjCycle (decide (0 < r.sched)) with rtc := { r with sched := if 0 < r.sched then r.sched - 1 else r.sched + 1 } }
  else if r.slew ≠ 0 then
    let k := if 0 < r.slew then r.slew - 1 else r.slew + 1
    { (s.adjCycle (decide (0 < r.slew))).setFlag F.RTC_STAT_SLEWING (decide (k ≠ 0)) with
        rtc := { r with slew := k, ageSum := if 0 < r.slew then r.ageSum - 1 else r.ageSum + 1 } }
  else s

def execRtcCycleAdjust (s : State) : Res := .next s.rtcAdjust

/-! ## Discipline (R290, R291) -/

/-- R290: the next TAI second. -/
def State.nextSecond (s : State) : Nat := (s.ns / nsPerSec + 1) * nsPerSec

/-- R290: DISCNOW asks for one comparison more. -/
def State.discNow (s : State) : State :=
  (if s.rtc.cmpAt.isSome then { s with rtc := { s.rtc with nowAt := some s.nextSecond } } else s).answer stOk

def execRtcCmdDiscnow (s : State) : Res := .next (s.hostWr Reg.RTC_CMD 2 (·.discNow))

/-- R291: the action on D, here in units of 2^-15 ns: the calendar's lead over UTC. -/
def State.discipline (s : State) (d : Int) (utc : Nat) : State :=
  let us (k : Nat) : Nat := k * 1000 * 32768
  let diff := clampInt (-2147483648) 2147483647 (showNs 290 d 32768000)
  let s1 := s.sput F.RTC_DIFF_D diff
  if d.natAbs < us 61 then { s1.setFlag F.RTC_STAT_SLEWING false with rtc := { s1.rtc with slew := 0 } }
  else if d.natAbs ≤ us 2000000 then
    let n := roundNear d (1000000000) (Config.tieUp 291 d.natAbs)
    { s1.setFlag F.RTC_STAT_SLEWING (decide (n ≠ 0)) with rtc := { s1.rtc with slew := -n } }
  else
    let s2 := { s1.setFlag F.RTC_STAT_SLEWING false with rtc := { s1.rtc with slew := 0 } }
    ((s2.calTake utc (s.ns % nsPerSec * 32768 / nsPerSec)).setFlag F.RTC_STAT_DSTEP true).raiseEv
      { code := 0x915, skip := 1, pay := [ofSigned 32 (showNs 290 d 32768000)] }

/-- R290: the comparison that the schedule, or DISCNOW, asks for is due. -/
def State.schedDue (s : State) : Bool := match s.rtc.cmpAt with | some t => decide (t ≤ s.ns) | none => false
def State.nowDue (s : State) : Bool := match s.rtc.nowAt with | some t => decide (t ≤ s.ns) | none => false

/-- R290: the instants of the comparisons after the one that takes place now; while the UTC value lies outside the range, the next TAI
second. -/
def State.nextCompare (s : State) (inRange : Bool) : State :=
  let at_ := s.rtc.cmpAt.map fun t => if !s.schedDue then t else if inRange then t + (1 + (s.ns - t) / (60 * nsPerSec)) * (60 * nsPerSec)
    else s.nextSecond
  { s with rtc := { s.rtc with cmpAt := at_, nowAt := if s.nowDue then none else s.rtc.nowAt } }

/-- R290: a comparison. -/
def State.rtcCompare (s : State) (sub : Nat) : State :=
  if !s.discActive || !(s.schedDue || s.nowDue) then s
  else match s.utcCal with
    | none => s.nextCompare false
    | some u =>
      let s1 := (s.setSub sub).nextCompare true
      if s.rtc.leap.isSome ∨ s.ns < s.rtc.skipTo then s1
      else
        let cal : Int := (s.calNow * nsPerSec * 32768 + sub * nsPerSec : Nat)
        let utc : Int := ((u * nsPerSec + s.ns % nsPerSec) * 32768 : Nat)
        s1.discipline (cal - utc) u

def execRtcDisciplineCompare (sub : BitVec 15) (s : State) : Res := .next (s.rtcCompare sub.toNat)

/-- R291: after 24 h of discipline the mean slew rate joins RTC_AGE, limited to ±800. -/
def State.rtcAge (s : State) : State :=
  let s1 := s.rollAge
  match s1.rtc.ageDone with
  | some sum =>
    let r := clampInt (-800) 800 (showNs 291 (sum * 8000000000) 2831155200)
    { s1.sput F.RTC_AGE_AGE (s1.sget F.RTC_AGE_AGE + r) with rtc := { s1.rtc with ageDone := none } }
  | none => s1

def execRtcAgeUpdate (s : State) : Res := .next s.rtcAge

/-- R287, R293, R294: a host write of RTC_CVAL sets the selected point; one of RTC_CSEL above 32 is ignored. -/
def State.rtcCval (s : State) (v : Nat) : State :=
  ({ s with rtc := { s.rtc with curve := s.rtc.curve.setIfInBounds (s.get F.RTC_CSEL_POINT) (toSigned 24 (v % 16777216)) } }).answer stOk
def State.rtcCsel (s : State) (v : Nat) : State :=
  if 32 < v % 64 then s.answer stIgnored else (s.put F.RTC_CSEL_POINT v).answer stOk

end Sys2Proof.Machine
end

