-- ==== Sys2Proof/Machine/Mtr.lean ====
section
/-!
DEFINITION. Machine/Mtr.lean: the energy metering front end (chapter 11, R295 to R328): samples, cycles, accumulators, intervals.
-/

namespace Sys2Proof.Machine

/-! ## Channels and conversion (R295 to R298) -/

/-- Channel `c`. -/
def State.mch (s : State) (c : Nat) : MChan := spGet (fun _ => {}) s.mtr.chans c

/-- Replace channel `c`. -/
def State.setMch (s : State) (c : Nat) (x : MChan) : State :=
  { s with mtr := { s.mtr with chans := spSet (fun _ => {}) s.mtr.chans c x } }

/-- Circuit `k`. -/
def State.mcirc (s : State) (k : Nat) : MCirc := spGet (fun _ => {}) s.mtr.circs k

/-- Replace circuit `k`. -/
def State.setMcirc (s : State) (k : Nat) (x : MCirc) : State :=
  { s with mtr := { s.mtr with circs := spSet (fun _ => {}) s.mtr.circs k x } }

/-- R325: full scale of channel `c` at ×1, Q16.16: 800.0 V or 100.0 A unless written. -/
def State.fullScale (s : State) (c : Nat) : Nat :=
  spGet (fun c => if c < 4 then 800 * 65536 else 100 * 65536) s.mtr.gain c

/-- R325: MTR_CALAUX of channel `c`. -/
def State.calAux (s : State) (c : Nat) : Nat := spGet (fun _ => 0) s.mtr.aux c

/-- The largest sample code. -/
def codeMax : Int := 8388607

/-- R299: a sample code at gain index `g`, as a code at ×64. -/
def gainCode (g : Nat) (code : Int) : Int := code * (64 / 4 ^ g : Nat)

/-- R298, R299: a sample code at gain index `g` in units of 2^-45 V or A: code × full scale / 2^23 / 4^g. -/
def State.convert (s : State) (c g : Nat) (code : Int) : Int := gainCode g code * s.fullScale c

/-- Floor of the square root, by bits; `fuel` bounds the bits of the root. -/
def isqrt : Nat → Nat → Nat → Nat
  | 0, _, r => r
  | f + 1, n, r => if (r + 2 ^ f) * (r + 2 ^ f) ≤ n then isqrt f n (r + 2 ^ f) else isqrt f n r

/-- A square root as a register shows it; its rounding is open (assumption log 15). -/
def sqrtShow (n : Nat) : Nat :=
  let r := isqrt 128 n 0
  if r * r = n then r else r + (if Config.fracUp 304 n then 1 else 0)

/-- A quotient as a register shows it, rounding open. -/
def divShow (rule n d : Nat) : Nat := if n % d = 0 then n / d else n / d + (if Config.fracUp rule n then 1 else 0)

/-! ## Samples (R299 to R301) -/

/-- R300: the sample code of channel `c` at ×64; that of a current channel is replaced by the ×1 modulator's when it exceeds the range. -/
def State.pickSample (s : State) (c : Nat) (raw alt : Int) : State × Int :=
  let g := s.get (F.MTR_CSTAT_GAIN c)
  if c < 4 then (s, gainCode 0 (clampInt (-codeMax) codeMax raw))
  else if raw.natAbs ≤ codeMax.natAbs then (s, gainCode g raw)
  else
    let s1 := ((s.setFlag (F.MTR_CSTAT_CLIP c) true).setFlag F.MTR_STAT_CLIP true).incSat F.MTR_CNT2_CLIPS
    (s1.raiseRated nsPerSec 0x605 c, gainCode 0 (clampInt (-codeMax) codeMax alt))

/-- R298: a sample of channel `c` as it is measured: integrated on a Rogowski channel, converted by its full scale, and delayed by the
phase trim. -/
def State.condition (s : State) (c : Nat) (code : Int) : State × Int :=
  let x := s.mch c
  let rog := decide (4 ≤ c) && s.flag (F.MTR_CCTL_INTEG c)
  let code1 := if rog then Config.integrate x.integ code else code
  let v1 := code1 * s.fullScale c
  let ph := toSigned 16 (s.calAux c % 65536)
  let h := (v1 :: x.hist).take 17
  (s.setMch c { x with integ := if rog then code1 else 0, hist := h }, if ph = 0 then v1 else Config.delaySample ph h)

/-- R299: the gain of current channel `c` becomes `g`. -/
def State.setGain (s : State) (c g : Nat) : State :=
  (s.put (F.MTR_CSTAT_GAIN c) g).setMch c { s.mch c with want := none, low := 0 }

/-- R299, R328: a current channel whose gain is fixed has that gain from the next sample. -/
def State.fixGains (s : State) : State :=
  forUp (fun c s =>
    let g := s.get (F.MTR_CCTL_FGAIN c)
    if c < 4 ∨ !s.flag (F.MTR_CCTL_FIXED c) ∨ (s.get (F.MTR_CSTAT_GAIN c) = g ∧ (s.mch c).want = none) then s else s.setGain c g) 28 s

/-- R299, R304: one sample of channel `c`, value `v` (2^-45 units), stamped `t`; a pending gain takes effect at a zero crossing. -/
def State.noteSample (s : State) (c : Nat) (v : Int) (t : Nat) : State :=
  let x := s.mch c
  let neg := decide (v < 0)
  let big := decide (x.peak.natAbs < v.natAbs)
  let x1 := { x with sq := x.sq + v.natAbs * v.natAbs, peak := if big then v else x.peak, peakAt := if big then t else x.peakAt,
                     wave := v :: x.wave, neg := neg }
  let s1 := s.setMch c x1
  match x.want with
  | some g => if neg != x.neg then s1.setGain c g else s1
  | none => s1

/-- R301: the sample duration is measured over each 8,000 samples once the time base is valid. -/
def Mtr.clockSample (m : Mtr) (t : Nat) (valid : Bool) : Mtr :=
  let m1 := { m with n := m.n + 1, last := t, blkN := m.blkN + 1, from_ := if m.from_ = 0 then t else m.from_ }
  if m.blkN = 0 then { m1 with blkFrom := t }
  else if m.blkN = 8000 then { m1 with dur := if valid then t - m.blkFrom else 1000000000, blkN := 1, blkFrom := t }
  else m1

/-- The values of one sampling instant, channel by channel. -/
def State.takeSamples (s : State) (raw alt : List Int) : State × List Int :=
  (List.range 28).foldl (fun (x : State × List Int) c =>
    if x.1.flag (F.MTR_CCTL_EN c) then
      let r := raw.getD c 0
      let p := x.1.pickSample c r (alt.getD c 0)
      let q := p.1.condition c p.2
      (q.1, x.2 ++ [q.2])
    else (x.1, x.2 ++ [0])) (s, [])

/-! ## The cycle (R299, R303 to R309, R316, R320, R321) -/

/-- R309, R323: add to an accumulator; a standby keeps what it measures beside the copied accumulators. -/
def State.accAdd (s : State) (key n : Nat) : State :=
  let add (m : Sp Nat) : Sp Nat := spSet (fun _ => 0) m key (spGet (fun _ => 0) m key + n)
  if s.isStandby then { s with mtr := { s.mtr with own := add s.mtr.own, since := add s.mtr.since } }
  else { s with mtr := { s.mtr with acc := add s.mtr.acc } }

/-- R306: classify a signed energy into import (first key) or export (second). -/
def State.accSign (s : State) (key : Nat) (e : Int) : State := if 0 ≤ e then s.accAdd key e.natAbs else s.accAdd (key + 1) e.natAbs

/-- R299: the gain decision at the end of a cycle of current channel `c`, from the cycle's peak and the present range. -/
def State.gainStep (s : State) (c : Nat) : State :=
  let x := s.mch c
  if c < 4 then s
  else if s.flag (F.MTR_CCTL_FIXED c) then s.setMch c { x with want := none, low := 0 }
  else
    let s0 := match x.want with | some w => s.setGain c w | none => s
    let g := s.get (F.MTR_CSTAT_GAIN c)
    let range := (s.convert c g 8388608).natAbs
    let low := if x.peak.natAbs * 5 < range then x.low + 1 else 0
    let want : Option Nat := if x.want.isSome then none
      else if range * 9 < x.peak.natAbs * 10 ∧ 0 < g then some (g - 1)
      else if 8 ≤ low ∧ g < 3 then some (g + 1) else none
    s0.setMch c { s0.mch c with low := if x.want.isSome then 0 else low, want := want }

/-- R320: the over-current check of channel `c` at the end of a cycle that began at `from_`. -/
def State.ocStep (s : State) (c from_ : Nat) : State :=
  let x := s.mch c
  let th := s.get (F.MTR_CCTL_OCTH c)
  let cyc := s.get (F.MTR_CCTL_OCCYC c)
  let ovr := s.flag (F.MTR_CSTAT_OVR c)
  let on := th ≠ 0 ∧ cyc ≠ 0
  if on ∧ th * 65536 < x.rms * 10 then
    let x1 := { x with ocRun := x.ocRun + 1, ocMax := max x.ocMax x.rms, ocFrom := if x.ocRun = 0 then from_ else x.ocFrom }
    let s1 := s.setMch c x1
    if cyc ≤ x1.ocRun ∧ !ovr then
      (((s1.setFlag (F.MTR_CSTAT_OVR c) true).setFlag F.MTR_STAT_OVER true).incSat F.MTR_OCCNT_OVERS).raise 0x601 c
        [c + cyc * 256, x1.ocMax, (s.ns - x1.ocFrom) / 1000]
    else s1
  else
    let s1 := s.setMch c { x with ocRun := 0, ocMax := 0 }
    if ovr ∧ !(on ∧ th * 65536 = x.rms * 10) then (s1.setFlag (F.MTR_CSTAT_OVR c) false).raise 0x602 c else s1

/-- R321: the peak check of channel `c`. -/
def State.peakStep (s : State) (c from_ : Nat) : State :=
  let x := s.mch c
  let th := s.calAux c / 65536
  if th ≠ 0 ∧ th * 2 ^ 45 < x.peak.natAbs * 10 then
    let s1 := s.incSat F.MTR_OCCNT_PEAKS
    if s1.rateOk 0x603 c nsPerSec then
      (s1.rateMark 0x603 c).raiseEv { code := 0x603, unit := c, stamp := some x.peakAt,
                                      pay := [c, ofSigned 32 (showNs 321 x.peak (2 ^ 29)), x.peakAt - from_] }
    else s1
  else s

/-- R304, R327: the per-cycle quantities of channel `c`; class 2 quantities are stamped with the cycle's end (assumption log 54). -/
def State.chanCycle (s : State) (c n from_ end_ : Nat) (f : Int × Int) : State :=
  let x := s.mch c
  let rms := sqrtShow (x.sq / (n * 2 ^ 58))
  let frms := sqrtShow (f.1 * f.1 + f.2 * f.2).natAbs
  let s1 := ((s.setMch c { x with rms := rms, fre := f.1, fim := f.2 }).put (F.MTR_CRMS_RMS c) rms).put (F.MTR_CFRMS_RMS c) frms
  let s2 := s1.put (F.MTR_CSTAT_PEAK c) (min 65535 (divShow 327 (x.peak.natAbs * 10) (2 ^ 45)))
  let s3 := (s2.noteSense (0x2000 + c) 0x50 rms end_).noteSense (0x2000 + c) 0x51 frms end_
  ((s3.ocStep c from_).peakStep c from_).gainStep c

/-- What one phase of a circuit gives in a cycle: energy, P1 and Q1 (2^-32 W), V × I RMS (2^-32 VA), I² and I1² (2^-32 A²). -/
structure PhaseSum where
  e : Int := 0
  p1 : Int := 0
  q1 : Int := 0
  va : Nat := 0
  i2 : Nat := 0
  i12 : Nat := 0

/-- R305: phase `ph` with current channel `c`. -/
def State.phaseSum (s : State) (ph c : Nat) (a : PhaseSum) : PhaseSum :=
  if c = 0 then a
  else
    let v := s.mch ph
    let i := s.mch c
    { e := a.e + i.e, p1 := a.p1 + v.fre * i.fre + v.fim * i.fim, q1 := a.q1 + v.fim * i.fre - v.fre * i.fim,
      va := a.va + v.rms * i.rms, i2 := a.i2 + i.rms * i.rms, i12 := a.i12 + (i.fre * i.fre + i.fim * i.fim).natAbs }

/-- A signed quotient as a register shows it, rounding open (assumption log 15), and its two's complement word. -/
def quotWord (rule : Nat) (n : Int) (d : Nat) : Word := BitVec.ofInt 32 (showNs rule n d)

/-- A signed quotient rounded to nearest, and its two's complement word; a tie is open (assumption log 7). -/
def nearWord (rule : Nat) (n : Int) (d : Nat) : Word := BitVec.ofInt 32 (roundNear n d (Config.tieUp rule n.natAbs))

/-- R306 to R309: the energies of a channel's own phase. -/
def State.chanEnergy (s : State) (ph c t : Nat) : State :=
  if c = 0 then s
  else
    let v := s.mch ph
    let i := s.mch c
    let p1 := v.fre * i.fre + v.fim * i.fim
    (s.accSign (256 + c * 4) i.e).accSign (256 + c * 4 + 2) (p1 * (t * 2 ^ 58 : Nat))

/-- R316: an energy joins its TAI second. -/
def addSec (l : List (Nat × Int)) (sec : Nat) (e : Int) : List (Nat × Int) :=
  match l with
  | (k, v) :: r => if k = sec then (k, v + e) :: r else (sec, e) :: l
  | [] => [(sec, e)]

/-- R316: the seconds that `done` accepts are complete; those of them that lie wholly in the interval, which began at `lo`, may be the largest. -/
def MCirc.closeSecs (x : MCirc) (lo : Nat) (done : Nat → Bool) : MCirc :=
  let whole := x.secs.filter fun p => done p.1 && decide (lo ≤ p.1 * nsPerSec)
  { x with secs := x.secs.filter (fun p => !done p.1), demand := whole.foldl (fun m p => max m p.2.toNat) x.demand }

/-- R316: a cycle ends; if it is an import cycle its energy joins the seconds in which it lay. -/
def MCirc.demandStep (x : MCirc) (imp : Bool) : MCirc :=
  { x with part := [], secs := if imp then x.part.reverse.foldl (fun l p => addSec l p.1 p.2) x.secs else x.secs }

/-- R313, R316: the instant from which whole seconds of the interval count. -/
def Mtr.secsFrom (m : Mtr) : Nat := max m.start m.runFrom

/-- R326: KSTAT.OVER of circuit `k`: a mapped channel is in over-current. -/
def State.showOver (s : State) (k : Nat) : State :=
  s.setFlag (F.MTR_KSTAT_OVER k) (s.circMapped k && (s.circChans k).any fun c => c != 0 && s.flag (F.MTR_CSTAT_OVR c))

/-- R305: the sums of circuit `k` over its mapped phases in the cycle that ends. -/
def State.circSum (s : State) (k : Nat) : PhaseSum :=
  if s.circMapped k then (List.range 3).foldl (fun a ph => s.phaseSum ph ((s.circChans k).getD ph 0) a) {} else {}

/-- R305: THD in units of `pct` percent; over no current at all it is open (assumption log 7). -/
def PhaseSum.thd (a : PhaseSum) (free : Word) (pct : Nat) : Nat :=
  if a.i12 = 0 then free.toNat else divShow 305 (isqrt 160 ((a.i2 - a.i12) * pct * pct * 2 ^ 64 / a.i12) 0) (2 ^ 32)

/-- R326: KP, KS and KPF of circuit `k` for a cycle lasting `t` / 8,000 ns; a circuit without mapped phases has sums over none. -/
def State.showCirc (s : State) (k t : Nat) (a : PhaseSum) (free : Word) : State :=
  let pf14 := if a.va = 0 then free else nearWord 326 (a.e * 16384) (a.va * t * 2 ^ 58)
  (((s.wr (Reg.MTR_KP k) (quotWord 123 a.e (t * 2 ^ 90))).wr (Reg.MTR_KS k) (BitVec.ofNat 32 (divShow 123 a.va (2 ^ 32)))).put
    (F.MTR_KPF_PF k) pf14.toNat).put (F.MTR_KPF_THD k) (min 65535 (a.thd free 10000))

/-- R306 to R309, R316: circuit `k`, which has channels mapped, at the end of a cycle. -/
def State.circCount (s : State) (k t : Nat) (a : PhaseSum) (free : Word) : State :=
  let ch := s.circChans k
  let ef := a.p1 * (t * 2 ^ 58 : Nat)
  let s1 := (s.accSign (k * 16) a.e).accSign (k * 16 + 2) ef
  let quad := if 0 ≤ a.p1 then (if 0 ≤ a.q1 then 4 else 7) else (if 0 ≤ a.q1 then 5 else 6)
  let s2 := (s1.accAdd (k * 16 + quad) (a.q1.natAbs * t * 2 ^ 58)).accAdd (k * 16 + 8) (a.va * t * 2 ^ 58)
  let s3 := forUp (fun ph s => s.chanEnergy ph (ch.getD ph 0) t) 3 s2
  let pf := if a.va = 0 then free else quotWord 123 (a.e * 65536) (a.va * t * 2 ^ 58)
  let x := ((s3.mcirc k).demandStep (decide (0 ≤ a.e))).closeSecs s3.mtr.secsFrom fun sec => decide (sec < s3.mtr.last / nsPerSec)
  let vals := [quotWord 123 a.e (t * 2 ^ 90), quotWord 123 a.p1 (2 ^ 32), BitVec.ofNat 32 (divShow 123 a.va (2 ^ 32)), pf,
               BitVec.ofNat 32 (a.thd free (100 * 65536)), x.vals.getD 5 0, x.vals.getD 6 0]
  s3.setMcirc k { x with vals := vals, imp := x.imp || decide (0 ≤ a.e), exp := x.exp || decide (a.e < 0),
                         impF := x.impF || decide (0 ≤ ef), expF := x.expF || decide (ef < 0),
                         thd := x.thd + min 65535 (a.thd free 10000), cycles := x.cycles + 1 }

/-- R305 to R309, R326: circuit `k` at the end of a cycle lasting `t` / 8,000 ns. -/
def State.circCycle (s : State) (k t : Nat) : State :=
  let a := s.circSum k
  let free := Config.freeWord s.free
  let s1 := if s.circMapped k then s.circCount k t a free else s
  ((s1.showCirc k t a free).showOver k).takeFree

/-- R309, R327: a channel's accumulators in its registers. -/
def State.showChan (s : State) (c : Nat) : State :=
  let v (i : Nat) : Nat := spGet (fun _ => 0) s.mtr.acc (256 + c * 4 + i) / mwhUnit
  let w (a i : Nat) (s : State) : State := (s.wr a (BitVec.ofNat 32 (v i))).wr (a + 4) (BitVec.ofNat 32 (v i / 4294967296))
  if c < 4 then s
  else w (Reg.MTR_CEXPF_LO c) 3 (w (Reg.MTR_CIMPF_LO c) 2 (w (Reg.MTR_CEXPT_LO c) 1 (w (Reg.MTR_CIMPT_LO c) 0 s)))

/-- R302: the PLL tracks L1, or L2 and then L3 when L1 carries less than 10 % of its full scale in the cycle. -/
def State.pllInput (s : State) : Nat :=
  let low (c : Nat) : Bool := decide (sqrtShow ((s.mch c).sq / (s.mtr.n * 2 ^ 58)) * 10 < s.fullScale c)
  if !low 0 then 0 else if !low 1 then 1 else 2

/-- R302: a frequency (Q16.16) lies in the lock range. -/
def inLock (fnom60 : Bool) (hz : Nat) : Bool :=
  let lo := (if fnom60 then 55 else 45) * 65536
  decide (lo ≤ hz) && decide (hz ≤ lo + 10 * 65536)

/-- R302 to R309: a line cycle ends at `end_`; `settled`: the loop has acquired; `hz`: the frequency of L1, L2 and L3, Q16.16. -/
def State.cycleEnd (s : State) (end_ : Nat) (settled : Bool) (hz : List Nat) : State :=
  if !s.inRunQuiet || s.mtr.n == 0 then s
  else
    let n := s.mtr.n
    let t := n * s.mtr.dur
    let line := hz.getD s.pllInput 0
    let locked := settled && inLock s.mtr.fnom60 line
    let nom := if s.mtr.fnom60 then 60 * 65536 else 50 * 65536
    let s1 := (s.setFlag F.MTR_STAT_FLOCK locked).put F.MTR_FREQ_HZ (if locked then line else nom)
    let s2 := if locked then s1
      else { s1.raiseRated (60 * nsPerSec) 0x604 0 with mtr := { (s1.raiseRated (60 * nsPerSec) 0x604 0).mtr with nolock := true } }
    let s3 := forUp (fun c s => s.noteSense (0x2000 + c) 0x52 (s.get F.MTR_FREQ_HZ) end_) 4 s2
    let s4 := forUp (fun c s => s.chanCycle c n s.mtr.from_ end_ (if s.flag (F.MTR_CCTL_EN c) then
      Config.fundamental (s.get F.MTR_FREQ_HZ) (s.mch c).wave else (0, 0))) 28 s3
    let s5 := forUp (fun k s => s.circCycle k t) 8 s4
    let s6 := forUp (fun c s => s.setMch c { s.mch c with sq := 0, peak := 0, peakAt := 0, wave := [], e := 0 }) 28 s5
    forUp (fun c s => s.showChan c) 28 { s6 with mtr := { s6.mtr with n := 0, from_ := end_ } }

def execMtrCycleEnd (end_ : Nat) (settled : Bool) (hz : List (BitVec 32)) (s : State) : Res :=
  .next (s.cycleEnd end_ settled (hz.map (·.toNat)))

/-! ## Photons (R314) -/

/-- R314: circuit `k` takes the frames of seam `n`. -/
def State.circSeam (s : State) (k n : Nat) : Bool := s.circMapped k && bit (s.get (F.MTR_KSEAM_SEAMS k)) n

/-- R171, R314: the commanded flux of the codes last sent on seam `n`, slots `a` to `b` as far as the seam has nodes, 2^-24 µmol/s. -/
def State.seamFlux (s : State) (n a b : Nat) : Nat :=
  (List.range (min (b + 1) (s.get (F.SEA_NODES_COUNT n)) - a)).foldl (fun t p =>
    let i := n * 128 + a + p
    let c := s.slotCodes s.sme.sent i
    let w := spGet (fun _ => []) s.sme.sentCs i
    t + (List.range 8).foldl (fun t k => t + w.getD k 0 * c.getD k 0) 0) 0

/-- R314: photons whose apply time lies before `t` are counted. -/
def State.photonFlush (s : State) (t : Nat) : State :=
  let due := s.mtr.phot.filter fun p => decide (p.1 < t)
  let s1 := { s with mtr := { s.mtr with phot := s.mtr.phot.filter fun p => !decide (p.1 < t) } }
  forEach (fun p s => s.accAdd (p.2.1 * 16 + 9) p.2.2) due s1

/-- R314: the frames that start at `f` add their photons, to be counted from their apply time; those applied before `f` are counted. -/
def State.photonAccount (s : State) (f : Nat) : State :=
  forUp (fun k s =>
    let fl := (List.range 32).foldl (fun t n =>
      if s.circSeam k n && s.seamOn n then t + s.seamFlux n (s.get (F.MTR_KMAP_FIRST k)) (s.get (F.MTR_KMAP_LAST k)) else t) 0
    if fl = 0 then s
    else { s with mtr := { s.mtr with phot := s.mtr.phot ++ [(f + s.sea.leadUs * 1000, k, fl * s.framePeriod)] } }) 8 (s.photonFlush f)

/-! ## Interval boundaries (R308 to R318, R323) -/

/-- R317: the change of accumulator `i` of circuit `k` over the interval, in its exact unit. -/
def State.delta (s : State) (k i : Nat) : Nat :=
  spGet (fun _ => 0) s.mtr.acc (k * 16 + i) - spGet (fun _ => 0) s.mtr.base (k * 16 + i)

/-- R317: the change in whole units, of the totals as shown. -/
def State.deltaUnits (s : State) (k i : Nat) : Nat :=
  let u := if i = 9 then 16777216 * 1000000000 * 1000 else mwhUnit
  spGet (fun _ => 0) s.mtr.acc (k * 16 + i) / u - spGet (fun _ => 0) s.mtr.base (k * 16 + i) / u

/-- R315: efficacy of the interval × `one`, to nearest as in the worked example of chapter 11; a tie is open (assumption log 7). -/
def State.efficacy (s : State) (k one : Nat) : Nat :=
  let j := s.delta k 0
  if j = 0 then 0
  else (roundNear (s.delta k 9 * 8000 * 2 ^ 90 * one : Nat) (j * 16777216) (Config.tieUp 315 (s.delta k 9 * one))).toNat

/-- R317: the six records of circuit `k` for the interval that ends at `b`. -/
def State.circRecords (s : State) (k b : Nat) : State :=
  if !s.circMapped k then s
  else
    let x := (s.mcirc k).closeSecs s.mtr.secsFrom fun sec => decide ((sec + 1) * nsPerSec ≤ b)
    let u (i : Nat) : Nat := s.deltaUnits k i
    let sat (i : Nat) : Nat := min (u i) 0xFFFFFFFF
    let free := Config.freeWord s.free
    let dem := divShow 316 x.demand (nsPerSec * 8000 * 2 ^ 90)
    let eff := min 65535 (s.efficacy k 4096)
    let app := s.delta k 8
    let pf := if app = 0 then free.toNat % 65536
      else ofSigned 16 (roundNear (((s.delta k 0 : Int) - s.delta k 1) * 16384) app (Config.tieUp 317 app))
    let thd := if x.cycles = 0 then free.toNat % 65536 else divShow 317 x.thd x.cycles
    let anySat (l : List Nat) : Bool := l.any fun i => decide (0xFFFFFFFF < u i)
    let fl (l : List Nat) (more : Bool) : Nat :=
      k + (if x.imp && x.exp then 256 else 0) + (if s.mtr.step then 512 else 0) + (if s.mtr.reset then 1024 else 0) +
        (if anySat l || more then 2048 else 0) + (if x.impF && x.expF then 4096 else 0) + (if s.mtr.nolock then 8192 else 0)
    let rec_ (code hi : Nat) (l : List Nat) (w6 w7 : Nat) (s : State) (more : Bool := false) : State :=
      s.raiseEv { code := code, unit := k, stamp := some b, pay := [fl l more + hi % 65536 * 65536, w6, w7] }
    let len := (b - s.mtr.start) / nsPerSec
    let s1 := rec_ 0x611 0 [2, 3] (sat 2) (sat 3) (rec_ 0x610 len [0, 1] (sat 0) (sat 1) s)
    let s2 := rec_ 0x613 0 [6, 7] (sat 6) (sat 7) (rec_ 0x612 0 [4, 5] (sat 4) (sat 5) s1)
    let s3 := rec_ 0x615 thd [] (min dem 0xFFFFFFFF) pf (rec_ 0x614 eff [8, 9] (sat 8) (sat 9) s2) (decide (0xFFFFFFFF < dem))
    let s4 := ((s3.put (F.MTR_KSTAT_EFF k) eff).setFlag (F.MTR_KSTAT_REV k) (x.imp && x.exp)).setFlag (F.MTR_KSTAT_ZEROE k)
      (s.delta k 0 == 0)
    let vals := (List.range 7).map fun c => if c = 5 then BitVec.ofNat 32 (min (s.efficacy k 65536) 0xFFFFFFFF)
      else if c = 6 then BitVec.ofNat 32 (min dem 0xFFFFFFFF) else x.vals.getD c 0
    (s4.setMcirc k { vals := vals, lastDemand := dem, part := x.part, secs := x.secs }).takeFree

/-- R311: the staged map of circuit `k`. -/
def State.stagedMap (s : State) (k : Nat) : List Nat :=
  let w := s.stagedWord (Reg.MTR_KMAP k)
  [getBits w 0 5, getBits w 5 5, getBits w 10 5]

/-- R311: the staged map as a whole is valid. -/
def State.mapOk (s : State) : Bool :=
  let word (k : Nat) : Word := s.stagedWord (Reg.MTR_KMAP k)
  let named (k : Nat) : List Nat := (s.stagedMap k).filter (· != 0)
  let all := (List.range 8).flatMap fun k => if getBits (word k) 31 1 = 1 then named k else []
  ((List.range 8).all fun k => (named k).all (fun c => decide (4 ≤ c) && decide (c ≤ 27)) && decide (named k).Nodup &&
    decide (getBits (word k) 15 7 ≤ getBits (word k) 22 7)) && decide all.Nodup

/-- R311, R326: the commit of KMAP and KSEAM. -/
def State.mapCommit (s : State) : State :=
  let each (f : Nat → State → State) : State := forUp (fun k s => f (Reg.MTR_KSEAM k) (f (Reg.MTR_KMAP k) s)) 8 s
  if s.mapOk then forUp (fun k s => s.showOver k) 8 (each fun a s => s.commitWord a)
  else (((each fun a s => s.unstage a).setFlag F.MTR_STAT_MAPREF true)).raise 0x608 0

/-- R310: the accumulators are reset. -/
def State.accReset (s : State) : State :=
  let s1 := { s with mtr := { s.mtr with acc := [], accrst := false, reset := true } }
  (forUp (fun c s => s.showChan c) 28 s1).raise 0x606 0

/-- R313: `t` is a boundary of intervals of `l` seconds. -/
def State.isBoundary (s : State) (t l : Nat) : Bool := l != 0 && t % nsPerSec == 0 && s.utcSod t % l == 0

/-- R323: on a standby, its own import totals against the active module's. -/
def State.pairCheck (s : State) : State :=
  if !s.isStandby then s
  else
    let diff (k : Nat) : Bool :=
      let a := s.delta k 0
      let o := spGet (fun _ => 0) s.mtr.own (k * 16)
      let d := (a : Int) - o
      s.circMapped k && decide (a < d.natAbs * 200) && decide (10000 * mwhUnit < d.natAbs)
    match (List.range 8).find? diff with
    | some k => (s.setFlag F.MTR_STAT_PAIRDIFF true).raise 0x609 k
    | none => s

/-- R317, R318: the interval in progress ends at `b`; `step` marks one closed by a step, after which the next begins at `next`. -/
def State.closeInterval (s : State) (b next : Nat) (step commit : Bool) : State :=
  let s0 := s.photonFlush b
  let s1 := forUp (fun k s => s.circRecords k b) 8
    { s0 with mtr := { s0.mtr with step := s0.mtr.step || step } }
  let s2 := s1.pairCheck
  let s3 := { s2 with mtr := { s2.mtr with reset := false, step := step, nolock := false, own := [], start := next } }
  let s4 := if s3.mtr.accrst && commit then s3.accReset else s3
  let s5 := if commit then s4.mapCommit else s4
  let new := s5.get F.MTR_INTV_SEC
  let s6 : State := if commit then
      { s5 with mtr := { s5.mtr with intv := if s5.isBoundary b new then new else s5.mtr.intv, fnom60 := s5.flag F.MTR_CTL_FNOM } }
    else s5
  { s6 with mtr := { s6.mtr with base := s6.mtr.acc } }.wrTime Reg.MTR_INTST_S_LO next

/-- R313, R317: the latest TAI second is a boundary of the interval in force and has not been done. -/
def State.boundaryNow (s : State) : State :=
  let b := s.ns / nsPerSec * nsPerSec
  if s.inRunQuiet && s.isBoundary b s.mtr.intv && decide (s.mtr.start < b) then s.closeInterval b b false true else s

def execIntervalBoundary (s : State) : Res := .next s.boundaryNow

/-! ## Gaps and samples (R296 to R305, R319) -/

/-- A quotient rounded up and saturated to 32 bits. -/
def ceilSat (n d : Nat) : Nat := min ((n + d - 1) / d) 0xFFFFFFFF

/-- R319, R325: a GAP record of circuit `k` has been written. -/
def State.gapRecord (s : State) (k kind w6 w7 : Nat) (stamp : Option Nat) : State :=
  ((s.setFlag F.MTR_STAT_GAP true).incSat F.MTR_CNT2_GAPS).raiseEv
    { code := 0x620, unit := k, stamp := stamp, pay := [k + 256 + kind * 512, w6, w7] }

/-- R319: the gap from `from_`, left by a save of SAVEKIND `kind`, ends at `t`: MTR_GAP of every mapped circuit, and the interval in progress
closed. -/
def State.gapEnd (s : State) (from_ kind t : Nat) : State :=
  let d := t - from_
  (forUp (fun k s => if s.circMapped k then
    s.gapRecord k kind (ceilSat ((s.mcirc k).lastDemand * d) 3600000000) (ceilSat d nsPerSec) (some t) else s) 8 s).closeInterval t t false false

/-- R297: group delay of the decimation filter, ns. -/
def groupDelay : Nat := 1125000

/-- R305, R316: the energy of one instant `t` on circuit `k`, whose phase voltages and channels have the values `v`. -/
def State.circSample (s : State) (k t : Nat) (v : Nat → Int) : State :=
  if s.circMapped k then
    forUp (fun ph s =>
      let c := (s.circChans k).getD ph 0
      if c = 0 then s
      else
        let e := v ph * v c * s.mtr.dur
        let s1 := s.setMch c { s.mch c with e := (s.mch c).e + e }
        s1.setMcirc k { s1.mcirc k with part := addSec (s1.mcirc k).part (t / nsPerSec) e }) 3 s
  else s

/-- R253, R296, R297, R305: the samples whose modulator instant is `m` are taken into the cycle, stamped with the sampling instant. -/
def State.mtrSample (s : State) (m : Nat) (raw alt : List Int) : State :=
  if !s.inRunQuiet then s
  else
    let t := m - groupDelay
    let x := s.fixGains.takeSamples raw alt
    let vs := x.2
    let v (c : Nat) : Int := if c < 3 ∧ s.flag (F.MTR_CCTL_EN c) then vs.getD c 0 - vs.getD 3 0 else vs.getD c 0
    let s1 := forUp (fun c s => s.noteSample c (v c) t) 28 x.1
    let s2 := forUp (fun k s => s.circSample k t v) 8 s1
    { s2 with mtr := s2.mtr.clockSample t (s2.flag F.TBU_STAT_VALID) }

def execMtrSample (t : Nat) (raw alt : List Int) (s : State) : Res := .next (s.mtrSample t raw alt)

/-! ## Host writes (R310, R313, R325) -/

/-- R310: ACCRST with its CONFIRM value. -/
def State.accrstCmd (s : State) (confirm : Nat) : State :=
  (if confirm = 0x4D52 then { s with mtr := { s.mtr with accrst := true } } else s).answer stOk

def execMtrCmdAccrst (confirm : BitVec 16) (s : State) : Res :=
  .next (s.hostWr Reg.MTR_CMD (1 + confirm.toNat * 65536) fun s => s.accrstCmd confirm.toNat)

/-- R313: MTR_INTV. -/
def State.mtrIntv (s : State) (v : Nat) : State :=
  let t := v % 4096
  (if t ≠ 0 ∧ 3600 % t = 0 then s.put F.MTR_INTV_SEC t else (s.setFlag F.MTR_STAT_INTVREF true).raise 0x607 0).answer stOk

def execMtrIntvWrite (v : BitVec 32) (s : State) : Res := .next (s.hostWr Reg.MTR_INTV v.toNat (·.mtrIntv v.toNat))

/-- R325: the calibration of the selected channel. -/
def State.mtrCalgain (s : State) (v : Nat) : State :=
  let c := s.get F.MTR_CALSEL_CH
  { s with mtr := { s.mtr with gain := spSet (fun c => if c < 4 then 800 * 65536 else 100 * 65536) s.mtr.gain c (v % 4294967296) } }.answer stOk
def State.mtrCalaux (s : State) (v : Nat) : State :=
  { s with mtr := { s.mtr with aux := spSet (fun _ => 0) s.mtr.aux (s.get F.MTR_CALSEL_CH) (v % 4294967296) } }.answer stOk
/-- R327: MTR_CCTL; INTEG, FIXED and FGAIN are reserved on channels 0 to 3, and a disabled channel reads 0. -/
def State.mtrCctl (s : State) (c v : Nat) : State :=
  let s1 := s.wr (Reg.MTR_CCTL c) (BitVec.ofNat 32 (v &&& (if c < 4 then 0xFFFFFF01 else 0xFFFFFF1F)))
  let s2 := if bit v 0 then s1
    else (((s1.put (F.MTR_CRMS_RMS c) 0).put (F.MTR_CFRMS_RMS c) 0).put (F.MTR_CSTAT_PEAK c) 0).setMch c
      { s1.mch c with rms := 0, fre := 0, fim := 0, sq := 0, peak := 0, peakAt := 0, wave := [], integ := 0, hist := [], e := 0 }
  s2.answer stOk
def State.mtrCalsel (s : State) (v : Nat) : State := if 27 < v % 32 then s.answer stIgnored else (s.put F.MTR_CALSEL_CH v).answer stOk

end Sys2Proof.Machine
end

