-- ==== Sys2Proof/Machine/Lop.lean ====
section
/-!
DEFINITION. Machine/Lop.lean: long operations (chapter 14, R403 to R408; R88, R131, R197, R352, R381, R383, R478).  A command of an
operation starts it on an IDLE slot and otherwise carries out its next step; LOP_DONE ends it.
-/

namespace Sys2Proof.Machine

/-! ## Slots (R403 to R405) -/

/-- Long-operation slot `n`. -/
def State.lslot (s : State) (n : Nat) : LopSlot := spGet (fun _ => {}) s.lop n

/-- Replace long-operation slot `n`. -/
def State.setLslot (s : State) (n : Nat) (x : LopSlot) : State := { s with lop := spSet (fun _ => {}) s.lop n x }

/-- State of slot `n` (R404). -/
def State.lopState (s : State) (n : Nat) : Nat := s.get (F.LOP_STAT_STATE n)

/-- R404: the operation of slot `n` is to end in state `st` with error `err`. -/
def State.lopFin (s : State) (n st err : Nat) : State :=
  s.setLslot n { s.lslot n with fin := some ((s.lslot n).fin.getD (st, err)) }

/-- R404: the operation of slot `n` fails. -/
def State.lopFail (s : State) (n err : Nat) : State := s.lopFin n 4 err

/-- R404: percent done of slot `n`. -/
def State.lopPct (s : State) (n p : Nat) : State := s.put (F.LOP_STAT_PCT n) (min p 100)

/-- R404: the operation of slot `n` ends DONE with a completion note. -/
def State.lopGood (s : State) (n note : Nat) : State := (s.lopPct n 100).lopFin n 3 note

/-- Store address of result word `j` of slot `n`. -/
def lopWord (n j : Nat) : Nat := lopBase + n * 0x2000 + j % 2048 * 4

/-- R405: the next result word of slot `n`; the operation pauses when 2,048 words have not been acknowledged. -/
def State.lopPush (s : State) (n : Nat) (w : Word) : State :=
  let j := s.get (F.LOP_PART_COUNT n)
  let s1 := (s.wr (lopWord n j) w).put (F.LOP_PART_COUNT n) (j + 1)
  if 2048 ≤ j + 1 - s.get (F.LOP_RACK_WORDS n) then s1.put (F.LOP_STAT_STATE n) 2 else s1

/-- Consecutive result words, for an operation whose words fit in the area. -/
def State.lopWords (s : State) (n : Nat) (ws : List Word) : State :=
  (s.wrs (lopWord n 0) ws).put (F.LOP_PART_COUNT n) ws.length

/-- R134: SHA-256 over the calibration memory. -/
def State.calHash (s : State) : List Nat :=
  Crypto.sha256 ((List.range 4096).flatMap fun i => if (s.lum i).rec_ = .empty then List.replicate 512 0 else s.rdBytes (calAddr i) 0 512)

/-- The words of a byte string, most significant byte first. -/
def bytesWords (b : List Nat) : List Word := (Crypto.chunks 4 (b.length / 4) b).map fun q => BitVec.ofNat 32 (Crypto.ofBytes q)

/-- R134: SME_CHASH. -/
def State.calRehash (s : State) : State := s.wrs (Reg.SME_CHASH 0) (bytesWords s.calHash)

/-- R403, R404: the operation of slot `n` has ended. -/
def State.lopEnd (s : State) (n st err : Nat) : State :=
  let c := s.get (F.LOP_STAT_CODE n)
  let s1 := (s.put (F.LOP_STAT_STATE n) st).put (F.LOP_STAT_ERR n) err
  let s2 := s1.setLslot n {}
  let s3 : State := if c = 3 then { s2 with sea := { s2.sea with img := none, imgGo := false } }
    else if c = 1 then { s2.calRehash with sme := { s2.calRehash.sme with calEnded := true } }
    else if c = 4 then { s2 with sru := { s2.sru with img := none } } else s2
  s3.raise 0xC10 n [n + c * 256 + st * 65536 + err * 16777216]

/-- R131, R403: the step in progress of slot `n` has not completed: a CALLOAD record waits for its installation. -/
def State.lopStepOpen (s : State) (n : Nat) : Bool := s.get (F.LOP_STAT_CODE n) == 1 && s.sme.install.isSome

/-- R403: the operation of slot `n` ends, once its outcome is known and its step has completed. -/
def State.lopDone (s : State) (n : Nat) : State :=
  match (s.lslot n).fin with
  | some (st, err) => if s.lopState n = 1 ∧ !s.lopStepOpen n then s.lopEnd n st err else s
  | none => s

def execLopDone (slot : BitVec 3) (s : State) : Res := .next (s.lopDone slot.toNat)

/-- R403, R405: ABORT. -/
def State.lopAbort (s : State) (n : Nat) : State :=
  (if s.lopState n = 1 then s.lopFin n 5 0xFD else if s.lopState n = 2 then s.lopEnd n 5 0xFD else s).answer stOk

def execLopAbort (slot : BitVec 3) (s : State) : Res := .next (s.hostWr (Reg.LOP_CMD slot.toNat) 0xFE (·.lopAbort slot.toNat))

/-- R405: CLEAR. -/
def State.lopClear (s : State) (n : Nat) : State :=
  (if 3 ≤ s.lopState n then
    let c := s.get (F.LOP_STAT_CODE n)
    (((forUp (fun j s => s.wr (lopWord n j) 0) 2048 s).wr (Reg.LOP_STAT n) 0).put (F.LOP_STAT_CODE n) c).put (F.LOP_PART_COUNT n) 0
      |>.put (F.LOP_RACK_WORDS n) 0
  else s).answer stOk

def execLopClear (slot : BitVec 3) (s : State) : Res := .next (s.hostWr (Reg.LOP_CMD slot.toNat) 0xFF (·.lopClear slot.toNat))

/-- R405: LOP_RACK. -/
def State.lopRack (s : State) (n v : Nat) : State :=
  let s1 := s.put (F.LOP_RACK_WORDS n) v
  (if s.lopState n = 2 ∧ s1.get (F.LOP_PART_COUNT n) - s1.get (F.LOP_RACK_WORDS n) < 2048 then s1.put (F.LOP_STAT_STATE n) 1
   else s1).answer stOk

def execLopRackWrite (slot : BitVec 3) (v : BitVec 32) (s : State) : Res :=
  .next (s.hostWr (Reg.LOP_RACK slot.toNat) v.toNat fun s => s.lopRack slot.toNat v.toNat)

/-- R403: the operation of code `c` begins in the IDLE slot `n`. -/
def State.lopBegin (s : State) (n c : Nat) : State :=
  (((s.put (F.LOP_STAT_STATE n) 1).put (F.LOP_STAT_CODE n) c).put (F.LOP_STAT_PCT n) 0).setLslot n {}

/-- R403: a start with an unknown code. -/
def State.lopUnknown (s : State) (n c : Nat) : State := (s.lopBegin n c).lopEnd n 4 0xFF

/-- R403: an operation of code `c` runs in a slot other than `n`. -/
def State.lopOther (s : State) (n c : Nat) : Bool :=
  (List.range 8).any fun m => m != n && s.get (F.LOP_STAT_CODE m) == c && (s.lopState m == 1 || s.lopState m == 2)

/-! ## The update-domain signature (R88, R197, R352, R432) -/

/-- R379: the check of an image of `len` bytes at store address `a`, body then signature: 0, 5 for a bad signature, 6 for the key. -/
def State.signErr (s : State) (a len : Nat) : Nat :=
  match s.keyFor (s.get F.KST_DOMAIN_UPDATE) 4 with
  | none => 6
  | some pk => if 64 ≤ len ∧ Crypto.edVerify pk (s.rdBytes a 0 (len - 64)) (s.rdBytes a (len - 64) 64) then 0 else 5

/-- R378: a signature was to be checked with error `e`; an INVALID or ORPHANED update key is a use refused. -/
def State.signUse (s : State) (e : Nat) : State := if e = 6 then s.keyRefused (s.get F.KST_DOMAIN_UPDATE) else s

/-! ## CALLOAD (R131 to R134) -/

/-- R132: CALLOAD starts. -/
def State.calStart (s : State) (n : Nat) : State :=
  let f := s.get F.SME_CALIDX_FIRST
  let c := s.get F.SME_CALIDX_COUNT
  if c = 0 ∨ 64 < c ∨ 4096 < f + c then s.lopFail n 1
  else if s.get F.SME_CALPTR_PTR < c * 512 then s.lopFail n 2
  else if s.isStandby then s.lopFail n 6
  else if s.lopOther n 1 then s.lopFail n 7
  else s.setLslot n { query := [f, c] }

/-- R131, R132: one record of slot `n`'s CALLOAD has been rejected or installed with result `r`. -/
def State.calRecorded (s : State) (n r : Nat) : State :=
  let x := s.lslot n
  let c := x.query.getD 1 1
  let s1 := (s.setLslot n { x with pos := x.pos + 1, bad := x.bad || r != 0 }).lopPush n (BitVec.ofNat 32 (x.query.getD 0 0 + x.pos + r * 4096))
  let s2 := s1.lopPct n ((x.pos + 1) * 100 / c)
  if c ≤ x.pos + 1 then (if x.bad || r != 0 then s2.lopFail n 3 else s2.lopGood n 0) else s2

/-- R131, R134: the next record is checked and written to flash. -/
def State.calStep (s : State) (n : Nat) (flashOk : Bool) : State :=
  if s.sme.install.isSome then s
  else
    let x := s.lslot n
    let i := x.query.getD 0 0 + x.pos
    let a := calStage + 512 * x.pos
    let r := s.recCheck a
    if r ≠ 0 then s.calRecorded n r
    else if !flashOk then s.calRecorded n 5
    else
      let s1 := s.copyRec a (calFlashAddr i)
      let s2 : State := { s1 with sme := { s1.sme with install := some i, installAck := !s1.activePaired } }
      if s2.activePaired then s2.emit (.calRecord i (s2.rds (calFlashAddr i) 128)) else s2

/-- R131, R132: slot `n` holds the CALLOAD whose records are being processed. -/
def State.loadsCal (s : State) (n : Nat) : Bool :=
  s.get (F.LOP_STAT_CODE n) == 1 && s.lopState n == 1 && (s.lslot n).query != []

/-- R131: at a frame start the record that has been written (and, in a pair, acknowledged) is installed. -/
def State.installStep (s : State) : State :=
  if s.sme.install.isSome && s.sme.installAck then
    let s1 := s.installPending
    match (List.range 8).find? s1.loadsCal with
    | some n => s1.calRecorded n 0
    | none => s1
  else s

def execCalloadRecordInstall (s : State) : Res := .next (if s.inRunQuiet && s.frameDue then s.installStep else s)

/-! ## PATLOAD (R84 to R88) -/

/-- R85, R88: the bobbin table entry of bobbin `b` at store address `a`, in a program of `l` instructions. -/
def State.entryOk (s : State) (a l b : Nat) : Bool :=
  let k := 64 + 16 * b
  decide (s.rdBE a k 1 ≤ 1) && decide (s.rdBE a (k + 1) 1 ≤ 3) && decide (s.rdBE a (k + 2) 2 < l) && decide (1 ≤ s.rdBE a (k + 4) 4) &&
    decide (s.rdBE a (k + 4) 4 ≤ 16777215) && decide (1 ≤ s.rdBE a (k + 10) 2) &&
    decide (s.rdBE a (k + 8) 2 + s.rdBE a (k + 10) 2 ≤ 512) && s.rdBE a (k + 12) 4 == 0

/-- R84: the records of an image: byte offsets and lengths of `d` of them from image byte `k`, and where they end; none when one
lies beyond `len` bytes. -/
def State.initRecs (s : State) (a len : Nat) : Nat → Nat → Option (List (Nat × Nat) × Nat)
  | k, 0 => some ([], k)
  | k, d + 1 =>
    let n := s.rdBE a (k + 4) 4
    if len < k + 8 + n then none else (s.initRecs a len (k + 8 + n) d).map fun r => ((s.rdBE a k 4, n) :: r.1, r.2)

/-- R84, R86: the length of the staged image, when every length lies inside the staged bytes.  K or D above 256 counts as a length that is
not right (assumption log 49). -/
def State.imageLen (s : State) : Option Nat :=
  let a := penStage
  let st := s.get F.PEN_IMGPTR_PTR
  let l := s.rdBE a 8 4
  let k := s.rdBE a 12 2
  let d := s.rdBE a 14 2
  if st < 640 ∨ l = 0 ∨ 65536 < l ∨ 256 < k ∨ 256 < d ∨ st < 576 + 4 * l + 256 * k then none
  else
    match s.initRecs a st (576 + 4 * l + 256 * k) d with
    | some r => if r.2 + 64 ≤ st then some (r.2 + 64) else none
    | none => none

/-- R88 step 3: 0, or the error code of the table or of the records of the staged image of `len` bytes. -/
def State.tableErr (s : State) (len : Nat) : Nat :=
  let a := penStage
  let l := s.rdBE a 8 4
  let ok (r : Nat × Nat) : Bool := r.1 % 4 == 0 && r.2 % 4 == 0 && decide (r.1 + r.2 ≤ 0x20000)
  if !(List.range 32).all (fun b => s.entryOk a l b) then 3
  else
    match s.initRecs a len (576 + 4 * l + 256 * s.rdBE a 12 2) (s.rdBE a 14 2) with
    | some r => if r.1.all ok then 0 else 4
    | none => 4

/-- R76, R83, R88: program and curve bank `k` take the flash image. -/
def State.loadBank (s : State) (k : Nat) : State :=
  let fix (a : Nat) (s : State) : State := (s.wr a (s.flashWord a)).parFix a
  forUp (fun i s => fix (curveAddr k 0 i) s) 16384 (forUp (fun i s => fix (progAddr k i) s) 65536 s)

/-- R88 step 5: the staged image of `len` bytes goes to the flash image of bank `k` and is loaded. -/
def State.storeImage (s : State) (k len : Nat) : State :=
  (forUp (fun j s => s.wr (penFlashAt k + 4 * j) (s.rd (penStage + 4 * j))) ((len + 3) / 4) s).loadBank k

/-- R88: step `x.pos` + 1 of PATLOAD in slot `n`.  The image is what step 2 has checked, whatever becomes of the staging pointer
meanwhile. -/
def State.patStep (s : State) (n : Nat) (flashOk : Bool) : State :=
  let x := s.lslot n
  let idle := 1 - s.get F.PEN_STAT_ACTIVE
  let next (pct : Nat) (s : State) : State :=
    ((s.setLslot n { s.lslot n with pos := x.pos + 1 }).put (F.LOP_PART_COUNT n) (x.pos + 1)).lopPct n pct
  let len := x.query.headD 0
  match x.pos with
  | 0 => if s.flag F.PEN_STAT_ARMED then s.lopFail n 7 else next 0 s
  | 1 =>
    if s.rdBE penStage 0 4 ≠ 0x46515049 ∨ s.rdBE penStage 4 2 ≠ 1 then s.lopFail n 1
    else
      match s.imageLen with
      | some k => next 5 (s.setLslot n { x with query := [k] })
      | none => s.lopFail n 2
  | 2 => if s.tableErr len ≠ 0 then s.lopFail n (s.tableErr len) else next 10 s
  | 3 => let e := s.signErr penStage len; if e ≠ 0 then (s.signUse e).lopFail n e else next 20 s
  | 4 =>
    let s1 := s.put F.PEN_STAT_IDLEST 1
    if flashOk then next 95 (s1.storeImage idle len) else (s1.put F.PEN_STAT_IDLEST 3).lopFail n 8
  | _ =>
    let h := Crypto.sha256 (s.rdBytes (penFlashAt idle) 0 len)
    (next 100 (((s.wrs (Reg.PEN_IHASH_I 0) (bytesWords h)).wr Reg.PEN_IID (BitVec.ofNat 32 (s.rdBE penStage 16 4))).put
      F.PEN_STAT_IDLEST 2)).lopGood n 0

/-! ## NODEIMG (R197) -/

/-- R197: the seams that NODEIMG serves. -/
def State.imgSeams (s : State) (g : NodeImg) : List Nat := (List.range 32).filter fun n => bit g.mask n && s.seamOn n

/-- R197: slots of seam `n` whose node takes images, whatever the state of the slot. -/
def State.imgNodes (s : State) (n : Nat) : List Nat :=
  (List.range 128).filter fun p => s.get (F.NT_STATE (n * 128 + p)) != 0 && bit (s.get (F.NT_CAP (n * 128 + p))) 4

/-- R197: the distribution of another node image begins, or the present one ends. -/
def State.takeImage (s : State) (g : Option NodeImg) : State :=
  let s0 : State := { s with sea := { s.sea with slots := s.sea.slots.map fun p => (p.1, { p.2 with image := 0 }) } }
  let s1 := forUp (fun m s => s.setSeam m { s.seam m with imgNext := 0, imgAct := false }) 32 s0
  { s1 with sea := { s1.sea with img := g, imgTold := false, imgGo := false } }

/-- R197: NODEIMG starts: the signature is verified. -/
def State.nodeImgStart (s : State) (n : Nat) : State :=
  let len := s.get F.SEA_IMGPTR_PTR
  let e := s.signErr seaStage len
  if s.lopOther n 3 then s.lopFail n 7
  else if e ≠ 0 then (s.signUse e).lopFail n e
  else
    let g : NodeImg := { id := (Config.freeWord s.free).toNat, body := s.rdBytes seaStage 0 (len - 64), mask := s.get F.SEA_IMGMASK_SEAMS }
    s.takeFree.takeImage (some g)

/-- R197: ACTIVATE waits on, or is outstanding on, seam `n`. -/
def State.activating (s : State) (n : Nat) : Bool :=
  let x := s.seam n
  x.imgAct || (x.queue.any fun r => r.kind == .activate) || (x.outst.any fun c => c.kind == .activate)

/-- R197: ACTIVATE is queued on every seam that the image is for. -/
def State.activateAll (s : State) (g : NodeImg) : State :=
  forEach (fun m s => if s.activating m then s
    else s.queueOwn m [{ kind := .activate, target := 255, items := [⟨5, 0, g.id⟩], at_ := some (s.rdTime Reg.SEA_IMGAT_S_LO) }]) (s.imgSeams g) s

/-- R189, R417: with a state copy, both modules of a pair have the image, and queue an ACTIVATE that is due. -/
def State.imageCopied (s : State) (go : Bool) : State :=
  let s1 : State := { s with sea := { s.sea with imgTold := s.sea.img.isSome, imgGo := false } }
  match s1.sea.img with
  | some g => if go then s1.activateAll g else s1
  | none => s1

/-- R197: progress of NODEIMG: blocks acknowledged over blocks needed; then ACTIVATE (in a pair with the next state copy). -/
def State.nodeImgStep (s : State) (n : Nat) : State :=
  match s.sea.img with
  | none => s
  | some g =>
    let l := s.imgSeams g
    let got := l.foldl (fun t m => t + min (s.seam m).imgNext g.blocks) 0
    let s1 := s.lopPct n (if g.blocks * l.length = 0 then 100 else got * 100 / (g.blocks * l.length))
    let ready := l.all fun m => decide (g.blocks ≤ (s.seam m).imgNext) &&
      (s.imgNodes m).all fun p => (s.nslot (m * 128 + p)).image / 4096 == 2
    if l.all fun m => (s.seam m).imgAct then s1.lopGood n 0
    else if ready then (if s.activePaired then { s1 with sea := { s1.sea with imgGo := true } } else s1.activateAll g)
    else s1

/-! ## RADIOIMG (R352) -/

/-- R352: RADIOIMG starts. -/
def State.radioImgStart (s : State) (n : Nat) : State :=
  let len := s.get F.SRU_IMGPTR_PTR
  let e := s.signErr sruStage len
  if s.lopOther n 4 then s.lopFail n 7
  else if e ≠ 0 then (s.signUse e).lopFail n e
  else
    let nodes := s.placed.filter fun i => (s.rnode i).canImage
    let g : RImage := { id := (Config.freeWord s.free).toNat, body := s.rdBytes sruStage 0 (len - 64), nodes := nodes }
    let s1 := forEach (fun i s => s.setRnode i { s.rnode i with image := 0, act := none }) nodes s.takeFree
    { s1 with sru := { s1.sru with img := some g } }

/-- R352: progress of RADIOIMG. -/
def State.radioImgStep (s : State) (n : Nat) : State :=
  match s.sru.img with
  | none => s
  | some g =>
    let done := (g.nodes.filter fun i => (s.rnode i).image == 2).length
    let s1 := (s.lopPct n (if g.nodes.length = 0 then 100 else done * 100 / g.nodes.length)).imageProgress
    if g.activated && g.nodes.all (fun i => (s.rnode i).act.isNone) then s1.lopGood n 0 else s1

/-! ## KEYGEN and ATTEST (R381, R383) -/

/-- R381: KEYGEN. -/
def State.keygenRun (s : State) (n : Nat) : State :=
  let k := s.get F.KST_SEL_SLOT
  let x := s.kslot k
  if !((x.st == .new || x.st == .active) && x.type == 5 && x.use == 32) then s.lopFail n 1
  else if s.lopOther n 9 || s.lopOther n 5 then s.lopFail n 7
  else
    let info := [0x46, 0x51, 0x41, 0x4B] ++ Crypto.toBytes 4 (s.get F.KST_EPOCH_EPOCH)
    let seed := Crypto.hkdf s.moduleId rootKey info 32
    ((s.setKslot k { x with pend := .written, pkey := seed, gen := true }).lopWords n (bytesWords (Crypto.edPublic seed))).lopGood n 0

/-- R383: bytes 0 to 163 of the statement for verifier index `v`. -/
def State.statement (s : State) (v : Nat) : List Nat :=
  let ws (a k : Nat) : List Nat := (s.rds a k).flatMap wordBytes
  Crypto.toBytes 4 0x46514154 ++ [0, 1, v, 0] ++ ws (Reg.KST_VER v) 1 ++ ws (Reg.KST_NONCE 0) 4 ++ s.moduleId ++ ws (Reg.KST_SERIAL 0) 4 ++
    ws (Reg.KST_UHASH 0) 8 ++ ws (Reg.PEN_IHASH_A 0) 8 ++ ws (Reg.SME_CHASH 0) 8 ++ Crypto.toBytes 4 (s.get F.KST_EPOCH_EPOCH) ++
    Crypto.toBytes 6 (s.ns / nsPerSec) ++ Crypto.toBytes 4 (s.ns % nsPerSec) ++ [0, 0]

/-- R383: ATTEST. -/
def State.attestRun (s : State) (n : Nat) : State :=
  let v := s.get F.KST_ATTSEL_IDX
  let id := s.rd (Reg.KST_VER v)
  let a := s.get F.KST_DOMAIN_ATTEST
  if id = 0 then s.lopFail n 1
  else
    match s.keyFor a 5 with
    | none => (s.keyRefused a).lopFail n 6
    | some seed =>
      if s.lopOther n 9 || s.lopOther n 5 then s.lopFail n 7
      else
        let b := s.statement v
        ((s.lopWords n (bytesWords (b ++ Crypto.edSign seed b))).raiseEv { code := 0x808, unit := a, skip := 1, pay := [id.toNat] }).lopGood n 0

/-! ## JSEARCH (R406) -/

/-- R406: JSEARCH starts: the query is captured. -/
def State.searchStart (s : State) (n : Nat) : State :=
  let q := [s.get F.JNL_QCODE_LO, s.get F.JNL_QCODE_HI, s.get F.JNL_QSRC_VAL, s.get F.JNL_QSRC_MASK, s.rdTime Reg.JNL_QFROM_S_LO,
            ((s.rd Reg.JNL_QTO_S_LO).toNat + (s.rd Reg.JNL_QTO_S_HI).toNat % 65536 * 4294967296) * nsPerSec + 999999999, s.jnlOldest]
  s.setLslot n { pos := s.jnlOldest, stop := s.get F.JNL_WPTR_NUM, query := q }

/-- R406: a record matches the query. -/
def matchRec (q : List Nat) (r : EvRec) : Bool :=
  decide (q.getD 0 0 ≤ r.code) && decide (r.code ≤ q.getD 1 0) &&
    ((BitVec.ofNat 16 (getBits r.w0 0 16) ^^^ BitVec.ofNat 16 (q.getD 2 0)) &&& BitVec.ofNat 16 (q.getD 3 0)) == 0#16 &&
    decide (q.getD 4 0 ≤ r.time) && decide (r.time ≤ q.getD 5 0)

/-- R406: up to `fuel` records are examined; a record that fails its CRC is first repaired (by JNL_REPAIR). -/
def State.searchRun (s : State) (n : Nat) : Nat → State
  | 0 => s
  | fuel + 1 =>
    let x := s.lslot n
    if s.lopState n ≠ 1 then s
    else if x.pos = x.stop then s.lopGood n (if x.bad then 1 else 0)
    else if !s.jnlHas x.pos then
      let left := (x.stop + 4294967296 - s.jnlOldest) % 4294967296
      (s.setLslot n { x with pos := if left ≤ jnlSize then s.jnlOldest else x.stop, bad := true }).searchRun n fuel
    else
      let r := s.jnlRec x.pos
      if !r.crcOk then s
      else
        let s1 := s.setLslot n { x with pos := (x.pos + 1) % 4294967296 }
        let b := x.query.getD 6 0
        let all := (x.stop + 4294967296 - b) % 4294967296
        let s2 := s1.lopPct n ((x.pos + 1 + 4294967296 - b) % 4294967296 * 100 / all)
        (if matchRec x.query r then s2.lopPush n (BitVec.ofNat 32 x.pos) else s2).searchRun n fuel

/-! ## SELFTEST (R407) and HOLDTEST (R478, R479) -/

/-- R407: a bank of program and curve memory has this many words that differ from its flash image. -/
def State.bankBad (s : State) (k : Nat) : Nat :=
  let bad (a : Nat) : Bool := s.parBad a || s.rd a != s.flashWord a
  ((List.range 65536).filter fun i => bad (progAddr k i)).length + ((List.range 16384).filter fun i => bad (curveAddr k 0 i)).length

/-- R407: failures that test `t` finds; those of a test of hardware are `hw`. -/
def State.testFailures (s : State) (t hw : Nat) : Nat :=
  match t with
  | 1 => s.bankBad (s.get F.PEN_STAT_ACTIVE) + (if s.get F.PEN_STAT_IDLEST = 2 then s.bankBad (1 - s.get F.PEN_STAT_ACTIVE) else 0)
  | 2 => (s.sme.lums.filter fun p => p.2.rec_ != .empty && crc32 (s.rdBytes (calAddr p.1) 0 508) != s.recU (calAddr p.1) 508 4).length
  | 6 => ((List.range (s.get F.JNL_COUNT_RECS)).filter fun k => !(s.jnlRec (s.jnlOldest + k)).crcOk).length
  | 7 => (if s.phu.held0 && s.phu.bank0.isNone then 1 else 0) + (if s.phu.held1 && s.phu.bank1.isNone then 1 else 0)
  | _ => hw

/-- R407: the next test of SELFTEST in slot `n`. -/
def State.testStep (s : State) (n hw : Nat) : State :=
  let x := s.lslot n
  let t := x.pos + 1
  let skip := t == 8 && !(s.activePaired || s.isStandby)
  let f := if skip then 0 else min 65535 (s.testFailures t hw)
  let w := t + (if skip then 2 else if f = 0 then 0 else 1) * 256 + f * 65536
  let s1 := ((s.setLslot n { x with pos := t, bad := x.bad || f != 0 }).lopPush n (BitVec.ofNat 32 w)).lopPct n (t * 100 / 8)
  if 8 ≤ t then s1.lopGood n (if x.bad || f != 0 then 3 else 0) else s1

/-- R474, R478, R479: a result of `c` µF. -/
def State.capResult (s : State) (c : Nat) : State :=
  let s1 := ((s.put F.PHU_CAP_UF (min c 65535)).wrTime Reg.PHU_CAPAT_S_LO s.ns).setFlag F.PHU_STAT_LIMITED (decide (c < 400))
  let s2 : State := { s1 with phu := { s1.phu with capFlash := min c 65535, htLast := some s.ns } }
  let s3 := if c < s2.get F.PHU_CAPWARN_UF then s2.raise 0x007 0 else s2
  if c < 400 then s3.raise 0x008 0 else s3

/-- R478: the discharge of HOLDTEST in slot `n` has taken `us` µs: C = 0.1 A × t / 2.0 V. -/
def State.holdStep (s : State) (n us : Nat) (dip : Bool) : State :=
  if dip then s.lopFail n 1
  else
    let c := divShow 478 us 20
    ((s.lopWords n [BitVec.ofNat 32 c]).capResult c).lopGood n 0

/-! ## STATEDUMP (R408) -/

/-- R405, R408: `fuel` of the waiting words are written. -/
def State.dumpRun (s : State) (n : Nat) : Nat → State
  | 0 => s
  | fuel + 1 =>
    match (s.lslot n).todo with
    | some (w :: ws) =>
      if s.lopState n ≠ 1 then s
      else
        let c := s.get (F.LOP_PART_COUNT n) + 1
        (((s.setLslot n { s.lslot n with todo := some ws }).lopPush n w).lopPct n (c * 100 / (c + ws.length))).dumpRun n fuel
    | some [] => s.lopGood n 0
    | none => s

/-! ## Starting and stepping -/

/-- R403: the first step of the operation of code `c` in slot `n`; none for a code that names no operation. -/
def State.lopStartOp (s : State) (n c : Nat) : Option State :=
  match c with
  | 1 => some (s.calStart n)
  | 2 => some s
  | 3 => some (s.nodeImgStart n)
  | 4 => some (s.radioImgStart n)
  | 5 => some (s.attestRun n)
  | 6 => some (s.searchStart n)
  | 7 => some s
  | 8 => some (if s.lopOther n 8 then s.lopFail n 7 else s)
  | 9 => some (s.keygenRun n)
  | 10 => some s
  | _ => none

/-- R403: a host write of `c` to LOP_CMD[n]. -/
def State.lopCmd (s : State) (n c : Nat) : State :=
  if c = 0xFE then s.lopAbort n
  else if c = 0xFF then s.lopClear n
  else if s.lopState n ≠ 0 then s.answer stBusy
  else
    (match (s.lopBegin n c).lopStartOp n c with
     | some t => t
     | none => s.lopUnknown n c).answer stOk

/-- The command of an operation of code `c`: it is under way in slot `n` and takes its next step, or the host starts it. -/
def State.lopRow (s : State) (n c : Nat) (next : State → State) : State :=
  if s.get (F.LOP_STAT_CODE n) = c ∧ s.lopState n = 1 ∧ s.inRunQuiet then (if (s.lslot n).fin.isNone then next s else s)
  else s.hostWr (Reg.LOP_CMD n) c fun s => s.lopCmd n c

def execLopUnknownCode (slot : BitVec 3) (code : BitVec 8) (s : State) : Res :=
  .next (s.hostWr (Reg.LOP_CMD slot.toNat) code.toNat fun s => s.lopCmd slot.toNat code.toNat)

def execCalload (slot : BitVec 3) (flashOk : Bool) (s : State) : Res := .next (s.lopRow slot.toNat 1 fun s => s.calStep slot.toNat flashOk)

def execPatload (slot : BitVec 3) (flashOk : Bool) (s : State) : Res := .next (s.lopRow slot.toNat 2 fun s => s.patStep slot.toNat flashOk)

def execNodeimg (slot : BitVec 3) (s : State) : Res := .next (s.lopRow slot.toNat 3 fun s => s.nodeImgStep slot.toNat)

def execRadioimg (slot : BitVec 3) (s : State) : Res := .next (s.lopRow slot.toNat 4 fun s => s.radioImgStep slot.toNat)

def execAttest (slot : BitVec 3) (s : State) : Res := .next (s.lopRow slot.toNat 5 id)

def execJsearch (slot : BitVec 3) (n : BitVec 20) (s : State) : Res :=
  .next (s.lopRow slot.toNat 6 fun s => s.searchRun slot.toNat (n.toNat + 1))

def execSelftest (slot : BitVec 3) (failures : BitVec 16) (s : State) : Res :=
  .next (s.lopRow slot.toNat 7 fun s => s.testStep slot.toNat failures.toNat)

def execHoldtest (slot : BitVec 3) (us : BitVec 20) (dip : Bool) (s : State) : Res :=
  .next (s.lopRow slot.toNat 8 fun s => s.holdStep slot.toNat us.toNat dip)

def execKeygen (slot : BitVec 3) (s : State) : Res := .next (s.lopRow slot.toNat 9 id)

def execStatedump (slot : BitVec 3) (s : State) : Res := .next (s.lopRow slot.toNat 10 fun s => s.dumpRun slot.toNat 2049)

end Sys2Proof.Machine
end

