-- ==== Sys2Proof/Machine/TimeStep.lean ====
section
/-!
DEFINITION. Machine/TimeStep.lean: what a step of the time base does at Fs (R260, R261): every stored start of an interval is
translated, so that ages and intervals stay elapsed time.
-/

namespace Sys2Proof.Machine

/-- R261: an instant on the scale after a step of `d`. -/
def shiftT (d : Int) (t : Nat) : Nat := ((t : Int) + d).toNat

/-- R261: a sensor value with its time stamp translated. -/
def Reading.shift (d : Int) (r : Reading) : Reading := { r with stamp := shiftT d r.stamp }

/-- R261: sensor values. -/
def shiftSens (d : Int) (m : Sp (Option Reading)) : Sp (Option Reading) := m.map fun p => (p.1, p.2.map (·.shift d))

/-- R261: a loop's previous runs, its sample, its ramp; the frame starts done belong to the old scale. -/
def Loop.shift (d : Int) (l : Loop) : Loop :=
  { l with fp := l.fp.map (shiftT d), ofp := l.ofp.map (shiftT d), mp := l.mp.map (shiftT d), stamp := l.stamp.map (shiftT d),
           since := shiftT d l.since, rampAt := shiftT d l.rampAt, prepAt := none, outerAt := none }

/-- R261: reports and measurements of a luminaire. -/
def Lum.shift (d : Int) (l : Lum) : Lum :=
  { l with tAt := l.tAt.map (shiftT d), ageAt := l.ageAt.map (·.map (shiftT d)) }

/-- R261: a channel's counted transitions. -/
def Chan.shift (d : Int) (c : Chan) : Chan := { c with flaps := c.flaps.map (shiftT d) }

/-- R261: a return field not yet latched. -/
def RetField.shift (d : Int) (f : RetField) : RetField := { f with stamp := shiftT d f.stamp }

/-- R261: a node slot's silence and residence timers. -/
def NSlot.shift (d : Int) (x : NSlot) : NSlot :=
  { x with last := x.last.map (shiftT d), since := shiftT d x.since, slowOk := x.slowOk.map (shiftT d),
           fieldA := x.fieldA.map (·.shift d), fieldB := x.fieldB.map (·.shift d),
           heldA := x.heldA.map (·.shift d), heldB := x.heldB.map (·.shift d) }

/-- R190, R261: a seam's timers; its next SYNC carries STEP. -/
def Seam.shift (d : Int) (x : Seam) : Seam :=
  { x with outst := x.outst.map (fun c => { c with sentAt := shiftT d c.sentAt }), syncSec := 0, stepped := true,
           transits := x.transits.map (fun p => (shiftT d p.1, p.2)), partTransit := x.partTransit.map (fun p => (shiftT d p.1, p.2)), dlySince := x.dlySince.map (shiftT d),
           busyTo := shiftT d x.busyTo, enumAt := shiftT d x.enumAt }

/-- R261: the seam controller. -/
def Sea.shift (d : Int) (x : Sea) : Sea :=
  { x with fperAt := shiftT d x.fperAt, leadAt := shiftT d x.leadAt, fperFrom := shiftT d x.fperFrom, seams := (List.range 32).map (fun n =>
             (n, (spGet (fun _ => {}) x.seams n).shift d)), slots := x.slots.map (fun p => (p.1, p.2.shift d)), censusSec := 0 }

/-- R261: a Sync as received. -/
def PtpSync.shift (d : Int) (x : PtpSync) : PtpSync := { x with t2 := shiftT d x.t2 }

/-- R261: the ordinary clock's receipts and hold timers. -/
def Tbu.shift (d : Int) (x : Tbu) : Tbu :=
  { x with masters := x.masters.map (fun m => { m with last := shiftT d m.last, prev := m.prev.map (shiftT d) }),
           waiting := x.waiting.map (fun p => (p.1, p.2.shift d)), sync := x.sync.map (·.shift d), syncAt := x.syncAt.map (shiftT d),
           dreq := x.dreq.map (fun p => { p with t3 := shiftT d p.t3, sync := p.sync.shift d }), freqs := x.freqs.map (fun p => (shiftT d p.1, p.2)),
           holdAt := x.holdAt.map (shiftT d), slew := x.slew.map (fun w => { w with at_ := shiftT d w.at_ }), xoffSince := x.xoffSince.map (shiftT d) }

/-- R261, R290: the calendar's discipline; it compares at the next TAI second of the new scale. -/
def Rtc.shift (d : Int) (new : Nat) (x : Rtc) : Rtc :=
  let next (_ : Nat) : Nat := (new / nsPerSec + 1) * nsPerSec
  { x with skipTo := shiftT d x.skipTo, since := x.since.map (shiftT d), ageFrom := shiftT d x.ageFrom, cmpAt := x.cmpAt.map next,
           nowAt := x.nowAt.map next, takenAt := x.takenAt.map (shiftT d), held := x.held.map (shiftT d),
           subAt := shiftT d x.subAt, lostAt := shiftT d x.lostAt }

/-- R261, R301, R316: samples and photons not yet counted; a TAI second of the old scale is not one of the new. -/
def Mtr.shift (d : Int) (new : Nat) (x : Mtr) : Mtr :=
  { x with from_ := if x.from_ = 0 then 0 else shiftT d x.from_, last := shiftT d x.last, blkFrom := shiftT d x.blkFrom,
           phot := x.phot.map (fun p => (shiftT d p.1, p.2)), runFrom := new,
           circs := x.circs.map fun p => (p.1, { p.2 with part := [], secs := [] }),
           chans := x.chans.map fun p => (p.1, { p.2 with peakAt := shiftT d p.2.peakAt, ocFrom := shiftT d p.2.ocFrom }) }

/-- R261: a radio node's exchange and guard. -/
def RNode.shift (d : Int) (x : RNode) : RNode :=
  { x with ex := x.ex.map (fun e => { e with t0 := shiftT d e.t0, txEnd := shiftT d e.txEnd }), served := x.served.map (shiftT d),
           act := x.act.map (fun p => (p.1, shiftT d p.2)), sync := shiftT d x.sync, joinAt := shiftT d x.joinAt }

/-- R261: rally and dwell timers. -/
def Sru.shift (d : Int) (x : Sru) : Sru :=
  { x with nodes := x.nodes.map (fun p => (p.1, p.2.shift d)), base := shiftT d (x.rally.getD x.base), rally := x.rally.map (shiftT d),
           cfgAt := x.cfgAt.map (shiftT d), seen := x.seen.map (fun p => (p.1, p.2.1, shiftT d p.2.2)),
           air := x.air.map (fun p => { p with at_ := shiftT d p.at_ }), cfgSet := shiftT d x.cfgSet, recovered := x.recovered.map (shiftT d) }

/-- R261: session timers, and the ages of learned stations. -/
def Hap.shift (d : Int) (x : Hap) : Hap :=
  { x with sess := x.sess.map (fun p => (p.1, p.2.map fun q => { q with last := shiftT d q.last })),
           sess0 := { x.sess0 with last := shiftT d x.sess0.last }, pend := x.pend.map (fun p => { p with at_ := shiftT d p.at_ }),
           macs := x.macs.map fun p => (p.1, p.2.1, shiftT d p.2.2) }

/-- R261: heartbeats and the join's retry. -/
def Xlk.shift (d : Int) (x : Xlk) : Xlk :=
  { x with copyAt := x.copyAt.map (fun p => (shiftT d p.1, p.2)), applied := x.applied.map (shiftT d), lastX := x.lastX.map (shiftT d),
           lastL := x.lastL.map (shiftT d), upX := shiftT d x.upX, upL := shiftT d x.upL, failedAt := x.failedAt.map (shiftT d),
           joinFrom := shiftT d x.joinFrom, retryAt := x.retryAt.map (shiftT d), swapAt := x.swapAt.map (shiftT d),
           readyAt := x.readyAt.map (shiftT d), freshAt := none, fenceAt := x.fenceAt.map (shiftT d) }

/-- R261: hold and save timers. -/
def Phu.shift (d : Int) (x : Phu) : Phu :=
  { x with psAt := shiftT d x.psAt, holdAt := x.holdAt.map (shiftT d), qreq := x.qreq.map (fun p => (p.1, shiftT d p.2)),
           tr := shiftT d x.tr, upAt := shiftT d x.upAt, htLast := x.htLast.map (shiftT d), wokeAt := none }

/-- R261: every stored time-base value that is later used as the start of an interval moves by `d`; `new` is Fs + Δ. -/
def State.translate (s : State) (d : Int) (new : Nat) : State :=
  { s with
    sens := shiftSens d s.sens
    cce := { s.cce with loops := s.cce.loops.map (fun p => (p.1, p.2.shift d)), sens := shiftSens d s.cce.sens }
    sme := { s.sme with lums := s.sme.lums.map (fun p => (p.1, p.2.shift d)), laneMis := s.sme.laneMis.map (fun p => (p.1, shiftT d p.2)),
                        firstDrive := s.sme.firstDrive.map (shiftT d) }
    dia := { s.dia with chans := s.dia.chans.map (fun p => (p.1, p.2.shift d)), recent := s.dia.recent.map (shiftT d) }
    pen := { s.pen with armAt := shiftT d s.pen.armAt, lastCommit := none, tickAt := none, ranAt := none, snap := { s.pen.snap with gainAt := none } }
    bobs := s.bobs.map fun p => (p.1, { p.2 with waitAt := none })
    zon := { s.zon with commitAt := shiftT d s.zon.commitAt }
    sea := s.sea.shift d
    tbu := s.tbu.shift d
    rtc := s.rtc.shift d new
    mtr := s.mtr.shift d new
    sru := s.sru.shift d
    hap := s.hap.shift d
    xlk := s.xlk.shift d
    phu := s.phu.shift d
    evq := { s.evq with prio3 := s.evq.prio3.map (shiftT d) }
    rates := s.rates.map fun p => (p.1, p.2.1, shiftT d p.2.2) }

/-- R260, R264, R269: Δ of the step at Fs = `f`: for SET, the value staged at Fs less the time at Fs. -/
def State.stepDelta (s : State) (r : StepReq) (f : Nat) : Int :=
  r.delta.getD (((if r.cause = 2 then s.stagedTime Reg.TBU_SET_S_LO else r.target) : Int) - f)

/-- R260, R270: the values staged for SET take effect with the step. -/
def State.commitSet (s : State) (r : StepReq) : State :=
  if r.cause = 2 then ((s.commitWord Reg.TBU_SET_S_LO).commitWord Reg.TBU_SET_S_HI).commitWord Reg.TBU_SET_NS else s

/-- R260, R261, R318: the time base steps at the frame start `f` = Fs. -/
def State.stepNow (s : State) (r : StepReq) (f : Nat) : State :=
  let d := s.stepDelta r f
  let new := shiftT d f
  let d64 := ofSigned 64 d
  let s1 := (s.closeInterval f new true false).translate d new
  let s2 := { s1 with ns := new, frac := 0 }
  let s3 := (((s2.commitSet r).setFlag F.TBU_STAT_STEPPED true).setFlag F.TBU_STAT_VALID true).wrTime Reg.TBU_STEPAT_S_LO new
  let s4 := (s3.put F.TBU_LASTSTEP_HI_D (d64 / 4294967296)).put F.TBU_LASTSTEP_LO_D d64
  let s5 := if s4.rateOk 0x903 0 nsPerSec then
      (s4.rateMark 0x903 0).raiseEv { code := 0x903, pay := [r.cause, d64 / 4294967296, d64 % 4294967296], loc := r.cause == 3 }
    else s4
  let s6 := if s5.tbState = tbLocked then s5.tbEnter tbFree else s5
  { s6 with lastFrame := some (s6.gridAt new)
            sme := { s6.sme with latch := none, next := none, capFailed := false }
            sea := { s6.sea with sentAt := none }
            tbu := { s6.tbu with good := 0, far := 0, step := some { r with delta := some d, fs := some f, done := true } } }.discTrack

end Sys2Proof.Machine
end

