-- ==== Sys2Proof/Machine/Copy.lean ====
section
/-!
DEFINITION. Machine/Copy.lean: the state that a pair's active module copies to its standby (R417 to R420), and one copy as bytes
(R418), which STATEDUMP writes too (R408).
-/

namespace Sys2Proof.Machine

/-! ## The copied words (R419) -/

/-- R17, R483: registers whose RW fields are counters. -/
def counterRegs : List Nat :=
  [Reg.PEN_PFIX, Reg.SME_RCNT, Reg.SME_CALFIX, Reg.SME_CRCERR, Reg.SME_LATECNT, Reg.DIA_PROBES, Reg.DIA_SUPP, Reg.CCE_TRIPS,
   Reg.TBU_RXCNT, Reg.TBU_TCCNT, Reg.TBU_ERRCNT, Reg.RTC_AGE, Reg.RTC_ADJ, Reg.MTR_OCCNT, Reg.MTR_CNT2, Reg.SRU_SERVES, Reg.SRU_LETS,
   Reg.SRU_RXERR, Reg.SRU_DUP, Reg.SRU_REFUSE, Reg.KST_ORPHUSE, Reg.EVQ_LOST, Reg.JNL_REPAIR, Reg.XLK_CNT0, Reg.XLK_CNT1,
   Reg.XLK_CNT2, Reg.HAP_ERR0, Reg.HAP_ERR1, Reg.HAP_DGRAMS, Reg.HAP_REPEATS, Reg.HAP_PCNT, Reg.GLB_VSCRUB, Reg.PHU_SAVECNT]

/-- R17: the RW fields of the register at `a` are counters. -/
def isCounter (a : Nat) : Bool :=
  counterRegs.contains a || (List.range 32).any fun n => a == Reg.PEN_BOVR n || a == Reg.SEA_ERR n || a == Reg.SEA_MISM n

/-- R286, R419: the registers that each module keeps for itself: KST, XLK, its network address, and the calendar that it runs. -/
def ownReg (a : Nat) : Bool :=
  [Reg.RTC_TIME, Reg.RTC_DATE, Reg.RTC_STAT, Reg.RTC_ADJ].contains a ||
  (decide (0x90000 ≤ a) && decide (a < 0x90180)) || (decide (0xB0000 ≤ a) && decide (a < 0xB0100)) ||
  (decide (Reg.HAP_PORT ≤ a) && decide (a ≤ Reg.HAP_IP6GW 3)) || [Reg.HAP_CTL, Reg.HAP_CMD].contains a

/-- R463: the staged calendar. -/
def isRtcStage (a : Nat) : Bool := a == Reg.RTC_STGTIME || a == Reg.RTC_STGDATE

/-- R92, R264, R418, R463, R470: the read-only words with copied bits: an armed swap, a pending step, an armed UTC offset, a loop's status,
setpoint in effect and gain, the staged calendar, a pending QUIET or WAKE. -/
def copiedRO (a : Nat) : Nat :=
  if a = Reg.PEN_STAT then 2 ^ F.PEN_STAT_ARMED.lo
  else if isRtcStage a then 0xFFFFFFFF
  else if a = Reg.GLB_STATE then 2 ^ F.GLB_STATE_QPEND.lo
  else if a = Reg.TBU_STAT then 2 ^ F.TBU_STAT_STEPPING.lo + 2 ^ F.TBU_STAT_ARMED.lo
  else if 0x61000 ≤ a ∧ a < 0x63000 then (if a % 16 = 8 ∨ a % 16 = 12 then 0xFFFFFFFF else if a % 16 = 4 then 0xFFFF0000 else 0)
  else 0

/-- R419: the bits of the word at `a` that belong to the copied state. -/
def copyMask (a : Nat) : Word :=
  if a < progBase then
    if ownReg a then 0
    else BitVec.ofNat 32 (((regRow a).map (·.rw)).getD 0) ||| BitVec.ofNat 32 (copiedRO a)
  else if dataBase ≤ a ∧ a < dataBase + 0x20000 then 0xFFFFFFFF#32
  else if nodeBase ≤ a ∧ a < nodeBase + 0x20000 then (if a % 32 = 0 ∨ a % 32 = 8 then 0xFFFFFFFF#32 else 0)
  else if radioBase ≤ a ∧ a < radioBase + 0x10000 then 0xFFFFFFFF#32
  else 0

/-- Words of the radio node table that hold the module's counter toward a node (R361). -/
def isTxfc (a : Nat) : Bool := decide (radioBase ≤ a) && decide (a < radioBase + 0x10000) && a % 64 == 20

/-- The word at `a` of the module that takes `w` from the copy: copied bits from `w`, the others its own; a counter toward a radio
node never goes back (R356). -/
def mergeWord (a : Nat) (own w : Word) : Word :=
  if isTxfc a then (if own.toNat ≤ w.toNat then w else own)
  else (own &&& ~~~(copyMask a)) ||| (w &&& copyMask a)

/-- R26, R421: the words that completed writes have changed and whose acknowledgement is awaited, as they were, newest first. -/
def State.heldWords (s : State) : List (Nat × Word) := (s.xlk.trans.flatMap (·.old)).reverse

/-- R461: a session without the responses that wait for the standby. -/
def State.heldSess (s : State) (k : Nat) (x : HSess) : HSess :=
  { x with cache := x.cache.filter fun e => !(s.xlk.trans.any fun t => t.id == k * 4294967296 + e.1) }

/-- R417, R461: the copied state as of now, without what a datagram that the standby has not acknowledged has written and answered. -/
def State.copied (s : State) : Copied :=
  { at_ := s.ns
    held := s.heldWords.map (·.1)
    mem := s.mem.filter fun p => copyMask p.1 != 0 && !(s.heldWords.any fun w => w.1 == p.1)
    basted := s.basted.filter fun p => copyMask p.1 != 0
    bobs := s.bobs
    pen := s.pen
    zon := s.zon
    lums := s.sme.lums
    dia := s.dia
    cce := s.cce
    mtr := s.mtr
    sru := s.sru
    seqs := (List.range 32).map fun n => s.get (F.SEA_SEQ_SEQ n)
    fperUs := s.sea.fperUs
    leadUs := s.sea.leadUs
    fperAt := s.sea.fperAt
    leadAt := s.sea.leadAt
    fperWas := s.sea.fperWas
    fperFrom := s.sea.fperFrom
    img := s.sea.img
    imgGo := s.sea.imgGo
    prio := s.evq.prio
    noq := s.evq.noq
    step := s.tbu.step.map fun r => if r.cause = 2 then { r with target := s.stagedTime Reg.TBU_SET_S_LO } else r
    utcArm := s.tbu.utcArm
    quiet := s.mode == .quiet
    qreq := s.phu.qreq
    sess := s.hap.sess.map fun p => (p.1, p.2.map (s.heldSess p.1))
    sess0 := s.heldSess 8 s.hap.sess0
    lastSid := s.hap.lastSid }

/-! ## Applying a copy (R417, R419) -/

/-- Words of the node table that hold a slot's zone (R37). -/
def isZoneWord (a : Nat) : Bool := decide (nodeBase ≤ a) && decide (a < nodeBase + 0x20000) && a % 32 == 0

/-- R57, R60, R419: one copied word; a slot that changes its zone changes MEMBERS of both zones. -/
def State.mergeAt (s : State) (a : Nat) (w : Word) : State :=
  if isZoneWord a then s.commitSlot ((a - nodeBase) / 32) (getBits w 0 10) else s.wr a (mergeWord a (s.rd a) w)

/-- R338: the copy shows that the radio node whose counter stands at `a` has a new epoch, so that its counters start again. -/
def State.rekeyed (s : State) (m : Sp Word) (a : Nat) : Bool :=
  isTxfc a && getBits (spGet resetWord m (a + 4)) 0 16 != getBits (s.rd (a + 4)) 0 16

/-- R338, R419, R461: the words, but for `held`, which the transaction record gives; a staged calendar that the module's own RTC has yet to
take stays until then. -/
def State.mergeMem (s : State) (m : Sp Word) (held : List Nat) : State :=
  let keys := (s.mem.map (·.1) ++ m.map (·.1)).filter fun a =>
    copyMask a != 0 && !(s.rtc.commit && isRtcStage a) && !held.contains a
  forEach (fun a t => if s.rekeyed m a then t.wr a (spGet resetWord m a) else t.mergeAt a (spGet resetWord m a)) keys s

/-- R419: T_used and ageing factors of a luminaire. -/
def Lum.merge (own c : Lum) : Lum :=
  { own with tUsed := c.tUsed, tRep := c.tRep, tAt := c.tAt, tStale := c.tStale, age := c.age, ageUsed := c.ageUsed, ageAt := c.ageAt,
             eol := c.eol }

/-- R323: the accumulators, interval state, over-current runs and photons; what the module measures itself stays its own. -/
def Mtr.merge (own c : Mtr) : Mtr :=
  { own with
    acc := c.acc, base := c.base, start := c.start, intv := c.intv, fnom60 := c.fnom60, accrst := c.accrst, reset := c.reset,
    step := c.step, nolock := c.nolock, phot := c.phot, since := [], gain := c.gain, aux := c.aux
    circs := (List.range 8).filterMap fun k =>
      let o : MCirc := spGet (fun _ => {}) own.circs k
      let x : MCirc := { spGet (fun _ => {}) c.circs k with vals := o.vals }
      if x = {} then none else some (k, x)
    chans := (List.range 28).filterMap fun k =>
      let o : MChan := spGet (fun _ => {}) own.chans k
      let d : MChan := spGet (fun _ => {}) c.chans k
      let x : MChan := { o with ocRun := d.ocRun, ocMax := d.ocMax, ocFrom := d.ocFrom }
      if x = {} then none else some (k, x) }

/-- R355, R356: the node table's state and the plan; a module's own exchanges and its own airtime stay. -/
def Sru.merge (own c : Sru) : Sru :=
  { c with
    air := own.air, recovered := own.recovered, rally := own.rally, flash := own.flash, bflash := own.bflash
    acts := own.acts
    bfc := max own.bfc c.bfc
    nodes := (List.range 1024).filterMap fun i =>
      let o : RNode := spGet (fun _ => {}) own.nodes i
      let x : RNode := { spGet (fun _ => {}) c.nodes i with ex := o.ex, served := o.served, incs := o.incs }
      if x = {} then none else some (i, x) }

/-- R120: a radio node table entry that the copied state gives to another node, or frees, has no values any more. -/
def State.keepSources (s old : State) : State :=
  { s with sens := s.sens.filter fun p =>
      !(decide (0x1000 ≤ p.1 / 256) && decide (p.1 / 256 < 0x1400)) ||
        s.get (F.RT_NODEID (p.1 / 256 - 0x1000)) == old.get (F.RT_NODEID (p.1 / 256 - 0x1000)) }

/-- R484: words 0 to 3 of the radio node table. -/
def State.radioHeads (s : State) : Sp Word :=
  s.mem.filter fun p => decide (radioBase ≤ p.1) && decide (p.1 < radioBase + 0x10000) && decide (p.1 % 64 < 16)

/-- R484: a change of words 0 to 3 of the radio node table goes to its flash copy. -/
def State.saveHeads (s old : State) : State := if s.radioHeads = old.radioHeads then s else s.radioSave

/-- R191: `a` is newer than `b`. -/
def xidNewer (a b : Nat) : Bool :=
  let d := (a + 4294967296 - b) % 4294967296
  decide (0 < d) && decide (d < 2147483648)

/-- R459: the cache with the response of `xid`, at most the 64 newest. -/
def cachePut (l : List (Nat × List Nat)) (xid : Nat) (resp : List Nat) : List (Nat × List Nat) :=
  let m := l.filter (fun e => xidNewer xid e.1) ++ [(xid, resp)] ++ l.filter (fun e => !xidNewer xid e.1)
  m.drop (m.length - 64)

/-- R447, R461: a session as the copy gives it, with the responses that this module has beside. -/
def HSess.merge (own c : HSess) : HSess :=
  { c with
    last := max own.last c.last
    count := max own.count c.count
    snaps := own.snaps
    cache := (own.cache.filter fun e => !(c.cache.any fun x => x.1 == e.1)).foldl (fun l e => cachePut l e.1 e.2) c.cache }

/-- R447: entry `k` of the session table: the copy's; a session that this module has set up itself since stays in a free entry (assumption log 42). -/
def State.mergeSess (s : State) (c : Copied) (k : Nat) : Option HSess :=
  let own : Option HSess := spGet (fun _ => none) s.hap.sess k
  match (spGet (fun _ => none) c.sess k : Option HSess) with
  | some x => some (match own with | some o => if o.id = x.id then o.merge x else x | none => x)
  | none => own.filter fun o => decide (c.lastSid < o.id)

/-- R189, R197: the standby has the node image that the active module distributes; one that is new to it begins. -/
def State.sameImage (s : State) (g : Option NodeImg) : State := if s.sea.img = g then s else s.takeImage g

/-- R417, R419: the copied state becomes the module's, with what it has served and not yet told (R355).  R191: its sequence numbers are
those of the frame start, to which the frames that the module has originated since are added. -/
def State.applyCopied (s : State) (c : Copied) : State :=
  let s1 := (((s.mergeMem c.mem c.held).saveHeads s).keepSources s).sameImage c.img
  let s2 := forUp (fun n t => t.put (F.SEA_SEQ_SEQ n) (c.seqs.getD n 0 + (t.seam n).cycleSent)) 32 s1
  forEach (fun a t => t.radioCount a) s.sru.acts { s2 with
    basted := s2.basted.filter (fun p => copyMask p.1 == 0) |> fun l =>
      forEach (fun (p : Nat × Option Word) m => spSet (fun _ => none) m p.1 p.2) c.basted l
    bobs := c.bobs
    pen := c.pen
    zon := c.zon
    sme := { s2.sme with lums := (List.range 4096).filterMap fun i =>
      let x := (spGet (fun _ => {}) s2.sme.lums i : Lum).merge (spGet (fun _ => {}) c.lums i)
      if x = {} then none else some (i, x) }
    dia := c.dia
    cce := c.cce
    mtr := s2.mtr.merge c.mtr
    sru := s2.sru.merge c.sru
    sea := { s2.sea with fperUs := c.fperUs, leadUs := c.leadUs, fperAt := c.fperAt, leadAt := c.leadAt, fperWas := c.fperWas,
                         fperFrom := c.fperFrom }
    evq := { s2.evq with prio := c.prio, noq := c.noq }
    tbu := { s2.tbu with step := c.step.map (fun r => { r with cause := 3 }), utcArm := c.utcArm }
    phu := { s2.phu with qreq := c.qreq }
    hap := { s2.hap with sess := (List.range 8).filterMap (fun k => (s2.mergeSess c k).map fun x => (k, some x))
                         sess0 := s2.hap.sess0.merge c.sess0, lastSid := max s2.hap.lastSid c.lastSid }
    mode := if s2.inRunQuiet then (if c.quiet then .quiet else .run) else s2.mode }

/-! ## The journal tail (R400) -/

/-- Records that the active module has journalled and not yet sent, at most 128 of them. -/
def State.jnlTail (s : State) : List (Nat × EvRec) :=
  let n := (s.get F.JNL_WPTR_NUM + 4294967296 - s.xlk.jnlSent) % 4294967296
  (List.range (min n 128)).map fun k =>
    let a := (s.xlk.jnlSent + k) % 4294967296
    (a, EvRec.ofWords (s.rds (jnlAddr a) 8))

/-- R191: number `a` comes before `b`. -/
def numBefore (a b : Nat) : Bool := decide (2147483648 ≤ (a + 4294967296 - b) % 4294967296)

/-- R399: the journal goes on at number `n`: records from `n` on are not present any more, and after a gap none is (assumption log 9). -/
def State.jnlMove (s : State) (n : Nat) : State :=
  let back := (s.get F.JNL_WPTR_NUM + 4294967296 - n % 4294967296) % 4294967296
  if back = 0 then s
  else ((s.put F.JNL_COUNT_RECS (if back < 2147483648 then s.get F.JNL_COUNT_RECS - back else 0)).put F.JNL_WPTR_NUM n).setFlag
    F.JNL_STAT_WRAPPED false

/-- R402: the marks lost at the standby whose JNL_MARKLOST the tail does not carry; it reports them itself (assumption log 9). -/
def ownLost (tail : List (Nat × EvRec)) (l : List Ev) : List Ev :=
  (l.filter fun e => !(tail.any fun q => q.2.code == 0xC03 && getBits q.2.w0 0 12 == e.unit)).map fun e => { e with loc := true }

/-- R389, R400: the standby writes a record of the tail at its number, unless it holds it there already, and queues it when it is shared;
a record that it has relayed itself has come back. -/
def State.takeTail (s : State) (tail : List (Nat × EvRec)) (p : Nat × EvRec) : State :=
  let s0 : State := { s with evq := { s.evq with relayed := s.evq.relayed.filter (· != p.2) } }
  if s0.jnlHas p.1 && s0.jnlRec p.1 == p.2 then s0
  else
    let j := (s0.jnlMove p.1).journal p.2
    let s1 := raiseAll 24 (ownLost tail j.2) j.1
    if bit p.2.w0.toNat 28 || s1.noqOf p.2.code then s1
    else
      let x := s1.enqueue { record := p.2, prio := getBits p.2.w0 29 2, copy := none }
      raiseAll 24 x.2 x.1

/-! ## One copy (R417, R418) -/

/-- R417: copy number of the frame start `f`. -/
def State.copyNum (s : State) (f : Nat) : Nat := f / s.framePeriod % 4294967296

/-- Write the listed words in order. -/
def State.putWords (s : State) (l : List (Nat × Word)) : State := forEach (fun (p : Nat × Word) s => s.wr p.1 p.2) l s

/-- R26, R421: solve inputs are latched for the frame that originates at `o`, with the words `held` as they were before a write that
does not count yet; what a tick has committed in such a word (its RB bits, a slot's zone) counts. -/
def State.latchWith (s : State) (held : List (Nat × Word)) (o : Nat) : State :=
  let was := held.map fun p => (p.1, if isZoneWord p.1 then s.rd p.1 else maskIn p.2 (rbMask p.1) (s.rd p.1).toNat)
  let now := held.map fun p => (p.1, s.rd p.1)
  ((s.putWords was).latchSolve o).putWords now

/-- R417: the copied words that have changed since the copy before. -/
def State.changedWords (s : State) (c : Copied) : List Nat :=
  ((s.xlk.told.map (·.1) ++ c.mem.map (·.1)).filter fun a =>
    (spGet resetWord s.xlk.told a ^^^ spGet resetWord c.mem a) &&& copyMask a != 0).eraseDups

/-- R418: T_used and the ageing factors of a luminaire as solve inputs. -/
def Lum.inputs (l : Lum) : Int × List Nat := (l.tUsed, l.ageUsed.toList)

/-- R418: the solve inputs that have changed since the copy before, in ascending slot order. -/
def State.solveChanges (s : State) : List (Nat × Nat × Nat) :=
  (List.range 4096).flatMap fun i =>
    let was := spGet (fun _ => ({} : Lum).inputs) s.xlk.toldLums i
    let now := (spGet (fun _ => {}) s.sme.lums i : Lum).inputs
    (if was.1 = now.1 then [] else [(i, 0, ofSigned 32 now.1)]) ++
      ((List.range 8).filter fun k => was.2.getD k 0 != now.2.getD k 0).map fun k => (i, k + 1, now.2.getD k 0)

/-- R417, R418: what a copy of the state `c` has given. -/
def State.tellState (s : State) (c : Copied) : State :=
  { s with xlk := { s.xlk with told := c.mem, toldLums := s.sme.lums.map fun p => (p.1, p.2.inputs) } }

/-- R417: the copy of the frame start `f`, with the latch map. -/
def State.copyMsg (s : State) (f : Nat) (latch : List (Nat × Bool)) : CopyMsg :=
  let tail := s.jnlTail
  { changed := s.changedWords s.copied, solve := s.solveChanges, swap := s.xlk.swapAt, num := s.copyNum f, f := f
    evSeq := s.get F.EVQ_SEQ_SEQ, wptr := (s.xlk.jnlSent + tail.length) % 4294967296
    latch := latch, tail := tail, install := s.sme.installed, calEnded := s.sme.calEnded, held := s.heldWords
    peer := s.seamPeer, st := s.copied }

/-- R418: a section: its header and its content; an empty one is not sent. -/
def section_ (typ : Nat) (b : List Nat) : List (List Nat) :=
  if b = [] then [] else [[typ, 0] ++ Crypto.toBytes 2 b.length ++ b]

/-- R418: `n` bytes of a section whose layout the spec leaves open (assumption log 19). -/
def openBytes (typ num n : Nat) : List Nat := (List.range n).map fun k => ((Config.openSection typ num).getD k 0).toNat

/-- R418: a section of changes of `w` bytes each whose layout is open, at most `n` bytes. -/
def openChanges (typ num w n : Nat) : List Nat :=
  openBytes typ num (min n (Config.openSection typ num).length / w * w)

/-- R418: the latch map, two bits for each slot; the first of four slots stands in the highest bits of its byte (assumption log 19). -/
def latchBytes (l : List (Nat × Bool)) : List Nat :=
  let code (i : Nat) : Nat := match l.find? fun p => p.1 == i with | some p => if p.2 then 2 else 1 | none => 0
  (List.range 1024).map fun b => code (4 * b) * 64 + code (4 * b + 1) * 16 + code (4 * b + 2) * 4 + code (4 * b + 3)

/-- R418: the solve-input changes, six bytes each, at most 4,096 of them. -/
def solveBytes (l : List (Nat × Nat × Nat)) : List Nat :=
  (l.take 4096).flatMap fun p => Crypto.toBytes 2 (p.1 % 4096 + Config.changeKind p.2.1 % 16 * 4096) ++ Crypto.toBytes 4 p.2.2

/-- R418: the sections of a copy, in order of type. -/
def State.copySections (s : State) (c : CopyMsg) : List (List Nat) :=
  section_ 0x01 (latchBytes c.latch) ++ section_ 0x02 (solveBytes c.solve) ++
  section_ 0x03 ((List.range 512).flatMap fun z => Crypto.toBytes 2 (s.gainOf z)) ++
  section_ 0x04 (if c.st.pen.lastCommit = some c.f then openChanges 0x04 c.num 24 12288 else []) ++
  section_ 0x05 (openChanges 0x05 c.num 1 2048) ++
  section_ 0x06 (c.tail.flatMap fun p => p.2.words.flatMap wordBytes) ++
  section_ 0x07 (openChanges 0x07 c.num 1 2048) ++ section_ 0x08 (openChanges 0x08 c.num 1 2048) ++
  section_ 0x09 (openBytes 0x09 c.num 64) ++ section_ 0x0A (openBytes 0x0A c.num 2048)

/-- R418: the header of a copy with `n` sections. -/
def State.copyHeader (s : State) (c : CopyMsg) (n : Nat) : List Nat :=
  Crypto.toBytes 4 0x46515343 ++ Crypto.toBytes 2 (s.get F.XLK_FMT_OWN) ++ Crypto.toBytes 2 n ++ Crypto.toBytes 6 (c.f / nsPerSec) ++
  Crypto.toBytes 4 (c.f % nsPerSec) ++ Crypto.toBytes 4 c.num ++ Crypto.toBytes 4 c.evSeq ++ Crypto.toBytes 4 c.wptr ++ [0, 0] ++
  c.st.seqs.flatMap (Crypto.toBytes 4) ++ List.replicate 96 0

/-- R418: a copy as bytes. -/
def State.copyBytes (s : State) (c : CopyMsg) : List Nat :=
  let secs := s.copySections c
  let b := s.copyHeader c secs.length ++ secs.flatten
  b ++ Crypto.toBytes 4 (crc32 b)

/-- R408: the copy of a STATEDUMP that waits for it. -/
def State.fillDumps (s : State) (c : CopyMsg) : State :=
  forUp (fun n s =>
    if s.get (F.LOP_STAT_CODE n) = 10 ∧ s.lopState n = 1 ∧ (s.lslot n).todo = none ∧ (s.lslot n).fin = none then
      s.setLslot n { s.lslot n with todo := some (bytesWords (s.copyBytes c ++ List.replicate ((4 - (s.copyBytes c).length % 4) % 4) 0)) }
    else s) 8 s

end Sys2Proof.Machine
end

