-- ==== Sys2Proof/Machine/Pair.lean ====
section
/-!
DEFINITION. Machine/Pair.lean: the redundant pair: heartbeats and takeover, the FENCE lines, state copies as the standby takes
them, joining, role swap and firmware (chapter 15, R413 to R435).
-/

namespace Sys2Proof.Machine

/-! ## Roles (R413, R414) -/

/-- R413: the codes of GLB_ROLE.ROLE. -/
def roleSolo : Nat := 0
def roleActive : Nat := 1
def roleStandby : Nat := 2
def roleJoining : Nat := 3

/-- GLB_ROLE.ROLE. -/
def State.role (s : State) : Nat := s.get F.GLB_ROLE_ROLE

/-- R263, R413, R434: the module takes a role; SOLO and ACTIVE hold control authority, and a STANDBY takes its time from the partner. -/
def State.setRole (s : State) (r : Nat) : State :=
  ((s.put F.GLB_ROLE_ROLE r).setFlag F.XLK_AUTH_HOLD (decide (r ≤ 1))).setFlag F.TBU_STAT_SRC (r == roleStandby)

/-- R414: the module is to find its partner, from now on. -/
def State.startJoining (s : State) : State :=
  { (s.setRole roleJoining).setFlag F.XLK_STAT_READY false with
    xlk := { s.xlk with joined := false, joinFrom := s.ns, joinDone := false, resync := false, copyAt := none, demote := false,
                        retryAt := none, failedAt := none, swapAt := none, readyAt := none },
    evq := { s.evq with relayed := [] } }

/-- R389: every record waiting in the event queue that `p` accepts is readable. -/
def State.release (s : State) (p : Nat → Bool) : State :=
  let f : QRec → QRec := fun q => if (q.copy.map p).getD false then { q with copy := none } else q
  { s with evq := { s.evq with fifo := s.evq.fifo.map f, bank0 := s.evq.bank0.map f, bank1 := s.evq.bank1.map f } }

/-- R400: a module that is the active one from now on journals the records that it has relayed and that have not come back. -/
def State.journalRelayed (s : State) : State :=
  forEach (fun r t => raiseAll 24 (t.journal r).2 (t.journal r).1) s.evq.relayed { s with evq := { s.evq with relayed := [] } }

/-- R389, R400, R417: the journal tail begins at the record that is next, and what has been copied is the present state. -/
def State.copyFrom (s : State) : State :=
  { s.tellState s.copied with
    xlk := { (s.tellState s.copied).xlk with jnlSent := s.get F.JNL_WPTR_NUM, jnlAcked := s.get F.JNL_WPTR_NUM, copyAt := none, ackSeen := false } }

/-- R414: the module is ACTIVE without a partner. -/
def State.becomeActive (s : State) : State :=
  let s1 := ((s.setRole roleActive).setFlag F.XLK_STAT_READY false).copyFrom
  ({ s1 with xlk := { s1.xlk with joined := false, joinDone := false, resync := false, retryAt := none, copyNext := 0 } }.release
    fun _ => true).journalRelayed.keepAlarms

/-! ## FENCE (R425, R426, R502) -/

/-- R426, R502: the FENCE output; it cannot be asserted while the FENCE input is. -/
def State.fence (s' : State) (on : Bool) : State :=
  let s : State := { s' with xlk := { s'.xlk with fenceAt := none } }
  if on && s.flag F.XLK_STAT_FENCEIN then s
  else if s.flag F.XLK_STAT_FENCEOUT == on then s
  else (s.setFlag F.XLK_STAT_FENCEOUT on).emit (.fence on)

/-- R502: from the decision to fence until the FENCE input has been sampled again, ns: 100 in module A, 200 in module B, and the 200 after
which an assertion that the sample finds has been reported (FENCE_IN_ASSERT; assumption log 60). -/
def State.fenceDelay (s : State) : Nat := (if s.flag F.GLB_ROLE_HALF then 200 else 100) + 200

/-- R502: the module decides to fence its partner. -/
def State.decideFence (s : State) : State := { s with xlk := { s.xlk with fenceAt := some (s.ns + s.fenceDelay) } }

/-- R502: a decision to fence whose instant has come. -/
def State.fenceSettle (s : State) : State :=
  if (s.xlk.fenceAt.map fun t => decide (t ≤ s.ns)).getD false then s.fence true else s

/-- R424, R480: a restart begins: heartbeats stop, and the module waits for the release of reset. -/
def State.beginRestart (s : State) : State :=
  { s with mode := .reset, phu := { s.phu with noBeat := true } }

/-- R200, R502: the seams' FENCED flags. -/
def State.setFenced (s : State) (on : Bool) : State := forUp (fun n s => s.setFlag (F.SEA_STAT_FENCED n) on) 32 s

/-- R426, R502: the FENCE input is asserted, whatever the module's state: the drivers are at high impedance, what they were sending is cut
off, and FENCE cannot be driven. -/
def State.driversOff (s : State) : State := ((((s.setFlag F.XLK_STAT_FENCEIN true).setFenced true).fence false).cutSeams s.ns)

/-- R426, R498: the FENCE input is asserted: authority is given up and a fence restart begins; the save of a module that has been pulled is
completed first, and one without power does nothing more. -/
def State.fenceIn (s : State) : State :=
  let s1 := s.driversOff
  if s.mode == .reset || s.mode == .keep || s.flag F.XLK_STAT_FENCEIN then s1
  else
    let s2 : State := { s1.setFlag F.XLK_AUTH_HOLD false with phu := { s1.phu with fence := true } }
    if s.mode == .hold && s.phu.unmated && !s.phu.saved then s2 else s2.beginRestart

def execFenceInAssert (s : State) : Res := .next s.fenceIn

def execFenceInDeassert (s : State) : Res := .next ((s.setFlag F.XLK_STAT_FENCEIN false).setFenced false)

/-! ## Heartbeats (R414, R424, R425, R429) -/

/-- R424, R428, R472: the module sends and heeds heartbeats: it takes part in a pair and has not stopped them. -/
def State.beats (s : State) : Bool := s.role != roleSolo && !s.phu.noBeat && (s.inRunQuiet || s.mode == .hold)

/-- R416: what the module's heartbeat says; its copy number is that of the last copy sent or applied. -/
def State.beat (s : State) : Beat :=
  { role := s.role, ready := s.flag F.XLK_STAT_READY, permit := s.flag F.XLK_AUTH_PERMIT
    copy := if s.role = roleActive then (s.xlk.copyNext + 4294967295) % 4294967296
            else (s.xlk.applied.map s.copyNum).getD 0 }

def execHeartbeatSend (s : State) : Res := .next (if s.beats then s.emit (.heartbeat s.beat) else s)

/-- R421, R425: the responses that wait for the standby go out: it has been declared failed, or is not READY. -/
def State.sendWaiting (s : State) : State :=
  { forEach (fun (t : HTrans) s => if t.resp = [] then s else s.sendResp t.peer t.resp) s.xlk.trans s with
    xlk := { s.xlk with trans := [] } }

/-- R420: the active module sends the whole copied state; the journal tail goes on after what has been acknowledged. -/
def State.sendWhole (s : State) : State :=
  let s1 := (s.emit (.whole s.copied)).tellState s.copied
  { s1 with xlk := { s1.xlk with resync := true, jnlSent := s.xlk.jnlAcked, ackSeen := false } }

/-- R414: what hearing the partner's heartbeat means for the module's role. -/
def State.heedRole (s : State) (b : Beat) : State :=
  let half := s.flag F.GLB_ROLE_HALF
  if s.role = roleJoining ∧ b.role = roleJoining then
    (if (!half && s.flag F.XLK_AUTH_PERMIT) || (half && !b.permit) then s.becomeActive else s)
  else if s.role = roleActive ∧ b.role = roleActive ∧ half then { s with xlk := { s.xlk with demote := true } }
  else s

/-- R424: the path `line` (or the crosslink) carries a heartbeat. -/
def State.pathBeat (s : State) (line : Bool) : State :=
  let up (miss : Nat) (last : Option Nat) (old : Nat) : Nat := if miss ≠ 0 ∨ last.isNone then s.ns else old
  if line then
    { (s.setFlag F.XLK_STAT_PRESENT true).setFlag F.XLK_STAT_HBLINE true with
      xlk := { s.xlk with lastL := some s.ns, seenL := true, upL := up (s.get F.XLK_HB_MISSL) s.xlk.lastL s.xlk.upL } }
  else
    { s.setFlag F.XLK_STAT_PRESENT true with
      xlk := { s.xlk with lastX := some s.ns, seenX := true, upX := up (s.get F.XLK_HB_MISSX) s.xlk.lastX s.xlk.upX } }

/-- R414, R416, R420, R421: what a heartbeat on the crosslink says; a module in HOLD does not change its role by it (R428). -/
def State.heedBeat (s : State) (b : Beat) : State :=
  let was := s.flag F.XLK_STAT_READY
  let s1 : State := { s with xlk := { s.xlk with partner := some b } }
  let s2 := if s1.role = roleActive then s1.setFlag F.XLK_STAT_READY b.ready else s1
  let s3 := if s2.role = roleActive ∧ s2.xlk.joined ∧ was ∧ b.ready = false then s2.sendWaiting.sendWhole else s2
  let s4 : State := if s3.role = roleActive ∧ s3.xlk.joined ∧ b.ready then { s3 with xlk := { s3.xlk with resync := false } } else s3
  if s4.inRunQuiet then s4.heedRole b else s4

/-- R424: a heartbeat of the partner: an edge on the heartbeat line, or a message on the crosslink. -/
def State.heartbeat (s : State) (line : Bool) (b : Beat) : State :=
  if !s.beats then s else if line then s.pathBeat true else (s.pathBeat false).heedBeat b

def execHeartbeatReceived (line : Bool) (b : Beat) (s : State) : Res := .next (s.heartbeat line b)

/-- R429: a path is silent while the other carries heartbeats. -/
def State.pathLost (s : State) (cause : Nat) : State :=
  ((s.setFlag F.XLK_STAT_DEGRADED true).incSat F.XLK_CNT1_DEGRADED).raise 0xA03 0 [cause]

/-- R356, R425: the partner is declared failed. -/
def State.declareFailed (s : State) : State :=
  let s1 := s.raise 0xA01 0
  let s2 := (s1.setFlag F.XLK_STAT_PRESENT false).setFlag F.XLK_STAT_HBLINE false
  let s3 := if s2.xlk.swapAt.isSome then s2.setFlag F.XLK_STAT_SWAPDONE false else s2
  let s4 : State := { s3 with xlk := { s3.xlk with failedAt := some s3.ns, permit := s3.flag F.XLK_AUTH_PERMIT, partner := none,
                                                   swapAt := none } }
  if s4.role = roleActive then
    let s5 := (s4.setFlag F.XLK_STAT_READY false).sendWaiting.release fun _ => true
    let s6 : State := { s5 with xlk := { s5.xlk with joined := false, resync := false, copyAt := none }, sme := { s5.sme with installAck := true } }
    if s6.sru.split then s6.radioTakeover else s6
  else s4

/-- R424, R425, R428, R429: a 4 µs interval ends. -/
def State.beatInterval (s : State) : State :=
  if !s.beats then s
  else
    let mx := if s.xlk.seenX then 0 else min 3 (s.get F.XLK_HB_MISSX + 1)
    let ml := if s.xlk.seenL then 0 else min 3 (s.get F.XLK_HB_MISSL + 1)
    let s1 : State := { (s.put F.XLK_HB_MISSX mx).put F.XLK_HB_MISSL ml with xlk := { s.xlk with seenX := false, seenL := false } }
    let s2 := if ml = 3 then s1.setFlag F.XLK_STAT_HBLINE false else s1
    if !s2.flag F.XLK_STAT_PRESENT then s2
    else if mx = 3 ∧ ml = 3 then (if s2.inRunQuiet then s2.declareFailed else s2)
    else if mx = 3 ∧ ml = 0 ∧ !s2.xlk.degX then
      { s2.pathLost 1 with xlk := { (s2.pathLost 1).xlk with degX := true } }
    else if ml = 3 ∧ mx = 0 ∧ !s2.xlk.degL then
      { s2.pathLost 2 with xlk := { (s2.pathLost 2).xlk with degL := true } }
    else s2

def execHeartbeatInterval (s : State) : Res := .next s.beatInterval

/-- R429: a path that was reported silent has carried heartbeats for 1 s. -/
def State.pathRestored (s : State) : State :=
  let okX := s.xlk.degX && s.get F.XLK_HB_MISSX == 0 && decide (s.xlk.upX + nsPerSec ≤ s.ns)
  let okL := s.xlk.degL && s.get F.XLK_HB_MISSL == 0 && decide (s.xlk.upL + nsPerSec ≤ s.ns)
  let s1 : State := { s with xlk := { s.xlk with degX := s.xlk.degX && !okX, degL := s.xlk.degL && !okL } }
  let s2 := if okX then s1.raise 0xA04 0 [1] else s1
  if okL then s2.raise 0xA04 0 [2] else s2

def execXlkPathRestored (s : State) : Res := .next (if s.inRunQuiet then s.pathRestored else s)

/-- R416: lane `k` is locked or not. -/
def State.setLane (s : State) (k : Nat) (on : Bool) : State :=
  let x : Xlk := if k = 0 then { s.xlk with lane0 := on } else { s.xlk with lane1 := on }
  { s with xlk := x }.setFlag F.XLK_STAT_LINKUP (x.lane0 && x.lane1)

/-- R434: the code-group errors of the crosslink that come with a lane loss or a damaged message; their number is a free value
(assumption log 45). -/
def State.laneErrors (s : State) : State :=
  (s.put F.XLK_CNT2_LANEERR (min 0xFFFF (s.get F.XLK_CNT2_LANEERR + (Config.freeWord s.free).toNat))).takeFree

/-- R416: a lane of the crosslink fails. -/
def State.laneLoss (s : State) (k : Nat) : State :=
  let was := if k = 0 then s.xlk.lane0 else s.xlk.lane1
  if was ∧ s.role ≠ roleSolo then ((s.setLane k false).laneErrors).pathLost 3 else s.setLane k false

def execXlkLaneLoss (lane : BitVec 1) (s : State) : Res := .next (s.laneLoss lane.toNat)

def execXlkLaneLock (lane : BitVec 1) (s : State) : Res := .next (s.setLane lane.toNat true)

/-! ## Taking authority (R265, R323, R356, R389, R425, R427) -/

/-- R265: TBU_FREQ as the servo's y, in 1 / (840 × 2^25) ppb. -/
def freqUnits (f : Int) : Int := showNs 265 (f * 1000000000 * ((offUnit * 256 : Nat) : Int)) 34359738368

/-- R265: the servo takes PTP as its source, with I preset so that y is unchanged. -/
def State.takePtp (s : State) : State :=
  let o : Int := s.sget F.TBU_OFFSET_NS * (offUnit : Nat)
  let i := -(freqUnits s.baseFreq) - s.get F.TBU_SERVO_KP * o
  let good := decide (16 ≤ s.tbu.monGood)
  let s1 : State := { s.setFlag F.TBU_STAT_SRC false with tbu := { s.tbu with i := i, xoffSince := none } }
  s1.tbEnter (if good then tbLocked else tbHold)

/-- R323: the energy measured since the last copy joins the copied accumulators. -/
def Mtr.takeover (m : Mtr) : Mtr :=
  { m with acc := forEach (fun (p : Nat × Nat) a => spSet (fun _ => 0) a p.1 (spGet (fun _ => 0) a p.1 + p.2)) m.since m.acc
           since := [] }

/-- R427: what a module that takes authority does beside its role. -/
def State.takeAuthority (s : State) : State :=
  let s1 := (s.setRole roleActive).wrTime Reg.XLK_TKAT_S_LO s.ns
  let s2 := ((s1.put F.EVQ_SEQ_SEQ (s1.get F.EVQ_SEQ_SEQ + 64)).release fun _ => true).copyFrom
  let s3 : State := { s2 with mtr := s2.mtr.takeover, xlk := { s2.xlk with joinDone := false, resync := false, swapAt := none } }
  (s3.journalRelayed.takeImage none).takePtp

/-- R425 to R427: a standby whose partner has been declared failed takes authority. -/
def State.takeover (s : State) : State :=
  if s.isStandby && s.xlk.failedAt.isSome && s.xlk.permit && s.inRunQuiet then
    let notReady := !s.flag F.XLK_STAT_READY
    let s1 := ((s.takeAuthority.radioTakeover.setFlag F.XLK_STAT_READY false).setFlag F.XLK_STAT_TAKEOVER true).incSat F.XLK_CNT1_TAKEOVERS
    let s2 : State := { s1 with xlk := { s1.xlk with joined := false } }
    s2.decideFence.raiseEv { code := 0xA02, pay := [if notReady then 1 else 0], loc := true }
  else s

def execXlkTakeover (s : State) : Res := .next s.takeover

/-- R425: the active module asserts FENCE, 24 µs after its partner's last heartbeat. -/
def execActiveFenceAssert (s : State) : Res :=
  .next (if s.role = roleActive ∧ s.xlk.failedAt.isSome ∧ s.inRunQuiet then s.decideFence else s)

/-! ## State copies at the standby (R417 to R420, R422) -/

/-- R420: a copy is lost: the standby leaves READY and awaits the whole state. -/
def State.copyLost (s : State) : State :=
  let s1 := ((s.setFlag F.XLK_STAT_READY false).setFlag F.XLK_STAT_COPYLOST true).incSat F.XLK_CNT0_COPYLOST
  { s1 with xlk := { s1.xlk with copyAt := none, resync := true, joinDone := false, swapAt := none } }.raiseRated nsPerSec 0xA08 0

/-- R420: the copy expected at a frame start has not been applied by the next one. -/
def State.copyOverdue (s : State) : Bool :=
  (s.isStandby || s.role == roleJoining) && s.inRunQuiet && (s.xlk.copyAt.map fun p => decide (p.1 + s.framePeriod ≤ s.ns)).getD false

def execXlkCopylost (s : State) : Res := .next (if s.copyOverdue then s.copyLost else s)

/-- R422: the standby latches the field of slot `i` and direction `dir` that the map names, if it has it: the one that had arrived before
the frame start, or one that the relay has brought since. -/
def State.latchNamed (s : State) (p : Nat × Bool) : State :=
  let x := s.nslot p.1
  let y := { x with heldA := none, heldB := none }
  match (if p.2 then x.heldB else x.heldA) with
  | some f => (s.setNslot p.1 y).latchField p.1 f
  | none =>
    match (if p.2 then x.fieldB else x.fieldA) with
    | some f => (s.setNslot p.1 (if p.2 then { y with fieldB := none } else { y with fieldA := none })).latchField p.1 f
    | none => s.incSat F.XLK_CNT2_RFMISS

/-- R419: the words that the standby compares: registers that are no counters, the pattern data window and the node table (assumption
log 19). -/
def comparedWord (a : Nat) : Bool :=
  copyMask a != 0 && !isCounter a && !(decide (radioBase ≤ a) && decide (a < radioBase + 0x10000))

/-- R419: offset, in its segment, of the first byte of the word at `a` that differs between the module and the copy; none when they agree. -/
def State.wordDiff (s : State) (c : CopyMsg) (a : Nat) : Option Nat :=
  let x := (s.rd a ^^^ spGet resetWord c.st.mem a) &&& copyMask a
  ((List.range 4).find? fun j => getBits x (24 - 8 * j) 8 != 0).map fun j => (Config.layoutAt a + j) % 2048

/-- R419: the first byte of the refresh segment of copy `c` in which the module's own state differs; what the copy gives as changed is
not compared. -/
def State.segmentDiff (s : State) (c : CopyMsg) : Option Nat :=
  let l := (s.mem.map (·.1) ++ c.st.mem.map (·.1)).filter fun a =>
    comparedWord a && !c.changed.contains a && !c.st.held.contains a && Config.layoutAt a / 2048 % 256 == c.num % 256
  (l.filterMap (s.wordDiff c)).foldl (fun m o => some (match m with | some k => min k o | none => o)) none

/-- R419: the refresh segment of copy `num`; `diff` is the first byte in which it differed from the standby's own. -/
def State.refresh (s : State) (num : Nat) (diff : Option Nat) : State :=
  let s1 := s.put F.XLK_REFRESH_SEG num
  match diff with
  | none => s1
  | some o => ((s1.incSat F.XLK_CNT0_DIVERGE).setFlag F.XLK_STAT_DIVERGE true).raiseRated nsPerSec 0xA09 0 [num % 256, o]

/-- R417, R420: the module takes state copies: a standby, or a joiner that has had the whole state. -/
def State.takesCopies (s : State) : Bool :=
  s.inRunQuiet && (s.isStandby || (s.role == roleJoining && (s.xlk.joinDone || s.xlk.resync)))

/-- R417 to R422: the copy that the standby expects is applied; `diff` is a difference in a part of the state that no word holds. -/
def State.applyCopy (s : State) (c : CopyMsg) (diff : Option Nat) : State :=
  let s1 := forEach (fun p s => s.latchNamed p) c.latch s
  let d := match s1.segmentDiff c, diff with
    | some a, some b => some (min a b)
    | some a, none => some a
    | none, o => o
  let s2 := ((s1.applyCopied c.st).imageCopied c.st.imgGo).refresh c.num d
  let s3 := forEach (fun p s => s.takeTail c.tail p) c.tail s2
  let s4 := (s3.put F.EVQ_SEQ_SEQ c.evSeq).jnlMove c.wptr
  let s5' := match c.install with | some i => s4.installRec i | none => s4
  let s5 := if c.calEnded then s5'.calRehash else s5'
  let s6 := s5.put F.XLK_COPYSZ_BYTES (s5.copyBytes c).length
  let s7 : State := { s6 with xlk := { s6.xlk with applied := some c.f, copyAt := none, swapAt := c.swap } }
  let s8' := s7.hearPartner c.peer
  let s8 := ((s8'.emit (.ack c.num)).emit (.seamPeer s7.seamPeer)).peerTold
  if s8.isStandby && s8.inRun then s8.latchWith c.held (c.f + s8.framePeriod) else s8

/-- R417, R420: a state copy arrives; one that is not that of the frame start and the number that the standby expects is not taken. -/
def State.copyReceived (s : State) (c : CopyMsg) (diff : Option Nat) : State :=
  if !s.takesCopies then s
  else if !c.crcOk then s.laneErrors.copyLost
  else if s.xlk.copyAt ≠ some (c.f, c.num) then s
  else s.applyCopy c diff

def execStateCopyReceived (c : CopyMsg) (diff : Option (BitVec 11)) (s : State) : Res :=
  .next (s.copyReceived c (diff.map (·.toNat)))

/-- R389, R417, R434: the standby acknowledges copy `num`; `peer` is what its seams have brought (R181, R187), with the hash of its
idle image (R92). -/
def State.copyAcked (s : State) (num : Nat) (peer : SeamPeer) : State :=
  match s.xlk.copyAt with
  | some (f, n) =>
    if s.role = roleActive ∧ n = num then
      let s1 := (s.put F.XLK_COPYT_NS (s.ns - f)).release fun k => numBefore k s.xlk.jnlSent
      { s1 with xlk := { s1.xlk with copyAt := none, jnlAcked := s.xlk.jnlSent, ackSeen := true } }.hearPartner peer
    else s
  | none => s

def execStateCopyAck (num : BitVec 32) (ack : CopyAck) (s : State) : Res := .next (s.copyAcked num.toNat ack.peer)

/-- R420: the whole copied state has arrived; a copy applied since it was taken is newer.  The module becomes READY at the next frame
start, when every copy sent since has been applied. -/
def State.wholeState (s : State) (w : Copied) : State :=
  let t := if (s.xlk.applied.map fun f => decide (w.at_ < f)).getD false then s else s.applyCopied w
  { t with xlk := { t.xlk with resync := false, joinDone := s.xlk.joinDone || s.xlk.resync } }

def execReadyRegain (w : Copied) (s : State) : Res :=
  .next (if (s.isStandby || (s.role == roleJoining && s.xlk.resync)) && s.inRunQuiet then s.wholeState w else s)

/-! ## Relays (R134, R400, R422) -/

def execReturnFieldRelay (i : BitVec 12) (f : RetField) (s : State) : Res :=
  .next (if s.paired && s.inRunQuiet then s.takeField i.toNat f false else s)

def execLocalRecordRelay (r : EvRec) (s : State) : Res :=
  .next (if s.role = roleActive ∧ (s.xlk.joined ∨ s.xlk.resync) ∧ s.inRunQuiet then raiseAll 24 (s.journal r).2 (s.journal r).1 else s)

/-- R134: the ID under which a calibration record of slot `i` is acknowledged. -/
def calAckId (i : Nat) : Nat := 2 ^ 40 + i

def execCalRecordReceived (slot : BitVec 12) (words : List (BitVec 32)) (s : State) : Res :=
  .next (if s.isStandby && s.inRunQuiet then
    (s.wrs (calFlashAddr slot.toNat) (words.take 128)).emit (.ack (calAckId slot.toNat)) else s)

/-! ## Role swap (R431) -/

/-- R431: the partner is READY and may take authority. -/
def State.swapOk (s : State) : Bool :=
  s.activePaired && s.flag F.XLK_STAT_READY && (s.xlk.partner.map (·.permit)).getD false

/-- R431: the first frame start at least two frame periods from now. -/
def State.swapFrame (s : State) : Nat :=
  let t := s.ns + 2 * s.framePeriod
  if t % s.framePeriod = 0 then t else s.gridAt t + s.framePeriod

/-- R431: XLK_CMD.SWAP. -/
def State.xlkSwapCmd (s : State) : State :=
  if s.swapOk then ({ s with xlk := { s.xlk with swapAt := some s.swapFrame } }).answer stOk
  else ((s.setFlag F.XLK_STAT_SWAPDONE false).raise 0xA07 0 [0]).answer stOk

def execXlkCmdSwap (s : State) : Res := .next (s.hostWr Reg.XLK_CMD 1 (·.xlkSwapCmd))

/-- R389, R400: records of the journal that no copy has carried. -/
def State.uncarried (s : State) : List EvRec :=
  (List.range ((s.get F.JNL_WPTR_NUM + 4294967296 - s.xlk.jnlSent) % 4294967296)).map fun k => s.jnlRec ((s.xlk.jnlSent + k) % 4294967296)

/-- R389: the record is a local one of this module. -/
def State.ownLocal (s : State) (r : EvRec) : Bool := bit r.w0.toNat 28 && getBits r.w1 31 1 == s.get F.GLB_ROLE_HALF

/-- R389, R400, R431: what no copy has carried leaves the journal and the queue of a module that gives up authority, and its own local
records go to the new active module, which journals them (assumption log 9). -/
def State.giveTail (s : State) : State :=
  let keep (l : List QRec) : List QRec :=
    (l.filter fun q => (q.copy.map fun k => numBefore k s.xlk.jnlSent).getD true).map fun q => { q with copy := none }
  let s1 := s.jnlMove s.xlk.jnlSent
  let s2 : State := { s1 with evq := { s1.evq with fifo := keep s1.evq.fifo, bank0 := keep s1.evq.bank0, bank1 := keep s1.evq.bank1 } }
  forEach (fun r t => t.relay r) (s.uncarried.filter s.ownLocal) s2.setFull

/-- R431: at Fs authority leaves the old active module. -/
def State.swapOut (s : State) : State :=
  let s1 := ((s.setRole roleStandby).setFlag F.XLK_STAT_READY true).giveTail
  let s2 := (s1.setFlag F.XLK_STAT_SWAPDONE true).wrTime Reg.XLK_TKAT_S_LO s.ns
  { s2 with xlk := { s2.xlk with joined := false, swapAt := none, copyAt := none, resync := false } }.raise 0xA07 0 [1]

/-- R427, R431: at Fs a READY standby takes authority; the pair stays joined. -/
def State.swapIn (s : State) : State :=
  let split := s.sru.split
  let s1 := (s.takeAuthority.radioTakeover.setFlag F.SRU_STAT_SERVEALL false).setFlag F.XLK_STAT_SWAPDONE true
  { s1 with sru := { s1.sru with split := split }, xlk := { s1.xlk with joined := true } }

/-- R431: a SWAP that was accepted can no longer take place: the standby has left READY (assumption log 57). -/
def State.swapOff (s : State) : State := { s.setFlag F.XLK_STAT_SWAPDONE false with xlk := { s.xlk with swapAt := none } }

/-- R431: the swap at its frame start; the copies have told the standby Fs. -/
def State.swapRoles (s : State) : State :=
  match s.xlk.swapAt with
  | none => s
  | some t =>
    if s.ns < t then s
    else if s.activePaired then (if s.flag F.XLK_STAT_READY then s.swapOut else s.swapOff.raise 0xA07 0 [0])
    else if s.isStandby && s.flag F.XLK_STAT_READY && s.flag F.XLK_AUTH_PERMIT then s.swapIn
    else s.swapOff

def execXlkSwap (s : State) : Res := .next (if s.inRunQuiet then s.swapRoles else s)

/-- R420: XLK_CMD.RESYNC. -/
def State.resyncCmd (s : State) : State :=
  (if s.activePaired then s.sendWhole
   else if s.isStandby then
     { s.setFlag F.XLK_STAT_READY false with xlk := { s.xlk with resync := true, copyAt := none } }
   else s).answer stOk

def execXlkCmdResync (s : State) : Res := .next (s.hostWr Reg.XLK_CMD 2 (·.resyncCmd))

/-! ## Firmware (R432) -/

/-- R432: XLK_CMD.FWCOMMIT. -/
def State.fwCommit (s : State) : State :=
  (if s.xlk.fwBusy.isSome then s
   else { (s.put F.XLK_FWSTAT_STATE 1).put F.XLK_FWSTAT_ERR 0 with xlk := { s.xlk with fwBusy := some (s.get F.XLK_FWPTR_PTR) } }).answer stOk

def execXlkCmdFwcommit (s : State) : Res := .next (s.hostWr Reg.XLK_CMD 4 (·.fwCommit))

/-- Store address of firmware bank `k`. -/
def fwBankAt (k : Nat) : Nat := fwFlash + k * 0x400000

/-- R432: the check and the flash write that FWCOMMIT started are complete. -/
def State.fwVerified (s : State) (flashOk : Bool) : State :=
  match s.xlk.fwBusy with
  | none => s
  | some len =>
    let e := s.signErr fwStage len
    let err := if e ≠ 0 then e else if flashOk then 0 else 8
    let k := 1 - s.xlk.fwBank
    let s0 : State := { s with xlk := { s.xlk with fwBusy := none } }
    if err = 0 then
      let s1 := forUp (fun j s => s.wr (fwBankAt k + 4 * j) (s.rd (fwStage + 4 * j))) ((len - 64 + 3) / 4) s0
      { s1.put F.XLK_FWSTAT_STATE 2 with
        xlk := { s1.xlk with fwLen := spSet (fun _ => none) s1.xlk.fwLen k (some (len - 64)), fwNext := some k } }
    else ((s0.signUse e).put F.XLK_FWSTAT_STATE 3).put F.XLK_FWSTAT_ERR err

def execFirmwareBankVerified (flashOk : Bool) (s : State) : Res := .next (if s.inRunQuiet then s.fwVerified flashOk else s)

def execXlkFwptrWrite (v : BitVec 32) (s : State) : Res :=
  .next (s.hostWr Reg.XLK_FWPTR v.toNat fun s => s.stagePtr F.XLK_FWPTR_PTR 4194304 v.toNat)

def execXlkFwdatWrite (v : BitVec 32) (s : State) : Res :=
  .next (s.hostWr Reg.XLK_FWDAT v.toNat fun s => s.stageDat F.XLK_FWPTR_PTR fwStage 4194304 s.xlk.fwBusy.isSome v)

/-! ## Joining (R430) -/

/-- R430: step `k` fails. -/
def State.joinFail (s : State) (k : Nat) : State :=
  { (s.setFlag F.XLK_STAT_JOINFAIL true).raise 0xA06 0 [k] with
    xlk := { ((s.setFlag F.XLK_STAT_JOINFAIL true).raise 0xA06 0 [k]).xlk with retryAt := some (s.ns + 10 * nsPerSec), joinDone := false } }

/-- R430 step 4: the partner's active image passes the checks of PATLOAD steps 2 to 6 and is made active; none when it fails. -/
def State.joinImage (s : State) (ws : List Word) : Option State :=
  let keep := s.rds penStage ws.length
  let ptr := s.get F.PEN_IMGPTR_PTR
  let t := (s.wrs penStage ws).put F.PEN_IMGPTR_PTR (4 * ws.length)
  let len := t.imageLen.getD 0
  if t.rdBE penStage 0 4 = 0x46515049 ∧ t.rdBE penStage 4 2 = 1 ∧ t.imageLen.isSome ∧ t.tableErr len = 0 ∧ t.signErr penStage len = 0 then
    let idle := 1 - t.get F.PEN_STAT_ACTIVE
    let t1 := t.storeImage idle len
    let h := Crypto.sha256 (t1.rdBytes (penFlashAt idle) 0 len)
    let t2 := (t1.wrs (Reg.PEN_IHASH_I 0) (bytesWords h)).wr Reg.PEN_IID (BitVec.ofNat 32 (t1.rdBE penStage 16 4))
    let t3 := (t2.swapIds.put F.PEN_STAT_ACTIVE idle).startImage
    some ((t3.wrs penStage keep).put F.PEN_IMGPTR_PTR ptr)
  else none

/-- R134, R430 step 4: the partner's calibration records. -/
def State.joinCal (s : State) (l : List (Nat × List Word)) : State :=
  if l = [] then s
  else (forEach (fun (p : Nat × List Word) s => (s.wrs (calFlashAddr p.1) (p.2.take 128)).installRec p.1) l s).calRehash

/-- R264, R430 step 5: the link delay, and the partner's time by one step. -/
def State.joinTime (s : State) (x : JoinFacts) : State :=
  let s1 := s.put F.XLK_LDLY_NS x.ldly
  if x.time = s.ns then s1 else
    let s2 := s1.stepNow { cause := 3, delta := some ((x.time : Int) - s.ns) } s.ns
    { s2 with tbu := { s2.tbu with step := none } }

/-- R382: the host-domain key, under which the modules of a pair answer each other. -/
def State.pairKey (s : State) : Option (List Nat) := s.keyFor (s.get F.KST_DOMAIN_HOST) 0

/-- R378, R382, R430 step 2: the module's challenge, and its answer to the partner's; a key that is INVALID or ORPHANED is a use refused. -/
def State.joinAnswer (s : State) (x : JoinFacts) : State :=
  match s.pairKey with
  | none => s.keyRefused (s.get F.KST_DOMAIN_HOST)
  | some k => { s.emit (.joinAnswer s.newChallenge (challengeAnswer k x.chal s.moduleId (timeQ s.ns))) with free := s.free + 4 }

/-- R382, R430: the step, of the first three, that fails; 0: none. -/
def State.joinErr (s : State) (x : JoinFacts) : Nat :=
  if !x.linkOk then 1
  else if !(s.pairKey.any fun k => answerOk k s.newChallenge (Crypto.toBytes 8 x.pid) x.answer (timeQ s.ns)) then 2
  else if x.fmt ≠ s.get F.XLK_FMT_OWN then 3
  else 0

/-- R430 step 3: what the module learns of its partner. -/
def State.learn (s : State) (x : JoinFacts) : State :=
  ((s.put F.XLK_FMT_PART x.fmt).setFlag F.XLK_STAT_FWDIFF (x.uhash != s.rds (Reg.KST_UHASH 0) 8)).put F.XLK_PID_HI_ID
    (x.pid / 4294967296) |>.put F.XLK_PID_LO_ID x.pid

/-- R430 steps 1 to 3, in either module. -/
def State.joinMeet (s : State) (x : JoinFacts) : State :=
  let e := s.joinErr x
  let s1 := if e = 1 then s else s.joinAnswer x
  let s2 := if e = 0 ∨ e = 3 then s1.learn x else s1
  if e = 0 then s2 else s2.joinFail e

/-- R430: the joiner's steps 4 to 6; its sequence numbers come with the state (R190). -/
def State.joinTake (s : State) (x : JoinFacts) : State :=
  let img := if x.ihash = s.rds (Reg.PEN_IHASH_A 0) 8 then none else x.image
  let cal := if x.chash = s.rds (Reg.SME_CHASH 0) 8 then [] else x.cal
  match (match img with | some ws => s.joinImage ws | none => some s) with
  | none => s.joinFail 4
  | some t =>
    let t1 := ((t.joinCal cal).joinTime x).applyCopied x.whole
    { t1.setFlag F.GLB_RSTAT_JOINED true with
      sea := { t1.sea with seams := (List.range 32).map fun n => (n, { t1.seam n with reseq := false }) }
      xlk := { t1.xlk with joinDone := true, resync := false, copyAt := none } }

/-- R430: the joiner's steps 1 to 6. -/
def State.joinSteps (s : State) (x : JoinFacts) : State :=
  let t := s.joinMeet x
  if s.joinErr x = 0 then t.joinTake x else t

/-- R84: the bytes of the image in flash bank `k`; 0 when it holds none. -/
def State.imageBytes (s : State) (k : Nat) : Nat :=
  let a := penFlashAt k
  if s.rdBE a 0 4 ≠ 0x46515049 then 0
  else ((s.initRecs a 0x200000 (576 + 4 * s.rdBE a 8 4 + 256 * s.rdBE a 12 2) (s.rdBE a 14 2)).map fun r => r.2 + 64).getD 0

/-- R430 step 4: the active module sends its active image, if the hashes differ. -/
def State.bulkImage (s : State) (x : JoinFacts) : State :=
  let k := s.get F.PEN_STAT_ACTIVE
  if x.ihash = s.rds (Reg.PEN_IHASH_A 0) 8 ∨ s.imageBytes k = 0 then s
  else s.emit (.bulkImage (s.rds (penFlashAt k) ((s.imageBytes k + 3) / 4)))

/-- R430 step 4: the active module sends its calibration records, if the hashes differ. -/
def State.bulkCal (s : State) (x : JoinFacts) : State :=
  if x.chash = s.rds (Reg.SME_CHASH 0) 8 then s
  else forEach (fun (p : Nat × Lum) t => if p.2.rec_ = .valid then t.emit (.calRecord p.1 (s.rds (calFlashAddr p.1) 128)) else t) s.sme.lums s

/-- R430: the active module's part of a join. -/
def State.joinGive (s : State) (x : JoinFacts) : State :=
  let t := s.joinMeet x
  if s.joinErr x = 0 then (((t.put F.XLK_LDLY_NS x.ldly).bulkImage x).bulkCal x).copyFrom.sendWhole else t

/-- R430: the modules run the join steps; an active module with JOINEN = 0 refuses. -/
def State.pairJoin (s : State) (x : JoinFacts) : State :=
  let b := (s.xlk.partner.map (·.role)).getD roleSolo
  if !s.inRunQuiet then s
  else if s.role = roleJoining ∧ b = roleActive ∧ s.xlk.joinDone = false ∧ s.xlk.resync = false ∧
      (s.xlk.retryAt.map fun t => decide (t ≤ s.ns)).getD true then
    ({ s with xlk := { s.xlk with retryAt := none } }).joinSteps x
  else if s.role = roleActive ∧ b = roleJoining ∧ s.flag F.XLK_CTL_JOINEN then s.joinGive x
  else s

def execPairJoin (x : JoinFacts) (s : State) : Res := .next (s.pairJoin x)

/-- R420, R430: at the first frame start after it has applied the whole state and every copy since, the joiner is READY. -/
def State.joinReady (s : State) : State :=
  if s.role = roleJoining ∧ s.xlk.joinDone ∧ s.xlk.resync = false ∧ !s.flag F.XLK_STAT_READY then
    { s.setFlag F.XLK_STAT_READY true with xlk := { s.xlk with readyAt := some s.gridNow } }
  else s

/-- R430 step 7: at the first frame start after READY the joiner is STANDBY, and its partner releases FENCE. -/
def State.joinEnd (s : State) : State :=
  if s.role = roleJoining ∧ s.xlk.joinDone ∧ s.flag F.XLK_STAT_READY ∧ (s.xlk.readyAt.map fun t => decide (t < s.gridNow)).getD false then
    let s1 := ((s.setRole roleStandby).setFlag F.XLK_STAT_READY true).raise 0xA05 0
    { s1 with xlk := { s1.xlk with joinDone := false, failedAt := none, readyAt := none, freshAt := some s.gridNow }
              rtc := { s1.rtc with keep := Vector.replicate 2 none } }
  else if s.role = roleActive ∧ s.xlk.joined = false ∧ s.xlk.resync ∧ s.flag F.XLK_STAT_READY then
    let s1 : State := { s with xlk := { s.xlk with joined := true, resync := false, failedAt := none } }
    (s1.fence false).raise 0xA05 0
  else s

def execXlkJoin (s : State) : Res := .next (if s.inRunQuiet then s.joinEnd else s)

def execJoinRetry (s : State) : Res :=
  .next (if s.role = roleJoining ∧ (s.xlk.retryAt.map fun t => decide (t ≤ s.ns)).getD false then
    { s with xlk := { s.xlk with retryAt := none } } else s)

/-- R414: no partner heartbeat within 100 ms. -/
def execPartnerWaitExpiry (s : State) : Res :=
  .next (if s.role = roleJoining ∧ s.inRunQuiet ∧ !s.flag F.XLK_STAT_PRESENT ∧ s.xlk.joinFrom + 100000000 ≤ s.ns then s.becomeActive else s)

end Sys2Proof.Machine
end

