-- ==== Sys2Proof/Machine/Frame.lean ====
section
/-!
DEFINITION. Machine/Frame.lean: the ordered steps of a frame start (R24, R25, R29), the change between RUN and QUIET that takes
place at one (R470), and the course of a time step over the frame starts (R260).
-/

namespace Sys2Proof.Machine

/-! ## The next frame start (R19, R262) -/

/-- R15, R250: the time base reaches the instant `f`, and the copies of the RWV fields have been voted on the way. -/
def State.reach (s : State) (f : Nat) : State := if s.ns < f then { s.voteAll with ns := f, frac := 0 } else s

/-! ## RUN and QUIET (R158, R470, R471) -/

/-- R470: the frame start `f` is the one at which a pending change takes effect: a multiple of 100,000 µs for QUIET. -/
def State.changeDue (s : State) (f : Nat) : Bool :=
  match s.phu.qreq with
  | some (true, w) => decide (w < f) && f % 100000000 == 0
  | some (false, w) => decide (w < f)
  | none => false

/-- R158, R470, R471: the pending change takes effect at the frame start `f`; on entering QUIET the engine stops solving. -/
def State.changeState (s : State) (f : Nat) : State :=
  match s.phu.qreq with
  | some (q, _) =>
    let s1 : State := { s with mode := if q then .quiet else .run
                               phu := { s.phu with qreq := none, wokeAt := if q then s.phu.wokeAt else some f }
                               sme := if q then { s.sme with latch := none, next := none, nextCs := [], capFailed := false } else s.sme }
    (s1.setFlag F.GLB_STATE_QPEND false).raise 0x00C 0
  | none => s

/-- R470: a pending change that is due at the frame start `f` takes effect. -/
def State.stateStep (s : State) (f : Nat) : State := if s.inRunQuiet && s.changeDue f then s.changeState f else s

/-! ## Step 3: solve inputs (R26, R421) -/

/-- R107: the gains that ZGAIN returns in the tick that starts at `f` are those latched at `f`. -/
def State.latchGains (s : State) (f : Nat) : State :=
  if s.pen.tickAt = some f then { s with pen := { s.pen with snap := { s.pen.snap with gain := s.zon.gainLatched, gainAt := some f } } } else s

/-! ## Step 4: the state copy (R263, R408, R417) -/

/-- R417: the active module has a standby, or a joiner that has been given the whole state. -/
def State.sendsCopies (s : State) : Bool := s.role == roleActive && (s.xlk.joined || s.xlk.resync)

/-- R417: frames originate at the frame start `f`, so that a copy belongs to it; WAKE's frame start carries one too, because inputs are
latched at it (assumption log 57). -/
def State.carriesCopy (s : State) (f : Nat) : Bool := s.inRun || (s.tbu.step.map fun r => r.fr.isSome).getD false || f % 100000000 == 0

/-- R420: a copy to a module that has left READY has not been acknowledged by the next frame start: the whole state is sent again. -/
def State.wholeAgain (s : State) : State :=
  let standby := (s.xlk.partner.map fun b => b.role == roleStandby).getD false
  if s.xlk.copyAt.isSome && !s.flag F.XLK_STAT_READY && (standby || s.xlk.ackSeen) then s.sendWhole else s

/-- R400, R417: a copy that has not been acknowledged by the next one: what it gave is given again. -/
def State.unacked (s : State) : State :=
  if s.xlk.copyAt.isSome then { s with xlk := { s.xlk with jnlSent := s.xlk.jnlAcked, told := [], toldLums := [] } } else s

/-- R263, R389, R417: the time mark and the state copy of the frame start `f`. -/
def State.sendCopy (s' : State) (f : Nat) (latch : List (Nat × Bool)) : State :=
  let s := s'.unacked.wholeAgain
  let c := s.copyMsg f latch
  let s1 := (s.tellState c.st).put F.XLK_COPYSZ_BYTES (s.copyBytes c).length
  let s2 : State := { s1 with xlk := { s1.xlk with copyAt := some (f, c.num), copyNext := (c.num + 1) % 4294967296, jnlSent := c.wptr }
                              sme := { s1.sme with installed := none, calEnded := false } }
  (((s2.peerTold).imageCopied s2.sea.imgGo).emit (.timeMark s2.ns)).emit (.stateCopy c)

/-- R408, R417: step 4 of the frame start `f`. -/
def State.copyStep (s : State) (f : Nat) (latch : List (Nat × Bool)) : State :=
  let s0 := s.fillDumps (s.copyMsg f latch)
  if s.sendsCopies then (if s.carriesCopy f then s0.sendCopy f latch else s0)
  else { s0 with sme := { s0.sme with installed := none, calEnded := false } }

/-! ## Step 5: frames (R29, R169, R200, R314) -/

/-- R29, R153, R157, R183: the codes of the frame to be sent, as the slots are sent them: those solved for it, else those sent before,
with the account of a late frame. -/
def State.takeCodes (s : State) (due : Bool) : State :=
  let sent (c : Sp (List Nat)) : Sp (List Nat) := c.map fun p => (p.1, s.slotCodes c p.1)
  match s.sme.next with
  | some c => { s with sme := { s.sme with sent := sent c, sentCs := s.sme.nextCs, next := none, nextCs := [], capFailed := false } }
  | none =>
    let s : State := { s with sme := { s.sme with sent := sent s.sme.sent } }
    if due then
      let s2 := ((s.incSat F.SME_LATECNT_COUNT).setFlag F.SME_STAT_LATE true).raiseRated nsPerSec 0x210 0
      { s2 with sme := { s2.sme with capFailed := false } }
    else s

/-- The codes of the frame that was solved are dropped: no DRIVE frame is sent. -/
def State.dropCodes (s : State) : State := { s with sme := { s.sme with next := none, nextCs := [], capFailed := false } }

/-- R171: the DRIVE frames of every seam. -/
def State.sendDrives (s : State) (f : Nat) : State :=
  let s1 := forUp (fun n s => if s.seamOn n then s.sendDrive n f s.sme.sent else s) 32 s
  { s1 with sme := { s1.sme with firstDrive := some (s1.sme.firstDrive.getD f) }, sea := { s1.sea with sentAt := some f } }

/-- R260: Fr of a step has passed and its G2 has not. -/
def State.stepping (s : State) : Bool := (s.tbu.step.map fun r => r.fr.isSome).getD false

/-- R171, R200, R260: the IDLE frames of every seam. -/
def State.sendIdles (s : State) (f : Nat) : State :=
  let s1 := forUp (fun n s => if s.seamOn n then s.sendIdle n f else s) 32 s
  { s1 with sea := { s1.sea with sentAt := some f } }

/-- R191, R205: a frame cycle begins in which nothing has been originated yet, and an ENUM may be given up. -/
def State.newCycle (s : State) : State :=
  forUp (fun n s => let t := s.enumLost n
                    if (t.seam n).cycleSent = 0 then t else t.setSeam n { t.seam n with cycleSent := 0 }) 32 s

/-- R481: from the release of reset to the seams' being enabled, and to the restored memories. -/
def seamsDelay : Nat := 500000000
def serviceDelay : Nat := 1200000000

/-- R481: the module has codes to send in a DRIVE frame at `f`: its memories are restored, and a frame has been solved since the restart. -/
def State.hasCodes (s : State) (f : Nat) : Bool :=
  decide (s.phu.tr + serviceDelay ≤ f) && (s.sme.next.isSome || s.sme.firstDrive.isSome)

/-- R25 step 5, R481: the frames of the frame start `f`: DRIVE in RUN, IDLE until a frame has been solved since the restart, during a step and
at the 100 ms instants of QUIET; nothing before the seams are enabled. -/
def State.sendStep (s : State) (f : Nat) (drive due : Bool) : State :=
  let sends := s.originates && decide (s.phu.tr + seamsDelay ≤ f)
  if drive && s.hasCodes f then
    let s1 := s.takeCodes due
    let s2 := if sends then s1.sendDrives f else s1
    (s2.photonAccount f).ageUnverified
  else
    let s1 := s.dropCodes
    let idle := drive || s1.stepping || f % 100000000 == 0
    let s2 := if sends && idle then s1.sendIdles f else s1
    s2.photonAccount f

/-! ## The course of a step (R260) -/

/-- R260: what the frame start `f` means for a step in progress: Fr, G1, G2. -/
def State.stepCourse (s : State) (f : Nat) : State :=
  match s.tbu.step with
  | none => s
  | some r =>
    if r.done = false then { s with tbu := { s.tbu with step := some { r with fr := some (r.fr.getD f) } } }
    else match r.g1 with
      | none => { s with tbu := { s.tbu with step := some { r with g1 := some f } } }
      | some _ =>
        let s1 := s.setFlag F.TBU_STAT_STEPPING (s.tbu.stepNext.isSome || s.tbu.slew.isSome)
        { s1 with tbu := { s1.tbu with step := s1.tbu.stepNext, stepNext := none } }

/-- R260: the frame start `f` is Fs of the step in progress. -/
def State.stepDue (s : State) (f : Nat) : Option StepReq :=
  match s.tbu.step with
  | some r => if r.done then none else match r.fr with
    | some fr => if fr + s.sea.leadUs * 1000 ≤ f then some r else none
    | none => none
  | none => none

/-! ## The frame start (R25) -/

/-- R414, R420, R430, R431: what a frame start does for the pair before the steps of R25. -/
def State.pairStep (s : State) : State :=
  let s1 := if s.xlk.demote && s.role == roleActive then s.startJoining else s
  let s2 := if s1.copyOverdue then s1.copyLost else s1
  let s3 := if s2.xlk.swapAt.isSome then s2.swapRoles else s2
  let s4 := if s3.isStandby && s3.xlk.joinDone && !s3.xlk.resync then
      { s3.setFlag F.XLK_STAT_READY true with xlk := { s3.xlk with joinDone := false } }
    else s3
  s4.joinReady.joinEnd

/-- R417, R420: a standby, and a joiner that has the whole state, expects the copy of the frame start `f`. -/
def State.expectCopy (s : State) (f : Nat) : State :=
  if s.takesCopies && s.carriesCopy f then
    { s with xlk := { s.xlk with copyAt := some (f, s.copyNum f) } } else s

/-- R25: steps 1 to 3 of the frame start `f`, and the return fields that the active module has named for them. -/
def State.inputSteps (s : State) (f : Nat) : State × List (Nat × Bool) :=
  let x := if s.acts then s.latchFields else (s.shelveFields, [])
  let s3 := ((x.1.lanesAtFrame.tickSteps f).installStep).runLoops f
  (if s3.acts then (s3.latchWith s3.heldWords (f + s3.framePeriod)).latchGains f else s3, x.2)

/-- What every frame start does after the steps of R25. -/
def State.frameTail (s : State) : State := ((s.countStale).discTrack).bankSwap.modeChange

/-- R25: steps 1 to 6 of the frame start `f`, in the module's mode and role. -/
def State.frameSteps (s : State) (f : Nat) : State :=
  let s1 := (s.stateStep f).stepCourse f
  let drive := s1.inRun && s1.phu.wokeAt != some f && !s1.stepping
  let due := s1.sme.latch.isSome
  let x := s1.inputSteps f
  let s5 := (x.1.copyStep f x.2).expectCopy f
  (s5.newCycle.sendStep f drive due).frameTail

/-- R25, R260: the time base reaches the next frame start; it is frozen in HOLD (R486).  At Fs of a step no frame originates and no copy is
sent (R260, R417), and steps 1 to 3 come before the step. -/
def State.frameStart (s : State) : State :=
  if !s.inRunQuiet then s
  else
    let f := s.nextFrame
    let s2 := ((((s.reach f).rtcSettle.fenceSettle).fperChange).leadChange).pairStep
    match s2.stepDue f with
    | some r => (((s2.stateStep f).inputSteps f).1.frameTail).stepNow r f
    | none => { s2.frameSteps f with lastFrame := some f }

def execFrameStart (s : State) : Res := .next s.frameStart

/-- R260: the frame start Fr of a step that has been requested. -/
def execStepBegin (s : State) : Res :=
  .next (if (s.tbu.step.map fun r => r.fr.isNone && !r.done).getD false then s.frameStart else s)

/-- R260: the frame start Fs of a step that has begun. -/
def execTimeStep (s : State) : Res := .next (if (s.stepDue s.nextFrame).isSome then s.frameStart else s)

end Sys2Proof.Machine
end

