-- ==== Sys2Proof/Machine/View.lean ====
section
/-!
DEFINITION. Machine/View.lean: the address map (R520 to R524) and what each register and window word reads as (R161, R451, R466):
most registers are words of the store; those that report state kept elsewhere are computed here.
-/

namespace Sys2Proof.Machine

/-! ## The address map (R520, R521, R523) -/

/-- R523: the memory windows. -/
inductive Win where
  | prog | data | curve | node | radio | cal | jnl | lop
deriving DecidableEq, Repr

/-- R520: what an address lies in: a block, by its bit in HAP_WBUSY, or a window. -/
inductive Place where
  | block (b : Nat)
  | window (w : Win)
deriving DecidableEq, Repr

/-- R521: the regions without gaps: first address, first address after it, block. -/
def regions : List (Nat × Nat × Nat) :=
  [(0x0, 0x100, 0), (0x1000, 0x1180, 1), (0x2000, 0x2100, 2), (0x3000, 0x30C0, 3), (0x10000, 0x10100, 4), (0x11000, 0x11800, 4),
   (0x20000, 0x24000, 5), (0x30000, 0x30200, 6), (0x40000, 0x40100, 7), (0x50000, 0x50100, 8), (0x60000, 0x60100, 9),
   (0x61000, 0x63000, 9), (0x64000, 0x64800, 9), (0x70000, 0x70100, 10), (0x80000, 0x80280, 11), (0x90000, 0x90180, 12),
   (0xA0000, 0xA0080, 13), (0xA1000, 0xA1080, 14), (0xB0000, 0xB0100, 15), (0xC0000, 0xC00C0, 16)]

/-- R523: the windows: first address, size in bytes, window. -/
def windows : List (Nat × Nat × Win) :=
  [(progBase, 0x80000, .prog), (dataBase, 0x20000, .data), (curveWin, 0x10000, .curve), (nodeBase, 0x20000, .node),
   (radioBase, 0x10000, .radio), (calBase, 0x200000, .cal), (jnlBase, 0x800000, .jnl), (lopBase, 0x10000, .lop)]

/-- R520, R521: the block of a register address. -/
def blockAt (a : Nat) : Option Nat :=
  if 0x41000 ≤ a ∧ a < 0x43000 ∧ a % 0x100 < 0xA0 then some 7
  else if 0x71000 ≤ a ∧ a < 0x71700 ∧ a % 0x40 < 0x30 then some 10
  else (regions.find? fun r => decide (r.1 ≤ a) && decide (a < r.2.1)).map (·.2.2)

/-- R520: where an address lies; none: ERR_ADDR. -/
def placeAt (a : Nat) : Option Place :=
  match blockAt a with
  | some b => some (.block b)
  | none => (windows.find? fun w => decide (w.1 ≤ a) && decide (a < w.1 + w.2.1)).map fun w => .window w.2.2

/-- R465: the bit of HAP_WBUSY of a place; none for a window that takes no writes. -/
def Place.bit? : Place → Option Nat
  | .block b => some b
  | .window .data => some 17
  | .window .node => some 18
  | .window .radio => some 19
  | .window _ => none

/-! ## Words of the store with fields reported from elsewhere -/

/-- A word of a one-bit flag. -/
def flagWord (b : Bool) (lo : Nat) : Nat := if b then 2 ^ lo else 0

/-- The three words of a TAI time by offset 0, 4, 8. -/
def timeWord (t o : Nat) : Word :=
  BitVec.ofNat 32 (if o = 0 then t / nsPerSec else if o = 4 then t / nsPerSec / 4294967296 % 65536 else t % nsPerSec)

/-- R490: GLB registers. -/
def State.viewGlb (s : State) (a : Nat) : Word :=
  if a = Reg.GLB_STATE then putBits (putBits (s.rd a) 0 1 s.mode.code) 1 1 (if s.phu.qreq.isSome then 1 else 0) else s.rd a

/-- R438, R466: the addressing registers are staged. -/
def addrRegs : List Nat := [Reg.HAP_CTL] ++ (List.range 13).map fun i => Reg.HAP_PORT + 4 * i

/-- R438: a set of addressing fields awaits NETCOMMIT. -/
def State.netPend (s : State) : Bool := addrRegs.any fun a => (spGet (fun _ => none) s.basted a).isSome

/-- R459: the highest XID executed in a session. -/
def HSess.top (x : HSess) : Nat := (x.cache.getLast?.map (·.1)).getD 0

/-- R456: HAP_WBUSY. -/
def State.wbusy (s : State) : Nat := (s.hap.posted.map (·.1)).foldl (fun m b => setBit m b true) 0

/-- R465, R466: HAP registers. -/
def State.viewHap (s : State) (a : Nat) : Word :=
  let x : HSess := (s.sess (s.get F.HAP_SSEL_INDEX)).getD { id := 0 }
  if a = Reg.HAP_STAT then putBits (s.rd a) 9 1 (if s.netPend then 1 else 0)
  else if a = Reg.HAP_WBUSY then BitVec.ofNat 32 s.wbusy
  else if a = Reg.HAP_SCNT then BitVec.ofNat 32 (s.sessOpen + s.pendLive.length % 16 * 256)
  else if a = Reg.HAP_SID then BitVec.ofNat 32 x.id
  else if a = Reg.HAP_SXID then BitVec.ofNat 32 x.top
  else if a = Reg.HAP_SPEER then BitVec.ofNat 32 (x.peer.port.toNat + flagWord x.peer.v6 16)
  else if Reg.HAP_SLAST_S_LO ≤ a ∧ a ≤ Reg.HAP_SLAST_NS then timeWord x.last (a - Reg.HAP_SLAST_S_LO)
  else if Reg.HAP_SADDR 0 ≤ a ∧ a ≤ Reg.HAP_SADDR 3 then
    BitVec.ofNat 32 (x.peer.addr.toNat / 2 ^ (96 - 8 * (a - Reg.HAP_SADDR 0)) % 4294967296)
  else s.rd a

/-- R270: TBU registers. -/
def State.viewTbu (s : State) (a : Nat) : Word :=
  if a = Reg.TBU_HOLD then BitVec.ofNat 32 (min s.holdSec 0xFFFFFF)
  else if Reg.TBU_NOW_S_LO ≤ a ∧ a ≤ Reg.TBU_NOW_NS then timeWord s.ns (a - Reg.TBU_NOW_S_LO)
  else s.rd a

/-- R293, R294: RTC registers. -/
def State.viewRtc (s : State) (a : Nat) : Word :=
  if a = Reg.RTC_CVAL then BitVec.ofNat 32 (ofSigned 24 (s.rtc.curve.toList.getD (s.get F.RTC_CSEL_POINT) 0))
  else s.rd a

/-- R96: the register that PEN_BDBG selects, as of the bobbin's last group end. -/
def Bobbin.debug (b : Bobbin) (sel : Nat) : Word :=
  if sel < 16 then (if sel = 0 then 0 else b.gShow.toList.getD sel 0)
  else if sel < 48 then
    let v : VReg := b.vShow.toList.getD ((sel - 16) / 4) (Vector.replicate 8 0)
    let w := (sel - 16) % 4
    BitVec.ofNat 32 ((v.toList.getD (2 * w) 0).toNat + (v.toList.getD (2 * w + 1) 0).toNat * 65536)
  else 0

/-- R96: the registers of bobbin `n` at offset `o`. -/
def State.viewBob (s : State) (n o : Nat) (a : Nat) : Word :=
  let b := s.bob n
  let fl := flagWord b.fz 11 + flagWord b.fn 10 + flagWord b.fc 9 + flagWord b.fv 8
  if o = 0x04 then BitVec.ofNat 32 (b.st.code + b.fcode * 16 + fl + flagWord b.cmdDone 12 + b.fpc.toNat * 65536)
  else if o = 0x08 then BitVec.ofNat 32 b.pc.toNat
  else if o = 0x1C then BitVec.ofNat 32 (b.pend.toNat + b.wmask.toNat * 65536)
  else if o = 0x20 then BitVec.ofNat 32 b.waitK
  else if 0x24 ≤ o ∧ o ≤ 0x2C then timeWord b.waitT (o - 0x24)
  else if o = 0x34 then b.debug (s.get (F.PEN_BDBG_SEL n))
  else s.rd a

/-- R160: state of a calibration record. -/
def RecState.code : RecState → Nat
  | .empty => 0 | .valid => 1 | .invalid => 2

/-- R160, R161: SME registers. -/
def State.viewSme (s : State) (a : Nat) : Word :=
  let i := s.get F.SME_LSEL_SLOT
  let l := s.lum i
  let z := s.get F.SME_ZSEL_ZONE
  if a = Reg.SME_STAT then putBits (s.rd a) 8 1 (if s.lopRunning 0x01 then 1 else 0)
  else if a = Reg.SME_LAGE then BitVec.ofNat 32 (l.age.toList.getD (s.get F.SME_LSEL_CH) 65536)
  else if a = Reg.SME_LTEMP then
    let age := match l.tAt with | some t => min ((s.ns - t) / 100000000) 0xFFFF | none => 0xFFFF
    BitVec.ofNat 32 (ofSigned 16 l.tUsed + age * 65536)
  else if a = Reg.SME_LSTAT then
    BitVec.ofNat 32 (l.rec_.code + (if l.rec_ = .empty then 0 else s.recFIT (calAddr i)) * 256 + l.live * 65536 + flagWord l.held 24)
  else if a = Reg.SME_ZQ then BitVec.ofNat 32 (spGet (fun _ => 65536) s.sme.zq z)
  else if a = Reg.SME_ZPWR then BitVec.ofNat 32 (spGet (fun _ => 0) s.sme.zpwr z)
  else s.rd a

/-- R204: SEA_GSTAT; LINK = 0 counts for an enabled seam. -/
def State.gstat (s : State) : Nat :=
  (List.range 32).foldl (fun m n =>
    let w := (s.rd (Reg.SEA_STAT n)).toNat
    setBit m n (bit w 4 || bit w 5 || bit w 6 || bit w 7 || bit w 8 || (s.flag (F.SEA_CTL_ENABLE n) && !bit w 0))) 0

/-- R221: number of channels that `p` accepts. -/
def State.countChans (s : State) (p : Chan → Bool) : Nat := min 0xFFFF (s.dia.chans.filter fun c => p c.2).length

/-- R221, R222: DIA registers. -/
def State.viewDia (s : State) (a : Nat) : Word :=
  let i := s.get F.DIA_SEL_SLOT
  let k := s.get F.DIA_SEL_CH
  let c := s.chan i k
  let cnt (x : ChState) : Nat := s.countChans (·.st == x)
  if a = Reg.DIA_STAT then putBits (s.rd a) 0 1 (if 0 < s.countChans (·.st.failed) then 1 else 0)
  else if a = Reg.DIA_CNT0 then BitVec.ofNat 32 (cnt .open_ + cnt .short * 65536)
  else if a = Reg.DIA_CNT1 then BitVec.ofNat 32 (cnt .overtemp + cnt .unverified * 65536)
  else if a = Reg.DIA_CNT2 then BitVec.ofNat 32 (s.countChans (·.aged) + s.countChans (·.latched) * 65536)
  else if a = Reg.DIA_SEAMF then
    BitVec.ofNat 32 ((s.dia.chans.filter fun c => c.2.st.failed).foldl (fun m c => setBit m (c.1 / 1024) true) 0)
  else if a = Reg.DIA_CHST then
    let eol := decide ((s.lum i).age.toList.getD k 65536 < s.get F.SME_AGELIM_LIMIT)
    let flaps := min 0xFF (c.flaps.filter fun t => decide (s.ns < t + flapWindow)).length
    BitVec.ofNat 32 (c.st.code + flagWord c.latched 3 + flagWord eol 4 + flagWord c.aged 5 + flaps * 256)
  else if a = Reg.DIA_VAGE then BitVec.ofNat 32 (min 0xFFFFFF (c.vage / nsPerSec))
  else s.rd a

/-- R247: an integrator as CCE_VINT and CCE_VOINT show it. -/
def showInt (i : Int) : Word := BitVec.ofInt 32 ((i + 0x8000) / 65536)

/-- R247, R248: CCE registers. -/
def State.viewCce (s : State) (a : Nat) : Word :=
  let l := s.loop (s.get F.CCE_SEL_LOOP)
  let inMode (m : LMode) : Nat := ((List.range 512).filter fun z => s.emode z == m).length
  let sat16s (x : Int) : Nat := ofSigned 16 (clampInt (-32768) 32767 x)
  if a = Reg.CCE_MCNT then BitVec.ofNat 32 (inMode .track + inMode .dli * 65536)
  else if a = Reg.CCE_VINT then showInt l.i
  else if a = Reg.CCE_VOINT then showInt l.oi
  else if a = Reg.CCE_VERR then BitVec.ofNat 32 (sat16s l.e + sat16s l.oe * 65536)
  else if a = Reg.CCE_VFE then BitVec.ofNat 32 (min 0xFFFFFF (l.fet / 1000))
  else if a = Reg.CCE_VQ then BitVec.ofNat 32 l.q
  else if 0x61000 ≤ a ∧ a < 0x63000 ∧ a % 16 = 12 then
    let z := (a - 0x61000) / 16
    let x := s.loop z
    putBits (putBits (s.rd a) 5 1 (if x.feh || x.ofeh then 1 else 0)) 16 16 x.dli
  else s.rd a

/-- R309, R325: MTR registers. -/
def State.viewMtr (s : State) (a : Nat) : Word :=
  let v := s.circAcc (s.get F.MTR_ASEL_CIRCUIT) (s.get F.MTR_ASEL_INDEX)
  let c := s.get F.MTR_CALSEL_CH
  if a = Reg.MTR_AVAL_LO then BitVec.ofNat 32 v
  else if a = Reg.MTR_AVAL_HI then BitVec.ofNat 32 (v / 4294967296)
  else if a = Reg.MTR_CALGAIN then BitVec.ofNat 32 (s.fullScale c)
  else if a = Reg.MTR_CALAUX then BitVec.ofNat 32 (s.calAux c)
  else s.rd a

/-- R359: slots allocated per rally, windows included. -/
def State.slotsUsed (s : State) : Nat :=
  s.get F.SRU_WIN_OPEN + s.get F.SRU_WIN_RECOV + (s.placed.map fun i => s.get (F.RT_W i)).foldl (· + ·) 0

/-- R359, R360: SRU registers. -/
def State.viewSru (s : State) (a : Nat) : Word :=
  let nodes (p : Nat → Bool) : Nat := ((List.range 1024).filter fun i => p (s.get (F.RT_STATE i))).length
  if a = Reg.SRU_STAT then putBits (putBits (s.rd a) 0 1 (if s.radioOn then 1 else 0)) 7 1 (if s.sru.cfgAt.isSome then 1 else 0)
  else if a = Reg.SRU_NODES then BitVec.ofNat 32 (nodes (· != 0) + nodes (· == rsDrifted) * 65536)
  else if a = Reg.SRU_SLOTS then BitVec.ofNat 32 (min 0x3FFFF s.slotsUsed)
  else if a = Reg.SRU_COUNTDN then
    BitVec.ofNat 32 (match s.sru.cfgAt with | some c => min 255 ((c - s.rallyNow) / (s.get F.SRU_RALLY_SEC * nsPerSec)) | none => 0)
  else if a = Reg.SRU_SEEN then
    BitVec.ofNat 32 (s.sru.seen.filter fun p => decide (s.ns < p.2.2 + 60 * nsPerSec)).length
  else if 0x800A0 ≤ a ∧ a < 0x800C0 then
    let j := (a - 0x800A0) / 4
    let us := s.airtime s.ns (3600 * nsPerSec) (·.band == some j)
    BitVec.ofNat 32 (if s.variantE then min 0x3FFFFF (divShow 359 us 1000) else 0)
  else if 0x80100 ≤ a ∧ a < 0x80200 then
    let i := (a - 0x80100) / 4
    if s.variantE && decide (34 ≤ i) then 0
    else putBits (s.rd a) 0 24 (min 0xFFFFFF (divShow 360 (s.airtime s.ns ((if s.variantE then 3600 else 20) * nsPerSec) (·.chan == i)) 1000))
  else if 0x80080 ≤ a ∧ a < 0x800A0 ∧ !s.variantE then 0
  else s.rd a

/-- R384: the public key of the attestation slot. -/
def State.attestPub (s : State) : List Nat :=
  match s.keyFor (s.get F.KST_DOMAIN_ATTEST) 5 with
  | some k => Crypto.edPublic k
  | none => List.replicate 32 0

/-- R385, R386: KST registers. -/
def State.viewKst (s : State) (a : Nat) : Word :=
  let n := s.get F.KST_SEL_SLOT
  let k := s.kslot n
  if a = Reg.KST_SSTAT then
    BitVec.ofNat 32 (k.st.code + k.pend.code * 16 + k.type * 256 + k.depth * 4096 + k.use % 64 * 65536 + k.parent * 16777216)
  else if a = Reg.KST_SKCV then
    BitVec.ofNat 32 (if n = 0 ∨ k.key = [] then 0 else kcvOf k.type k.key)
  else if a = Reg.KST_COUNT then
    let cnt (p : KState → Bool) : Nat := ((List.range 256).filter fun m => p (s.kslot m).st).length
    BitVec.ofNat 32 (cnt (· != .free) + cnt (· == .orphaned) * 65536)
  else if a = Reg.KST_ORPHUSE then putBits (s.rd a) 16 16 s.kstMigr
  else if Reg.KST_APUB 0 ≤ a ∧ a ≤ Reg.KST_APUB 7 then
    BitVec.ofNat 32 (Crypto.ofBytes ((s.attestPub.drop (a - Reg.KST_APUB 0)).take 4))
  else s.rd a

/-- R410: EVQ registers. -/
def State.viewEvq (s : State) (a : Nat) : Word :=
  if a = Reg.EVQ_STAT then putBits (s.rd a) 1 1 (if s.evqEmpty then 1 else 0)
  else if a = Reg.EVQ_LEVEL then BitVec.ofNat 32 (s.filling.length + s.draining.length * 65536)
  else if a = Reg.EVQ_PMAP then s.pmapRead
  else s.rd a

/-- What a register reads as, without the effects of reading it; the target registers of zone 511 read as 0 (R41). -/
def State.view (s : State) (a : Nat) : Word :=
  if a < 0x1000 then s.viewGlb a
  else if a < 0x2000 then s.viewHap a
  else if a < 0x3000 then s.viewTbu a
  else if a < 0x10000 then s.viewRtc a
  else if 0x11000 ≤ a ∧ a < 0x20000 then s.viewBob ((a - 0x11000) / 64) (a % 64) a
  else if Reg.ZON_TGT 511 0 ≤ a ∧ a ≤ Reg.ZON_TGT 511 3 then 0
  else if 0x30000 ≤ a ∧ a < 0x40000 then s.viewSme a
  else if a = Reg.SEA_GSTAT then BitVec.ofNat 32 s.gstat
  else if 0x50000 ≤ a ∧ a < 0x60000 then s.viewDia a
  else if 0x60000 ≤ a ∧ a < 0x70000 then s.viewCce a
  else if 0x70000 ≤ a ∧ a < 0x71000 then s.viewMtr a
  else if 0x80000 ≤ a ∧ a < 0x90000 then s.viewSru a
  else if 0x90000 ≤ a ∧ a < 0xA0000 then s.viewKst a
  else if 0xA0000 ≤ a ∧ a < 0xA1000 then s.viewEvq a
  else s.rd a

/-- R184: AGE of node slot `i`: milliseconds since its newest return field. -/
def State.nodeAge (s : State) (i : Nat) : Nat :=
  match (s.nslot i).last with
  | some t => min 0xFFFF ((s.ns - t) / 1000000)
  | none => 0xFFFF

/-- R523: what the word at `a` of a window reads as. -/
def State.winWord (s : State) (w : Win) (a : Nat) : Word :=
  match w with
  | .curve => s.rd (curveBase + s.get F.PEN_STAT_ACTIVE * 0x10000 + (a - curveWin))
  | .node => if a % 32 = 28 then putBits (s.rd a) 0 16 (s.nodeAge ((a - nodeBase) / 32)) else s.rd a
  | .cal => if (s.lum ((a - calBase) / 512)).rec_ = .empty then 0 else s.rd a
  | _ => s.rd a

/-- R16: the bits of a register that read as 0: WO and W1S fields. -/
def readMask (a : Nat) : Nat :=
  match regRow a with
  | some r => 0xFFFFFFFF - ((r.wo ||| r.w1s) % 4294967296)
  | none => 0

/-- What a word reads as, without the effects of reading it. -/
def State.peek (s : State) (a : Nat) : Word :=
  match placeAt a with
  | some (.block _) => s.view a &&& BitVec.ofNat 32 (readMask a)
  | some (.window w) => s.winWord w a
  | none => 0

/-! ## The front panel (R512) -/

/-- R512: the colours of the indicators. -/
inductive Colour where
  | red | amber | green
deriving DecidableEq, Repr

/-- R512: what an indicator shows; a blinking one with its rate in Hz. -/
inductive Lamp where
  | off
  | lit (c : Colour)
  | blink (c : Colour) (hz : Nat)
deriving DecidableEq, Repr

/-- R512: the six indicators. -/
structure Panel where
  pwr : Lamp := .off
  role : Lamp := .off
  seam : Lamp := .off
  time : Lamp := .off
  radio : Lamp := .off
  fault : Lamp := .off
deriving DecidableEq, Repr

/-- R512: PWR in RUN and QUIET. -/
def State.pwrLamp (s : State) : Lamp := if s.phu.feedLost ≠ 0 then .lit .amber else if s.mode = .quiet then .blink .green 1 else .lit .green

/-- R512: ROLE. -/
def State.roleLamp (s : State) : Lamp :=
  if s.flag F.XLK_STAT_FENCEIN then .lit .red
  else match s.get F.GLB_ROLE_ROLE with
    | 3 => .blink .amber 1
    | 2 => .lit .amber
    | _ => .lit .green

/-- R512: SEAM. -/
def State.seamLamp (s : State) : Lamp :=
  if !(List.range 32).any (fun n => s.flag (F.SEA_CTL_ENABLE n)) then .off else if s.gstat ≠ 0 then .lit .amber else .lit .green

/-- R512: TIME. -/
def State.timeLamp (s : State) : Lamp :=
  if !s.flag F.TBU_STAT_VALID then .blink .amber 1
  else if s.get F.TBU_STAT_STATE = tbFree then .off
  else if s.get F.TBU_STAT_STATE = tbLocked then .lit .green else .lit .amber

/-- R512: RADIO. -/
def State.radioLamp (s : State) : Lamp :=
  if !s.flag F.SRU_CTL_EN then .off
  else if (List.range 1024).any (fun i => s.get (F.RT_STATE i) == rsDrifted || s.get (F.RT_STATE i) == rsLost) then .lit .amber else .lit .green

/-- R512: FAULT. -/
def State.faultLamp (s : State) : Lamp :=
  if (s.evq.prio3.map fun t => decide (s.ns < t + 60 * nsPerSec)) = some true then .blink .red 1
  else if s.bobs.any (fun b => b.2.st == .faulted) || s.get F.SME_STAT_LANES != 0xFF || s.flag F.PHU_STAT_LIMITED then .lit .red
  else .off

/-- R512: the front panel; in a restart, of which the spec does not speak, every indicator is off (assumption log 56). -/
def State.panel (s : State) : Panel :=
  match s.mode with
  | .keep | .reset => {}
  | .hold => { pwr := .blink .amber 4 }
  | _ => { pwr := s.pwrLamp, role := s.roleLamp, seam := s.seamLamp, time := s.timeLamp, radio := s.radioLamp, fault := s.faultLamp }

/-- R512: the green indicator of a jack, which blinks with activity, is lit with the link, the amber one at 1000BASE-T. -/
def State.jackLamps (s : State) (second : Bool) : Bool × Bool :=
  if second then (s.flag F.HAP_STAT_LINK2, s.flag F.HAP_STAT_GBE2) else (s.flag F.HAP_STAT_LINK1, s.flag F.HAP_STAT_GBE1)

/-! ## Reading (R398, R396, R401, R278, R451) -/

/-- Session 0 to 7, or session 0 of R445 under index 8. -/
def State.hsess (s : State) (k : Nat) : HSess := if k < 8 then (s.sess k).getD { id := 0 } else s.hap.sess0

/-- Replace it, while it is open. -/
def State.setHsess (s : State) (k : Nat) (x : HSess) : State :=
  if k < 8 then (if (s.sess k).isSome then s.setSess k (some x) else s) else { s with hap := { s.hap with sess0 := x } }

/-- R451: partner words of the pair whose first word is at `a`. -/
def partnersOf (a : Nat) : Nat := ((regRow a).map (·.partners)).getD 0

/-- R451: session `k` reads the first word at `a`: its partner words are captured. -/
def State.snapPartners (s : State) (k a : Nat) : State :=
  s.setHsess k (forUp (fun i x => { x with snaps := spSet (fun _ => none) x.snaps (a + 4 * (i + 1)) (some (s.peek (a + 4 * (i + 1)))) })
    (partnersOf a) (s.hsess k))

/-- R451: a read of a pair's first word. -/
def State.pairRead (s : State) (k a : Nat) : State := if partnersOf a = 0 then s else s.snapPartners k a

/-- A value that the module measures and no command carries (assumption log 21). -/
def measured (a : Nat) : Bool := a == Reg.RTC_SCAP || a == Reg.PHU_PWR

/-- R278, R293: the prescaler: within an RTC cycle of a commit, an increment or a loss it is what the register holds; later its phase is
open (assumption log 21). -/
def State.subPhase (s : State) : State × Word :=
  if s.ns < s.rtc.subAt + rtcCycle then (s, s.rd Reg.RTC_SUBSEC) else (s.takeFree, Config.freeWord s.free &&& 0x7FFF#32)

/-- R278: a read of RTC_TIME, RTC_DATE or RTC_SUBSEC. -/
def State.rtcRead (s : State) (a : Nat) : State × Word :=
  let x := s.subPhase
  if a = Reg.RTC_TIME then
    ({ x.1 with rtc := { s.rtc with snapDate := some (s.rd Reg.RTC_DATE), snapSub := some x.2 } }, s.rd a)
  else if a = Reg.RTC_DATE then ({ s with rtc := { s.rtc with snapDate := none } }, s.rtc.snapDate.getD (s.rd a))
  else
    match s.rtc.snapSub with
    | some w => ({ s with rtc := { s.rtc with snapSub := none } }, w)
    | none => x

/-- R293: nothing has been measured yet since the start, or the loss, after which the register holds its reset value. -/
def State.unmeasured (s : State) (a : Nat) : Bool := s.ns == if a = Reg.RTC_SCAP then s.rtc.lostAt else s.phu.upAt

/-- A 32-bit read of register `a` by session `k`, with its effects. -/
def State.readReg (s : State) (k a : Nat) : State × Word :=
  if a = Reg.EVQ_POP0 then s.pop0
  else if a = Reg.EVQ_WMSTAT then s.wmRead
  else if a = Reg.JNL_RD0 then s.jnlRead
  else if a = Reg.RTC_TIME ∨ a = Reg.RTC_DATE ∨ a = Reg.RTC_SUBSEC then s.rtcRead a
  else if measured a && !s.unmeasured a then (s.takeFree, Config.freeWord s.free &&& 0xFFFF#32)
  else
    match spGet (fun _ => none) (s.hsess k).snaps a with
    | some w => (s, w)
    | none => (s.pairRead k a, s.peek a)

/-- A 32-bit read at `a` by session `k`, with its effects. -/
def State.readWord (s : State) (k a : Nat) : State × Word :=
  match placeAt a with
  | some (.block _) => s.readReg k a
  | some (.window .data) => let t := s.penDataRead (a - dataBase); (t, t.rdata.headD 0)
  | some (.window w) => (s, s.winWord w a)
  | none => (s, 0)

def execPairFirstWordRead (a : BitVec 32) (s : State) : Res :=
  .next (if s.inRunQuiet ∧ partnersOf a.toNat ≠ 0 then
    { (s.snapPartners 8 a.toNat).answer stOk with rdata := [s.peek a.toNat] } else s)

end Sys2Proof.Machine
end

