-- ==== Sys2Proof/Machine/Power.lean ====
section
/-!
DEFINITION. Machine/Power.lean: feeds and thresholds, HOLD and KEEP, saves, QUIET and WAKE, persistence, and what asks for a
restart (chapter 17, R467 to R483; R497, R498).
-/

namespace Sys2Proof.Machine

/-! ## Feeds and the rail (R467, R468) -/

/-- R491: the rail as measured, 10 mV; the capacitor sits on it (assumption log 21). -/
def State.setRail (s : State) (v : Nat) : State := (s.put F.PHU_VIN_RAIL v).put F.PHU_VIN_CAPV v

/-- R491: feed `k` as measured, and its flag. -/
def State.setFeed (s : State) (k v : Nat) : State :=
  let up := decide (s.get F.PHU_RESUME_V < v)
  if k = 0 then (s.put F.PHU_FEED_A v).setFlag F.PHU_STAT_FEEDA up else (s.put F.PHU_FEED_B v).setFlag F.PHU_STAT_FEEDB up

/-- R467: a feed below PHU_WARN for 1 ms while the rail stays above it. -/
def State.feedLoss (s : State) (k v rail : Nat) : State :=
  let s1 := (s.setFeed k v).setRail rail
  if s.inRunQuiet ∧ v < s.get F.PHU_WARN_V ∧ s.get F.PHU_WARN_V < rail ∧ !bit s.phu.feedLost k then
    { s1 with phu := { s1.phu with feedLost := setBit s1.phu.feedLost k true } }.raiseRated nsPerSec 0x003 0 [k]
  else s1

def execPhuFeedLost (feed : BitVec 1) (v rail : BitVec 13) (s : State) : Res := .next (s.feedLoss feed.toNat v.toNat rail.toNat)

/-- R467: that feed above PHU_RESUME for 1 s. -/
def State.feedBack (s : State) (k v : Nat) : State :=
  let s1 := s.setFeed k v
  if s.inRunQuiet ∧ s.get F.PHU_RESUME_V < v ∧ bit s.phu.feedLost k then
    { s1 with phu := { s1.phu with feedLost := setBit s1.phu.feedLost k false } }.raise 0x004 0 [k]
  else s1

def execPhuFeedRestored (feed : BitVec 1) (v : BitVec 13) (s : State) : Res := .next (s.feedBack feed.toNat v.toNat)

/-- R478: a HOLDTEST in progress fails when the rail falls below PHU_WARN. -/
def State.failHoldtest (s : State) : State :=
  forUp (fun n s => if s.get (F.LOP_STAT_CODE n) = 8 ∧ s.lopState n = 1 ∧ (s.lslot n).fin.isNone then s.lopFail n 1 else s) 8 s

/-- R468: the rail falls below PHU_WARN. -/
def State.railWarn (s : State) (rail : Nat) : State :=
  let s1 := s.setRail rail
  if s.inRunQuiet ∧ rail < s.get F.PHU_WARN_V then
    ((s1.setFlag F.PHU_STAT_WARN true).raiseRated nsPerSec 0x001 0).failHoldtest
  else s1

def execPhuWarn (rail : BitVec 13) (s : State) : Res := .next (s.railWarn rail.toNat)

/-- R468: the rail above PHU_RESUME for 1 s. -/
def State.railGood (s : State) (rail : Nat) : State :=
  let s1 := s.setRail rail
  if s.inRunQuiet ∧ s.get F.PHU_RESUME_V < rail ∧ s.flag F.PHU_STAT_WARN then (s1.setFlag F.PHU_STAT_WARN false).raise 0x002 0 else s1

def execPhuWarnEnd (rail : BitVec 13) (s : State) : Res := .next (s.railGood rail.toNat)

/-! ## Entry to HOLD (R470 to R472, R475) -/

/-- R200: the seams' MUTED flags. -/
def State.setMuted (s : State) (on : Bool) : State := forUp (fun n s => s.setFlag (F.SEA_STAT_MUTED n) on) 32 s

/-- R483: a PERSIST being written is interrupted. -/
def State.persistFail (s : State) : State :=
  if s.phu.pwrite.isSome then
    (({ s with phu := { s.phu with pwrite := none } }.setFlag F.GLB_PSTAT_PBUSY false).setFlag F.GLB_PSTAT_PFAIL true).raise 0x00B 0 [0]
  else s

/-- R472: what HOLD stops: posted writes, datagrams that wait, a command or an addressing change that waits, flash writes, a periodic save. -/
def State.stopWork (s : State) : State :=
  let s1 := (s.persistFail.setFlag F.PHU_STAT_PSBUSY false).setFlag F.GLB_STATE_QPEND false
  { s1 with hap := { s1.hap with posted := [], waiting := [], netcommit := false, newPosted := none, restart := false }
            xlk := { s1.xlk with fwBusy := none }
            phu := { s1.phu with qreq := none, writing := none } }

/-- R472: from the crossing to the cutting off of what the module is sending. -/
def cutDelay : Nat := 20000

/-- R472: a radio transmission that has not ended by `t` is cut off. -/
def State.cutRadio (s : State) (t : Nat) : State := if s.sru.air.any fun p => decide (t < p.at_ + p.us * 1000) then s.emit (.radioCut t) else s

/-- R472: the module enters HOLD: the record, muted seams, what it is sending cut off, everything frozen, and the critical save to come. -/
def State.holdBegin (s : State) : State :=
  let s1 := ((((s.raise 0x005 0 [s.get F.PHU_VIN_RAIL]).stopWork).cutSeams (s.ns + cutDelay)).cutRadio (s.ns + cutDelay)).setMuted true
  { s1 with mode := .hold, phu := { s1.phu with holdAt := some s.ns, saved := false, wasQuiet := s.mode == .quiet } }

/-- R475: a sag during a restart writes no save. -/
def State.holdAgain (s : State) : State :=
  { s with mode := .hold, phu := { s.phu with holdAt := some s.ns, saved := true, noBeat := true, fence := false, wdt := false } }

/-- R470, R475: HOLD as the module's state demands. -/
def State.toHold (s : State) : State :=
  if s.inRunQuiet then s.holdBegin else if s.mode == .reset then s.holdAgain else s

/-- R468: the rail falls below PHU_SAVE. -/
def State.holdEntry (s : State) (rail : Nat) : State :=
  if rail < s.get F.PHU_SAVE_V then (s.setRail rail).toHold else s.setRail rail

def execHoldEntry (rail : BitVec 13) (s : State) : Res := .next (s.holdEntry rail.toNat)

/-- R496, R498: a PRESENT contact has been open for 10 µs: heartbeats stop, the drivers go to high impedance, the frame in progress is cut off,
and the module enters HOLD; a reset stays held. -/
def State.presentOpen (s : State) : State :=
  let s1 := ({ s with phu := { s.phu with unmated := true, noBeat := true } } : State).cutSeams s.ns
  if s.inRunQuiet then s1.holdBegin else s1

def execPresentOpen (s : State) : Res := .next s.presentOpen

/-! ## What a save holds (R473, R486) -/

/-- R473, R488: the bits of a register word that belong to the zones and loops of a save's step 4. -/
def saveMask (a : Nat) : Nat :=
  if 0x20000 ≤ a ∧ a < 0x24000 then (if a % 32 < 16 then 0xFFFFFFFF else if a % 32 = 16 then 3 else 0)
  else if 0x61000 ≤ a ∧ a < 0x63000 then
    (if a % 16 = 0 then 3 else if a % 16 = 4 then 0xFFFF0000 else if a % 16 = 8 then 0xFFFFFFFF else 0x1DF)
  else 0

/-- R399, R402: the journal's own registers. -/
def jnlWords : List Nat := [Reg.JNL_WPTR, Reg.JNL_COUNT, Reg.JNL_MSTAT] ++ (List.range 8).map Reg.JNL_MARK

/-- R473 step 3: the last 4,096 journal records. -/
def State.jnlSaved (s : State) : Sp Word :=
  let n := min 4096 (s.get F.JNL_COUNT_RECS)
  (jnlWords.map fun a => (a, s.rd a)) ++
    (List.range n).flatMap fun k =>
      let a := jnlAddr ((s.get F.JNL_WPTR_NUM + 4294967296 - n + k) % 4294967296)
      (List.range 8).map fun j => (a + 4 * j, s.rd (a + 4 * j))

/-- R473 step 4. -/
def State.zonesSaved (s : State) : Sp Word × Zon × Cce := (s.mem.filter fun p => saveMask p.1 != 0, s.zon, s.cce)

/-- R473: a record at its place in a list in arrival order. -/
def putArrived (q : QRec) : List QRec → List QRec
  | [] => [q]
  | x :: l => if x.arr ≤ q.arr then x :: putArrived q l else q :: x :: l

/-- R473 step 5: every record of the event queue, in arrival order. -/
def State.queueAll (s : State) : List QRec :=
  if s.prioMode then (s.draining ++ s.filling).foldl (fun l q => putArrived q l) [] else s.evq.fifo

/-- R191: the newer of two saves. -/
def newerSave (a b : Option Save) : Option Save :=
  match a, b with
  | some x, some y => if (x.seq + 4294967296 - y.seq) % 4294967296 < 2147483648 then some x else some y
  | some x, none => some x
  | none, y => y

/-- R473: the newest valid save. -/
def State.newest (s : State) : Option Save := newerSave s.phu.bank0 s.phu.bank1

/-- R473: the bank that does not hold the newest valid save. -/
def State.saveBank (s : State) : Nat := if s.newest = s.phu.bank0 ∧ s.phu.bank0.isSome then 1 else 0

/-- R473, R476: a save of the present state: kind 1 periodic, 2 critical, 3 critical limited (R474), frozen at `t`. -/
def State.makeSave (s : State) (kind t : Nat) : Save :=
  { seq := ((s.newest.map fun x => x.seq + 1).getD 1) % 4294967296
    kind := kind
    time := t
    quiet := if s.mode = .hold then s.phu.wasQuiet else s.mode == .quiet
    cap := s.get F.PHU_CAP_UF
    mtr := s.mtr
    jnl := s.jnlSaved
    zones := if kind = 3 then none else some s.zonesSaved
    evq := if kind = 2 then some (s.queueAll, s.get F.EVQ_SEQ_SEQ, s.get F.EVQ_LSEQ_SEQ) else none
    clock := if kind = 3 then none else some (s.rd Reg.TBU_UTCOFF, s.rd Reg.TBU_FREQ) }

/-- R473: bank `k` takes a save, or loses what it held. -/
def State.setBank (s : State) (k : Nat) (x : Option Save) : State :=
  if k = 0 then { s with phu := { s.phu with bank0 := x, held0 := s.phu.held0 || x.isSome } }
  else { s with phu := { s.phu with bank1 := x, held1 := s.phu.held1 || x.isSome } }

/-- R491: the registers that describe the newest valid save. -/
def State.showSave (s : State) : State :=
  match s.newest with
  | some x => ((s.put F.PHU_SAVESEQ_SEQ x.seq).wrTime Reg.PHU_LSAVE_S_LO x.time).put F.PHU_STAT_BANK (if s.phu.bank0 = some x then 0 else 1)
  | none => s

/-- R373, R375: the commit record that the save holds leaves the new key in force. -/
def State.saveCommit (s : State) : State :=
  match s.kst.commit with
  | none => s
  | some c =>
    let s1 := s.setKslot c.slot ((s.kslot c.slot).swap c.key)
    let s2 : State := { s1 with kst := { s1.kst with commit := none, log := (c.word0, some (commitWord1 c.word0)) :: s1.kst.log.drop 1 } }
    let s3 := s2.inc F.KST_EPOCH_EPOCH
    if c.slot = s3.get F.KST_DOMAIN_HOST then s3.setFlag F.KST_CTL_OPEN false else s3

/-- R473, R474: a critical save of the state as of `t`, which took `us` µs, is complete. -/
def State.criticalSave (s : State) (t us : Nat) : State :=
  let lim := s.flag F.PHU_STAT_LIMITED
  let s1 := s.saveCommit
  let s2 := (s1.setBank s1.saveBank (some (s1.makeSave (if lim then 3 else 2) t))).showSave
  (((s2.put F.PHU_SAVEINFO_US us).put F.PHU_SAVEINFO_STEPS (if lim then 3 else 6)).put F.PHU_SAVEINFO_KIND 1).incSat F.PHU_SAVECNT_CRIT

/-- R472: the freeze comes 50 µs after the crossing. -/
def freezeDelay : Nat := 50000

/-- R472, R473: the critical save of HOLD is complete: heartbeats stop. -/
def execCriticalSaveComplete (us : BitVec 12) (s : State) : Res :=
  .next (if s.mode = .hold ∧ s.phu.saved = false then
    { s.criticalSave (s.phu.holdAt.getD s.ns + freezeDelay) us.toNat with
      phu := { (s.criticalSave (s.phu.holdAt.getD s.ns + freezeDelay) us.toNat).phu with saved := true, noBeat := true } } else s)

/-- R470: the rail falls below 18 V: a save that is not complete is lost with the bank it went to. -/
def State.toKeep (s : State) : State :=
  let s1 := if s.phu.saved then s else s.setBank s.saveBank none
  { s1 with mode := .keep, phu := { s1.phu with noBeat := true } }

def execKeepEntry (rail : BitVec 13) (s : State) : Res :=
  .next (if s.mode = .hold ∧ rail.toNat < 1800 then (s.setRail rail.toNat).toKeep else s.setRail rail.toNat)

/-- R470: the rail above PHU_RESUME for 100 ms. -/
def execSagRestart (rail : BitVec 13) (s : State) : Res :=
  .next (if ((s.mode = .hold ∧ s.phu.saved) ∨ s.mode = .keep) ∧ s.get F.PHU_RESUME_V < rail.toNat then (s.setRail rail.toNat).beginRestart
    else s.setRail rail.toNat)

/-! ## Periodic saves (R476) -/

/-- R476: the snapshot at a frame start that is a multiple of PHU_PSAVE. -/
def State.periodicSave (s : State) : State :=
  let t := s.gridNow
  if s.inRunQuiet ∧ s.phu.writing.isNone ∧ s.phu.psAt ≠ t ∧ t % (s.get F.PHU_PSAVE_SEC * nsPerSec) = 0 then
    { s.setFlag F.PHU_STAT_PSBUSY true with phu := { s.phu with writing := some (s.makeSave 1 t), psAt := t } }
  else s

def execPeriodicSave (s : State) : Res := .next s.periodicSave

/-- R476: the background write has ended. -/
def State.periodicDone (s : State) (ok : Bool) : State :=
  match s.phu.writing with
  | none => s
  | some x =>
    let s1 := ({ s with phu := { s.phu with writing := none } } : State).setFlag F.PHU_STAT_PSBUSY false
    if ok then ((s1.setBank s1.saveBank (some x)).showSave.put F.PHU_SAVEINFO_STEPS 5).put F.PHU_SAVEINFO_KIND 0
    else (((s1.setBank s1.saveBank none).setFlag F.PHU_STAT_SAVEFAIL true).incSat F.PHU_SAVECNT_PFAIL).raise 0x009 0

def execPeriodicSaveDone (ok : Bool) (s : State) : Res := .next (if s.inRunQuiet then s.periodicDone ok else s)

/-! ## HOLDTEST and thresholds (R469, R479) -/

/-- R479: HOLDTEST is due: 60 s after the restart, or 2,592,000 s after the last valid result. -/
def State.holdtestStart (s : State) : Bool := !s.phu.htDone && decide (s.phu.tr + 60 * nsPerSec ≤ s.ns)
def State.holdtestDue (s : State) : Bool :=
  s.flag F.PHU_CTL_HTAUTO && (s.holdtestStart || (s.phu.htLast.map fun t => decide (t + 2592000 * nsPerSec ≤ s.ns)).getD false)

/-- R479: HOLDTEST starts in the first IDLE slot. -/
def State.holdtestAuto (s : State) : State :=
  match (List.range 8).find? fun n => s.lopState n == 0 with
  | some n =>
    if s.holdtestDue && !s.lopRunning 8 then
      { s.lopCmd n 8 with phu := { (s.lopCmd n 8).phu with htDone := s.phu.htDone || s.holdtestStart } } else s
  | none => s

def execHoldtestAuto (s : State) : Res := .next (if s.inRunQuiet then { s.holdtestAuto with status := s.status } else s)

/-- R469: a write of `v` to threshold `k` (0 PHU_WARN, 1 PHU_SAVE, 2 PHU_RESUME). -/
def State.phuThreshold (s : State) (k v : Nat) : State :=
  let x := v % 8192
  let w := if k = 0 then x else s.get F.PHU_WARN_V
  let h := if k = 1 then x else s.get F.PHU_SAVE_V
  let r := if k = 2 then x else s.get F.PHU_RESUME_V
  if 3000 ≤ w ∧ w ≤ 4000 ∧ 2400 ≤ h ∧ h ≤ 3200 ∧ 3000 ≤ r ∧ r ≤ 4000 ∧ h + 200 ≤ w ∧ w ≤ r then
    (((((s.put F.PHU_WARN_V w).put F.PHU_SAVE_V h).put F.PHU_RESUME_V r).setFlag F.PHU_STAT_FEEDA (decide (r < s.get F.PHU_FEED_A))).setFlag
      F.PHU_STAT_FEEDB (decide (r < s.get F.PHU_FEED_B))).answer stOk
  else ((s.setFlag F.PHU_STAT_THREF true).raise 0x00A 0).answer stOk

def execPhuThresholdWrite (k : BitVec 2) (v : BitVec 32) (s : State) : Res :=
  let a := Reg.PHU_WARN + 4 * k.toNat
  .next (if k = 3 then s else s.hostWr a v.toNat fun t => (t.vote a).phuThreshold k.toNat (s.voteIn a v.toNat))

/-! ## QUIET and WAKE (R470, R471) -/

/-- R471: QUIET (true) or WAKE is written. -/
def State.stateCmd (s : State) (quiet : Bool) : State :=
  if s.isStandby || (s.mode == .quiet) == quiet then s
  else { s.setFlag F.GLB_STATE_QPEND true with phu := { s.phu with qreq := some (quiet, s.ns) } }

def execGlbCmdQuiet (s : State) : Res := .next (s.hostWr Reg.GLB_CMD 1 fun s => (s.stateCmd true).answer stOk)

def execGlbCmdWake (s : State) : Res := .next (s.hostWr Reg.GLB_CMD 2 fun s => (s.stateCmd false).answer stOk)

/-- R470: a pending change takes effect at a frame start. -/
def execGlbStatechg (s : State) : Res := .next (s.stateStep s.gridNow)

/-! ## Persistence (R483) -/

/-- R483, R485, R486: the configuration bits of the word at `a`. -/
def configMask (a : Nat) : Nat :=
  if a < progBase then (if isCounter a then 0 else ((regRow a).map (·.rw)).getD 0) else 0

/-- R483: the bits of the word at `a` that PERSIST stores. -/
def persistMask (a : Nat) : Nat :=
  if a < progBase then (if (0x90000 ≤ a ∧ a < 0x90180) ∨ (0xA0000 ≤ a ∧ a < 0xB0000) then 0 else configMask a)
  else if nodeBase ≤ a ∧ a < nodeBase + 0x20000 then (if a % 32 = 0 ∨ a % 32 = 8 then 0xFFFFFFFF else 0)
  else if radioBase ≤ a ∧ a < radioBase + 0x10000 then (if a % 64 = 0 then 0xFFFFFFFF else if a % 64 = 8 then 0x1F000000 else 0)
  else 0

/-- R22, R65, R74, R97, R188, R313: the fields whose value in effect may still differ from the value written. -/
def State.inEffect (s : State) : State :=
  let s1 := ((s.put F.SEA_FPER_US s.sea.fperUs).put F.SEA_LEAD_US s.sea.leadUs).put F.PEN_TICK_TICK s.pen.tickUs
  let s2 := (s1.put F.MTR_INTV_SEC s.mtr.intv).setFlag F.MTR_CTL_FNOM s.mtr.fnom60
  forUp (fun n t => (((t.put (F.PEN_BCTL_PRIO n) (s.bob n).prio).put (F.PEN_BBUDGET_BUDGET n) (s.bob n).budget).put
    (F.PEN_BWIN_BASE n) (s.bob n).winBase).put (F.PEN_BWIN_SIZE n) (s.bob n).winSize) 32 s2

/-- R483: the values in effect; a word not listed has its reset value. -/
def State.toPersist (s : State) : Persist :=
  { words := s.inEffect.mem.filter fun p => persistMask p.1 != 0, gain := s.mtr.gain, aux := s.mtr.aux }

/-- R483: PERSIST. -/
def State.persist (s : State) : State :=
  if s.flag F.GLB_PSTAT_PBUSY then s
  else { s.setFlag F.GLB_PSTAT_PBUSY true with phu := { s.phu with pwrite := some s.toPersist } }

def execGlbCmdPersist (s : State) : Res := .next (s.hostWr Reg.GLB_CMD 4 fun s => s.persist.answer stOk)

/-- R483: the write has ended. -/
def State.persistDone (s : State) (ok : Bool) : State :=
  match s.phu.pwrite with
  | none => s
  | some p =>
    if ok then
      let k := 1 - s.phu.pnewer
      let x := { s.phu with pwrite := none, pnewer := k }
      let s1 : State := { s with phu := if k = 0 then { x with pcopy0 := some p } else { x with pcopy1 := some p } }
      ((s1.setFlag F.GLB_PSTAT_PBUSY false).setFlag F.GLB_PSTAT_PVALID true).raise 0x00B 0 [1]
    else s.persistFail

def execGlbPersist (ok : Bool) (s : State) : Res := .next (if s.inRunQuiet then s.persistDone ok else s)

/-- R490: the value of CONFIRM that enables PCLR and RESTART. -/
def confirmCode : Nat := 0x5253

/-- R483: PCLR erases both copies. -/
def State.pclr (s : State) (confirm : Nat) : State :=
  if confirm = confirmCode then
    { s.setFlag F.GLB_PSTAT_PVALID false with phu := { s.phu with pcopy0 := none, pcopy1 := none } }
  else s

def execGlbCmdPclr (confirm : BitVec 16) (s : State) : Res :=
  .next (s.hostWr Reg.GLB_CMD (confirm.toNat * 65536 + 8) fun s => (s.pclr confirm.toNat).answer stOk)

/-! ## What asks for a restart (R480, R497) -/

/-- R480: RESTART; the restart begins after the datagram's response. -/
def State.restartCmd (s : State) (confirm : Nat) : State :=
  if confirm = confirmCode then { s with hap := { s.hap with restart := true } } else s

def execGlbCmdRestart (confirm : BitVec 16) (s : State) : Res :=
  .next (s.hostWr Reg.GLB_CMD (confirm.toNat * 65536 + 16) fun s => (s.restartCmd confirm.toNat).answer stOk)

/-- R470, R471, R483, R490: GLB_CMD as a whole: bits in ascending order; QUIET with WAKE performs WAKE alone. -/
def State.glbCmd (s : State) (v : Nat) : State :=
  let s1 := if bit v 1 then s.stateCmd false else if bit v 0 then s.stateCmd true else s
  let s2 := if bit v 2 then s1.persist else s1
  let s3 := if bit v 3 then s2.pclr (v / 65536) else s2
  (if bit v 4 then s3.restartCmd (v / 65536) else s3).answer stOk

/-- R480: the watchdog has expired. -/
def execWatchdogExpiry (s : State) : Res :=
  .next (if s.inRunQuiet ∧ s.flag F.GLB_RSTCTL_WDTEN then { s.beginRestart with phu := { s.beginRestart.phu with wdt := true } } else s)

/-- R497: the rail rises above 18 V with a PRESENT contact open; the module's reset is held. -/
def execInsertionDetect (s : State) : Res :=
  .next { s.beginRestart with phu := { s.beginRestart.phu with insertion := true, unmated := true } }

end Sys2Proof.Machine
end

