-- ==== Sys2Proof/Machine/HostW.lean ====
section
/-!
DEFINITION. Machine/HostW.lean: a host write of one word (R450): the checks of role and authority, the rule of each register that
has one of its own, and the plain rule of the access codes of R16 for every other.
-/

namespace Sys2Proof.Machine

/-! ## The plain rule (R16, R450, R463) -/

/-- R16, R463: a write of a register without a rule of its own: RW and RWV fields take the value, RB fields stage it, W1C flags
clear where it is 1; a register with no writable field ignores it. -/
def State.plainWrite (s : State) (a v : Nat) : State :=
  match regRow a with
  | none => s.answer stIgnored
  | some r =>
    if r.rw ||| r.w1c ||| r.w1s ||| r.wo = 0 then s.answer stIgnored
    else
      let w := maskIn (s.rd a) (r.rw &&& (0xFFFFFFFF - r.rb % 4294967296)) v
      let s1 := s.wr a (w &&& ~~~(BitVec.ofNat 32 (v &&& r.w1c)))
      (if r.rb = 0 then s1 else s1.stage a r.rb v).answer stOk

/-- A write that a rule names as ignored unless `ok`. -/
def State.writeIf (s : State) (ok : Bool) (a v : Nat) : State := if ok then s.plainWrite a v else s.answer stIgnored

/-- The commands of a command register whose bits in `v` are set, in ascending order. -/
def State.eachBit (s : State) (v : Nat) (cmds : List (Nat × (State → State))) : State :=
  (cmds.foldl (fun s c => if bit v c.1 then c.2 s else s) (s.answer stOk)).answer stOk

/-- The number of array element `a` of a register array at `base` with stride `st` and `n` elements, if the offset is that of the
array. -/
def arrayIdx (a base st n : Nat) : Option Nat :=
  if base ≤ a ∧ (a - base) % st = 0 ∧ (a - base) / st < n then some ((a - base) / st) else none

/-! ## Blocks -/

/-- R405, R412, R435, R490: GLB. -/
def State.writeGlb (s : State) (a v : Nat) : State :=
  if a = Reg.GLB_CMD then s.glbCmd v
  else if a = Reg.GLB_ROLE then s.writeIf (decide (v % 4 ≤ 1)) a v
  else if a = Reg.GLB_WDT then s.writeIf (decide (100 ≤ v % 16384) && decide (v % 16384 ≤ 10000)) a v
  else match arrayIdx a (Reg.LOP_CMD 0) 4 8, arrayIdx a (Reg.LOP_RACK 0) 4 8 with
    | some n, _ => s.lopCmd n (v % 256)
    | _, some n => s.lopRack n (v % 16777216)
    | _, _ => s.plainWrite a v

/-- R438, R458: HAP_CTL: POSTED waits for the response, CHAIN acts at once, the addressing fields are staged. -/
def State.hapCtl (s : State) (v : Nat) : State :=
  let s1 := (s.setFlag F.HAP_CTL_CHAIN (bit v 19)).stage Reg.HAP_CTL 0x7FFFE v
  { s1 with hap := { s1.hap with newPosted := if bit v 0 == s.flag F.HAP_CTL_POSTED then none else some (bit v 0) } }.answer stOk

/-- R446: CLOSE and CLOSEALL. -/
def State.closeSel (s : State) : State := s.endSess (s.get F.HAP_SSEL_INDEX) 3
def State.closeAll (s : State) : State := s.endSessIf (fun _ => true) 3

/-- R438: NETCOMMIT. -/
def State.netCommit (s : State) : State := { s with hap := { s.hap with netcommit := true } }

/-- R465: HAP. -/
def State.writeHap (s : State) (a v : Nat) : State :=
  if a = Reg.HAP_CTL then s.hapCtl v
  else if a = Reg.HAP_CMD then s.eachBit v [(0, (·.netCommit)), (1, (·.closeSel)), (2, (·.closeAll))]
  else if a = Reg.HAP_SESSTO then s.writeIf (v % 65536 != 0) a v
  else s.plainWrite a v

/-- R270: TBU. -/
def State.writeTbu (s : State) (a v : Nat) : State :=
  if a = Reg.TBU_CTL then s.tbCtl v
  else if a = Reg.TBU_CMD then s.eachBit v [(0, (·.tbCap)), (1, (·.tbSet)), (2, (·.tbSlew)), (3, (·.utcArmCmd))]
  else if a = Reg.TBU_RATE then s.tbRate v
  else if a = Reg.TBU_LOCKTH then s.writeIf (v % 65536 != 0) a v
  else if a = Reg.TBU_STEPTH then s.writeIf (decide (1000 ≤ v % 1073741824)) a v
  else if a = Reg.TBU_SLEWMAX then s.writeIf (v % 1048576 != 0 && decide (v % 1048576 ≤ 1000000)) a v
  else if a = Reg.TBU_ADJ then s.writeIf (decide ((toSigned 32 (v % 4294967296)).natAbs ≤ 999999999)) a v
  else if a = Reg.TBU_ANNTO then s.writeIf (decide (2 ≤ v % 16) && decide (v % 16 ≤ 10)) a v
  else s.plainWrite a v

/-- R293: RTC. -/
def State.writeRtc (s : State) (a v : Nat) : State :=
  if a = Reg.RTC_CTL then (s.plainWrite a v).discTrack
  else if a = Reg.RTC_TIME then s.rtcStage false v
  else if a = Reg.RTC_DATE then s.rtcStage true v
  else if a = Reg.RTC_CMD then s.eachBit v [(0, (·.rtcCommitCmd)), (1, (·.discNow))]
  else if a = Reg.RTC_CVAL then s.rtcCval v
  else if a = Reg.RTC_CSEL then s.rtcCsel v
  else if Reg.RTC_ATIME 0 ≤ a ∧ a < Reg.RTC_ATIME 0 + 24 then s.alarmWrite ((a - Reg.RTC_ATIME 0) / 12) ((a - Reg.RTC_ATIME 0) % 12 / 4) v
  else s.plainWrite a v

/-- R95, R96: PEN; of SWAP and DISARM in one write, DISARM alone acts (R90). -/
def State.writePen (s : State) (a v : Nat) : State :=
  let n := (a - 0x11000) / 64
  if a = Reg.PEN_CTL then (s.put F.PEN_CTL_RUN v).answer stOk
  else if a = Reg.PEN_TICK then s.penTick v
  else if a = Reg.PEN_CMD then
    (if bit v 1 then s.penDisarm else if bit v 0 then s.penSwap else s.answer stOk)
  else if a = Reg.PEN_IMGPTR then s.stagePtr F.PEN_IMGPTR_PTR 524288 v
  else if a = Reg.PEN_IMGDAT then s.stageDat F.PEN_IMGPTR_PTR penStage 524288 (s.lopRunning 0x02) (BitVec.ofNat 32 v)
  else if a = Reg.PEN_HSIG then s.penHsig v
  else if a < 0x11000 then s.plainWrite a v
  else if a % 64 = 0 then s.penBctl n v
  else if a % 64 = 0x0C then s.penBbudget n v
  else if a % 64 = 0x18 then s.penBwin n v
  else s.plainWrite a v

/-- R59: ZON. -/
def State.writeZon (s : State) (a v : Nat) : State :=
  let z := (a - 0x20000) / 32
  let o := a % 32
  if o < 16 then s.zonTgtWrite z (o / 4) v
  else if o = 16 then s.zonCtlWrite z v
  else if o = 24 then s.zonSrcWrite z v
  else s.plainWrite a v

/-- R160: SME. -/
def State.writeSme (s : State) (a v : Nat) : State :=
  if a = Reg.SME_CMD then s.eachBit v [(0, fun s => { s with sme := { s.sme with laneRst := true } })]
  else if a = Reg.SME_CALPTR then s.stagePtr F.SME_CALPTR_PTR 32768 v
  else if a = Reg.SME_CALDAT then s.stageDat F.SME_CALPTR_PTR calStage 32768 (s.lopRunning 0x01) (BitVec.ofNat 32 v)
  else if a = Reg.SME_TSTALE then s.writeIf (v % 4096 != 0) a v
  else s.plainWrite a v

/-- R204, R205: SEA. -/
def State.writeSea (s : State) (a v : Nat) : State :=
  let n := (a - 0x41000) / 256
  let o := a % 256
  if a = Reg.SEA_FPER then s.seaFper v
  else if a = Reg.SEA_LEAD then s.seaLead v
  else if a = Reg.SEA_HOLD then s.seaHold v
  else if a = Reg.SEA_RESEND then s.seaResend v
  else if a = Reg.SEA_IMGPTR then s.stagePtr F.SEA_IMGPTR_PTR 262144 v
  else if a = Reg.SEA_IMGDAT then s.stageDat F.SEA_IMGPTR_PTR seaStage 262144 (s.lopRunning 0x03) (BitVec.ofNat 32 v)
  else if a < 0x41000 then s.plainWrite a v
  else if o = 0 then s.seaCtl n v
  else if o = 0x08 then s.eachBit v [(0, fun s => s.askEnum n true), (1, fun s => s.askEnum n false)]
  else if o = 0x1C then s.tailDly n v
  else if o = 0x2C then s.cfgCmd n v
  else if (cfgMask o).isSome then s.seaCfg n o v
  else s.plainWrite a v

/-- R221: DIA. -/
def State.writeDia (s : State) (a v : Nat) : State :=
  if a = Reg.DIA_CMD then s.eachBit v [(0, (·.diaClr)), (1, (·.diaClrAll))]
  else if a = Reg.DIA_PERIOD then (if 100 ≤ v % 65536 then s.plainWrite a v else s.answer stOk)
  else s.plainWrite a v

/-- R238: a coefficient word is staged until COMMIT. -/
def State.coefWrite (s : State) (a v : Nat) : State :=
  match regRow a with
  | none => s.answer stIgnored
  | some r =>
    let old := (spGet (fun _ => none) s.cce.staged a).getD (s.rd a)
    { s with cce := { s.cce with staged := spSet (fun _ => none) s.cce.staged a (some (maskIn old r.rb v)) } }.answer stOk

/-- R224, R244, R245: CCE. -/
def State.writeCce (s : State) (a v : Nat) : State :=
  let z := (a - 0x61000) / 16
  if a = Reg.CCE_CMD then
    s.eachBit v [(0, (·.cceCommit)), (1, fun s => s.feReleaseAll (s.get F.CCE_SEL_LOOP)), (2, (·.dliReset))]
  else if a = Reg.CCE_IDIV then s.writeIf (v % 256 != 0) a v
  else if a = Reg.CCE_ODIV ∨ a = Reg.CCE_STALE ∨ a = Reg.CCE_HSLEW then s.writeIf (v % 65536 != 0) a v
  else if a = Reg.CCE_DAYSTART then s.writeIf (decide (v % 131072 < 86400)) a v
  else if a < 0x61000 then s.plainWrite a v
  else if 0x64000 ≤ a then s.coefWrite a v
  else if a % 16 = 0 then s.lctlWrite z v
  else s.writeIf (z != 511) a v

/-- R325: MTR. -/
def State.writeMtr (s : State) (a v : Nat) : State :=
  if a = Reg.MTR_CMD then (if bit v 0 then s.accrstCmd (v / 65536) else s.answer stOk)
  else if a = Reg.MTR_INTV then s.mtrIntv v
  else if a = Reg.MTR_CALSEL then s.mtrCalsel v
  else if a = Reg.MTR_CALGAIN then s.mtrCalgain v
  else if a = Reg.MTR_CALAUX then s.mtrCalaux v
  else match arrayIdx a (Reg.MTR_CCTL 0) 64 28 with
    | some c => s.mtrCctl c v
    | none => s.plainWrite a v

/-- R347: SRU_WAKE; a field written as 0 keeps its value. -/
def State.sruWake (s : State) (v : Nat) : State :=
  let s1 := if v % 16 = 0 then s else s.put F.SRU_WAKE_WREP v
  (if v / 256 % 256 = 0 then s1 else s1.put F.SRU_WAKE_WMAX (v / 256)).answer stOk

/-- R484: SRU_KEY; at a change of the broadcast key slot the broadcast counter goes to its flash copy. -/
def State.sruKey (s : State) (a v : Nat) : State :=
  let s1 := s.plainWrite a v
  if s1.get F.SRU_KEY_BCAST = s.get F.SRU_KEY_BCAST then s1 else { s1 with sru := s1.sru.saveBcast }

/-- R359, R360: SRU. -/
def State.writeSru (s : State) (a v : Nat) : State :=
  match (List.range 5).find? fun k => radioCfgReg k == a with
  | some k => s.radioConfig k v
  | none =>
    if a = Reg.SRU_CMD then
      s.eachBit v [(0, fun s => s.radioFree (s.get F.SRU_SEL_NODE)), (1, (·.sruCall)), (2, (·.sruRekey))]
    else if a = Reg.SRU_WAKE then s.sruWake v
    else if a = Reg.SRU_KEY then s.sruKey a v
    else if a = Reg.SRU_TXPWR then s.sruTxpwr v
    else if a = Reg.SRU_IMGPTR then s.stagePtr F.SRU_IMGPTR_PTR 131072 v
    else if a = Reg.SRU_IMGDAT then s.stageDat F.SRU_IMGPTR_PTR sruStage 131072 (s.lopRunning 0x04) (BitVec.ofNat 32 v)
    else match arrayIdx a (Reg.SRU_SBLIM 0) 4 8, arrayIdx a (Reg.SRU_DWELL 0) 4 64 with
      | some j, _ => s.sruSblim j v
      | _, some i => s.sruDwell i v
      | _, _ => s.plainWrite a v

/-- R372: the writes that need an authenticated session once OPEN is clear. -/
def kstProtected (a v : Nat) : Bool :=
  [Reg.KST_KDAT, Reg.KST_DEF, Reg.KST_DOMAIN].contains a || (arrayIdx a (Reg.KST_INFO 0) 4 4).isSome ||
    (arrayIdx a (Reg.KST_VER 0) 4 4).isSome || (a == Reg.KST_CMD && v % 128 != 2)

/-- R376: the one command of KST_CMD that `v` sets. -/
def State.kstOne (s : State) (v : Nat) : State :=
  match (List.range 7).find? fun b => bit v b with
  | none => s.answer stOk
  | some 0 => s.kstCmd true false kcCreate fun _ s => s.kstCreate
  | some 1 => s.kstCmd true true kcVerify fun n s => s.kstVerify n
  | some 2 => s.kstCmd true true kcCommit fun n s => s.kstCommitCmd n
  | some 3 => s.kstCmd true false kcDiscard fun n s => s.kstDiscard n
  | some 4 => s.kstCmd true true kcInvalidate fun n s => s.kstInvalidate n
  | some 5 => s.kstCmd true false kcDelete fun n s => s.kstDelete n
  | some _ => s.kstCmd true true kcDerive fun n s => s.kstDerive n

/-- R384, R385: KST. -/
def State.writeKst (s : State) (auth : Bool) (a v : Nat) : State :=
  if kstProtected a v && !s.kstAuth auth then s.answer stAuth
  else if a = Reg.KST_CMD then
    (if 1 < ((List.range 7).filter fun b => bit v b).length then s.kstMany v else s.kstOne v)
  else if a = Reg.KST_CTL then s.kstCtl v
  else if a = Reg.KST_SEL then s.kstSel v
  else if a = Reg.KST_KDAT then s.kdat (BitVec.ofNat 32 v)
  else s.plainWrite a v

/-- R410: EVQ. -/
def State.writeEvq (s : State) (a v : Nat) : State :=
  if a = Reg.EVQ_CMD then (if bit v 0 then s.evqSwap else s.answer stOk)
  else if a = Reg.EVQ_PMAP then s.pmapWrite v
  else s.plainWrite a v

/-- R411: JNL. -/
def State.writeJnl (s : State) (a v : Nat) : State :=
  if a = Reg.JNL_CMD then (if bit v 3 then s.rewind (v % 8) (bit v 4) else s.answer stOk)
  else match arrayIdx a (Reg.JNL_MARK 0) 4 8 with
    | some m => s.markWrite m v
    | none => s.plainWrite a v

/-- R434: XLK. -/
def State.writeXlk (s : State) (a v : Nat) : State :=
  if a = Reg.XLK_CMD then s.eachBit v [(0, (·.xlkSwapCmd)), (1, (·.resyncCmd)), (2, (·.fwCommit))]
  else if a = Reg.XLK_FWPTR then s.stagePtr F.XLK_FWPTR_PTR 4194304 v
  else if a = Reg.XLK_FWDAT then s.stageDat F.XLK_FWPTR_PTR fwStage 4194304 s.xlk.fwBusy.isSome (BitVec.ofNat 32 v)
  else s.plainWrite a v

/-- R469, R491: PHU. -/
def State.writePhu (s : State) (a v : Nat) : State :=
  match arrayIdx a Reg.PHU_WARN 4 3 with
  | some k => s.phuThreshold k v
  | none =>
    if a = Reg.PHU_PSAVE then s.writeIf (decide (10 ≤ v % 1024) && decide (v % 1024 ≤ 900)) a v
    else s.plainWrite a v

/-- A write of a register of block `b` (R465 numbers the blocks). -/
def State.writeBlock (s : State) (auth : Bool) (b a v : Nat) : State :=
  match b with
  | 0 => s.writeGlb a v
  | 1 => s.writeHap a v
  | 2 => s.writeTbu a v
  | 3 => s.writeRtc a v
  | 4 => s.writePen a v
  | 5 => s.writeZon a v
  | 6 => s.writeSme a v
  | 7 => s.writeSea a v
  | 8 => s.writeDia a v
  | 9 => s.writeCce a v
  | 10 => s.writeMtr a v
  | 11 => s.writeSru a v
  | 12 => s.writeKst auth a v
  | 13 => s.writeEvq a v
  | 14 => s.writeJnl a v
  | 15 => s.writeXlk a v
  | _ => s.writePhu a v

/-! ## Windows (R37, R75, R184, R361, R523) -/

/-- R184: a host write of word `w` of node table entry `i`. -/
def State.nodeWord (s : State) (i w v : Nat) : State :=
  match w with
  | 0 => s.nodeZoneWrite i v
  | 2 => s.nodeLdly i v
  | 3 => if bit v 31 then s.nodeAccept i else s.answer stOk
  | 7 => s.nodeCounts i v
  | _ => s.answer stIgnored

/-- R523: a write to a window; the read-only windows are locked. -/
def State.writeWin (s : State) (w : Win) (a v : Nat) : State :=
  match w with
  | .data => s.penDataWrite (a - dataBase) (BitVec.ofNat 32 v)
  | .node => s.nodeWord ((a - nodeBase) / 32) ((a - nodeBase) % 32 / 4) v
  | .radio => s.radioNode ((a - radioBase) / 64) ((a - radioBase) % 64 / 4) v
  | _ => s.answer stLocked

/-! ## The whole write (R450) -/

/-- R450: a host write of `v` at the aligned address `a`, in an authenticated session or not. -/
def State.writeWord (s : State) (auth : Bool) (a v : Nat) : State :=
  match placeAt a with
  | none => s.answer stAddr
  | some p =>
    if s.roleRefuses a v then s.roleAnswer a v
    else match p with
      | .block b => (s.vote a).writeBlock auth b a (s.voteIn a v)
      | .window w => s.writeWin w a v

/-- R450: a host write, every check in the order of the table. -/
def State.hostWrite (s : State) (auth : Bool) (a v : Nat) : State :=
  if !s.inRunQuiet then s else if a % 4 ≠ 0 then s.answer stAlign else s.writeWord auth a v

def execRegisterWrite (auth : Bool) (a v : BitVec 32) (s : State) : Res := .next (s.hostWrite auth a.toNat v.toNat)

end Sys2Proof.Machine
end

