-- ==== Sys2Proof/Machine/Host.lean ====
section
/-!
DEFINITION. Machine/Host.lean: the Ethernet ports and the register access protocol: sessions, datagrams, operations, posted writes,
the replay cache, and what a pair does with each datagram (chapter 16, R436 to R461; R421).
-/

namespace Sys2Proof.Machine

/-! ## The ports (R436 to R438) -/

/-- R436: the link of port `k` comes up or goes down. -/
def State.linkChange (s : State) (k : Nat) (up gbe : Bool) : State :=
  if !s.portsOn then s
  else if k = 0 then (s.setFlag F.HAP_STAT_LINK1 up).setFlag F.HAP_STAT_GBE1 (up && gbe)
  else (s.setFlag F.HAP_STAT_LINK2 up).setFlag F.HAP_STAT_GBE2 (up && gbe)

def execEthLinkChange (port : BitVec 1) (up gbe : Bool) (s : State) : Res := .next (s.linkChange port.toNat up gbe)

/-- R436: the module's own MAC address. -/
def State.ownMac (s : State) : Nat := s.get F.HAP_MAC_HI_MAC * 4294967296 + s.get F.HAP_MAC_LO_MAC

/-- R436: seconds for which the bridge keeps an address, and the addresses it keeps. -/
def macAge : Nat := 300 * nsPerSec
def macEntries : Nat := 256

/-- R436: the bridge learns that `mac` is behind port `k`; a new address pushes the oldest out of a full table. -/
def State.learnMac (s : State) (mac k : Nat) : State :=
  let keep := s.hap.macs.filter fun m => m.1 != mac && decide (s.ns < m.2.2 + macAge)
  { s with hap := { s.hap with macs := ((mac, k, s.ns) :: keep).take macEntries } }

/-- R436: the port behind which `mac` is known; 2 is the module's own. -/
def State.macPort (s : State) (mac : Nat) : Option Nat :=
  if mac = s.ownMac then some 2
  else (s.hap.macs.find? fun m => m.1 == mac && decide (s.ns < m.2.2 + macAge)).map (·.2.1)

/-- R436: the VLAN tag of a frame: its VID. -/
def frameVid (b : List Nat) : Option Nat :=
  if b.getD 12 0 = 0x81 ∧ b.getD 13 0 = 0x00 then some (Crypto.ofBytes ((b.drop 14).take 2) % 4096) else none

/-- R436: the module accepts a frame with the VLAN tag it works with. -/
def State.vlanOk (s : State) (b : List Nat) : Bool :=
  if s.flag F.HAP_CTL_VLANEN then frameVid b == some (s.get F.HAP_CTL_VID) else (frameVid b).isNone

/-- R20, R436: the ports that a frame received on port `k` for `dst` goes to. -/
def State.bridgeTo (s : State) (k dst : Nat) (b : List Nat) : List Nat :=
  let all := match (if dst / 2 ^ 40 % 2 = 1 then none else s.macPort dst) with
    | some p => [p]
    | none => [1 - k, 2]
  all.filter fun p => p != k && (if p = 2 then s.vlanOk b else s.flag F.HAP_CTL_CHAIN)

/-- R436: a frame with two 802.1Q tags. -/
def twoTags (b : List Nat) : Bool := (b.drop 12).take 2 == [0x81, 0x00] && (b.drop 16).take 2 == [0x81, 0x00]

/-- R436: the longest frame, without the 4 bytes of its frame check sequence. -/
def frameLimit : Nat := 1518

/-- R20, R436: a frame is received on port `k`, its bytes those before the frame check sequence; one received in error is counted and
discarded, one that is too long or has two tags is discarded. -/
def State.ethFrame (s : State) (k : Nat) (bad : Bool) (b : List Nat) : State :=
  if !s.portsOn then s
  else if bad then (if k = 0 then s.incSat F.HAP_PCNT_RXERR1 else s.incSat F.HAP_PCNT_RXERR2)
  else if b.length < 14 ∨ frameLimit < b.length ∨ twoTags b then s
  else
    let s1 := s.learnMac (Crypto.ofBytes ((b.drop 6).take 6)) k
    forEach (fun p s => s.emit (.ethFrame p b)) (s1.bridgeTo k (Crypto.ofBytes (b.take 6)) b) s1

def execEthFrameForward (port : BitVec 1) (bad : Bool) (b : List (BitVec 8)) (s : State) : Res :=
  .next (s.ethFrame port.toNat bad (b.map (·.toNat)))

/-- R436: the link-local address formed from the MAC address by modified EUI-64. -/
def State.linkLocal (s : State) : Nat :=
  0xFE80 * 2 ^ 112 + (s.ownMac / 2 ^ 24 ^^^ 0x020000) * 2 ^ 40 + 0xFFFE * 2 ^ 24 + s.ownMac % 2 ^ 24

/-- R436: the module has the address. -/
def State.hasAddr (s : State) (v6 : Bool) (a : Nat) : Bool :=
  if v6 then a == s.linkLocal || (s.flag F.HAP_CTL_IPV6EN && a == Crypto.ofBytes ((s.rds (Reg.HAP_IP6 0) 4).flatMap wordBytes) && a != 0)
  else s.flag F.HAP_CTL_IPV4EN && a == (s.rd Reg.HAP_IP4).toNat && a != 0

def execArpRequest (v6 : Bool) (addr : BitVec 128) (s : State) : Res :=
  .next (if s.inRunQuiet ∧ s.hasAddr v6 addr.toNat then s.emit (.arpReply s.vlanTag v6 addr.toNat) else s)

/-- R436: an echo request; a fragment, or an IPv6 packet with extension headers, is not `whole` and is discarded. -/
def execIcmpEcho (v6 whole : Bool) (addr : BitVec 128) (payload : List (BitVec 8)) (s : State) : Res :=
  .next (if s.inRunQuiet ∧ whole ∧ s.hasAddr v6 addr.toNat then s.emit (.echoReply s.vlanTag v6 (payload.map (·.toNat))) else s)

/-! ## Addressing (R438) -/

/-- R438: the staged addressing set is allowed. -/
def State.netOk (s : State) : Bool :=
  let ctl := s.stagedWord Reg.HAP_CTL
  let p4 := getBits (s.stagedWord Reg.HAP_IP4NET) 0 6
  let p6 := getBits (s.stagedWord Reg.HAP_IP6NET) 0 8
  (getBits ctl 1 1 == 0 || (p4 != 0 && decide (p4 ≤ 30))) && (getBits ctl 2 1 == 0 || (p6 != 0 && decide (p6 ≤ 126))) &&
    !([0, 319, 320] : List Nat).contains (getBits (s.stagedWord Reg.HAP_PORT) 0 16)

/-- R438: the NETCOMMIT of a datagram whose response has been sent. -/
def State.netChange (s : State) : State :=
  let s1 : State := { s with hap := { s.hap with netcommit := false } }
  if s.netOk then (forEach (fun a s => s.commitWord a) addrRegs s1).raise 0xB05 0 [1]
  else ((forEach (fun a s => s.unstage a) addrRegs s1).setFlag F.HAP_STAT_NETREF true).raise 0xB05 0 [0]

/-- R438: NETCOMMIT is due: its response has been sent. -/
def State.netDue (s : State) : Bool := s.inRunQuiet && s.hap.netcommit && s.xlk.trans == []

def execHapNetchg (s : State) : Res := .next (if s.netDue then s.netChange else s)

def execHapCmdNetcommit (s : State) : Res := .next (s.hostWr Reg.HAP_CMD 1 fun s => s.netCommit.answer stOk)

/-- R458: a value of POSTED whose datagram has been answered takes effect. -/
def State.postedChange (s : State) : State :=
  match s.hap.newPosted with
  | some b =>
    if s.inRunQuiet && s.xlk.trans == [] then { s.setFlag F.HAP_CTL_POSTED b with hap := { s.hap with newPosted := none } } else s
  | none => s

def execPostedModeChange (s : State) : Res := .next s.postedChange

/-- R438, R458: what waited for the responses sent before the next datagram. -/
def State.settle (s : State) : State :=
  let s1 := s.postedChange
  if s1.netDue then s1.netChange else s1

/-! ## Datagrams (R439 to R442) -/

/-- R439: the header. -/
structure HHead where
  ver : Nat
  typ : Nat
  flags : Nat
  nops : Nat
  sid : Nat
  xid : Nat
  len : Nat
  rsv : Nat
deriving DecidableEq, Repr

/-- R439: the header of a datagram of at least 16 bytes. -/
def headOf (b : List Nat) : HHead :=
  let f (i n : Nat) : Nat := Crypto.ofBytes ((b.drop i).take n)
  ⟨f 0 1, f 1 1, f 2 1, f 3 1, f 4 4, f 8 4, f 12 2, f 14 2⟩

/-- R439: a header as bytes. -/
def headBytes (typ flags nops sid xid len : Nat) : List Nat :=
  [1, typ, flags, nops] ++ Crypto.toBytes 4 sid ++ Crypto.toBytes 4 xid ++ Crypto.toBytes 2 len ++ [0, 0]

/-- R440: the types. -/
def tHello : Nat := 0x01
def tChallenge : Nat := 0x02
def tProve : Nat := 0x03
def tAccept : Nat := 0x04
def tRequest : Nat := 0x10
def tResponse : Nat := 0x11
def tReject : Nat := 0x12
def tClose : Nat := 0x20

/-- R441: PROT of a header. -/
def HHead.prot (h : HHead) : Bool := h.flags % 2 == 1

/-- R441: the GCM nonce; the direction byte is 1 from module to host. -/
def gcmNonce (sid dir xid : Nat) : List Nat := Crypto.toBytes 4 sid ++ [dir, 0, 0, 0] ++ Crypto.toBytes 4 xid

/-- R441: a datagram of the module, protected under `key` or plain. -/
def sealDatagram (key : Option (List Nat)) (typ nops sid xid : Nat) (body : List Nat) : List Nat :=
  match key with
  | none => headBytes typ 0 nops sid xid body.length ++ body
  | some k =>
    let h := headBytes typ 1 nops sid xid body.length
    let c := Crypto.gcmSeal k (gcmNonce sid 1 xid) h body
    h ++ c.1 ++ c.2

/-- R439, R442: the header is well formed and LEN matches the datagram. -/
def HHead.ok (h : HHead) (n : Nat) : Bool :=
  h.ver == 1 && h.flags / 2 == 0 && h.rsv == 0 && n == 16 + h.len + (if h.prot then 16 else 0) && decide (n ≤ 1440)

/-- R442: REJECT. -/
def State.reject (s : State) (peer : Peer) (h : HHead) (reason : Nat) : State :=
  (s.incSat F.HAP_ERR1_REJECT).emit (.datagram s.vlanTag peer (sealDatagram none tReject 0 h.sid h.xid ([reason, 0, 0, 0] ++ Crypto.toBytes 4 h.xid)))

/-- R441, R464: a datagram is discarded as not authentic; the unit of the event is the session's index, if the session is open. -/
def State.authFail (s : State) (sid : Nat) : State :=
  let s1 := (s.incSat F.HAP_ERR0_AUTH).setFlag F.HAP_STAT_AUTHF true
  if s1.rateOk 0xB03 0 nsPerSec then
    (s1.rateMark 0xB03 0).raiseEv { code := 0xB03, unit := (s.sessIdx sid).getD 0, skip := 1, pay := [sid] }
  else s1

/-- R441: the body of a protected datagram in session entry `k`. -/
def State.openBody (s : State) (x : HSess) (h : HHead) (b : List Nat) : Option (List Nat) :=
  (s.sessKey x).bind fun key =>
    Crypto.gcmOpen key (gcmNonce h.sid 0 h.xid) (b.take 16) ((b.drop 16).take h.len) ((b.drop (16 + h.len)).take 16)

/-- R441, R442: what an arriving datagram with an unknown session gets. -/
def State.unknownSession (s : State) (peer : Peer) (h : HHead) : State := (s.authFail h.sid).reject peer h 4

/-! ## Setting up a session (R444) -/

/-- R444: the host-domain key. -/
def State.hostKey (s : State) : Option (List Nat) := s.setupKey (s.get F.KST_DOMAIN_HOST)

/-- R444: the session ID given next: the next number, and in a pair the next of the module's own half, so that the two modules never
give the same one (assumption log 42). -/
def State.nextSid (s : State) : Nat :=
  let n := if 0xFFFFFFFF ≤ s.hap.lastSid then 1 else s.hap.lastSid + 1
  if s.get F.GLB_ROLE_ROLE = 0 ∨ n % 2 = s.get F.GLB_ROLE_HALF then n else if n = 0xFFFFFFFF then 2 else n + 1

/-- R444: HELLO. -/
def State.hello (s : State) (peer : Peer) (b : List Nat) (h : HHead) : State :=
  if !h.ok b.length ∨ h.nops ≠ 0 ∨ (!h.prot ∧ h.len ≠ 16) then s.reject peer h 1
  else if h.prot ∨ h.sid ≠ 0 then s.authFail h.sid
  else
    match s.hostKey with
    | none => s.keyRefused (s.get F.KST_DOMAIN_HOST)
    | some key =>
      if s.sessOpen = 8 then ((s.reject peer h 6).setFlag F.HAP_STAT_FULL true).raise 0xB04 0
      else if 8 ≤ s.pendLive.length then s
      else
        let ch := b.drop 16
        let cm := s.newChallenge
        let tq := timeQ s.ns
        let id := s.nextSid
        let p : HPend := { id := id, ch := ch, cm := cm, tq := tq, at_ := s.ns, peer := peer, slot := s.get F.KST_DOMAIN_HOST }
        let body := cm ++ challengeAnswer key ch s.moduleId tq ++ s.moduleId ++ Crypto.toBytes 8 tq
        ({ s with free := s.free + 4, hap := { s.hap with pend := s.hap.pend ++ [p], lastSid := id } } : State).emit
          (.datagram s.vlanTag peer (sealDatagram none tChallenge 0 id h.xid body))

/-- R444: the host's answer to a pending set-up. -/
def State.hostAnswer (s : State) (key : List Nat) (p : HPend) : List Nat :=
  (Crypto.hmac key (p.cm ++ p.ch ++ s.moduleId ++ Crypto.toBytes 8 p.tq)).take 16

/-- R444, R446: the session of a set-up that has been proved, in entry `k`, and its ACCEPT. -/
def State.acceptSess (s : State) (peer : Peer) (p : HPend) (k : Nat) : State :=
  let x : HSess := { id := p.id, ch := p.ch, cm := p.cm, tq := p.tq, slot := p.slot, peer := peer, last := s.ns }
  let s1 := { s with hap := { s.hap with pend := s.hap.pend.filter fun q => q.id != p.id } }.setSess k (some x)
  let body := Crypto.toBytes 4 (s.get F.HAP_SESSTO_SEC) ++ [s.get F.GLB_ROLE_ROLE, 0, 0, 0]
  (s1.emit (.datagram s.vlanTag peer (sealDatagram (s1.sessKey x) tAccept 0 p.id 0 body))).raise 0xB01 k [k, p.id]

/-- R444: PROVE. -/
def State.prove (s : State) (peer : Peer) (b : List Nat) (h : HHead) : State :=
  if !h.ok b.length ∨ h.nops ≠ 0 ∨ (!h.prot ∧ h.len ≠ 48) then s.reject peer h 1
  else if h.prot then s.authFail h.sid
  else
    let body := b.drop 16
    match s.pendLive.find? fun p => p.id == h.sid with
    | none => s
    | some p =>
      match s.setupKey p.slot with
      | none => s.keyRefused p.slot
      | some key =>
        if body.take 16 ≠ p.ch ∨ (body.drop 16).take 16 ≠ p.cm ∨ body.drop 32 ≠ s.hostAnswer key p then s
        else match (List.range 8).find? fun n => (s.sess n).isNone with
          | some k => s.acceptSess peer p k
          | none => ((s.reject peer h 6).setFlag F.HAP_STAT_FULL true).raise 0xB04 0

def execSetupExpiry (s : State) : Res :=
  .next (if s.inRunQuiet then { s with hap := { s.hap with pend := s.pendLive } } else s)

/-! ## Ending a session (R446) -/

/-- R446: CLOSE. -/
def State.closeDatagram (s : State) (peer : Peer) (b : List Nat) (h : HHead) : State :=
  if !h.ok b.length ∨ h.nops ≠ 0 then s.reject peer h 1
  else if !h.prot ∨ h.sid = 0 then s.authFail h.sid
  else
    match s.sessIdx h.sid with
    | none => s.unknownSession peer h
    | some k => if ((s.sess k).bind fun x => s.openBody x h b).isSome then s.endSess k 1 else s.authFail h.sid

def execSessionTimeout (s : State) : Res :=
  .next (if s.inRunQuiet then s.endSessIf (fun x => decide (x.last + s.get F.HAP_SESSTO_SEC * nsPerSec ≤ s.ns)) 2 else s)

def execHapCmdClose (s : State) : Res := .next (s.hostWr Reg.HAP_CMD 2 fun s => s.closeSel.answer stOk)

def execHapCmdCloseall (s : State) : Res := .next (s.hostWr Reg.HAP_CMD 4 fun s => s.closeAll.answer stOk)

/-! ## Operations (R448, R449) -/

/-- R448: one operation of a request. -/
structure HOp where
  op : Nat
  count : Nat
  size : Nat
  addr : Nat
  data : List Nat
deriving DecidableEq, Repr

/-- R448: the codes. -/
def oRead : Nat := 1
def oWrite : Nat := 2
def oRead64 : Nat := 3
def oWrite64 : Nat := 4
def oBurst : Nat := 5
def oMasked : Nat := 6

/-- R448: data words that an operation code carries in the request. -/
def opWords (op : Nat) : Nat := if op = oWrite then 1 else if op = oWrite64 ∨ op = oMasked then 2 else 0

/-- R448: data words that its response carries when it succeeds. -/
def HOp.answers (o : HOp) : Nat :=
  if o.op = oRead ∨ o.op = oMasked then 1 else if o.op = oRead64 then 2 else if o.op = oBurst then o.count else 0

/-- R442, R448: one operation from the front of a body, with what is left; none when it is malformed. -/
def parseOp (b : List Nat) : Option (HOp × List Nat) :=
  let f (i n : Nat) : Nat := Crypto.ofBytes ((b.drop i).take n)
  let n := opWords (f 0 1)
  if b.length < 8 + 4 * n ∨ f 0 1 = 0 ∨ 6 < f 0 1 ∨ (f 0 1 = oBurst ↔ f 1 1 = 0) ∨ 3 < f 2 1 ∨ f 3 1 ≠ 0 then none
  else some (⟨f 0 1, f 1 1, f 2 1, f 4 4, (List.range n).map fun j => f (8 + 4 * j) 4⟩, b.drop (8 + 4 * n))

/-- R442: the operations of a body, exactly `n` of them. -/
def parseOps : Nat → List Nat → Option (List HOp)
  | 0, b => if b = [] then some [] else none
  | n + 1, b =>
    match parseOp b with
    | none => none
    | some (o, t) => (parseOps n t).map (o :: ·)

/-- R449: bytes of the response. -/
def respSize (prot : Bool) (l : List HOp) : Nat :=
  16 + (l.map fun o => 4 + 4 * o.answers).foldl (· + ·) 0 + (if prot then 16 else 0)

/-! ## Executing operations (R450 to R456) -/

/-- What executing a datagram has done so far: the state, the response's body, and what its transaction record holds (R421). -/
structure HRun where
  s : State
  body : List Nat := []
  writes : List (Nat × Word) := []
  old : List (Nat × Word) := []
  pops : List (Bool × Word) := []
  cur : Option Word := none
  /-- The ID of its transaction. -/
  id : Nat := 0

/-- R448: an operation has ended with STATUS `st` and the data `ws`. -/
def HRun.done (r : HRun) (o : HOp) (st : Nat) (ws : List Word) : HRun :=
  let w := if st ≤ stIgnored then ws else []
  { r with s := { r.s with status := st, rdata := w }
           body := r.body ++ [o.op, st] ++ Crypto.toBytes 2 w.length ++ w.flatMap wordBytes }

/-- R450 orders 1 to 4. -/
def opRefused (o : HOp) : Option Nat :=
  if o.size ≠ 0 then some stWidth
  else if o.addr % 4 ≠ 0 then some stAlign
  else if (List.range (max 1 o.count)).any fun j => (placeAt (o.addr + 4 * j)).isNone || placeAt (o.addr + 4 * j) != placeAt o.addr then
    some stAddr
  else if (o.op = oRead64 ∨ o.op = oWrite64) ∧ ((blockAt o.addr).isNone ∨ partnersOf o.addr = 0) then some stWidth
  else none

/-- R421, R453: a read of a word, and what it did to the event queue or the journal's cursor. -/
def HRun.read (r : HRun) (k a : Nat) : HRun × Word :=
  let x := r.s.readWord k a
  let r1 := { r with s := x.1 }
  if a = Reg.EVQ_POP0 ∧ x.2 ≠ 0 then ({ r1 with pops := r1.pops ++ [(bit x.2.toNat 28, x.1.rd Reg.EVQ_POP1)] }, x.2)
  else if a = Reg.JNL_RD0 then ({ r1 with cur := some (x.1.rd Reg.JNL_CUR) }, x.2)
  else (r1, x.2)

/-- R453: `n` words from `a` up. -/
def HRun.reads (r : HRun) (k a : Nat) : Nat → HRun × List Word
  | 0 => (r, [])
  | n + 1 =>
    let x := r.read k a
    let y := x.1.reads k (a + 4) n
    (y.1, x.2 :: y.2)

/-- R421, R450: a write of `v` at `a`, with its STATUS. -/
def HRun.write (r : HRun) (auth : Bool) (a v : Nat) : HRun :=
  let was := r.s.rd a
  let s1 := r.s.writeWord auth a v
  if s1.status ≤ stIgnored then { r with s := s1, writes := r.writes ++ [(a, BitVec.ofNat 32 v)], old := r.old ++ [(a, was)] }
  else { r with s := s1 }

/-- R450, R451: writes of consecutive words; the STATUS is the first that is not OK. -/
def HRun.writes2 (r : HRun) (auth : Bool) (l : List (Nat × Nat)) : HRun × Nat :=
  l.foldl (fun x p => let y := x.1.write auth p.1 p.2; (y, if x.2 = stOk then y.s.status else x.2)) (r, stOk)

/-- R456: a posted write of transaction `id` is accepted: it waits under its block's bit. -/
def State.post (s : State) (b : Nat) (l : List (Nat × Word)) (auth : Bool) (id : Nat) : State :=
  { s with hap := { s.hap with posted := s.hap.posted ++ [(b, l, auth, id)] } }

/-- R450 orders 5 to 8, R456: what refuses a posted write of the listed words, the first at `a` with the value `v`, to the block of bit
`b`: a rule that refuses the write as busy or as locked when it is accepted does so before it is queued. -/
def HRun.postRefused (r : HRun) (auth : Bool) (b a v : Nat) (l : List (Nat × Nat)) : Option Nat :=
  if r.s.roleRefuses a v then some stRole
  else if b = 12 ∧ kstProtected a v ∧ !r.s.kstAuth auth then some stAuth
  else if bit r.s.wbusy b then some stBusy
  else some (r.writes2 auth l).2 |>.filter fun st => st == stBusy || st == stLocked

/-- R456: the posted write under bit `b` reaches its apply cycle; with it, its transaction and the words as they were. -/
def State.postedStep (s : State) (b : Nat) : State × Nat × List (Nat × Word) :=
  match s.hap.posted.find? fun p => p.1 == b with
  | none => (s, 0, [])
  | some p =>
    let s1 : State := { s with hap := { s.hap with posted := s.hap.posted.filter fun q => q.1 != b } }
    let s2 := forEach (fun (w : Nat × Word) s => s.writeWord p.2.2.1 w.1 w.2.toNat) p.2.1 s1
    ({ s2 with status := s.status }, p.2.2.2, p.2.1.map fun w => (w.1, s1.rd w.1))

/-- R421, R456: while the response of transaction `id` waits for the standby, the words that it has written are noted as they were. -/
def State.noteOld (s : State) (id : Nat) (was : List (Nat × Word)) : State :=
  { s with xlk := { s.xlk with trans := s.xlk.trans.map fun t => if t.id = id then { t with old := t.old ++ was } else t } }

/-- R456: the posted write under bit `b` reaches its apply cycle. -/
def State.applyPosted (s : State) (b : Nat) : State := (s.postedStep b).1.noteOld (s.postedStep b).2.1 (s.postedStep b).2.2

def execPostedWriteApply (b : BitVec 5) (s : State) : Res := .next (if s.inRunQuiet then s.applyPosted b.toNat else s)

/-- R456: a read, a masked write or a stalled write of a block whose bit is set waits until the bit clears; a write that its own
datagram has posted belongs to the transaction in execution. -/
def HRun.awaitBlock (r : HRun) (a : Nat) : HRun :=
  match (placeAt a).bind Place.bit? with
  | some b =>
    let x := r.s.postedStep b
    if x.2.1 = r.id then { r with s := x.1, old := r.old ++ x.2.2 } else { r with s := x.1.noteOld x.2.1 x.2.2 }
  | none => r

/-- R452: what WRITE_MASKED writes. -/
def State.maskedWord (s : State) (a mask v : Nat) : Nat :=
  let once := match (blockAt a).bind fun _ => regRow a with
    | some r => r.w1c ||| r.w1s ||| r.wo
    | none => 0
  (maskIn (s.peek a &&& ~~~(BitVec.ofNat 32 once)) mask v).toNat

/-- R450 to R456: one operation in session `k`. -/
def HRun.exec (r : HRun) (k : Nat) (o : HOp) : HRun :=
  let auth := decide (k < 8)
  let words := (List.range o.data.length).map fun j => (o.addr + 4 * j, o.data.getD j 0)
  match opRefused o with
  | some st => r.done o st []
  | none =>
    match (if (o.op = oWrite ∨ o.op = oWrite64) ∧ r.s.flag F.HAP_CTL_POSTED then (placeAt o.addr).bind Place.bit? else none).filter (· != 1) with
    | some b =>
      match r.postRefused auth b o.addr (o.data.getD 0 0) words with
      | some st => ({ r with s := if st = stRole then r.s.roleAnswer o.addr (o.data.getD 0 0) else r.s } : HRun).done o st []
      | none =>
        let l := words.map fun p => (p.1, BitVec.ofNat 32 p.2)
        ({ r with s := r.s.post b l auth r.id, writes := r.writes ++ l } : HRun).done o stOk []
    | none =>
      let r1 := r.awaitBlock o.addr
      if o.op = oWrite ∨ o.op = oWrite64 then
        let x := r1.writes2 auth words
        x.1.done o x.2 []
      else if o.op = oMasked then
        let was := r1.s.peek o.addr
        let x := r1.write auth o.addr (r1.s.maskedWord o.addr (o.data.getD 0 0) (o.data.getD 1 0))
        x.done o x.s.status [was]
      else
        let x := r1.reads k o.addr o.answers
        x.1.done o stOk x.2

/-! ## Requests (R442, R443, R445, R459 to R461, R421) -/

/-- R459: a XID that is not in a full cache and is older than all of it. -/
def cacheStale (l : List (Nat × List Nat)) (xid : Nat) : Bool :=
  decide (64 ≤ l.length) && (l.head?.map fun e => !xidNewer xid e.1).getD false

/-- R446, R459: the session `k` has executed `xid`. -/
def State.noteDone (s : State) (k xid : Nat) (resp : List Nat) : State :=
  let x := s.hsess k
  let s1 := s.setHsess k { x with cache := cachePut x.cache xid resp, count := x.count + 1 }
  if k < 8 ∧ 2147483648 ≤ x.count + 1 then s1.endSess k 5 else s1

/-- R421: the ID under which the standby acknowledges the datagram `xid` of session `k`. -/
def transId (k xid : Nat) : Nat := k * 4294967296 + xid

/-- R368, R415, R421: what a datagram's transaction record holds. -/
def HRun.record (r : HRun) (k xid : Nat) (resp : List Nat) : TransMsg :=
  { sess := k, xid := xid, writes := r.writes.filter fun w => !standbyWritable w.1 w.2.toNat, pops := r.pops, cur := r.cur, resp := resp }

/-- R421: the transaction record goes to the standby; the response waits for its acknowledgement, or goes out at once when the standby is
not READY. -/
def State.respond (s : State) (peer : Peer) (k xid : Nat) (r : HRun) (resp : List Nat) : State :=
  if !s.activePaired then s.sendResp peer resp
  else
    let s1 := s.emit (.transaction (r.record k xid resp))
    if s.flag F.XLK_STAT_READY then
      { s1 with xlk := { s1.xlk with trans := s1.xlk.trans ++ [{ id := transId k xid, resp := resp, peer := peer, old := r.old }] } }
    else s1.sendResp peer resp

/-- R443: a request that passed every check is executed. -/
def State.runOps (s : State) (peer : Peer) (h : HHead) (k : Nat) (key : Option (List Nat)) (ops : List HOp) : State :=
  let r : HRun := ops.foldl (fun (r : HRun) o => r.exec k o) ({ s := s, id := transId k h.xid } : HRun)
  let resp := sealDatagram key tResponse ops.length h.sid h.xid r.body
  let s1 := (r.s.noteDone k h.xid resp).inc F.HAP_DGRAMS_COUNT
  s1.respond peer k h.xid r resp

/-- R442, R459: a request of session `k` whose protection is right. -/
def State.request (s : State) (peer : Peer) (h : HHead) (k : Nat) (key : Option (List Nat)) (body : List Nat) : State :=
  let x := s.hsess k
  let s1 := s.setHsess k { x with last := s.ns }
  match x.cache.find? fun e => e.1 == h.xid with
  | some e => (s1.incSat F.HAP_REPEATS_COUNT).sendResp peer e.2
  | none =>
    if cacheStale x.cache h.xid then (s1.incSat F.HAP_ERR0_STALE).setFlag F.HAP_STAT_STALE true
    else if h.xid = 0 ∨ h.nops = 0 ∨ 64 < h.nops then s1.reject peer h 1
    else match parseOps h.nops body with
      | none => s1.reject peer h 1
      | some ops => if 1440 < respSize h.prot ops then s1.reject peer h 2 else s1.runOps peer h k key ops

/-- R441 to R445: a REQUEST. -/
def State.requestDatagram (s : State) (peer : Peer) (b : List Nat) (h : HHead) : State :=
  if !h.ok b.length then s.reject peer h 1
  else if h.sid = 0 then
    (if h.prot then s.authFail 0
     else if s.flag F.KST_CTL_OPEN then s.request peer h 8 none (b.drop 16)
     else s.incSat F.HAP_ERR0_AUTH)
  else
    match s.sessIdx h.sid with
    | none => s.unknownSession peer h
    | some k =>
      if !h.prot then s.authFail h.sid
      else match (s.sess k).bind fun x => (s.openBody x h b).map fun body => (x, body) with
        | some (x, body) => s.request peer h k (s.sessKey x) body
        | none => s.authFail h.sid

/-! ## Datagrams one at a time (R440, R443) -/

/-- R443: a datagram is executed by the rule of its type. -/
def State.runDatagram (s : State) (peer : Peer) (b : List Nat) : State :=
  let h := headOf b
  let u := s.settle
  if h.typ = tHello then u.hello peer b h
  else if h.typ = tProve then u.prove peer b h
  else if h.typ = tRequest then u.requestDatagram peer b h
  else u.closeDatagram peer b h

/-- R443: no datagram is in execution, and one waits. -/
def State.hostReady (s : State) : Bool := s.xlk.trans == [] && s.hap.waiting != []

/-- R443: at most `n` of the datagrams that wait are executed, in order of arrival, until one has to wait for the standby. -/
def State.serveUpTo : Nat → State → State
  | 0, s => s
  | n + 1, s =>
    match s.xlk.trans, s.hap.waiting with
    | [], d :: l => State.serveUpTo n (({ s with hap := { s.hap with waiting := l } } : State).runDatagram d.1 d.2)
    | _, _ => s

/-- R443: the datagrams that the module holds waiting. -/
def waitLimit : Nat := 32

/-- R443: the datagrams that wait are executed. -/
def State.serveHost (s : State) : State := State.serveUpTo waitLimit s

/-- R443: a datagram that arrives while another is in execution waits, or is dropped when 32 wait. -/
def State.hold (s : State) (peer : Peer) (b : List Nat) : State :=
  if waitLimit ≤ s.hap.waiting.length then (s.incSat F.HAP_ERR1_QDROP).setFlag F.HAP_STAT_QDROP true
  else { s with hap := { s.hap with waiting := s.hap.waiting ++ [(peer, b)] } }

/-- R440, R443: a datagram arrives from `peer`, as a command that takes type `typ`; one of a type that the module does not take from a
host is counted.  The module executes one datagram at a time: the next waits until the standby has acknowledged the one before (R421). -/
def State.datagram (s : State) (typ : Nat) (peer : Peer) (b : List Nat) : State :=
  let h := headOf b
  if !s.inRunQuiet || decide (b.length < 16) then s
  else if !([tHello, tProve, tRequest, tClose] : List Nat).contains h.typ then s.settle.incSat F.HAP_ERR1_REJECT
  else if h.typ ≠ typ then s
  else
    let t := s.serveHost
    if t.xlk.trans = [] then t.runDatagram peer b else t.hold peer b

def execHello (peer : Peer) (b : List (BitVec 8)) (s : State) : Res := .next (s.datagram tHello peer (b.map (·.toNat)))

def execProve (peer : Peer) (b : List (BitVec 8)) (s : State) : Res := .next (s.datagram tProve peer (b.map (·.toNat)))

def execRequest (peer : Peer) (b : List (BitVec 8)) (s : State) : Res := .next (s.datagram tRequest peer (b.map (·.toNat)))

def execClose (peer : Peer) (b : List (BitVec 8)) (s : State) : Res := .next (s.datagram tClose peer (b.map (·.toNat)))

/-! ## The standby (R421, R461) -/

/-- R421: the standby performs a write of the active module, but for those that each module takes for itself (R415). -/
def State.writeCopied (s : State) (a v : Nat) : State :=
  if standbyWritable a v then s
  else if a = Reg.TBU_CMD then s.tbuCopied v
  else match placeAt a with
    | some (.block b) => (s.vote a).writeBlock true b a (s.voteIn a v)
    | some (.window w) => s.writeWin w a v
    | none => s

/-- R396, R421: the record that an EVQ_POP0 read removed. -/
def State.removeRec (s : State) (p : Bool × Word) : State :=
  let f (l : List QRec) : List QRec := l.filter fun q => !(bit q.record.w0.toNat 28 == p.1 && q.record.w1 == p.2)
  { s with evq := { s.evq with fifo := f s.evq.fifo, bank0 := f s.evq.bank0, bank1 := f s.evq.bank1 } }

/-- R421: a transaction record arrives. -/
def State.takeTrans (s : State) (t : TransMsg) : State :=
  let s1 := forEach (fun (w : Nat × Word) s => s.writeCopied w.1 w.2.toNat) t.writes s
  let s2 := (forEach (fun p s => s.removeRec p) t.pops s1).setFull
  let s3 := match t.cur with | some w => s2.wr Reg.JNL_CUR w | none => s2
  { (s3.noteDone t.sess t.xid t.resp).emit (.ack (transId t.sess t.xid)) with status := s.status }

def execTransactionRecordReceived (t : TransMsg) (s : State) : Res :=
  .next (if s.isStandby && s.inRunQuiet then s.takeTrans t else s)

/-- R134, R421, R443: the standby has acknowledged a transaction record, or a calibration record; a datagram that waits is next. -/
def State.transAcked (s : State) (id : Nat) : State :=
  if 2 ^ 40 ≤ id then
    (if s.sme.install.map calAckId = some id then { s with sme := { s.sme with installAck := true } } else s)
  else
    match s.xlk.trans.find? fun t => t.id == id with
    | none => s
    | some t => ({ s.sendResp t.peer t.resp with xlk := { s.xlk with trans := s.xlk.trans.filter fun x => x.id != id } }).serveHost

def execTransactionAck (id : Nat) (s : State) : Res := .next (if s.inRunQuiet then s.transAcked id else s)

end Sys2Proof.Machine
end

