-- ==== Sys2Proof/Machine/Restart.lean ====
section
/-!
DEFINITION. Machine/Restart.lean: the release of reset: the restart's kind, what each group of state takes, and the records that
it leaves (R480 to R488; R77, R89, R139, R252, R285, R292, R319, R375, R405, R414, R432, R446, R484, R499).
-/

namespace Sys2Proof.Machine

/-! ## The kind (R480) -/

def rkCold : Nat := 0
def rkSag : Nat := 1
def rkWatchdog : Nat := 2
def rkHost : Nat := 3
def rkFence : Nat := 4
def rkInsertion : Nat := 5

/-- R480: the kind of the restart that is due, as GLB_RSTAT.KIND codes it; none when no restart is due.  A host restart waits for
the responses that wait for a standby. -/
def State.restartKind (s : State) : Option Nat :=
  if s.mode = .reset then
    some (if s.phu.insertion then rkInsertion else if s.phu.fence || s.flag F.XLK_STAT_FENCEIN then rkFence
      else if s.phu.wdt then rkWatchdog else if s.newest.isSome then rkSag else rkCold)
  else if s.inRunQuiet && s.hap.restart && s.xlk.trans == [] then some rkHost
  else none

/-- R486: the restart kinds that take their S groups from a save. -/
def restoresSave (k : Nat) : Bool := k == rkSag || k == rkWatchdog || k == rkHost || k == rkFence

/-! ## What stays of the word store (R483 to R486) -/

/-- R485: a host restart keeps the configuration of the block of the word at `a`. -/
def State.retained (s : State) (k a : Nat) : Bool :=
  k == rkHost && (match (placeAt a).bind Place.bit? with
    | some b => b != 3 && b != 12 && decide (b ≤ 16) && bit (s.get F.GLB_RSTCTL_RETAIN) b
    | none => false)

/-- R6, R330, R357, R386, R433, R465: words fixed when the module was made. -/
def factoryWord (a : Nat) : Bool :=
  [Reg.GLB_ID, Reg.HAP_MAC_HI, Reg.HAP_MAC_LO, Reg.KST_MID_HI, Reg.KST_MID_LO].contains a ||
  (decide (Reg.KST_SERIAL 0 ≤ a) && decide (a ≤ Reg.KST_SERIAL 3)) || (decide (Reg.SRU_SB 0 ≤ a) && decide (a ≤ Reg.SRU_SB 7))

/-- R486: the key store's registers that every restart keeps. -/
def keptKst (a : Nat) : Bool :=
  [Reg.KST_CTL, Reg.KST_DOMAIN, Reg.KST_EPOCH].contains a || (decide (Reg.KST_VER 0 ≤ a) && decide (a ≤ Reg.KST_VER 3))

/-- R399, R402: the journal's words. -/
def jnlWord (a : Nat) : Bool := jnlWords.contains a || a == Reg.JNL_WRAPS || (decide (jnlBase ≤ a) && decide (a < lopBase))

/-- R89: the words that describe the two pattern images. -/
def imageWord (a : Nat) : Bool :=
  a == Reg.PEN_AID || a == Reg.PEN_IID || (decide (Reg.PEN_IHASH_A 0 ≤ a) && decide (a ≤ Reg.PEN_IHASH_I 7))

/-- R484: words 1 and 3 of the node table. -/
def nodeFlash (a : Nat) : Bool := decide (nodeBase ≤ a) && decide (a < nodeBase + 0x20000) && (a % 32 == 4 || a % 32 == 12)

/-- R486: the bits of the word at `a` that a restart of kind `k` keeps as they stand: the calendar, the key store, flash images, the
journal (code K), measurements, and what a host restart retains. -/
def State.keepMask (s : State) (k a : Nat) : Nat :=
  if penFlash ≤ a ∨ factoryWord a ∨ keptKst a ∨ (0x3000 ≤ a ∧ a < 0x30C0) ∨ imageWord a then 0xFFFFFFFF
  else if jnlWord a then (if k = rkWatchdog ∨ k = rkHost ∨ k = rkFence then 0xFFFFFFFF else 0)
  else if nodeFlash a then (if k = rkInsertion then 0 else 0xFFFFFFFF)
  else if a = Reg.PEN_STAT then 7
  else if a = Reg.XLK_FMT then 0xFFFF
  else if a = Reg.PHU_VIN ∨ a = Reg.PHU_FEED then 0xFFFFFFFF
  else if a = Reg.PHU_STAT then 6
  else if a = Reg.XLK_STAT then 2 ^ F.XLK_STAT_FENCEIN.lo
  else if 0x41000 ≤ a ∧ a < 0x43000 ∧ a % 256 = 4 then 2 ^ (F.SEA_STAT_FENCED 0).lo
  else if s.retained k a then configMask a - (configMask a &&& saveMask a)
  else 0

/-- R483: the newer persisted copy that is whole. -/
def State.persisted (s : State) : Option Persist :=
  if s.phu.pnewer = 0 then s.phu.pcopy0.orElse fun _ => s.phu.pcopy1 else s.phu.pcopy1.orElse fun _ => s.phu.pcopy0

/-- R359, R486: the word store after a restart of kind `k`, before the saved groups return: reset values, then the persisted values of the
configuration, then the bits that are kept. -/
def State.restartMem (s : State) (k : Nat) : Sp Word :=
  let p := if k = rkInsertion then [] else (s.persisted.map (·.words)).getD []
  let chan : Sp Word := if s.variantE || (k != rkInsertion && s.persisted.isSome) then [] else spSet resetWord [] Reg.SRU_CHAN 0
  let m1 := p.foldl (fun m q => spSet resetWord m q.1 (maskIn (resetWord q.1) (persistMask q.1 - (persistMask q.1 &&& saveMask q.1)) q.2.toNat)) chan
  let keep (m : Sp Word) (a : Nat) : Sp Word := spSet resetWord m a (maskIn (spGet resetWord m a) (s.keepMask k a) (s.rd a).toNat)
  let m2 := (s.mem.map (·.1)).foldl keep m1
  (m1.map (·.1)).foldl keep m2

/-! ## The state at the release of reset -/

/-- R252: the time that the calendar gives, ns, with the offset `off`. -/
def calNs (l sub : Nat) (off : Int) : Nat :=
  ((((l : Int) + 946684800 + off).toNat) * nsPerSec) + sub % 32768 * nsPerSec / 32768

/-- R481: the instant after the release of reset at which the time base is loaded and the first sample is taken. -/
def loadDelay : Nat := 300000000

/-- R486: the module's parts at the release of reset: what flash and the RTC domain hold, everything else as after a cold start. -/
def State.restartParts (s : State) (k : Nat) (x : RestartFacts) : State :=
  let ins := k == rkInsertion
  let pers : Persist := if ins then {} else s.persisted.getD {}
  let mtrKept := s.retained k Reg.MTR_CTL
  let evqKept := s.retained k Reg.EVQ_CTL
  { State.reset with
    mem := s.restartMem k
    out := s.out
    free := s.free
    pending := s.pending
    status := s.status
    rdata := s.rdata
    evq := { prio := if evqKept then s.evq.prio else [], noq := if evqKept then s.evq.noq else [] }
    rtc := { s.rtc with since := none, cmpAt := none, skipTo := 0, snapDate := none, snapSub := none }
    mtr := { gain := if mtrKept then s.mtr.gain else pers.gain, aux := if mtrKept then s.mtr.aux else pers.aux }
    sme := { ageFlash0 := s.sme.ageFlash0, ageFlash1 := s.sme.ageFlash1, ageNewer := s.sme.ageNewer
             lums := s.sme.lums.filterMap fun (p : Nat × Lum) => if p.2.eol = ({} : Lum).eol then none else some (p.1, { eol := p.2.eol }) }
    sru := { flash := if ins then [] else s.sru.flash, bflash := if ins then 0 else s.sru.bflash }
    kst := s.kst
    hap := { lastSid := s.hap.lastSid }
    xlk := { fwBank := s.xlk.fwBank, fwLen := s.xlk.fwLen, fwNext := s.xlk.fwNext }
    phu := { bank0 := if ins then none else s.phu.bank0, bank1 := if ins then none else s.phu.bank1, held0 := s.phu.held0,
             held1 := s.phu.held1, feedLost := 0, capFlash := s.phu.capFlash, htLast := s.phu.htLast,
             pcopy0 := if ins then none else s.phu.pcopy0, pcopy1 := if ins then none else s.phu.pcopy1, pnewer := s.phu.pnewer }
    mode := .run } |> fun t => (t.put F.GLB_ROLE_SLOT x.slot).put F.GLB_ROLE_HALF x.slot

/-- R183, R484: words 1 and 3 read back from the last assigning ENUM or ACCEPT of `o`: SLOW and LOST as PRESENT, a slot lost before its
ACCEPT as NEWID; and what is counted from the node table. -/
def State.nodesBack (s o : State) : State :=
  let st (i : Nat) : Nat := s.get (F.NT_STATE i)
  let s1 := forUp (fun i s => if st i = 3 ∨ st i = 4 then s.put (F.NT_STATE i) (if o.notAccepted i then 2 else 1) else s) 4096 s
  let cnt (n : Nat) (p : Nat → Bool) : Nat := ((List.range 128).filter fun q => p (s1.get (F.NT_STATE (n * 128 + q)))).length
  let s2 := forUp (fun n s => (s.put (F.SEA_NODES_COUNT n) (cnt n (· != 0))).put (F.SEA_NODES_NEWID n) (cnt n (· == 2))) 32 s1
  forUp (fun z s => s.put (F.ZON_STAT_MEMBERS z) ((List.range 4096).filter fun i => s1.get (F.NT_ZONE i) == z).length) 512 s2

/-- R292: the calendar's run marker is gone: its registers take their reset values, but for those that have flash copies. -/
def State.rtcLost (s : State) (lost : Bool) : State :=
  if !lost then s
  else
    let keep (a : Nat) : Bool := [Reg.RTC_CTL, Reg.RTC_AGE, Reg.RTC_CVAL].contains a || (decide (Reg.RTC_ATIME 0 ≤ a) && decide (a ≤ Reg.RTC_ACTL 1))
    let s1 : State := { s with
      mem := s.mem.filter fun p => decide (p.1 < 0x3000) || decide (0x30C0 ≤ p.1) || keep p.1
      rtc := { curve := s.rtc.curve } }
    (s1.setFlag F.RTC_STAT_VALID false).setFlag F.RTC_STAT_LOST true

/-- R252, R256, R473 step 6: the time base from the calendar, with the saved offset and rate (TBU_RATE while SERVO = 0); VALID as the
calendar's. -/
def State.timeBack (s : State) (k : Nat) (x : RestartFacts) (clock : Option (Word × Word)) : State :=
  let s0 := match clock with
    | some c => (s.wr Reg.TBU_UTCOFF c.1).wr Reg.TBU_FREQ c.2
    | none => s
  let s1 := if s0.flag F.TBU_CTL_SERVO then s0 else s0.setFreq (s0.sget F.TBU_RATE_RATE)
  let s2 : State := if k = rkInsertion ∧ x.partner then s1
    else { s1.setFlag F.TBU_STAT_VALID (s1.flag F.RTC_STAT_VALID) with ns := calNs s1.calNow x.sub (s1.sget F.TBU_UTCOFF_SEC) }
  { s2 with rtc := if x.rtcLost then { s2.rtc with subAt := s2.ns, lostAt := s2.ns } else { s2.rtc with subAt := 0, lostAt := 0 } }

/-- R22, R65, R186, R188, R313: what is in force follows the registers; silence and hold-ups are counted from now. -/
def State.inForce (s : State) : State :=
  { s with
    sea := { s.sea with
      fperUs := s.get F.SEA_FPER_US, leadUs := s.get F.SEA_LEAD_US
      slots := (List.range 4096).filterMap fun i =>
        if s.get (F.NT_STATE i) = 0 ∨ s.ns = 0 then none else some (i, ({ since := s.ns } : NSlot)) }
    pen := { s.pen with tickUs := s.get F.PEN_TICK_TICK }
    bobs := []
    mtr := { s.mtr with intv := s.get F.MTR_INTV_SEC, fnom60 := s.flag F.MTR_CTL_FNOM, start := s.ns, runFrom := s.ns }
    rtc := { s.rtc with ageFrom := s.ns, ageSum := 0, ageDone := none, takenAt := none, held := none }
    phu := { s.phu with tr := s.ns - loadDelay, upAt := s.ns } } |> fun t => forUp (fun n t => t.setBob n { t.bob n with
      prio := t.get (F.PEN_BCTL_PRIO n), budget := t.get (F.PEN_BBUDGET_BUDGET n),
      winBase := t.get (F.PEN_BWIN_BASE n), winSize := t.get (F.PEN_BWIN_SIZE n) }) 32 t

/-! ## Saved groups (R474, R486, R488) -/

/-- R474: a group of the newest valid save; one that a limited save lacks comes from the other bank. -/
def State.saved {α : Type} (s : State) (f : Save → Option α) : Option α :=
  match s.newest with
  | none => none
  | some x => (f x).orElse fun _ => if x.kind = 3 then (if s.phu.bank0 = some x then s.phu.bank1 else s.phu.bank0).bind f else none

/-- R488: a restored loop: its first run is a preset run that adds nothing for the outage. -/
def Loop.resume (l : Loop) : Loop :=
  { l with fp := none, ofp := none, pre := true, opre := true, resumed := true, prepAt := none, outerAt := none }

/-- R473 step 4: zones and loops. -/
def State.zonesBack (s : State) (g : Option (Sp Word × Zon × Cce)) : State :=
  match g with
  | none => s
  | some (ws, z, c) =>
    let s1 := forEach (fun (p : Nat × Word) s => s.wr p.1 (maskIn (s.rd p.1) (saveMask p.1) p.2.toNat)) ws s
    { s1 with zon := { z with node := [] }, cce := { c with loops := c.loops.map fun p => (p.1, p.2.resume) } }

/-- R473 step 2: accumulators, interval state, over-current runs. -/
def State.mtrBack (s : State) (m : Option Mtr) : State :=
  match m with
  | none => s
  | some m =>
    let s1 : State := { s with mtr := { s.mtr with
      acc := m.acc, base := m.base, start := m.start, intv := m.intv, fnom60 := m.fnom60, accrst := m.accrst, reset := m.reset,
      step := m.step, nolock := m.nolock, phot := m.phot
      chans := m.chans.map fun p => (p.1, ({ ocRun := p.2.ocRun, ocMax := p.2.ocMax, ocFrom := p.2.ocFrom } : MChan))
      circs := m.circs.map fun p => (p.1, { p.2 with vals := [], part := [], secs := [] }) } }
    forUp (fun c s => s.showChan c) 28 s1

/-- R473 step 3, R486 code L: the last 4,096 journal records at their own numbers. -/
def State.jnlBack (s : State) (ws : Sp Word) : State := forEach (fun (p : Nat × Word) s => s.wr p.1 p.2) ws s

/-- R486: JNL_COUNT of a journal from a save is at most 4,096. -/
def State.jnlTrim (s : State) : State := s.put F.JNL_COUNT_RECS (min 4096 (s.get F.JNL_COUNT_RECS))

/-- R401: WRAPPED, and the cursor's reset value. -/
def State.jnlFlags (s : State) : State := s.setFlag F.JNL_STAT_WRAPPED (s.get F.JNL_COUNT_RECS == jnlSize)

/-- R397, R473 step 5: the restored records in FIFO mode; they are readable at once. -/
def State.evqBack (s : State) (g : Option (List QRec × Nat × Nat)) : State :=
  match g with
  | none => s
  | some (l, q, lq) =>
    let s1 : State := { s with evq := { s.evq with fifo := l.zipIdx.map (fun r => { r.1 with copy := none, arr := r.2 }), arrived := l.length } }
    ((s1.put F.EVQ_SEQ_SEQ q).put F.EVQ_LSEQ_SEQ lq).setFull

/-- R486: what a restart of kind `k` takes from saves `o` holds; a sag restart takes the event queue from a critical save only. -/
def State.groupsBack (s o : State) (k : Nat) : State :=
  if !restoresSave k then s.jnlFlags
  else
    let s1 := (s.zonesBack (o.saved (·.zones))).mtrBack (o.saved fun x => some x.mtr)
    let s2 := if k = rkSag then (match o.saved (fun x => some x.jnl) with | some ws => (s1.jnlBack ws).jnlTrim | none => s1) else s1
    (if k = rkSag ∨ k = rkHost then s2.evqBack (o.saved (·.evq)) else s2).jnlFlags

/-! ## Flash images (R77, R89, R134, R139, R432, R484) -/

/-- R84: the length of the flash image of bank `k`. -/
def State.flashLen (s : State) (k : Nat) : Nat :=
  let a := penFlashAt k
  match s.initRecs a 0x80000 (s.initAt a) (s.rdBE a 14 2) with
  | some r => r.2 + 64
  | none => 0

/-- R89: an image is recorded in the hash words at `h`. -/
def State.hashed (s : State) (h : Nat) : Bool := (s.rds h 8).any (· != 0)

/-- R89: the image of bank `k` has the hash recorded at `h`. -/
def State.imageOk (s : State) (k h : Nat) : Bool :=
  s.rds h 8 == bytesWords (Crypto.sha256 (s.rdBytes (penFlashAt k) 0 (s.flashLen k)))

/-- R89: the idle bank after its check. -/
def State.idleBack (s : State) : State :=
  let k := 1 - s.get F.PEN_STAT_ACTIVE
  if !s.hashed (Reg.PEN_IHASH_I 0) then s.put F.PEN_STAT_IDLEST 0
  else if s.imageOk k (Reg.PEN_IHASH_I 0) then (s.loadBank k).put F.PEN_STAT_IDLEST 2
  else s.put F.PEN_STAT_IDLEST 3

/-- R77, R89: the active bank after its check; with a good image the bobbins start as its table gives. -/
def State.activeBack (s : State) : State :=
  let k := s.get F.PEN_STAT_ACTIVE
  if !s.hashed (Reg.PEN_IHASH_A 0) then s
  else if s.imageOk k (Reg.PEN_IHASH_A 0) then (s.loadBank k).startImage
  else s.setFlag F.PEN_STAT_IMGBAD true

/-- R134: the calibration records whose flash copy is whole. -/
def State.calBack (s : State) : State :=
  let has (i : Nat) : Bool := s.mem.any fun p => decide (calFlashAddr i ≤ p.1) && decide (p.1 < calFlashAddr i + 512)
  (forUp (fun i s => if has i then (if s.recCheck (calFlashAddr i) = 0 then s.reloadRec i else s.invalidate i) else s) 4096 s).calRehash

/-- R484, R486: the radio node table, its counters 1,024 further on, and the broadcast counter, which an insertion starts at 0. -/
def State.radioBack (s o : State) (k : Nat) : State :=
  let s1 := forEach (fun (p : Nat × Word) s => s.wr p.1 p.2) s.sru.flash s
  let used := s1.placed ++ (List.range 1024).filter fun i => s1.get (F.RT_STATE i) == 1
  let s2 := forEach (fun i s => s.put (F.RT_TXFC i) (min 0xFFFFFFFF (s.get (F.RT_TXFC i) + 1024))) used s1
  let s3 := forEach (fun i s => s.setRnode i
    { hist := decide (s.get (F.RT_RXFC i) ≠ 0), canImage := (o.rnode i).canImage
      sync := s.get (F.RT_SYNC_S i) * nsPerSec + s.get (F.RT_SYNC_NS i) }) used s2
  let b := if k = rkInsertion then 0 else s3.sru.bflash + 1024
  ({ s3 with sru := { s3.sru with bfc := b, bflash := b } }).radioSave

/-- R432: the firmware bank that boots, and KST_UHASH of what runs. -/
def State.boot (s : State) (ok : Bool) : State :=
  let s1 : State := match s.xlk.fwNext with
    | some k => { s with xlk := { s.xlk with fwNext := none, fwBank := if ok then k else s.xlk.fwBank } }
    | none => s
  let h := match spGet (fun _ => none) s1.xlk.fwLen s1.xlk.fwBank with
    | some n => Crypto.sha256 (s1.rdBytes (fwBankAt s1.xlk.fwBank) 0 n)
    | none => (List.range 32).map fun i => (Config.factoryHash i).toNat
  s1.wrs (Reg.KST_UHASH 0) (bytesWords h)

/-! ## What the restart records (R481) -/

/-- R481: GLB_RESTART. -/
def State.restartRecord (s : State) (k : Nat) (sv : Option Save) : State :=
  s.raise 0x006 0 [k + (sv.map (·.kind)).getD 0 * 8, s.get F.GLB_OUTAGE_MS, (sv.map (·.seq)).getD 0]

/-- R446, R447: a running partner has the sessions of `o`: they were a pair. -/
def State.partnerHas (o : State) (x : RestartFacts) : Bool := x.partner && (o.get F.GLB_ROLE_ROLE == roleActive || o.isStandby)

/-- R405, R446, R483: the PERSIST write, the sessions and the running operations of `o` that the restart ends. -/
def State.lostRecords (s o : State) (x : RestartFacts) : State :=
  let s0 := if o.phu.pwrite.isSome then (s.setFlag F.GLB_PSTAT_PFAIL true).raise 0x00B 0 [0] else s
  let s1 := forUp (fun n s => match o.sess n with
    | some y => if o.partnerHas x then s else s.raise 0xB02 n [6, y.id]
    | none => s) 8 s0
  forUp (fun n s => if o.lopState n = 1 ∨ o.lopState n = 2 then s.raise 0xC11 n [n, o.get (F.LOP_STAT_CODE n)] else s) 8 s1

/-- R319: the instant to which the accumulators of a save refer: the end of the last completed cycle, or the snapshot (R477). -/
def Save.gapFrom (x : Save) : Nat := if x.kind = 1 ∨ x.mtr.from_ = 0 then x.time else x.mtr.from_

/-- R319, R481, R487: the gap that a restart from a save leaves ends at the first sample, which the module takes when it has loaded its time;
a cold start beside two lost saves writes MTR_GAP of every mapped circuit. -/
def State.gapRecords (s : State) (k : Nat) (sv : Option Save) : State :=
  match sv with
  | some x => s.gapEnd x.gapFrom (if x.kind = 1 then 0 else 1) s.ns
  | none =>
    if k = rkCold ∧ s.phu.held0 ∧ s.phu.held1 then
      forUp (fun k s => if s.circMapped k then s.gapRecord k 0 0xFFFFFFFF 0xFFFFFFFF none else s) 8 s
    else s

/-- R490: GLB_RSTAT, GLB_RST and GLB_OUTAGE. -/
def State.restartStat (s o : State) (k : Nat) (sv : Option Save) : State :=
  let tr := s.phu.tr
  let n := if k = rkCold then 0 else min 0xFFFF (o.get F.GLB_RSTAT_COUNT + 1)
  ((((s.put F.GLB_RSTAT_KIND k).put F.GLB_RSTAT_SAVEKIND ((sv.map (·.kind)).getD 0)).put F.GLB_RSTAT_COUNT n).wrTime Reg.GLB_RST_S_LO tr).put
    F.GLB_OUTAGE_MS (min 0xFFFFFFFF ((sv.map fun x => (tr - x.time) / 1000000).getD 0))

/-! ## The restart (R481) -/

/-- R414: the role that PMODE gives. -/
def State.roleBack (s : State) : State := if s.get F.GLB_ROLE_PMODE = 1 then s.startJoining else s.setRole roleSolo

/-- R474, R478, R491: what the power and hold unit shows of its flash and of its banks. -/
def State.phuBack (s : State) (k : Nat) : State :=
  let s1 := if k = rkInsertion then s else (s.put F.PHU_CAP_UF s.phu.capFlash).setFlag F.PHU_STAT_LIMITED (decide (s.phu.capFlash < 400))
  let s2 := (s1.setFeed 0 (s.get F.PHU_FEED_A)).setFeed 1 (s.get F.PHU_FEED_B)
  (s2.setFlag F.GLB_PSTAT_PVALID s2.persisted.isSome).showSave

/-- R481: the state restored by a restart of kind `k` of the module that stood as `o`. -/
def State.restored (o : State) (k : Nat) (x : RestartFacts) : State :=
  let sv := if restoresSave k then o.newest else none
  let s1 := (o.restartParts k x).rtcLost x.rtcLost
  let s2 := ((s1.timeBack k x (if restoresSave k then o.saved (·.clock) else none)).nodesBack o).inForce
  let s3 := (((s2.groupsBack o k).idleBack).activeBack).radioBack o k
  let s4 := (s3.boot x.bankOk).phuBack k
  s4.restartStat o k sv

/-- R480 to R488: a restart of kind `k`.  With a running partner to join, the module records as a JOINING one (R389, R482); without
one, its records are those of a module alone. -/
def State.restart (o : State) (k : Nat) (x : RestartFacts) : State :=
  let sv := if restoresSave k then o.newest else none
  let s0 := o.restored k x
  let s1 := if x.partner then s0.roleBack else s0.gapRecords k sv
  let s2 := (s1.restartRecord k sv).lostRecords o x
  let s3 := (s2.kstRestart).calBack.ageRestore
  let s4 := if s3.flag F.PEN_STAT_IMGBAD then s3.raise 0x107 0 else s3
  let s5 := if x.rtcLost then s4.raise 0x918 0 else s4
  let s6 := if o.xlk.fwNext.isSome && !x.bankOk then s5.raise 0xA0A 0 [2] else s5
  let s7 := if x.partner then s6 else s6.roleBack
  let s8 := if s7.acts then s7.keepAlarms else s7
  let quiet := (sv.map (·.quiet)).getD false
  (if o.flag F.XLK_STAT_FENCEOUT then s8.emit (.fence false) else s8) |> fun t => { t with mode := if quiet then .quiet else .run }

/-- R473, R476: a periodic save that the restart interrupts leaves its bank without a valid save. -/
def State.periodicTorn (s : State) : State :=
  if s.phu.writing.isSome then let t := s.setBank s.saveBank none; { t with phu := { t.phu with writing := none } } else s

/-- R480, R481, R496: the restart that is due, of a module that is mated; a host restart first takes a complete critical save. -/
def State.glbRestart (u : State) (x : RestartFacts) : State :=
  if !x.mated then u else
  let s := { ({ u with mode := .keep } : State).heldSecond with mode := u.mode }
  match s.restartKind with
  | none => u
  | some k => if k = rkHost then (s.periodicTorn.criticalSave s.ns x.us).restart k x else s.periodicTorn.restart k x

def execGlbRestart (x : RestartFacts) (s : State) : Res := .next (s.glbRestart x)

end Sys2Proof.Machine
end

