-- ==== Sys2Proof/Machine/Dispatch.lean ====
section
/-! DEFINITION. Machine/Dispatch.lean: one arm per command. -/

namespace Sys2Proof.Machine

def exec (i : Instr) (s : State) : Host.Outcome State Fault Refusal :=
  match i with
  | .frameStart => Sys2Proof.Machine.execFrameStart s
  | .solveComplete faults capFails cycles => Sys2Proof.Machine.execSolveComplete faults capFails cycles s
  | .smeLaneOut lane => Sys2Proof.Machine.execSmeLaneOut lane s
  | .tickCommit => Sys2Proof.Machine.execTickCommit s
  | .waitkRelease n => Sys2Proof.Machine.execWaitkRelease n s
  | .waittRelease n => Sys2Proof.Machine.execWaittRelease n s
  | .tickChange => Sys2Proof.Machine.execTickChange s
  | .patternSwap => Sys2Proof.Machine.execPatternSwap s
  | .groupBoundary => Sys2Proof.Machine.execGroupBoundary s
  | .nop n => Sys2Proof.Machine.execNop n s
  | .add n d a b => Sys2Proof.Machine.execAdd n d a b s
  | .sub n d a b => Sys2Proof.Machine.execSub n d a b s
  | .mul n d a b => Sys2Proof.Machine.execMul n d a b s
  | .and n d a b => Sys2Proof.Machine.execAnd n d a b s
  | .or n d a b => Sys2Proof.Machine.execOr n d a b s
  | .xor n d a b => Sys2Proof.Machine.execXor n d a b s
  | .shl n d a by_ => Sys2Proof.Machine.execShl n d a by_ s
  | .shr n d a by_ => Sys2Proof.Machine.execShr n d a by_ s
  | .sar n d a by_ => Sys2Proof.Machine.execSar n d a by_ s
  | .addi n d a imm => Sys2Proof.Machine.execAddi n d a imm s
  | .ldi n d imm => Sys2Proof.Machine.execLdi n d imm s
  | .ldh n d a imm => Sys2Proof.Machine.execLdh n d a imm s
  | .cmp n a b => Sys2Proof.Machine.execCmp n a b s
  | .cmpi n a imm => Sys2Proof.Machine.execCmpi n a imm s
  | .min n d a b => Sys2Proof.Machine.execMin n d a b s
  | .minu n d a b => Sys2Proof.Machine.execMinu n d a b s
  | .max n d a b => Sys2Proof.Machine.execMax n d a b s
  | .maxu n d a b => Sys2Proof.Machine.execMaxu n d a b s
  | .mulq n d a b => Sys2Proof.Machine.execMulq n d a b s
  | .ld n d a off => Sys2Proof.Machine.execLd n d a off s
  | .st n d a off => Sys2Proof.Machine.execSt n d a off s
  | .ldv n d a off => Sys2Proof.Machine.execLdv n d a off s
  | .stv n d a off => Sys2Proof.Machine.execStv n d a off s
  | .br n cond off => Sys2Proof.Machine.execBr n cond off s
  | .jmp n target => Sys2Proof.Machine.execJmp n target s
  | .call n target => Sys2Proof.Machine.execCall n target s
  | .ret n a => Sys2Proof.Machine.execRet n a s
  | .loop n d off => Sys2Proof.Machine.execLoop n d off s
  | .vadd n d a b => Sys2Proof.Machine.execVadd n d a b s
  | .vsub n d a b => Sys2Proof.Machine.execVsub n d a b s
  | .vscl n d a g => Sys2Proof.Machine.execVscl n d a g s
  | .vmix n d a b g => Sys2Proof.Machine.execVmix n d a b g s
  | .vdot n g a b => Sys2Proof.Machine.execVdot n g a b s
  | .vsum n g a => Sys2Proof.Machine.execVsum n g a s
  | .vext n g a lane => Sys2Proof.Machine.execVext n g a lane s
  | .vins n d a g lane => Sys2Proof.Machine.execVins n d a g lane s
  | .curve n d a c => Sys2Proof.Machine.execCurve n d a c s
  | .time n d code => Sys2Proof.Machine.execTime n d code s
  | .civil n d code => Sys2Proof.Machine.execCivil n d code s
  | .waitt n a b => Sys2Proof.Machine.execWaitt n a b s
  | .waitk n a imm => Sys2Proof.Machine.execWaitk n a imm s
  | .zset n a g => Sys2Proof.Machine.execZset n a g s
  | .zget n d g => Sys2Proof.Machine.execZget n d g s
  | .zgain n d a => Sys2Proof.Machine.execZgain n d a s
  | .zmode n a m => Sys2Proof.Machine.execZmode n a m s
  | .sense n d a q => Sys2Proof.Machine.execSense n d a q s
  | .meter n d a code => Sys2Proof.Machine.execMeter n d a code s
  | .emit n prio a b code => Sys2Proof.Machine.execEmit n prio a b code s
  | .sig n a bits => Sys2Proof.Machine.execSig n a bits s
  | .waits n mask => Sys2Proof.Machine.execWaits n mask s
  | .csr n d num => Sys2Proof.Machine.execCsr n d num s
  | .halt n => Sys2Proof.Machine.execHalt n s
  | .penBudget n => Sys2Proof.Machine.execPenBudget n s
  | .penPfix n flashOk => Sys2Proof.Machine.execPenPfix n flashOk s
  | .programScrubPass => Sys2Proof.Machine.execProgramScrubPass s
  | .penCtlWrite v => Sys2Proof.Machine.execPenCtlWrite v s
  | .penTickWrite v => Sys2Proof.Machine.execPenTickWrite v s
  | .penCmdSwap => Sys2Proof.Machine.execPenCmdSwap s
  | .penCmdDisarm => Sys2Proof.Machine.execPenCmdDisarm s
  | .penImgptrWrite v => Sys2Proof.Machine.execPenImgptrWrite v s
  | .penImgdatWrite v => Sys2Proof.Machine.execPenImgdatWrite v s
  | .penHsigWrite v => Sys2Proof.Machine.execPenHsigWrite v s
  | .penDataWrite a v => Sys2Proof.Machine.execPenDataWrite a v s
  | .penDataRead a => Sys2Proof.Machine.execPenDataRead a s
  | .penBctlStart n v => Sys2Proof.Machine.execPenBctlStart n v s
  | .penBctlStop n v => Sys2Proof.Machine.execPenBctlStop n v s
  | .penBbudgetWrite n v => Sys2Proof.Machine.execPenBbudgetWrite n v s
  | .penBwinWrite n v => Sys2Proof.Machine.execPenBwinWrite n v s
  | .patload slot flashOk => Sys2Proof.Machine.execPatload slot flashOk s
  | .nodeZoneWrite ix v => Sys2Proof.Machine.execNodeZoneWrite ix v s
  | .zonTgtWrite z k v => Sys2Proof.Machine.execZonTgtWrite z k v s
  | .zonCtlWrite z v => Sys2Proof.Machine.execZonCtlWrite z v s
  | .smeCalptrWrite v => Sys2Proof.Machine.execSmeCalptrWrite v s
  | .smeCaldatWrite v => Sys2Proof.Machine.execSmeCaldatWrite v s
  | .calload slot flashOk => Sys2Proof.Machine.execCalload slot flashOk s
  | .calloadRecordInstall => Sys2Proof.Machine.execCalloadRecordInstall s
  | .smeCmdLanerst => Sys2Proof.Machine.execSmeCmdLanerst s
  | .smeCalfix ix => Sys2Proof.Machine.execSmeCalfix ix s
  | .calScrubPass => Sys2Proof.Machine.execCalScrubPass s
  | .ageingSave => Sys2Proof.Machine.execAgeingSave s
  | .smeTstale => Sys2Proof.Machine.execSmeTstale s
  | .seamFrameReceived n sof bytes => Sys2Proof.Machine.execSeamFrameReceived n sof bytes s
  | .controlFrameResend n => Sys2Proof.Machine.execControlFrameResend n s
  | .seaResendFail n => Sys2Proof.Machine.execSeaResendFail n s
  | .seamSignalLost n => Sys2Proof.Machine.execSeamSignalLost n s
  | .seaNodeLost ix => Sys2Proof.Machine.execSeaNodeLost ix s
  | .slowClear ix => Sys2Proof.Machine.execSlowClear ix s
  | .auxWindow n => Sys2Proof.Machine.execAuxWindow n s
  | .census => Sys2Proof.Machine.execCensus s
  | .seaCmdEnum n => Sys2Proof.Machine.execSeaCmdEnum n s
  | .seaCmdCensus n => Sys2Proof.Machine.execSeaCmdCensus n s
  | .seaCtlWrite n v => Sys2Proof.Machine.execSeaCtlWrite n v s
  | .seaFperWrite v => Sys2Proof.Machine.execSeaFperWrite v s
  | .framePeriodChange => Sys2Proof.Machine.execFramePeriodChange s
  | .seaLeadWrite v => Sys2Proof.Machine.execSeaLeadWrite v s
  | .leadChange => Sys2Proof.Machine.execLeadChange s
  | .seaCfgWrite n a v => Sys2Proof.Machine.execSeaCfgWrite n a v s
  | .seaCfgcmdGo n => Sys2Proof.Machine.execSeaCfgcmdGo n s
  | .nodeAccept ix => Sys2Proof.Machine.execNodeAccept ix s
  | .nodeLdlyWrite ix v => Sys2Proof.Machine.execNodeLdlyWrite ix v s
  | .seaImgptrWrite v => Sys2Proof.Machine.execSeaImgptrWrite v s
  | .seaImgdatWrite v => Sys2Proof.Machine.execSeaImgdatWrite v s
  | .nodeimg slot => Sys2Proof.Machine.execNodeimg slot s
  | .diaCmdClr => Sys2Proof.Machine.execDiaCmdClr s
  | .diaCmdClrall => Sys2Proof.Machine.execDiaCmdClrall s
  | .lampUnverifiedAged slot ch => Sys2Proof.Machine.execLampUnverifiedAged slot ch s
  | .innerLoopRun z => Sys2Proof.Machine.execInnerLoopRun z s
  | .outerLoopRun z => Sys2Proof.Machine.execOuterLoopRun z s
  | .cceFetrip z outer => Sys2Proof.Machine.execCceFetrip z outer s
  | .cceFeclear z outer => Sys2Proof.Machine.execCceFeclear z outer s
  | .cceStale z => Sys2Proof.Machine.execCceStale z s
  | .cceLctlWrite z v => Sys2Proof.Machine.execCceLctlWrite z v s
  | .cceCmdCommit => Sys2Proof.Machine.execCceCmdCommit s
  | .cceCmdFeclr => Sys2Proof.Machine.execCceCmdFeclr s
  | .cceCmdDlirst => Sys2Proof.Machine.execCceCmdDlirst s
  | .ptpSyncReceived h twoStep t1 t2 logInt => Sys2Proof.Machine.execPtpSyncReceived h twoStep t1 t2 logInt s
  | .followUpReceived h t1 => Sys2Proof.Machine.execFollowUpReceived h t1 s
  | .delayReqSend seq t3 => Sys2Proof.Machine.execDelayReqSend seq t3 s
  | .delayRespReceived h t4 logMin => Sys2Proof.Machine.execDelayRespReceived h t4 logMin s
  | .announceReceived h a => Sys2Proof.Machine.execAnnounceReceived h a s
  | .announceTimeout => Sys2Proof.Machine.execAnnounceTimeout s
  | .syncTimeout => Sys2Proof.Machine.execSyncTimeout s
  | .tbuHoldend => Sys2Proof.Machine.execTbuHoldend s
  | .ptpTransit corr event ingress egress => Sys2Proof.Machine.execPtpTransit corr event ingress egress s
  | .stepBegin => Sys2Proof.Machine.execStepBegin s
  | .timeStep => Sys2Proof.Machine.execTimeStep s
  | .tbuCmdCap => Sys2Proof.Machine.execTbuCmdCap s
  | .tbuCmdSet => Sys2Proof.Machine.execTbuCmdSet s
  | .tbuCmdSlew => Sys2Proof.Machine.execTbuCmdSlew s
  | .slewComplete => Sys2Proof.Machine.execSlewComplete s
  | .tbuCmdUtcarm => Sys2Proof.Machine.execTbuCmdUtcarm s
  | .utcOffsetChange => Sys2Proof.Machine.execUtcOffsetChange s
  | .leapNotice => Sys2Proof.Machine.execLeapNotice s
  | .timeMarkReceived mark stamp => Sys2Proof.Machine.execTimeMarkReceived mark stamp s
  | .pairFirstWordRead a => Sys2Proof.Machine.execPairFirstWordRead a s
  | .rtcStageWrite date v => Sys2Proof.Machine.execRtcStageWrite date v s
  | .rtcCmdCommit => Sys2Proof.Machine.execRtcCmdCommit s
  | .rtcCommitApply => Sys2Proof.Machine.execRtcCommitApply s
  | .rtcCmdDiscnow => Sys2Proof.Machine.execRtcCmdDiscnow s
  | .rtcTimeRead sub => Sys2Proof.Machine.execRtcTimeRead sub s
  | .rtcAlarmWrite n k v => Sys2Proof.Machine.execRtcAlarmWrite n k v s
  | .rtcSecond => Sys2Proof.Machine.execRtcSecond s
  | .rtcTempRead t => Sys2Proof.Machine.execRtcTempRead t s
  | .rtcCycleAdjust => Sys2Proof.Machine.execRtcCycleAdjust s
  | .rtcDisciplineCompare sub => Sys2Proof.Machine.execRtcDisciplineCompare sub s
  | .rtcAgeUpdate => Sys2Proof.Machine.execRtcAgeUpdate s
  | .mtrCycleEnd end_ settled hz => Sys2Proof.Machine.execMtrCycleEnd end_ settled hz s
  | .intervalBoundary => Sys2Proof.Machine.execIntervalBoundary s
  | .mtrCmdAccrst confirm => Sys2Proof.Machine.execMtrCmdAccrst confirm s
  | .mtrIntvWrite v => Sys2Proof.Machine.execMtrIntvWrite v s
  | .rallyStart => Sys2Proof.Machine.execRallyStart s
  | .wakeSlot ix => Sys2Proof.Machine.execWakeSlot ix s
  | .letTimeout ix => Sys2Proof.Machine.execLetTimeout ix s
  | .wakeSlotMissed ix => Sys2Proof.Machine.execWakeSlotMissed ix s
  | .replyReceived t rssi psdu => Sys2Proof.Machine.execReplyReceived t rssi psdu s
  | .recoveryWindow => Sys2Proof.Machine.execRecoveryWindow s
  | .sruLost ix => Sys2Proof.Machine.execSruLost ix s
  | .joinReceived t psdu => Sys2Proof.Machine.execJoinReceived t psdu s
  | .floodReceived t psdu => Sys2Proof.Machine.execFloodReceived t psdu s
  | .seenCacheExpiry => Sys2Proof.Machine.execSeenCacheExpiry s
  | .sruRekey ix => Sys2Proof.Machine.execSruRekey ix s
  | .radioConfigWrite k v => Sys2Proof.Machine.execRadioConfigWrite k v s
  | .radioConfigChange => Sys2Proof.Machine.execRadioConfigChange s
  | .sruTxpwrWrite v => Sys2Proof.Machine.execSruTxpwrWrite v s
  | .sruCmdDrop => Sys2Proof.Machine.execSruCmdDrop s
  | .sruCmdCall => Sys2Proof.Machine.execSruCmdCall s
  | .sruCmdRekey => Sys2Proof.Machine.execSruCmdRekey s
  | .radioNodeWrite ix w v => Sys2Proof.Machine.execRadioNodeWrite ix w v s
  | .sruImgptrWrite v => Sys2Proof.Machine.execSruImgptrWrite v s
  | .sruImgdatWrite v => Sys2Proof.Machine.execSruImgdatWrite v s
  | .radioimg slot => Sys2Proof.Machine.execRadioimg slot s
  | .radioRelayReceived t rssi tx psdu => Sys2Proof.Machine.execRadioRelayReceived t rssi tx psdu s
  | .kstCmdCreate auth => Sys2Proof.Machine.execKstCmdCreate auth s
  | .kstCmdVerify auth => Sys2Proof.Machine.execKstCmdVerify auth s
  | .kstCmdCommit auth => Sys2Proof.Machine.execKstCmdCommit auth s
  | .kstCommit => Sys2Proof.Machine.execKstCommit s
  | .kstCmdDiscard auth => Sys2Proof.Machine.execKstCmdDiscard auth s
  | .kstCmdInvalidate auth => Sys2Proof.Machine.execKstCmdInvalidate auth s
  | .orphanMark => Sys2Proof.Machine.execOrphanMark s
  | .kstCmdDelete auth => Sys2Proof.Machine.execKstCmdDelete auth s
  | .kstCmdDerive auth => Sys2Proof.Machine.execKstCmdDerive auth s
  | .kstKdatWrite auth v => Sys2Proof.Machine.execKstKdatWrite auth v s
  | .kstSelWrite v => Sys2Proof.Machine.execKstSelWrite v s
  | .kstCtlWrite v => Sys2Proof.Machine.execKstCtlWrite v s
  | .kcvCompare partner => Sys2Proof.Machine.execKcvCompare partner s
  | .keygen slot => Sys2Proof.Machine.execKeygen slot s
  | .attest slot => Sys2Proof.Machine.execAttest slot s
  | .evqPop0Read => Sys2Proof.Machine.execEvqPop0Read s
  | .evqBankSwap => Sys2Proof.Machine.execEvqBankSwap s
  | .evqCmdSwap => Sys2Proof.Machine.execEvqCmdSwap s
  | .evqCtlWrite v => Sys2Proof.Machine.execEvqCtlWrite v s
  | .evqModeChange => Sys2Proof.Machine.execEvqModeChange s
  | .evqWmstatRead => Sys2Proof.Machine.execEvqWmstatRead s
  | .jnlRd0Read => Sys2Proof.Machine.execJnlRd0Read s
  | .jnlRepair n partner => Sys2Proof.Machine.execJnlRepair n partner s
  | .jnlCmdRewind m oldest => Sys2Proof.Machine.execJnlCmdRewind m oldest s
  | .jnlMarkWrite m v => Sys2Proof.Machine.execJnlMarkWrite m v s
  | .jnlScrubPass partner => Sys2Proof.Machine.execJnlScrubPass partner s
  | .lopAbort slot => Sys2Proof.Machine.execLopAbort slot s
  | .lopClear slot => Sys2Proof.Machine.execLopClear slot s
  | .lopUnknownCode slot code => Sys2Proof.Machine.execLopUnknownCode slot code s
  | .jsearch slot n => Sys2Proof.Machine.execJsearch slot n s
  | .selftest slot failures => Sys2Proof.Machine.execSelftest slot failures s
  | .holdtest slot us dip => Sys2Proof.Machine.execHoldtest slot us dip s
  | .statedump slot => Sys2Proof.Machine.execStatedump slot s
  | .lopRackWrite slot v => Sys2Proof.Machine.execLopRackWrite slot v s
  | .lopDone slot => Sys2Proof.Machine.execLopDone slot s
  | .heartbeatSend => Sys2Proof.Machine.execHeartbeatSend s
  | .heartbeatReceived line b => Sys2Proof.Machine.execHeartbeatReceived line b s
  | .heartbeatInterval => Sys2Proof.Machine.execHeartbeatInterval s
  | .xlkTakeover => Sys2Proof.Machine.execXlkTakeover s
  | .activeFenceAssert => Sys2Proof.Machine.execActiveFenceAssert s
  | .xlkPathRestored => Sys2Proof.Machine.execXlkPathRestored s
  | .xlkLaneLoss lane => Sys2Proof.Machine.execXlkLaneLoss lane s
  | .fenceInAssert => Sys2Proof.Machine.execFenceInAssert s
  | .stateCopyReceived c diff => Sys2Proof.Machine.execStateCopyReceived c diff s
  | .stateCopyAck num idleSame => Sys2Proof.Machine.execStateCopyAck num idleSame s
  | .xlkCopylost => Sys2Proof.Machine.execXlkCopylost s
  | .readyRegain w => Sys2Proof.Machine.execReadyRegain w s
  | .transactionRecordReceived t => Sys2Proof.Machine.execTransactionRecordReceived t s
  | .transactionAck id => Sys2Proof.Machine.execTransactionAck id s
  | .returnFieldRelay ix f => Sys2Proof.Machine.execReturnFieldRelay ix f s
  | .localRecordRelay r => Sys2Proof.Machine.execLocalRecordRelay r s
  | .calRecordReceived slot words => Sys2Proof.Machine.execCalRecordReceived slot words s
  | .xlkCmdSwap => Sys2Proof.Machine.execXlkCmdSwap s
  | .xlkSwap => Sys2Proof.Machine.execXlkSwap s
  | .xlkCmdResync => Sys2Proof.Machine.execXlkCmdResync s
  | .xlkCmdFwcommit => Sys2Proof.Machine.execXlkCmdFwcommit s
  | .xlkFwptrWrite v => Sys2Proof.Machine.execXlkFwptrWrite v s
  | .xlkFwdatWrite v => Sys2Proof.Machine.execXlkFwdatWrite v s
  | .pairJoin x => Sys2Proof.Machine.execPairJoin x s
  | .xlkJoin => Sys2Proof.Machine.execXlkJoin s
  | .joinRetry => Sys2Proof.Machine.execJoinRetry s
  | .partnerWaitExpiry => Sys2Proof.Machine.execPartnerWaitExpiry s
  | .ethFrameForward port bad b => Sys2Proof.Machine.execEthFrameForward port bad b s
  | .arpRequest v6 addr => Sys2Proof.Machine.execArpRequest v6 addr s
  | .icmpEcho v6 whole addr payload => Sys2Proof.Machine.execIcmpEcho v6 whole addr payload s
  | .hello peer b => Sys2Proof.Machine.execHello peer b s
  | .prove peer b => Sys2Proof.Machine.execProve peer b s
  | .setupExpiry => Sys2Proof.Machine.execSetupExpiry s
  | .request peer b => Sys2Proof.Machine.execRequest peer b s
  | .close peer b => Sys2Proof.Machine.execClose peer b s
  | .sessionTimeout => Sys2Proof.Machine.execSessionTimeout s
  | .postedWriteApply b => Sys2Proof.Machine.execPostedWriteApply b s
  | .hapCmdNetcommit => Sys2Proof.Machine.execHapCmdNetcommit s
  | .hapNetchg => Sys2Proof.Machine.execHapNetchg s
  | .hapCmdClose => Sys2Proof.Machine.execHapCmdClose s
  | .hapCmdCloseall => Sys2Proof.Machine.execHapCmdCloseall s
  | .postedModeChange => Sys2Proof.Machine.execPostedModeChange s
  | .phuFeedLost feed v rail => Sys2Proof.Machine.execPhuFeedLost feed v rail s
  | .phuFeedRestored feed v => Sys2Proof.Machine.execPhuFeedRestored feed v s
  | .phuWarn rail => Sys2Proof.Machine.execPhuWarn rail s
  | .phuWarnEnd rail => Sys2Proof.Machine.execPhuWarnEnd rail s
  | .holdEntry rail => Sys2Proof.Machine.execHoldEntry rail s
  | .criticalSaveComplete us => Sys2Proof.Machine.execCriticalSaveComplete us s
  | .keepEntry rail => Sys2Proof.Machine.execKeepEntry rail s
  | .sagRestart rail => Sys2Proof.Machine.execSagRestart rail s
  | .periodicSave => Sys2Proof.Machine.execPeriodicSave s
  | .periodicSaveDone ok => Sys2Proof.Machine.execPeriodicSaveDone ok s
  | .holdtestAuto => Sys2Proof.Machine.execHoldtestAuto s
  | .phuThresholdWrite k v => Sys2Proof.Machine.execPhuThresholdWrite k v s
  | .glbCmdQuiet => Sys2Proof.Machine.execGlbCmdQuiet s
  | .glbCmdWake => Sys2Proof.Machine.execGlbCmdWake s
  | .glbStatechg => Sys2Proof.Machine.execGlbStatechg s
  | .glbCmdPersist => Sys2Proof.Machine.execGlbCmdPersist s
  | .glbPersist ok => Sys2Proof.Machine.execGlbPersist ok s
  | .glbCmdPclr confirm => Sys2Proof.Machine.execGlbCmdPclr confirm s
  | .glbCmdRestart confirm => Sys2Proof.Machine.execGlbCmdRestart confirm s
  | .watchdogExpiry => Sys2Proof.Machine.execWatchdogExpiry s
  | .presentOpen => Sys2Proof.Machine.execPresentOpen s
  | .insertionDetect => Sys2Proof.Machine.execInsertionDetect s
  | .glbRestart x => Sys2Proof.Machine.execGlbRestart x s
  | .registerWrite auth a v => Sys2Proof.Machine.execRegisterWrite auth a v s
  | .illegalInstruction n w => Sys2Proof.Machine.execIllegalInstruction n w s
  | .seamLinkLock n => Sys2Proof.Machine.execSeamLinkLock n s
  | .ethLinkChange port up gbe => Sys2Proof.Machine.execEthLinkChange port up gbe s
  | .fenceInDeassert => Sys2Proof.Machine.execFenceInDeassert s
  | .xlkLaneLock lane => Sys2Proof.Machine.execXlkLaneLock lane s
  | .firmwareBankVerified flashOk => Sys2Proof.Machine.execFirmwareBankVerified flashOk s
  | .mtrSample t raw alt => Sys2Proof.Machine.execMtrSample t raw alt s
  | .tbuCtlWrite v => Sys2Proof.Machine.execTbuCtlWrite v s

end Sys2Proof.Machine
end

