-- ==== Sys2Proof/Machine/Step.lean ====
section
/-!
DEFINITION. Machine/Step.lean: one step of the module: the command at the front of the queue, or, with no command waiting, one cycle
of the module's own clocks (assumption log 10).
-/

namespace Sys2Proof.Machine

/-- With no command waiting the copies of the RWV fields are voted (R15), the time base advances by one TIME cycle (R250, R277) and a
decision to fence may come due (R502); then a
datagram that could not be executed when it arrived is (R443), or the pattern engine issues the next instruction of the bobbin in service,
or chooses a bobbin (R67, R68).  In HOLD, in KEEP and in a
restart nothing runs (R472, R486). -/
def idle (s : State) : Host.Outcome State Fault Refusal :=
  if s.inRunQuiet then
    let t := s.voteAll.timeCycle.rtcSettle.fenceSettle
    if s.hostReady then .next t.serveHost
    else if t.atBoundary then .next t.groupBoundary
    else exec (decodeBobbin (BitVec.ofNat 5 (s.pen.cur.getD 0)) (t.rd (t.fetchAddr (s.pen.cur.getD 0)))) t
  else .next s

/-- One step. -/
def step (s : State) : Host.Outcome State Fault Refusal :=
  match s.pending with
  | c :: rest => exec c { s with pending := rest }
  | [] => idle s

/-- The state with the command that the table's bits spell put at the front of its queue. -/
def State.withFetchWord (s : State) (nbits w : Nat) : State :=
  match decodeTableWord nbits w with
  | some c => { s with pending := c :: s.pending }
  | none => s

end Sys2Proof.Machine
end

