-- ==== Sys2Proof/Safety.lean ====
section
/-!
DEFINITION. Safety.lean: the terms that claims about the module are stated in: that a command completes and what its next state
holds, the canonical word store, and what an instruction of a bobbin leaves alone.
-/

namespace Sys2Proof.Machine

/-! ## Completion -/

/-- The command `c` completes in state `s`: it answers a next state, and `P` holds of it. -/
def Gives (c : Instr) (s : State) (P : State → Prop) : Prop := ∃ t, exec c s = .next t ∧ P t

/-! ## The word store -/

/-- The word store is in its canonical form: addresses strictly rising, no word listed that equals its reset value. -/
def State.memOk (s : State) : Bool := spWf resetWord s.mem

/-! ## Records -/

/-- The words that raising an event may write: the EVQ and JNL registers and the journal's ring (R399, R521). -/
def recordAddr (a : Nat) : Bool :=
  (decide (0xA0000 ≤ a) && decide (a < 0xA2000)) || (decide (jnlBase ≤ a) && decide (a < jnlBase + 0x800000))

/-- R387, R399: where the module journals its records (SOLO or ACTIVE), the next record of the journal of `s` is, in `t`, the record
of event `code` of `unit` with the payload words `pay` from w5 on. -/
def Journalled (s t : State) (code unit : Nat) (pay : List Nat) : Prop :=
  s.acts = true →
    let a := jnlAddr (s.get F.JNL_WPTR_NUM)
    getBits (t.rd a) 16 12 = code % 4096 ∧ getBits (t.rd a) 0 12 = unit % 4096 ∧
      ∀ k v, k < 3 → pay[k]? = some v → t.rd (a + 20 + 4 * k) = BitVec.ofNat 32 v

/-- Only words of the event queue and the journal differ. -/
def OnlyRecordWords (s t : State) : Prop := ∀ a, recordAddr a = false → t.rd a = s.rd a

/-- Every word of the store but those at the addresses `l` is as before. -/
def OnlyTouches (s t : State) (l : List Nat) : Prop := ∀ a, a ∉ l → t.rd a = s.rd a

/-! ## Host writes -/

/-- R415, R472: the module takes a host write of `v` at address `a`: it is in RUN or QUIET and its role lets the write pass. -/
def HostMay (s : State) (a v : Nat) : Prop := s.inRunQuiet = true ∧ s.roleRefuses a v = false

/-! ## Bobbin instructions -/

/-- R62, R67, R78, R93: bobbin `n` may issue an instruction, and the word at its PC has good parity. -/
def Ready (s : State) (n : BitVec 5) : Prop := s.canIssue n.toNat = true ∧ s.parBad (s.fetchAddr n.toNat) = false

/-- The flags Z, N, C, V of a bobbin (R61). -/
def Bobbin.flags (b : Bobbin) : Bool × Bool × Bool × Bool := (b.fz, b.fn, b.fc, b.fv)

/-- Two bobbins differ at most in what an instruction that goes on may change: registers, flags, PC, the account of the tick and the
copies the host reads at a group's end. -/
def Bobbin.SameElse (b b' : Bobbin) : Prop :=
  b' = { b with g := b'.g, v := b'.v, fz := b'.fz, fn := b'.fn, fc := b'.fc, fv := b'.fv, pc := b'.pc, left := b'.left,
                used := b'.used, st := b'.st, gShow := b'.gShow, vShow := b'.vShow }

/-- R70, R106: one instruction is taken off the budget and counted, its cycles are counted, and the other bobbins stay. -/
structure Counted (s : State) (n : BitVec 5) (cost : Nat) (t : State) : Prop where
  left : (t.bob n.toNat).left = (s.bob n.toNat).left - 1
  used : (t.bob n.toNat).used = (s.bob n.toNat).used + 1
  cyc : t.pen.cyc = s.pen.cyc + cost

/-- Everything but the bobbins and the pattern engine's account of the group is as in `s`, word store included. -/
def OnlyBobbins (s t : State) : Prop :=
  t = { s with bobs := t.bobs, pen := { s.pen with cyc := t.pen.cyc, cur := t.pen.cur, grpLeft := t.pen.grpLeft } }

/-- The words of the store that an instruction of bobbin `n` which stores nothing may change: PEN_BOVR[n] and the words of a record,
where its budget ends (R70) or it raises an event. -/
def OtherWords (s : State) (n : BitVec 5) (t : State) : Prop :=
  ∀ a, a ≠ Reg.PEN_BOVR n.toNat → recordAddr a = false → t.rd a = s.rd a

/-- An instruction of bobbin `n` that goes on: the account, the bobbin's state (PREEMPTED when its budget is used, R70), and the
frame: no other bobbin changes, nothing else of this bobbin, no word of the store but the count and the record of a budget used up
and, while the budget lasts, nothing else at all. -/
structure GoesOn (s : State) (n : BitVec 5) (cost : Nat) (t : State) : Prop where
  counted : Counted s n cost t
  st : (t.bob n.toNat).st = if (s.bob n.toNat).left = 1 then .preempted else .runnable
  same : (s.bob n.toNat).SameElse (t.bob n.toNat)
  others : ∀ m, m ≠ n.toNat → t.bob m = s.bob m
  rest : OtherWords s n t
  frame : 1 < (s.bob n.toNat).left → OnlyBobbins s t

/-- R61, R102, R103, R106: a scalar instruction of `cost` cycles with result `w` in Gd and flags `fl`: G0 takes no value, every
other G and V register is unchanged, and the PC moves to the next instruction. -/
structure Scalar (s : State) (n : BitVec 5) (cost : Nat) (d : BitVec 4) (w : Word) (fl : Bool × Bool × Bool × Bool) (t : State) :
    Prop where
  on : GoesOn s n cost t
  pc : (t.bob n.toNat).pc = (s.bob n.toNat).pc + 1
  g : ∀ r, (t.bob n.toNat).rg r = if r = d ∧ r ≠ 0 then w else (s.bob n.toNat).rg r
  v : ∀ r, (t.bob n.toNat).rv r = (s.bob n.toNat).rv r
  flags : (t.bob n.toNat).flags = fl

/-- Lane `i` of a V register, as a number (R101). -/
def Bobbin.laneOf (b : Bobbin) (r : BitVec 3) (i : Fin 8) : Nat := ((b.rv r)[i]).toNat

/-- A vector instruction of `cost` cycles whose result has the lanes `x`: every other V register and every G register is
unchanged. -/
structure VecOp (s : State) (n : BitVec 5) (cost : Nat) (d : BitVec 3) (x : Fin 8 → Nat) (fl : Bool × Bool × Bool × Bool) (t : State) :
    Prop where
  on : GoesOn s n cost t
  pc : (t.bob n.toNat).pc = (s.bob n.toNat).pc + 1
  lanes : ∀ i, (t.bob n.toNat).laneOf d i = x i
  v : ∀ r, r ≠ d → (t.bob n.toNat).rv r = (s.bob n.toNat).rv r
  g : ∀ r, (t.bob n.toNat).rg r = (s.bob n.toNat).rg r
  flags : (t.bob n.toNat).flags = fl

/-- R105: an instruction of one cycle that moves the PC of bobbin `n` to `pc`, writes `w` to Gd (none where d is 0) and changes no
flag and no V register. -/
structure Jumps (s : State) (n : BitVec 5) (pc : BitVec 16) (d : BitVec 4) (w : Word) (t : State) : Prop where
  on : GoesOn s n 1 t
  pc : (t.bob n.toNat).pc = pc
  g : ∀ r, (t.bob n.toNat).rg r = if r = d ∧ r ≠ 0 then w else (s.bob n.toNat).rg r
  v : ∀ r, (t.bob n.toNat).rv r = (s.bob n.toNat).rv r
  flags : (t.bob n.toNat).flags = (s.bob n.toNat).flags

/-- Registers and flags of bobbin `n` are as before. -/
def SameRegs (s : State) (n : BitVec 5) (t : State) : Prop :=
  (∀ r, (t.bob n.toNat).rg r = (s.bob n.toNat).rg r) ∧ (∀ r, (t.bob n.toNat).rv r = (s.bob n.toNat).rv r) ∧
    (t.bob n.toNat).flags = (s.bob n.toNat).flags

/-- R72, R106: an instruction of one cycle with which bobbin `n` yields or halts in state `st`: it retires, the PC is at the next
instruction, and nothing changes but this bobbin and the engine's account. -/
structure Yields (s : State) (n : BitVec 5) (st : BState) (t : State) : Prop where
  counted : Counted s n 1 t
  st : (t.bob n.toNat).st = st
  pc : (t.bob n.toNat).pc = (s.bob n.toNat).pc + 1
  regs : SameRegs s n t
  others : ∀ m, m ≠ n.toNat → t.bob m = s.bob m
  frame : OnlyBobbins s t

/-- R81, R99, R106: bobbin `n` stops with fault `code` at the instruction word `w`: FAULTED, FCODE and FPC, nothing retired, no
register or flag changed, no other bobbin changed, and event PEN_FAULT recorded with its payload. -/
structure Faulted (s : State) (n : BitVec 5) (code : Nat) (w : Word) (t : State) : Prop where
  st : (t.bob n.toNat).st = .faulted
  fcode : (t.bob n.toNat).fcode = code
  fpc : (t.bob n.toNat).fpc = (s.bob n.toNat).pc
  pc : (t.bob n.toNat).pc = (s.bob n.toNat).pc
  left : (t.bob n.toNat).left = (s.bob n.toNat).left
  used : (t.bob n.toNat).used = (s.bob n.toNat).used
  cyc : t.pen.cyc = s.pen.cyc
  regs : SameRegs s n t
  others : ∀ m, m ≠ n.toNat → t.bob m = s.bob m
  words : OnlyRecordWords s t
  event : Journalled s t 0x101 n.toNat [n.toNat + code * 256, (s.bob n.toNat).pc.toNat, w.toNat]

/-- R104, R106, R111: an instruction of bobbin `n` that stores `ws` at data memory address `a` (a byte address of the store): the
account, registers and flags kept, no other bobbin changed, and, while the budget lasts, exactly those words written, their parity
rewritten (R80), and nothing else of the module changed. -/
structure Stores (s : State) (n : BitVec 5) (cost a : Nat) (ws : List Word) (t : State) : Prop where
  counted : Counted s n cost t
  st : (t.bob n.toNat).st = if (s.bob n.toNat).left = 1 then .preempted else .runnable
  pc : (t.bob n.toNat).pc = (s.bob n.toNat).pc + 1
  regs : SameRegs s n t
  others : ∀ m, m ≠ n.toNat → t.bob m = s.bob m
  words : ∀ x, 1 < (s.bob n.toNat).left ∨ (x ≠ Reg.PEN_BOVR n.toNat ∧ recordAddr x = false) → t.rd x = if a ≤ x ∧ x < a + 4 * ws.length ∧ (x - a) % 4 = 0 then ws.getD ((x - a) / 4) 0 else s.rd x
  parity : ∀ x, t.parBad x = (s.parBad x && !(decide (a ≤ x ∧ x < a + 4 * ws.length ∧ (x - a) % 4 = 0)))
  frame : 1 < (s.bob n.toNat).left →
    t = { s with mem := t.mem, badPar := t.badPar, bobs := t.bobs,
                 pen := { s.pen with cyc := t.pen.cyc, cur := t.pen.cur, grpLeft := t.pen.grpLeft } }

end Sys2Proof.Machine
end

