-- ==== Sys2Proof/WellFormed.lean ====
section
/-!
DEFINITION. WellFormed.lean: the field values that R99 lets a bobbin instruction have.  Every other command is well formed.
-/

namespace Sys2Proof

/-- R99: no field of the instruction holds a value its entry marks illegal. -/
def Instr.legal : Instr → Bool
  | .br _ c _ => decide (c.toNat ≤ 8)
  | .loop _ d _ => decide (d ≠ 0)
  | .time _ _ c => decide (c.toNat ≤ 4)
  | .civil _ _ c => decide (c.toNat ≤ 8)
  | .sense _ d _ _ => decide (d ≠ 15)
  | .meter _ _ _ c => decide (c.toNat ≤ 10)
  | .waits _ m => decide (m ≠ 0)
  | .csr _ _ c => decide (c.toNat ≤ 9)
  | .illegalInstruction n w => decide (decodeBobbin n w = .illegalInstruction n w)
  | _ => true

/-- The bobbin of a bobbin instruction. -/
def Instr.bobbin? : Instr → Option (BitVec 5)
  | .nop n | .add n _ _ _ | .sub n _ _ _ | .mul n _ _ _ | .and n _ _ _ | .or n _ _ _ | .xor n _ _ _ | .shl n _ _ _
  | .shr n _ _ _ | .sar n _ _ _ | .addi n _ _ _ | .ldi n _ _ | .ldh n _ _ _ | .cmp n _ _ | .cmpi n _ _ | .min n _ _ _
  | .minu n _ _ _ | .max n _ _ _ | .maxu n _ _ _ | .mulq n _ _ _ | .ld n _ _ _ | .st n _ _ _ | .ldv n _ _ _
  | .stv n _ _ _ | .br n _ _ | .jmp n _ | .call n _ | .ret n _ | .loop n _ _ | .vadd n _ _ _ | .vsub n _ _ _
  | .vscl n _ _ _ | .vmix n _ _ _ _ | .vdot n _ _ _ | .vsum n _ _ | .vext n _ _ _ | .vins n _ _ _ _ | .curve n _ _ _
  | .time n _ _ | .civil n _ _ | .waitt n _ _ | .waitk n _ _ | .zset n _ _ | .zget n _ _ | .zgain n _ _ | .zmode n _ _
  | .sense n _ _ _ | .meter n _ _ _ | .emit n _ _ _ _ | .sig n _ _ | .waits n _ | .csr n _ _ | .halt n
  | .illegalInstruction n _ => some n
  | _ => none

/-- A well-formed command: a bobbin instruction with legal fields, or any other command. -/
def Instr.wf (i : Instr) : Bool := i.legal

end Sys2Proof
end

