-- ==== Sys2Proof/Certificates/Slice0/Obligations.lean ====
section
/-!
DEFINITION. Certificates/Slice0/Obligations.lean: the statements about the module, chapter by chapter of the spec.
-/

open Sys2Proof Sys2Proof.Machine

/-! ## Bobbin instructions (chapter 4) -/

/-- R109: ADD, SUB, MUL and MULQ complete with the result and the flags Z, N, C and V of the table; MUL and MULQ keep C. -/
def Obligations.BobbinArithmeticResults : Prop :=
  ∀ (s : State) (n : BitVec 5) (d a b : BitVec 4), Ready s n →
    let x := (s.bob n.toNat).rg a
    let y := (s.bob n.toNat).rg b
    let p : Int := x.toInt * y.toInt
    let q : Int := (p + 0x8000) / 65536
    let m : Word := BitVec.ofInt 32 (max (-0x80000000) (min q 0x7FFFFFFF))
    Gives (.add n d a b) s (Scalar s n 1 d (x + y)
      (decide (x + y = 0), (x + y).msb, decide (2 ^ 32 ≤ x.toNat + y.toNat), decide ((x + y).toInt ≠ x.toInt + y.toInt))) ∧
    Gives (.sub n d a b) s (Scalar s n 1 d (x - y)
      (decide (x = y), (x - y).msb, decide (y.toNat ≤ x.toNat), decide ((x - y).toInt ≠ x.toInt - y.toInt))) ∧
    Gives (.mul n d a b) s (Scalar s n 2 d (x * y)
      (decide (x * y = 0), (x * y).msb, (s.bob n.toNat).fc, decide ((x * y).toInt ≠ p))) ∧
    Gives (.mulq n d a b) s (Scalar s n 2 d m (decide (m = 0), m.msb, (s.bob n.toNat).fc, decide (m.toInt ≠ q)))

/-- R109: AND, OR, XOR complete with the bitwise result and flags Z and N; C and V keep their values.
R109: MIN, MAX (signed) and MINU, MAXU (unsigned) complete with the lesser or greater operand and flags Z and N. -/
def Obligations.BobbinLogicAndMinMaxResults : Prop :=
  (∀ (s : State) (n : BitVec 5) (d a b : BitVec 4), Ready s n →
    let v := s.bob n.toNat
    let fl (r : Word) := (decide (r = 0), r.msb, v.fc, v.fv)
    (∃ r : Word, (∀ i, r.getLsbD i = ((v.rg a).getLsbD i && (v.rg b).getLsbD i)) ∧
      Gives (.and n d a b) s (Scalar s n 1 d r (fl r))) ∧
    (∃ r : Word, (∀ i, r.getLsbD i = ((v.rg a).getLsbD i || (v.rg b).getLsbD i)) ∧
      Gives (.or n d a b) s (Scalar s n 1 d r (fl r))) ∧
    (∃ r : Word, (∀ i, r.getLsbD i = ((v.rg a).getLsbD i ^^ (v.rg b).getLsbD i)) ∧
      Gives (.xor n d a b) s (Scalar s n 1 d r (fl r)))) ∧
  (∀ (s : State) (n : BitVec 5) (d a b : BitVec 4), Ready s n →
    let v := s.bob n.toNat
    let x := v.rg a
    let y := v.rg b
    let fl (r : Word) := (decide (r = 0), r.msb, v.fc, v.fv)
    (∃ r : Word, r.toInt = min x.toInt y.toInt ∧ Gives (.min n d a b) s (Scalar s n 1 d r (fl r))) ∧
    (∃ r : Word, r.toNat = min x.toNat y.toNat ∧ Gives (.minu n d a b) s (Scalar s n 1 d r (fl r))) ∧
    (∃ r : Word, r.toInt = max x.toInt y.toInt ∧ Gives (.max n d a b) s (Scalar s n 1 d r (fl r))) ∧
    (∃ r : Word, r.toNat = max x.toNat y.toNat ∧ Gives (.maxu n d a b) s (Scalar s n 1 d r (fl r))))

/-- R110: SHL, SHR and SAR shift by Gb[4:0] or by the immediate; C takes the last bit shifted out and is unchanged for a shift
by 0; V is unchanged.  The fn field of a SHF word selects the operation and the amount as the rule lays it out, and a word with
fn[1:0] = 0b11, with fn[7:3] beside a register amount or with b beside an immediate amount is illegal. -/
def Obligations.BobbinShiftResults : Prop :=
  ∀ (s : State) (n : BitVec 5) (d a : BitVec 4) (k : ShAmt), Ready s n →
    let v := s.bob n.toNat
    let x := v.rg a
    let m := match k with | .reg r => (v.rg r).toNat % 32 | .imm i => i.toNat
    let c (i : Nat) := if m = 0 then v.fc else x.getLsbD i
    (∃ r : Word, r.toNat = x.toNat * 2 ^ m % 2 ^ 32 ∧
      Gives (.shl n d a k) s (Scalar s n 1 d r (decide (r = 0), r.msb, c (32 - m), v.fv))) ∧
    (∃ r : Word, r.toNat = x.toNat / 2 ^ m ∧
      Gives (.shr n d a k) s (Scalar s n 1 d r (decide (r = 0), r.msb, c (m - 1), v.fv))) ∧
    (∃ r : Word, r.toInt = x.toInt / 2 ^ m ∧
      Gives (.sar n d a k) s (Scalar s n 1 d r (decide (r = 0), r.msb, c (m - 1), v.fv))) ∧
    (∀ (b : BitVec 4) (fn : BitVec 8),
      let f := fn.toNat
      let w : Word := BitVec.ofNat 32 (0x07 * 2 ^ 26 + d.toNat * 2 ^ 22 + a.toNat * 2 ^ 18 + b.toNat * 2 ^ 14 + f)
      let ill := f % 4 = 3 ∨ (f / 4 % 2 = 0 ∧ f / 8 ≠ 0) ∨ (f / 4 % 2 = 1 ∧ b ≠ 0)
      let amt : ShAmt := if f / 4 % 2 = 0 then .reg b else .imm (BitVec.ofNat 5 (f / 8))
      (ill → decodeBobbin n w = .illegalInstruction n w ∧ Gives (.illegalInstruction n w) s (Faulted s n 1 w)) ∧
      (¬ ill → f % 4 = 0 → decodeBobbin n w = .shl n d a amt) ∧ (¬ ill → f % 4 = 1 → decodeBobbin n w = .shr n d a amt) ∧
      (¬ ill → f % 4 = 2 → decodeBobbin n w = .sar n d a amt))

/-- R109: NOP, ADDI, LDI, LDH, CMP and CMPI complete with the results and flags of the table. -/
def Obligations.BobbinImmediateAndCompareResults : Prop :=
  ∀ (s : State) (n : BitVec 5) (d a b : BitVec 4) (i : BitVec 18), Ready s n →
    let v := s.bob n.toNat
    let x := v.rg a
    let y := v.rg b
    let e : Word := BitVec.ofInt 32 i.toInt
    Gives (.nop n) s (Scalar s n 1 0 0 v.flags) ∧
    Gives (.addi n d a i) s (Scalar s n 1 d (x + e)
      (decide (x + e = 0), (x + e).msb, decide (2 ^ 32 ≤ x.toNat + e.toNat), decide ((x + e).toInt ≠ x.toInt + e.toInt))) ∧
    Gives (.ldi n d i) s (Scalar s n 1 d e v.flags) ∧
    Gives (.ldh n d a i) s (Scalar s n 1 d (BitVec.ofNat 32 (i.toNat * 2 ^ 14 + x.toNat % 2 ^ 14)) v.flags) ∧
    Gives (.cmp n a b) s (Scalar s n 1 0 0
      (decide (x = y), (x - y).msb, decide (y.toNat ≤ x.toNat), decide ((x - y).toInt ≠ x.toInt - y.toInt))) ∧
    Gives (.cmpi n a i) s (Scalar s n 1 0 0
      (decide (x = e), (x - e).msb, decide (e.toNat ≤ x.toNat), decide ((x - e).toInt ≠ x.toInt - e.toInt)))

/-- R104, R111, R112: LD, ST, LDV and STV reach data memory at the effective address inside the bobbin's window; LD and LDV read it, ST and
STV store there and nowhere else; an access that ends beyond the window faults with code 0x2 and stores nothing, a read of bad
parity faults with code 0x4. -/
def Obligations.BobbinMemoryInstructions : Prop :=
  ∀ (s : State) (n : BitVec 5) (d : BitVec 4) (v : BitVec 3) (a : BitVec 4) (off : BitVec 18), Ready s n →
    let b := s.bob n.toNat
    let ea (w : Nat) := ((b.rg a).toNat + (BitVec.ofInt 32 off.toInt).toNat) % 2 ^ 32 / w * w
    let p (w : Nat) := dataBase + (b.winBase * 256 + ea w)
    let fits (w : Nat) := ea w + w ≤ b.winSize * 256
    let good (w : Nat) := ∀ k, k < w / 4 → s.parBad (p w + 4 * k) = false
    let lanes (k : Nat) (h : k < 4) : Word :=
      BitVec.ofNat 32 (b.laneOf v ⟨2 * k, by omega⟩ + b.laneOf v ⟨2 * k + 1, by omega⟩ * 65536)
    (fits 4 → good 4 → Gives (.ld n d a off) s (Scalar s n 2 d (s.rd (p 4)) b.flags)) ∧
    (fits 16 → good 16 → Gives (.ldv n v a off) s
      (VecOp s n 6 v (fun i => getBits (s.rd (p 16 + 4 * (i.val / 2))) (16 * (i.val % 2)) 16) b.flags)) ∧
    (fits 4 → Gives (.st n d a off) s (Stores s n 2 (p 4) [b.rg d])) ∧
    (fits 16 → Gives (.stv n v a off) s (Stores s n 6 (p 16)
      [lanes 0 (by omega), lanes 1 (by omega), lanes 2 (by omega), lanes 3 (by omega)])) ∧
    (¬ fits 4 → Gives (.ld n d a off) s (Faulted s n 2 (bobbinWord (.ld n d a off))) ∧
      Gives (.st n d a off) s (Faulted s n 2 (bobbinWord (.st n d a off)))) ∧
    (¬ fits 16 → Gives (.ldv n v a off) s (Faulted s n 2 (bobbinWord (.ldv n v a off))) ∧
      Gives (.stv n v a off) s (Faulted s n 2 (bobbinWord (.stv n v a off)))) ∧
    (fits 4 → ¬ good 4 → Gives (.ld n d a off) s (Faulted s n 4 (bobbinWord (.ld n d a off)))) ∧
    (fits 16 → ¬ good 16 → Gives (.ldv n v a off) s (Faulted s n 4 (bobbinWord (.ldv n v a off))))

/-- R100, R105, R113: BR, JMP, CALL, RET and LOOP complete with the PC of the table, modulo 65,536, in the instruction's own one cycle,
taken or not; CALL writes G15, LOOP its counter; cond is BR's field [25:22], and its codes 0x9 to 0xF are illegal. -/
def Obligations.BobbinControlFlow : Prop :=
  ∀ (s : State) (n : BitVec 5) (c d a : BitVec 4) (o : BitVec 22) (i : BitVec 18) (t : BitVec 16), Ready s n →
    let b := s.bob n.toNat
    let held := [b.fz, !b.fz, b.fn != b.fv, b.fn == b.fv, !b.fc, b.fc, b.fn, !b.fn, true]
    let at_ (off : Int) : BitVec 16 := BitVec.ofInt 16 (b.pc.toNat + off)
    (∀ h : c.toNat < 9, Gives (.br n c o) s (Jumps s n (if held[c.toNat]'h then at_ o.toInt else b.pc + 1) 0 0)) ∧
    (9 ≤ c.toNat → Gives (.br n c o) s (Faulted s n 1 (bobbinWord (.br n c o)))) ∧
    bobbinWord (.br n c o) = BitVec.ofNat 32 (0x14 * 2 ^ 26 + c.toNat * 2 ^ 22 + o.toNat) ∧
    Gives (.jmp n t) s (Jumps s n t 0 0) ∧
    Gives (.call n t) s (Jumps s n t 15 (BitVec.ofNat 32 ((b.pc.toNat + 1) % 65536))) ∧
    Gives (.ret n a) s (Jumps s n (BitVec.ofNat 16 (b.rg a).toNat) 0 0) ∧
    (d ≠ 0 → Gives (.loop n d i) s (Jumps s n (if b.rg d = 1 then b.pc + 1 else at_ i.toInt) d (b.rg d - 1)))

/-- R114: VADD, VSUB, VSCL, VMIX and VINS (R115) complete with the lanes, Z and V of the table; VMIX keeps V.
R114, R115: VDOT, VSUM and VEXT complete with the unsigned result in Gg and its Z; N, C and V keep their values. -/
def Obligations.BobbinVectorResults : Prop :=
  (∀ (s : State) (n : BitVec 5) (d va vb : BitVec 3) (g : BitVec 4) (l : BitVec 3), Ready s n →
    let b := s.bob n.toNat
    let x (i : Fin 8) : Int := b.laneOf va i
    let y (i : Fin 8) : Int := b.laneOf vb i
    let q : Int := (b.rg g).toInt
    let f : Int := min (max q 0) 0x10000
    let sat (z : Int) : Nat := (min (max z 0) 0xFFFF).toNat
    let scl (i : Fin 8) : Int := (x i * q + 0x8000) / 65536
    let mix (i : Fin 8) : Int := x i + ((y i - x i) * f + 0x8000) / 65536
    let ins (i : Fin 8) : Int := if i.val = l.toNat then q else x i
    let fl (z : Fin 8 → Int) := (decide (∀ i, sat (z i) = 0), b.fn, b.fc, decide (∃ i, z i < 0 ∨ 0xFFFF < z i))
    Gives (.vadd n d va vb) s (VecOp s n 1 d (fun i => sat (x i + y i)) (fl fun i => x i + y i)) ∧
    Gives (.vsub n d va vb) s (VecOp s n 1 d (fun i => sat (x i - y i)) (fl fun i => x i - y i)) ∧
    Gives (.vscl n d va g) s (VecOp s n 1 d (fun i => sat (scl i)) (fl scl)) ∧
    Gives (.vmix n d va vb g) s (VecOp s n 1 d (fun i => (mix i).toNat) (decide (∀ i, mix i = 0), b.fn, b.fc, b.fv)) ∧
    Gives (.vins n d va g l) s (VecOp s n 1 d (fun i => sat (ins i)) (fl ins))) ∧
  (∀ (s : State) (n : BitVec 5) (va vb : BitVec 3) (g : BitVec 4) (l : BitVec 3), Ready s n →
    let b := s.bob n.toNat
    let sum (f : Fin 8 → Nat) := f 0 + f 1 + f 2 + f 3 + f 4 + f 5 + f 6 + f 7
    let r (k : Nat) : Word := BitVec.ofNat 32 k
    let fl (k : Nat) := (decide (r k = 0), b.fn, b.fc, b.fv)
    let dot := (sum (fun i => b.laneOf va i * b.laneOf vb i) + 8) / 16
    let tot := sum (b.laneOf va)
    let ext := b.laneOf va ⟨l.toNat, l.isLt⟩
    Gives (.vdot n g va vb) s (Scalar s n 3 g (r dot) (fl dot)) ∧
    Gives (.vsum n g va) s (Scalar s n 1 g (r tot) (fl tot)) ∧
    Gives (.vext n g va l) s (Scalar s n 1 g (r ext) (fl ext)))

/-- R76, R116: CURVE on a curve whose last point is point k: the end values with C where x lies beyond an end, and between two
points the value interpolated to nearest with ties toward the left point, C = 0; Z follows the result. -/
def Obligations.BobbinCurveInterpolates : Prop :=
  ∀ (s : State) (n : BitVec 5) (d a : BitVec 4) (c : BitVec 8) (k : Nat), Ready s n →
    let b := s.bob n.toNat
    let w (i : Nat) := s.rd (curveAddr (s.get F.PEN_STAT_ACTIVE) c.toNat i)
    let X (i : Nat) := getBits (w i) 16 16
    let Y (i : Nat) := getBits (w i) 0 16
    let x := min (b.rg a).toNat 0xFFFF
    let out (y : Nat) (cf : Bool) := Gives (.curve n d a c) s (Scalar s n 4 d (BitVec.ofNat 32 y) (decide (y = 0), b.fn, cf, b.fv))
    k < 64 → (∀ i, i < k → X i < X (i + 1)) → (k = 63 ∨ X (k + 1) ≤ X k) →
    (∀ i, i ≤ k + 1 → i < 64 → s.parBad (curveAddr (s.get F.PEN_STAT_ACTIVE) c.toNat i) = false) →
    (x ≤ X 0 → out (Y 0) (decide (x ≠ X 0))) ∧
    (X 0 < x → X k ≤ x → out (Y k) (decide (x ≠ X k))) ∧
    (∀ i, i < k → X 0 < x → X i ≤ x → x < X (i + 1) →
      let num : Int := ((Y (i + 1) : Int) - Y i) * ((x : Int) - X i)
      let den : Nat := X (i + 1) - X i
      let step : Nat := (2 * num.natAbs + den - 1) / (2 * den)
      out (if num < 0 then Y i - step else Y i + step) false)

/-- R107, R117, R118: TIME and CIVIL give the values captured at the tick start; CIVIL sets Z, and C from RANGEEND or LEAPHOLD. -/
def Obligations.BobbinTimeAndCivilReadTheSnapshot : Prop :=
  ∀ (s : State) (n : BitVec 5) (d : BitVec 4) (c : BitVec 18), Ready s n →
    let b := s.bob n.toNat
    let p := s.pen.snap
    let sec := p.start / 1000000000
    let tv : List Word := [BitVec.ofNat 32 sec, BitVec.ofNat 32 (sec / 2 ^ 32 % 2 ^ 16), BitVec.ofNat 32 (p.start % 1000000000),
      BitVec.ofInt 32 (((sec : Int) - p.utcOff) % 86400), BitVec.ofNat 32 (p.start % 1000000000 / (p.tickUs * 1000))]
    let v := p.civil
    let cv : List Nat := [v.year, v.month, v.day, v.dow, v.hour, v.min, v.sec, v.doy, v.hour * 60 + v.min]
    (∀ h : c.toNat < 5, Gives (.time n d c) s (Scalar s n 1 d (tv[c.toNat]'h) b.flags)) ∧
    (∀ h : c.toNat < 9, let r : Word := BitVec.ofNat 32 (cv[c.toNat]'h)
      Gives (.civil n d c) s (Scalar s n 1 d r (decide (r = 0), b.fn, v.held, b.fv)))

/-- R72, R116, R124: WAITT yields only for a target after the tick start, WAITK yields with its count (at least 1), WAITS goes on
when a pending bit matches and else yields with its mask, HALT halts. -/
def Obligations.BobbinWaitsAndHalt : Prop :=
  ∀ (s : State) (n : BitVec 5) (a b : BitVec 4) (i : BitVec 18) (m : BitVec 16), Ready s n →
    let v := s.bob n.toNat
    let st := s.pen.snap.start
    let tgt := (st / 1000000000 / 2 ^ 32 % 2 ^ 16 * 2 ^ 32 + (v.rg a).toNat) * 1000000000 + min (v.rg b).toNat 999999999
    let k := ((v.rg a).toNat + i.toNat) % 2 ^ 32
    (st < tgt → Gives (.waitt n a b) s fun t => Yields s n .waitt t ∧ (t.bob n.toNat).waitT = tgt) ∧
    (tgt ≤ st → Gives (.waitt n a b) s (Scalar s n 1 0 0 v.flags)) ∧
    Gives (.waitk n a i) s (fun t => Yields s n .waitk t ∧ (t.bob n.toNat).waitK = max k 1) ∧
    (m ≠ 0 → v.pend &&& m = 0 → Gives (.waits n m) s fun t =>
      Yields s n .waits t ∧ (t.bob n.toNat).wmask = m ∧ (t.bob n.toNat).pend = v.pend) ∧
    (m ≠ 0 → v.pend &&& m ≠ 0 → Gives (.waits n m) s fun t =>
      Counted s n 1 t ∧ SameRegs s n t ∧ OtherWords s n t ∧ (t.bob n.toNat).pc = v.pc + 1 ∧ (t.bob n.toNat).pend = v.pend &&& ~~~m ∧
        (t.bob n.toNat).st = (if v.left = 1 then .preempted else .runnable) ∧ (∀ j, j ≠ n.toNat → t.bob j = s.bob j)) ∧
    Gives (.halt n) s (Yields s n .halted)

/-- R41, R43, R45, R107, R119: ZSET and ZMODE stage the target and the mode of a zone that the pattern owns, and nothing of zone 511
or of a zone that the host owns; ZGET and ZGAIN read the committed target and the latched gain; above 511 each faults with code
0x3. -/
def Obligations.BobbinZoneInstructions : Prop :=
  ∀ (s : State) (n : BitVec 5) (d va : BitVec 3) (g e : BitVec 4) (m : BitVec 1), Ready s n →
    let b := s.bob n.toNat
    let z := (b.rg g).toNat
    let inert := z = 511 ∨ s.get (F.ZON_CTL_OWNER z) = 1
    let same (t : State) := Counted s n 1 t ∧ SameRegs s n t ∧ OtherWords s n t ∧ (t.bob n.toNat).pc = b.pc + 1 ∧ ∀ j, j ≠ n.toNat → t.bob j = s.bob j
    let same2 (t : State) := Counted s n 2 t ∧ SameRegs s n t ∧ OtherWords s n t ∧ (t.bob n.toNat).pc = b.pc + 1 ∧ ∀ j, j ≠ n.toNat →
      t.bob j = s.bob j
    let band (i : Fin 8) := if z = 511 then 0 else s.get (if i.val % 2 = 0 then F.ZON_TGT_BLO z (i.val / 2) else F.ZON_TGT_BHI z (i.val / 2))
    let gain := if z = 511 then 0x4000 else spGet (fun _ => 0x4000) s.pen.snap.gain z
    (z ≤ 511 → inert → Gives (.zset n va g) s fun t => same2 t ∧ ∀ y, t.zstage y = s.zstage y) ∧
    (z ≤ 511 → ¬ inert → Gives (.zset n va g) s fun t => same2 t ∧ (∀ y, y ≠ z → t.zstage y = s.zstage y) ∧
      (t.zstage z).mode = (s.zstage z).mode ∧ ∀ i : Fin 8, ((t.zstage z).bands[i]).map BitVec.toNat = some (b.laneOf va i)) ∧
    (z ≤ 511 → inert → Gives (.zmode n g m) s fun t => same t ∧ ∀ y, t.zstage y = s.zstage y) ∧
    (z ≤ 511 → ¬ inert → Gives (.zmode n g m) s fun t => same t ∧ (∀ y, y ≠ z → t.zstage y = s.zstage y) ∧
      (t.zstage z).bands = (s.zstage z).bands ∧ (t.zstage z).mode = some (m == 1)) ∧
    (z ≤ 511 → Gives (.zget n d g) s (VecOp s n 1 d band (decide (∀ i, band i = 0), b.fn, b.fc, b.fv))) ∧
    (z ≤ 511 → Gives (.zgain n e g) s
      (Scalar s n 1 e (BitVec.ofNat 32 gain) (decide (BitVec.ofNat 32 gain = 0#32), b.fn, b.fc, b.fv))) ∧
    (511 < z → Gives (.zset n va g) s (Faulted s n 3 (bobbinWord (.zset n va g))) ∧
      Gives (.zmode n g m) s (Faulted s n 3 (bobbinWord (.zmode n g m))) ∧
      Gives (.zget n d g) s (Faulted s n 3 (bobbinWord (.zget n d g))) ∧
      Gives (.zgain n e g) s (Faulted s n 3 (bobbinWord (.zgain n e g))))

/-- R120, R123, R125: SENSE gives value and age of the snapshot (or 0, 0xFFFF_FFFF and Z), METER the snapshot's value of a circuit
(or 0 with Z and C), CSR the status value. -/
def Obligations.BobbinSenseMeterCsr : Prop :=
  ∀ (s : State) (n : BitVec 5) (d a : BitVec 4) (q : BitVec 8), Ready s n →
    let b := s.bob n.toNat
    let p := s.pen.snap
    let key := (b.rg a).toNat % 65536 * 256 + q.toNat
    let k := (b.rg a).toNat
    let val := if 7 < k then none else spGet (fun _ => none) p.meter (k * 16 + q.toNat)
    let two (v w : Word) (z : Bool) (t : State) := GoesOn s n 4 t ∧ (t.bob n.toNat).pc = b.pc + 1 ∧
      (∀ r, (t.bob n.toNat).rg r = if r = d + 1 then w else if r = d ∧ r ≠ 0 then v else b.rg r) ∧
      (∀ r, (t.bob n.toNat).rv r = b.rv r) ∧ (t.bob n.toNat).flags = (z, b.fn, b.fc, b.fv)
    let csr : List Nat := [n.toNat, b.left, b.budget, s.pen.ticks.toNat, b.prio, s.get F.PEN_AID_ID, b.pend.toNat, b.winSize * 256,
      p.tickUs, s.framePeriod / 1000]
    (d ≠ 15 → ∀ r, spGet (fun _ => none) p.sens key = some r →
      Gives (.sense n d a q) s (two r.value (BitVec.ofNat 32 (min ((p.start - r.stamp) / 1000000) 0xFFFFFFFE)) false)) ∧
    (d ≠ 15 → spGet (fun _ => none) p.sens key = none → Gives (.sense n d a q) s (two 0 0xFFFFFFFF true)) ∧
    (q.toNat ≤ 10 → ∀ r, val = some r → Gives (.meter n d a q) s (Scalar s n 1 d r (decide (r = 0), b.fn, false, b.fv))) ∧
    (q.toNat ≤ 10 → val = none → Gives (.meter n d a q) s (Scalar s n 1 d 0 (true, b.fn, true, b.fv))) ∧
    (∀ h : q.toNat < 10, Gives (.csr n d q) s (Scalar s n 1 d (BitVec.ofNat 32 (csr[q.toNat]'h)) b.flags))

/-- R72, R124: EMIT raises event 0x180 + code with PC, bobbin number, Ga and Gb; SIG sets pending bits of the bobbin that Ga[4:0]
names, at once. -/
def Obligations.BobbinEmitAndSig : Prop :=
  ∀ (s : State) (n : BitVec 5) (pr : BitVec 2) (a b : BitVec 4) (c : BitVec 7) (m : BitVec 16), Ready s n →
    let v := s.bob n.toNat
    let k := (v.rg a).toNat % 32
    Gives (.emit n pr a b c) s (fun t => Counted s n 1 t ∧ SameRegs s n t ∧ OtherWords s n t ∧ (t.bob n.toNat).pc = v.pc + 1 ∧
      (∀ j, j ≠ n.toNat → t.bob j = s.bob j) ∧
      Journalled s t (0x180 + c.toNat) n.toNat [v.pc.toNat * 65536 + n.toNat, (v.rg a).toNat, (v.rg b).toNat]) ∧
    Gives (.sig n a m) s (fun t => Counted s n 1 t ∧ SameRegs s n t ∧ OtherWords s n t ∧ (t.bob n.toNat).pc = v.pc + 1 ∧
      (t.bob k).pend = (s.bob k).pend ||| m ∧ (∀ j, j ≠ k → (t.bob j).pend = (s.bob j).pend) ∧
      ∀ j, j ≠ n.toNat → (t.bob j).st = (s.bob j).st)

/-- R81, R99: a word with a reserved bit, an opcode from 0x30 or an illegal field value completes: its own effect is that its bobbin
stops with fault code 0x1, the word in the event.  A legal word is no such command and changes nothing (the model's choice,
assumption log 12). -/
def Obligations.BobbinIllegalFormsFault : Prop :=
  ∀ (s : State) (n : BitVec 5) (d a : BitVec 4) (o : BitVec 22) (i : BitVec 18) (q : BitVec 8) (w : Word), Ready s n →
    let stops (c : Instr) := Gives c s (Faulted s n 1 (bobbinWord c))
    (0x30 ≤ w.toNat / 2 ^ 26 ∨ decodeBobbin n w = .illegalInstruction n w → Gives (.illegalInstruction n w) s (Faulted s n 1 w)) ∧
    (decodeBobbin n w ≠ .illegalInstruction n w → Gives (.illegalInstruction n w) s fun t => t = s) ∧
    (8 < d.toNat → stops (.br n d o)) ∧ stops (.loop n 0 i) ∧ (4 < i.toNat → stops (.time n d i)) ∧
    (8 < i.toNat → stops (.civil n d i)) ∧ stops (.sense n 15 a q) ∧ (10 < q.toNat → stops (.meter n d a q)) ∧
    stops (.waits n 0) ∧ (9 < q.toNat → stops (.csr n d q))

/-! ## The pattern engine's and the zones' commands (chapters 2 and 3) -/

/-- R74, R80, R93, R97: the host writes of PEN_CTL, PEN_HSIG, PEN_BBUDGET, PEN_BWIN and of pattern data memory that a module takes
complete with STATUS and the words the rules name; a budget of 0 is ignored, a window of size 0 or beyond 128 KiB is not accepted,
an address that is no multiple of 4 answers ALIGN; a data memory write changes exactly its word and rewrites its parity.
R87, R131, R197, R352, R432: a staging pointer takes the address rounded down to a word unless it lies beyond its buffer; a staging data
port stores its word at the pointer, which then advances by 4, and is BUSY while its operation runs or once the pointer is at the
buffer's end. -/
def Obligations.PatternHostWritesAndStaging : Prop :=
  (∀ (s : State) (n : BitVec 5) (v : Word) (a : BitVec 17),
    (HostMay s Reg.PEN_CTL v.toNat → Gives (.penCtlWrite v) s fun t => t.get F.PEN_CTL_RUN = v.toNat % 2 ∧ t.status = 0 ∧
      (∀ x, x ≠ Reg.PEN_CTL → t.rd x = s.rd x) ∧ t.bobs = s.bobs) ∧
    (HostMay s Reg.PEN_HSIG v.toNat → Gives (.penHsigWrite v) s fun t => t.status = 0 ∧ t.mem = s.mem ∧
      (t.bob (v.toNat % 32)).hostPend = (s.bob (v.toNat % 32)).hostPend ||| BitVec.ofNat 16 (v.toNat / 65536) ∧
      (t.bob (v.toNat % 32)).pend = (s.bob (v.toNat % 32)).pend ∧ ∀ m, m ≠ v.toNat % 32 → t.bob m = s.bob m) ∧
    (HostMay s (Reg.PEN_BBUDGET n.toNat) v.toNat → Gives (.penBbudgetWrite n v) s fun t =>
      if v.toNat % 2 ^ 24 = 0 then t = { s with status := 0x01 }
      else t.status = 0 ∧ t.get (F.PEN_BBUDGET_BUDGET n.toNat) = v.toNat % 2 ^ 24 ∧ t.bobs = s.bobs) ∧
    (HostMay s (Reg.PEN_BWIN n.toNat) v.toNat → Gives (.penBwinWrite n v) s fun t =>
      let base := v.toNat % 1024
      let size := v.toNat / 65536 % 1024
      t.status = 0 ∧ t.bobs = s.bobs ∧
        if size = 0 ∨ 512 < base + size then t.mem = s.mem
        else t.get (F.PEN_BWIN_BASE n.toNat) = base ∧ t.get (F.PEN_BWIN_SIZE n.toNat) = size) ∧
    (HostMay s (dataBase + a.toNat) v.toNat → Gives (.penDataWrite a v) s fun t =>
      if a.toNat % 4 ≠ 0 then t = { s with status := 0x11 }
      else t.status = 0 ∧ t.rd (dataBase + a.toNat) = v ∧ t.parBad (dataBase + a.toNat) = false ∧
        (∀ x, x ≠ dataBase + a.toNat → t.rd x = s.rd x ∧ t.parBad x = s.parBad x)) ∧
    (s.inRunQuiet = true → a.toNat % 4 = 0 → Gives (.penDataRead a) s fun t => t.status = 0 ∧ t.rdata = [s.rd (dataBase + a.toNat)] ∧
      (s.parBad (dataBase + a.toNat) = true → t.get F.PEN_STAT_DPAR = 1 ∧ Journalled s t 0x109 0 [a.toNat]))) ∧
  (∀ (s : State) (v : Word),
    let ptr (c : Instr) (a : Nat) (f : Fld) (limit : Nat) := HostMay s a v.toNat → Gives c s fun t => t.status = 0 ∧
      (∀ x, x ≠ f.addr → t.rd x = s.rd x) ∧
      t.get f = if limit < v.toNat % 2 ^ f.width then s.get f else v.toNat % 2 ^ f.width / 4 * 4
    let dat (c : Instr) (a : Nat) (f : Fld) (base limit : Nat) (busy : Bool) := HostMay s a v.toNat → Gives c s fun t =>
      if busy = true ∨ limit ≤ s.get f then t = { s with status := 0x13 }
      else t.status = 0 ∧ t.rd (base + s.get f) = v ∧ t.get f = (s.get f + 4) % 2 ^ f.width ∧
        ∀ x, x ≠ base + s.get f → x ≠ f.addr → t.rd x = s.rd x
    ptr (.penImgptrWrite v) Reg.PEN_IMGPTR F.PEN_IMGPTR_PTR 524288 ∧
    dat (.penImgdatWrite v) Reg.PEN_IMGDAT F.PEN_IMGPTR_PTR penStage 524288 (s.lopRunning 0x02) ∧
    ptr (.smeCalptrWrite v) Reg.SME_CALPTR F.SME_CALPTR_PTR 32768 ∧
    dat (.smeCaldatWrite v) Reg.SME_CALDAT F.SME_CALPTR_PTR calStage 32768 (s.lopRunning 0x01) ∧
    ptr (.seaImgptrWrite v) Reg.SEA_IMGPTR F.SEA_IMGPTR_PTR 262144 ∧
    dat (.seaImgdatWrite v) Reg.SEA_IMGDAT F.SEA_IMGPTR_PTR seaStage 262144 (s.lopRunning 0x03) ∧
    ptr (.sruImgptrWrite v) Reg.SRU_IMGPTR F.SRU_IMGPTR_PTR 131072 ∧
    dat (.sruImgdatWrite v) Reg.SRU_IMGDAT F.SRU_IMGPTR_PTR sruStage 131072 (s.lopRunning 0x04) ∧
    ptr (.xlkFwptrWrite v) Reg.XLK_FWPTR F.XLK_FWPTR_PTR 4194304 ∧
    dat (.xlkFwdatWrite v) Reg.XLK_FWDAT F.XLK_FWPTR_PTR fwStage 4194304 s.xlk.fwBusy.isSome)

/-- R23, R65, R66: PEN_TICK takes a tick that divides the second and is a whole number of frame periods, and refuses any other with
TICKREF and an event; an accepted tick takes effect at a tick commit of the old tick that is a whole multiple of the new one, at no
other instant, and every TAI second is such an instant; where the steps of that commit are done already, it takes effect at the next
one. -/
def Obligations.TickIsCheckedAndChangesAtACommit : Prop :=
  ∀ (s : State) (v : Word),
    let t0 := v.toNat % 2 ^ 20
    let fits (f : Nat) := 0 < t0 ∧ 1000000 % t0 = 0 ∧ t0 % f = 0
    (HostMay s Reg.PEN_TICK v.toNat → fits s.sea.fperUs → fits (s.get F.SEA_FPER_US) →
      Gives (.penTickWrite v) s fun t => t.status = 0 ∧ t.get F.PEN_TICK_TICK = t0 ∧ t.pen = s.pen) ∧
    (HostMay s Reg.PEN_TICK v.toNat → ¬ (fits s.sea.fperUs ∧ fits (s.get F.SEA_FPER_US)) →
      Gives (.penTickWrite v) s fun t => t.status = 0 ∧ t.get F.PEN_TICK_TICK = s.get F.PEN_TICK_TICK ∧ t.pen = s.pen ∧
        t.get F.PEN_STAT_TICKREF = 1 ∧ Journalled s t 0x108 0 []) ∧
    (let g := s.ns - s.ns % (s.sea.fperUs * 1000)
     let both := g % (s.pen.tickUs * 1000) = 0 ∧ g % (s.get F.PEN_TICK_TICK * 1000) = 0
     s.inRunQuiet = true →
      (both → s.pen.tickAt ≠ some g →
        Gives .tickChange s fun t => t = { s with pen := { s.pen with tickUs := s.get F.PEN_TICK_TICK } }) ∧
      (¬ both ∨ s.pen.tickAt = some g → Gives .tickChange s fun t => t = s) ∧
      (g % 1000000000 = 0 → 1000000 % s.pen.tickUs = 0 → 1000000 % s.get F.PEN_TICK_TICK = 0 → both))

/-- R90, R91, R92: PEN_CMD.SWAP arms a valid idle image that no load is writing and no partner differs in, and otherwise raises
PEN_SWAPREF with the reason; DISARM takes an armed swap back; both answer OK.
R91: at a tick commit at or after its time, and at least two frame periods after it was armed, the armed swap exchanges the two
banks and the identities and hashes of the two images, and ARMED is cleared; at no other instant does it take place, and not after the
steps of that commit.
Where a clause rests on a reading or a choice of the model's, it is that of assumption logs 22 and 49. -/
def Obligations.PatternSwaps : Prop :=
  (∀ s : State,
    let differs := s.activePaired = true ∧ s.xlk.partIdle ≠ (List.range 8).map fun k => s.rd (Reg.PEN_IHASH_I k)
    let refused (r : Nat) := Gives .penCmdSwap s fun t => t.status = 0 ∧ t.get F.PEN_STAT_ARMED = 0 ∧ t.get F.PEN_STAT_SWDONE = 0 ∧
      t.pen = s.pen ∧ Journalled s t 0x106 0 [r]
    (HostMay s Reg.PEN_CMD 1 → s.get F.PEN_STAT_ARMED = 0 → s.get F.PEN_STAT_IDLEST = 2 → s.lopRunning 2 = false → ¬ differs →
      Gives .penCmdSwap s fun t => t.status = 0 ∧ t.get F.PEN_STAT_ARMED = 1 ∧ t.pen = { s.pen with armAt := s.ns } ∧
        ∀ x, x ≠ Reg.PEN_STAT → t.rd x = s.rd x) ∧
    (HostMay s Reg.PEN_CMD 1 → s.get F.PEN_STAT_ARMED = 0 → s.get F.PEN_STAT_IDLEST ≠ 2 → refused 1) ∧
    (HostMay s Reg.PEN_CMD 1 → s.get F.PEN_STAT_ARMED = 0 → s.get F.PEN_STAT_IDLEST = 2 → s.lopRunning 2 = true → refused 2) ∧
    (HostMay s Reg.PEN_CMD 1 → s.get F.PEN_STAT_ARMED = 0 → s.get F.PEN_STAT_IDLEST = 2 → s.lopRunning 2 = false → differs →
      refused 3) ∧
    (HostMay s Reg.PEN_CMD 1 → s.get F.PEN_STAT_ARMED = 1 → Gives .penCmdSwap s fun t => t = { s with status := 0 }) ∧
    (HostMay s Reg.PEN_CMD 2 → Gives .penCmdDisarm s fun t => t.status = 0 ∧ t.get F.PEN_STAT_ARMED = 0 ∧
      (s.get F.PEN_STAT_ARMED = 1 → t.get F.PEN_STAT_SWDONE = 0) ∧ ∀ x, x ≠ Reg.PEN_STAT → t.rd x = s.rd x)) ∧
  (∀ s : State,
    let g := s.ns - s.ns % (s.sea.fperUs * 1000)
    let due := s.inRunQuiet = true ∧ s.get F.PEN_STAT_ARMED = 1 ∧ g % (s.pen.tickUs * 1000) = 0 ∧ s.rdTime Reg.PEN_SWAPAT_S_LO ≤ g ∧
      s.pen.armAt + 2 * (s.sea.fperUs * 1000) ≤ g ∧ s.pen.lastCommit ≠ some g ∧ s.pen.tickAt ≠ some g ∧ s.lastFrame ≠ some g
    (¬ due → Gives .patternSwap s fun t => t = s) ∧
    (due → Gives .patternSwap s fun t => t.pen.lastCommit = some g ∧ t.pen.tickAt = some g ∧ t.get F.PEN_STAT_ARMED = 0 ∧
      t.get F.PEN_STAT_SWDONE = 1 ∧
        t.get F.PEN_STAT_ACTIVE = 1 - s.get F.PEN_STAT_ACTIVE ∧ t.get F.PEN_STAT_IDLEST = 2 ∧
        t.get F.PEN_AID_ID = s.get F.PEN_IID_ID ∧ t.get F.PEN_IID_ID = s.get F.PEN_AID_ID ∧
        ∀ k, k < 8 → t.get (F.PEN_IHASH_A_HASH k) = s.get (F.PEN_IHASH_I_HASH k) ∧
          t.get (F.PEN_IHASH_I_HASH k) = s.get (F.PEN_IHASH_A_HASH k)))

/-- R97: START and STOP take the priority and the entry written and wait for the next group boundary; at it, with the engine stopped,
a STOP leaves the bobbin STOPPED and a START clears it and sets its PC to the entry.  A START written with the engine stopped and no
group in service takes effect at once.  R68, R93: a group that can go on is not cut short.
Where a clause rests on a reading or a choice of the model's, it is that of assumption logs 12 and 49. -/
def Obligations.BobbinStartAndStop : Prop :=
  ∀ (s : State) (n : BitVec 5) (v : Word),
    let st := setBit v.toNat 8 true
    let sp := setBit v.toNat 9 true
    (HostMay s (Reg.PEN_BCTL n.toNat) v.toNat → bit v.toNat 9 = false → s.get F.PEN_CTL_RUN = 1 ∨ s.pen.cur ≠ none →
      Gives (.penBctlStart n v) s fun t =>
      t.status = 0 ∧ t.get (F.PEN_BCTL_PRIO n.toNat) = st % 4 ∧ t.get (F.PEN_BCTL_ENTRY n.toNat) = st / 65536 % 65536 ∧
        (t.bob n.toNat).startReq = true ∧ (t.bob n.toNat).stopReq = false ∧ (t.bob n.toNat).cmdDone = false ∧
        (t.bob n.toNat).st = (s.bob n.toNat).st ∧ ∀ m, m ≠ n.toNat → t.bob m = s.bob m) ∧
    (HostMay s (Reg.PEN_BCTL n.toNat) v.toNat → bit v.toNat 9 = false → s.get F.PEN_CTL_RUN = 0 → s.pen.cur = none →
      Gives (.penBctlStart n v) s fun t =>
      t.status = 0 ∧ (t.bob n.toNat).st = .stopped ∧ (t.bob n.toNat).pc = BitVec.ofNat 16 (st / 65536) ∧
        (∀ r, (t.bob n.toNat).rg r = 0) ∧ (∀ r i, (t.bob n.toNat).laneOf r i = 0) ∧
        (t.bob n.toNat).flags = (false, false, false, false) ∧ (t.bob n.toNat).pend = 0 ∧ (t.bob n.toNat).startPend = true) ∧
    (HostMay s (Reg.PEN_BCTL n.toNat) v.toNat → (s.bob n.toNat).startPend = false → Gives (.penBctlStop n v) s fun t =>
      t.status = 0 ∧ t.get (F.PEN_BCTL_PRIO n.toNat) = sp % 4 ∧ (t.bob n.toNat).stopReq = true ∧ (t.bob n.toNat).startReq = false ∧
        (t.bob n.toNat).cmdDone = false ∧ ∀ m, m ≠ n.toNat → t.bob m = s.bob m) ∧
    (HostMay s (Reg.PEN_BCTL n.toNat) v.toNat → (s.bob n.toNat).startPend = true → Gives (.penBctlStop n v) s fun t =>
      t.status = 0 ∧ (t.bob n.toNat).startPend = false ∧ (t.bob n.toNat).cmdDone = true) ∧
    (∀ m, s.pen.cur = some m → (s.bob m).st = .runnable → (s.bob m).parked = none → 0 < (s.bob m).left →
      Gives .groupBoundary s fun t => t = s) ∧
    (s.inRunQuiet = true → s.get F.PEN_CTL_RUN = 0 →
     (∀ m, s.pen.cur = some m → (s.bob m).st ≠ .runnable ∨ (s.bob m).parked ≠ none ∨ (s.bob m).left = 0) →
     Gives .groupBoundary s fun t => t.mem = s.mem ∧ ∀ m, m < 32 →
      (t.bob m).prio = s.get (F.PEN_BCTL_PRIO m) ∧ (t.bob m).stopReq = false ∧ (t.bob m).startReq = false ∧
        ((s.bob m).stopReq = true → (t.bob m).st = .stopped ∧ (t.bob m).cmdDone = true) ∧
        ((s.bob m).stopReq = false → (s.bob m).startReq = true → (t.bob m).st = .stopped ∧ (t.bob m).startPend = true ∧
          (t.bob m).pc = BitVec.ofNat 16 (s.get (F.PEN_BCTL_ENTRY m))))

/-- R64, R70, R72, R93: at a tick start a WAITK bobbin whose count has run out and a WAITT bobbin whose time has come become
RUNNABLE, one whose count has not run out counts down, and at any other instant neither wait ends; a runnable bobbin with no budget
left becomes PREEMPTED and counts it.
Where a clause rests on a reading or a choice of the model's, it is that of assumption log 22. -/
def Obligations.BobbinReleasesAndBudget : Prop :=
  ∀ (s : State) (n : BitVec 5),
    let b := s.bob n.toNat
    let c := s.ns - s.ns % (s.sea.fperUs * 1000)
    let starts := s.inRunQuiet = true ∧ s.get F.PEN_CTL_RUN = 1 ∧ s.pen.ranAt = some c
    (¬ starts → Gives (.waitkRelease n) s (fun t => t = s) ∧ Gives (.waittRelease n) s fun t => t = s) ∧
    (starts → b.st = .waitk → b.waitAt ≠ some c → b.waitK ≤ 1 → Gives (.waitkRelease n) s fun t => (t.bob n.toNat).st = .runnable ∧
      t.mem = s.mem ∧ ∀ m, m ≠ n.toNat → t.bob m = s.bob m) ∧
    (starts → b.st = .waitk → b.waitAt ≠ some c → 1 < b.waitK → Gives (.waitkRelease n) s fun t => (t.bob n.toNat).st = .waitk ∧
      (t.bob n.toNat).waitK = b.waitK - 1 ∧ t.mem = s.mem ∧ ∀ m, m ≠ n.toNat → t.bob m = s.bob m) ∧
    (starts → b.st = .waitt → b.waitT ≤ c → Gives (.waittRelease n) s fun t => (t.bob n.toNat).st = .runnable ∧ t.mem = s.mem ∧
      ∀ m, m ≠ n.toNat → t.bob m = s.bob m) ∧
    (starts → b.st = .waitt → c < b.waitT → Gives (.waittRelease n) s fun t => t = s) ∧
    (b.st = .runnable → b.left = 0 → Gives (.penBudget n) s fun t => t.bob n.toNat = { b with st := .preempted } ∧
      t.get (F.PEN_BOVR_OVR n.toNat) = min (s.get (F.PEN_BOVR_OVR n.toNat) + 1) 0xFFFF ∧
      (∀ m, m ≠ n.toNat → t.bob m = s.bob m) ∧ (s.rateOk 0x102 n.toNat 1000000000 = true → Journalled s t 0x102 n.toNat []))

/-- R78, R79: a repair rewrites the word for which a bobbin is parked from flash, counts it and reports it, and the bobbin may go on;
where flash gives no good word the bobbin faults with code 0x5.  A scrub pass that has fallen due leaves no word of program or curve
memory with bad parity (R526: one pass every 10 minutes), and counts itself done.
Where a clause rests on a reading or a choice of the model's, it is that of assumption log 49. -/
def Obligations.ParityRepairs : Prop :=
  (∀ (s : State) (n : BitVec 5) (a : Nat), (s.bob n.toNat).parked = some a →
    (isEngineMem a = true → s.parBad a = true → Gives (.penPfix n true) s fun t => t.rd a = s.flashWord a ∧ t.parBad a = false ∧
      (t.bob n.toNat).parked = none ∧ (t.bob n.toNat).st = (s.bob n.toNat).st ∧
      t.get F.PEN_PFIX_COUNT = min (s.get F.PEN_PFIX_COUNT + 1) 0xFFFF ∧ (∀ x, x ≠ a → t.parBad x = s.parBad x) ∧
      ∃ p, Journalled s t 0x104 0 p) ∧
    Gives (.penPfix n false) s (fun t => (t.bob n.toNat).st = .faulted ∧ (t.bob n.toNat).fcode = 5 ∧
      (t.bob n.toNat).fpc = (s.bob n.toNat).pc ∧ (t.bob n.toNat).parked = none)) ∧
  (∀ s : State, s.inRunQuiet = true → s.phu.scrubP < (s.ns - s.phu.tr) / 600000000000 → Gives .programScrubPass s fun t =>
      (∀ x, isEngineMem x = true → t.parBad x = false) ∧ (∀ x, isEngineMem x = false → t.parBad x = s.parBad x) ∧
        t.phu.scrubP = s.phu.scrubP + 1)

/-- R39, R40, R43, R44, R45, R46, R48: host writes stage a node's zone, two target bands and a zone's mode; zone 511 takes no
target, a zone the pattern owns answers LOCKED, a node zone above 511 is refused with an event; the tick commit makes every staged
band and mode of a zone committed and leaves nothing staged. -/
def Obligations.ZoneWritesAndTickCommit : Prop :=
  ∀ (s : State) (i : BitVec 12) (z : BitVec 9) (k : BitVec 2) (v : Word),
    let y := z.toNat
    let own := decide (v.toNat / 2 % 2 = 1)
    (HostMay s (nodeAddr i.toNat 0) v.toNat → v.toNat % 1024 ≤ 511 → Gives (.nodeZoneWrite i v) s fun t => t.status = 0 ∧ t.mem = s.mem ∧
      spGet (fun _ => none) t.zon.node i.toNat = some (v.toNat % 1024)) ∧
    (HostMay s (nodeAddr i.toNat 0) v.toNat → 511 < v.toNat % 1024 → Gives (.nodeZoneWrite i v) s fun t => t.status = 0 ∧
      t.zon = s.zon ∧ OnlyRecordWords s t ∧ Journalled s t 0x202 (s.get (F.NT_ZONE i.toNat)) [i.toNat, v.toNat % 1024]) ∧
    (HostMay s (Reg.ZON_TGT y k.toNat) v.toNat → y = 511 → Gives (.zonTgtWrite z k v) s fun t => t = { s with status := 0x01 }) ∧
    (HostMay s (Reg.ZON_TGT y k.toNat) v.toNat → y ≠ 511 → s.get (F.ZON_CTL_OWNER y) = 0 → Gives (.zonTgtWrite z k v) s fun t =>
      t = { s with status := 0x16 }) ∧
    (HostMay s (Reg.ZON_TGT y k.toNat) v.toNat → y ≠ 511 → s.get (F.ZON_CTL_OWNER y) = 1 → Gives (.zonTgtWrite z k v) s fun t =>
      t.status = 0 ∧ t.mem = s.mem ∧ (∀ x, x ≠ y → t.zstage x = s.zstage x) ∧ (t.zstage y).mode = (s.zstage y).mode ∧
        ∀ j : Fin 8, (t.zstage y).bands[j] = if j.val = 2 * k.toNat then some (BitVec.ofNat 16 (v.toNat % 65536))
          else if j.val = 2 * k.toNat + 1 then some (BitVec.ofNat 16 (v.toNat / 65536)) else (s.zstage y).bands[j]) ∧
    (HostMay s (Reg.ZON_CTL y) v.toNat → Gives (.zonCtlWrite z v) s fun t => t.status = 0 ∧
      t.get (F.ZON_CTL_OWNER y) = v.toNat / 2 % 2 ∧ t.get (F.ZON_CTL_FCAP y) = v.toNat / 65536 ∧
      t.get (F.ZON_CTL_MODE y) = s.get (F.ZON_CTL_MODE y) ∧
      t.get (F.ZON_CTL_REACT y) = (if v.toNat / 4 % 4 = 3 then s.get (F.ZON_CTL_REACT y) else v.toNat / 4 % 4) ∧
      (t.zstage y).mode = (if own then some (decide (v.toNat % 2 = 1)) else if s.get (F.ZON_CTL_OWNER y) = 1 then none else (s.zstage y).mode) ∧
      (own ≠ decide (s.get (F.ZON_CTL_OWNER y) = 1) → ∀ j : Fin 8, (t.zstage y).bands[j] = none)) ∧
    (let g := s.ns - s.ns % (s.sea.fperUs * 1000)
     s.inRunQuiet = true → g % (s.pen.tickUs * 1000) = 0 → s.pen.lastCommit ≠ some g → s.pen.tickAt ≠ some g → s.lastFrame ≠ some g →
     Gives .tickCommit s fun t =>
      t.pen.lastCommit = some g ∧ t.zon.node = [] ∧
      t.pen.tickAt = t.pen.lastCommit ∧ (∀ j : Fin 8, y ≠ 511 → t.zband y j.val = ((s.zstage y).bands[j]).getD (s.zband y j.val)) ∧
      t.get (F.ZON_CTL_MODE y) = (match (s.zstage y).mode with | some m => if m then 1 else 0 | none => s.get (F.ZON_CTL_MODE y)) ∧
      t.zstage y = {})

/-- R41: zone 511 has a target of zero in every band of every frame, its target registers read as 0, host writes to them are ignored
with OK_IGNORED, and a ZSET or ZMODE that names it does nothing but retire. -/
def Obligations.Zone511StaysDark : Prop :=
  ∀ (s : State) (n : BitVec 5) (va : BitVec 3) (g : BitVec 4) (m : BitVec 1) (k : BitVec 2) (v : Word),
    let b := s.bob n.toNat
    (∀ i o, s.frameBand 511 i o = 0) ∧
    s.peek (Reg.ZON_TGT 511 k.toNat) = 0 ∧
    (HostMay s (Reg.ZON_TGT 511 k.toNat) v.toNat → Gives (.zonTgtWrite 511 k v) s fun t => t = { s with status := 0x01 }) ∧
    (Ready s n → (b.rg g).toNat = 511 →
      Gives (.zset n va g) s (fun t => Scalar s n 2 0 0 b.flags t ∧ t.zon = s.zon ∧ (t.bob n.toNat).st ≠ .faulted) ∧
      Gives (.zmode n g m) s (fun t => Scalar s n 1 0 0 b.flags t ∧ t.zon = s.zon ∧ (t.bob n.toNat).st ≠ .faulted))

/-! ## Solving and lamp diagnostics (chapters 5 and 7) -/

/-- R146, R148, R149, R150, R153: a solve that completes with no two cap failures puts the frame's codes, one luminaire after
another, ready to be sent, reports its cycles, and keeps the reported power after the caps within the module cap latched. -/
def Obligations.SolveCompletesWithinTheCap : Prop :=
  ∀ (s : State) (faults : List SolveFault) (fails cycles : Nat) (lt : Latched), s.sme.latch = some lt → s.sme.next = none →
    s.sme.capFailed = false → s.mode = .run →
    (fails < 2 → Gives (.solveComplete faults fails cycles) s fun t => t.sme.capFailed = false ∧
      (t.sme.next.map fun c => c.map (·.1)) = some (lt.lums.map (·.slot)) ∧ t.get F.SME_SOLVET_CYC = cycles % 2 ^ 24 ∧
      t.get F.SME_SCALE_SM ≤ 65536 ∧
      ((lt.zones.map (·.zone)).Nodup → (∀ l ∈ lt.lums, l.zone ∈ lt.zones.map (·.zone)) → lt.pcap < 2 ^ 24 →
        t.get F.SME_ESTPOST_W ≤ lt.pcap)) ∧
    (2 ≤ fails → faults = [] → (∀ l ∈ lt.lums, l.rec_ = .valid → s.recParBad l.slot = false) →
      Gives (.solveComplete faults fails cycles) s fun t => t.sme.capFailed = true ∧ t.sme.next = none ∧
      Journalled s t 0x218 0 [])

/-- R152: LANERST is noted for the next frame start; at a frame start a lane that is due to leave does so with an event, unless it is the
last. R131, R136, R139, R154, R155: at a frame start the installation of a written record makes it VALID; the repair of a record rewrites
its words from flash and counts it, or makes the slot INVALID; a scrub pass that has fallen due counts the record whose CRC is wrong and
repairs it or makes it INVALID, and where every CRC is right it only counts itself done; a save that has fallen due, one an hour, writes
the flash area not written last;
SME_TSCNT counts the luminaires whose temperature is stale.
Where a clause rests on a reading or a choice of the model's, it is that of assumption logs 24, 37 and 50. -/
def Obligations.SolverLanesCalibrationAndAgeing : Prop :=
  (∀ (s : State) (k : BitVec 3),
    let l := s.get F.SME_STAT_LANES
    (HostMay s Reg.SME_CMD 1 → Gives .smeCmdLanerst s fun t => t = { s with sme := { s.sme with laneRst := true }, status := 0 }) ∧
    (s.inRunQuiet = true → s.frameDue = true → bit s.sme.laneDue k.toNat = true → bit l k.toNat = true → l ≠ 2 ^ k.toNat →
      Gives (.smeLaneOut k) s fun t =>
      t.get F.SME_STAT_LANES = l - 2 ^ k.toNat ∧ bit t.sme.laneDue k.toNat = false ∧ Journalled s t 0x212 k.toNat []) ∧
    (s.inRunQuiet = true → s.frameDue = true → bit s.sme.laneDue k.toNat = true → l = 2 ^ k.toNat → Gives (.smeLaneOut k) s fun t => t.mem = s.mem ∧
      bit t.sme.laneDue k.toNat = false)) ∧
  (∀ (s : State) (i : BitVec 12),
    let good (j : Nat) := crc32 (s.rdBytes (calAddr j) 0 508) = s.recU (calAddr j) 508 4
    let scrubDue := s.phu.scrubC < (s.ns - s.phu.tr) / 600000000000
    let saveDue := s.phu.ageSaves < (s.ns - s.phu.tr) / 3600000000000
    let scrubbed : State := { s with phu := { s.phu with scrubC := s.phu.scrubC + 1 } }
    (s.inRunQuiet = true → s.frameDue = true → ∀ m, s.sme.install = some m → s.sme.installAck = true →
      (∀ n, n < 8 → ¬ (s.get (F.LOP_STAT_CODE n) = 1 ∧ s.get (F.LOP_STAT_STATE n) = 1)) →
      Gives .calloadRecordInstall s fun t => t.sme.install = none ∧ (t.lum m).rec_ = .valid) ∧
    (s.inRunQuiet = true → s.recParBad i.toNat = true → (s.lum i.toNat).rec_ = .valid → s.recCheck (calFlashAddr i.toNat) = 0 →
      Gives (.smeCalfix i) s fun t =>
      (∀ k, k < 128 → t.rd (calAddr i.toNat + 4 * k) = s.rd (calFlashAddr i.toNat + 4 * k) ∧
        t.parBad (calAddr i.toNat + 4 * k) = false) ∧
      t.get F.SME_CALFIX_COUNT = min (s.get F.SME_CALFIX_COUNT + 1) 0xFFFF ∧
      Journalled s t 0x213 (s.get (F.NT_ZONE i.toNat)) [i.toNat]) ∧
    (s.inRunQuiet = true → s.recParBad i.toNat = true → (s.lum i.toNat).rec_ = .valid → s.recCheck (calFlashAddr i.toNat) ≠ 0 →
      Gives (.smeCalfix i) s fun t =>
      (t.lum i.toNat).rec_ = .invalid ∧ t.get F.SME_STAT_INVAL = 1 ∧ Journalled s t 0x214 (s.get (F.NT_ZONE i.toNat)) [i.toNat]) ∧
    (s.inRunQuiet = true → scrubDue → (∀ p ∈ s.sme.lums, p.2.rec_ = .valid → good p.1) → Gives .calScrubPass s fun t => t = scrubbed) ∧
    (∀ x, s.inRunQuiet = true → scrubDue → (i.toNat, x) ∈ s.sme.lums → spWf (fun _ => ({} : Lum)) s.sme.lums = true → x.rec_ = .valid →
      ¬ good i.toNat → s.recCheck (calFlashAddr i.toNat) = 0 →
      (∀ p ∈ s.sme.lums, p.2.rec_ = .valid → p.1 ≠ i.toNat → p.1 < 4096 ∧ good p.1) → Gives .calScrubPass s fun t =>
        (∀ k, k < 128 → t.rd (calAddr i.toNat + 4 * k) = s.rd (calFlashAddr i.toNat + 4 * k) ∧ t.parBad (calAddr i.toNat + 4 * k) = false) ∧
        t.get F.SME_CRCERR_COUNT = min (s.get F.SME_CRCERR_COUNT + 1) (2 ^ F.SME_CRCERR_COUNT.width - 1) ∧
        t.get F.SME_CALFIX_COUNT = min (s.get F.SME_CALFIX_COUNT + 1) 0xFFFF ∧ (t.lum i.toNat).rec_ = .valid ∧
        Journalled s t 0x213 (s.get (F.NT_ZONE i.toNat)) [i.toNat]) ∧
    (∀ x, s.inRunQuiet = true → scrubDue → (i.toNat, x) ∈ s.sme.lums → spWf (fun _ => ({} : Lum)) s.sme.lums = true → x.rec_ = .valid →
      ¬ good i.toNat → s.recCheck (calFlashAddr i.toNat) ≠ 0 →
      (∀ p ∈ s.sme.lums, p.2.rec_ = .valid → p.1 ≠ i.toNat → p.1 < 4096 ∧ good p.1) → Gives .calScrubPass s fun t =>
        t.get F.SME_CRCERR_COUNT = min (s.get F.SME_CRCERR_COUNT + 1) (2 ^ F.SME_CRCERR_COUNT.width - 1) ∧
        (t.lum i.toNat).rec_ = .invalid ∧ t.get F.SME_STAT_INVAL = 1 ∧ Journalled s t 0x214 (s.get (F.NT_ZONE i.toNat)) [i.toNat]) ∧
    (¬ (s.inRunQuiet = true ∧ saveDue) → Gives .ageingSave s fun t => t = s) ∧
    (s.inRunQuiet = true → saveDue → s.sme.ageNewer = 1 → Gives .ageingSave s fun t => t.phu.ageSaves = s.phu.ageSaves + 1 ∧ t.sme.ageNewer = 0 ∧
      t.sme.ageFlash1 = s.sme.ageFlash1 ∧
      t.sme.ageFlash0.isSome = true ∧ t.mem = s.mem) ∧
    (s.inRunQuiet = true → saveDue → s.sme.ageNewer ≠ 1 → Gives .ageingSave s fun t => t.phu.ageSaves = s.phu.ageSaves + 1 ∧ t.sme.ageNewer = 1 ∧
      t.sme.ageFlash0 = s.sme.ageFlash0 ∧
      t.sme.ageFlash1.isSome = true ∧ t.mem = s.mem) ∧
    (s.inRunQuiet = true → Gives .smeTstale s fun t =>
      let n := (s.sme.lums.filter fun p => s.tempStale p.2 s.ns).length
      t.get F.SME_TSCNT_COUNT = n % 2 ^ 13 ∧ (s.get F.SME_TSCNT_COUNT = 0 → n ≠ 0 → Journalled s t 0x217 0 [])))

/-- R211, R216, R222: CLR takes the latch, the flap history and AGED off the selected channel and CLRALL off every channel, the recorded states
kept; an UNVERIFIED channel whose age has reached the limit becomes AGED once, with its event.
Where a clause rests on a reading or a choice of the model's, it is that of assumption log 12. -/
def Obligations.LampDiagnosticsCommands : Prop :=
  ∀ (s : State) (i : BitVec 12) (k : BitVec 3),
    let cleared (c d : Chan) := d = { c with latched := false, flaps := [], aged := false }
    let c := s.chan i.toNat k.toNat
    (HostMay s Reg.DIA_CMD 1 → Gives .diaCmdClr s fun t => t.status = 0 ∧ t.mem = s.mem ∧
      cleared (s.chan (s.get F.DIA_SEL_SLOT) (s.get F.DIA_SEL_CH)) (t.chan (s.get F.DIA_SEL_SLOT) (s.get F.DIA_SEL_CH)) ∧
      ∀ m j, j < 8 → (m, j) ≠ (s.get F.DIA_SEL_SLOT, s.get F.DIA_SEL_CH) → t.chan m j = s.chan m j) ∧
    (HostMay s Reg.DIA_CMD 2 → spWf (fun _ => noChan) s.dia.chans = true → Gives .diaCmdClrall s fun t => t.status = 0 ∧ t.mem = s.mem ∧
      ∀ m j, j < 8 → cleared (s.chan m j) (t.chan m j)) ∧
    (s.get F.DIA_UNVLIM_SEC ≠ 0 → c.st = .unverified → c.aged = false → s.get F.DIA_UNVLIM_SEC * 1000000000 ≤ c.vage →
      Gives (.lampUnverifiedAged i k) s fun t => t.chan i.toNat k.toNat = { c with aged := true } ∧ t.get F.DIA_STAT_AGED = 1 ∧
        Journalled s t 0x405 i.toNat [i.toNat + k.toNat * 4096, c.vage / 1000000000]) ∧
    (c.st ≠ .unverified ∨ c.aged = true ∨ s.get F.DIA_UNVLIM_SEC = 0 → Gives (.lampUnverifiedAged i k) s fun t => t = s)

/-! ## Long operations (chapter 14) -/

/-- R403: each of the ten operations, written to an IDLE slot, makes the slot RUNNING with its code and answers OK; a code that names
no operation ends the slot FAILED with error 0xFF; a start on a slot that is not IDLE is BUSY and changes nothing.
Where a clause rests on a reading or a choice of the model's, it is that of assumption log 37. -/
def Obligations.LongOperationsStart : Prop :=
  ∀ (s : State) (n : BitVec 3) (code : BitVec 8) (ok dip : Bool) (w : BitVec 20) (f : BitVec 16),
    let m := n.toNat
    let rows : List (Instr × Nat) := [(.calload n ok, 1), (.patload n ok, 2), (.nodeimg n, 3), (.radioimg n, 4), (.attest n, 5),
      (.jsearch n w, 6), (.selftest n f, 7), (.holdtest n w dip, 8), (.keygen n, 9), (.statedump n, 10)]
    (∀ r ∈ rows, HostMay s (Reg.LOP_CMD m) r.2 →
      (s.get (F.LOP_STAT_STATE m) = 0 → Gives r.1 s fun t => t.status = 0 ∧ t.get (F.LOP_STAT_STATE m) = 1 ∧
        t.get (F.LOP_STAT_CODE m) = r.2) ∧
      (s.get (F.LOP_STAT_STATE m) ≠ 0 → ¬ (s.get (F.LOP_STAT_STATE m) = 1 ∧ s.get (F.LOP_STAT_CODE m) = r.2) →
        Gives r.1 s fun t => t = { s with status := 0x13 })) ∧
    (HostMay s (Reg.LOP_CMD m) code.toNat → s.get (F.LOP_STAT_STATE m) = 0 → (code.toNat = 0 ∨ (10 < code.toNat ∧ code.toNat < 0xFE)) →
      Gives (.lopUnknownCode n code) s fun t => t.status = 0 ∧ t.get (F.LOP_STAT_STATE m) = 4 ∧ t.get (F.LOP_STAT_CODE m) = code.toNat ∧
        t.get (F.LOP_STAT_ERR m) = 0xFF ∧ Journalled s t 0xC10 m [m + code.toNat * 256 + 4 * 65536 + 0xFF * 16777216])

/-- R403, R404, R405: LOP_DONE ends a RUNNING slot whose outcome is known, with the event; ABORT ends a PAUSED slot ABORTED at once and
notes it for a RUNNING one; CLEAR makes a finished slot IDLE and clears its words; LOP_RACK lets a PAUSED slot run on.
R407, R478, R479: a step of SELFTEST reports one test, skips test 8 outside a pair, and the eighth ends it; HOLDTEST's discharge time of t µs
gives t / 20 µF, which PHU_CAP takes (LIMITED below 400, the rounding open), and a dip ends it FAILED.
Where a clause rests on a reading or a choice of the model's, it is that of assumption log 37. -/
def Obligations.LongOperationsEndAndTests : Prop :=
  (∀ (s : State) (n : BitVec 3) (v : Word) (st err : Nat),
    let m := n.toNat
    let c := s.get (F.LOP_STAT_CODE m)
    let ended (x e : Nat) (t : State) := t.get (F.LOP_STAT_STATE m) = x ∧ t.get (F.LOP_STAT_CODE m) = c ∧ t.get (F.LOP_STAT_ERR m) = e ∧
      t.lslot m = {} ∧ Journalled s t 0xC10 m [m + c * 256 + x * 65536 + e * 16777216]
    (s.get (F.LOP_STAT_STATE m) = 1 → (s.lslot m).fin = some (st, err) → st < 8 → err < 256 → ¬ (c = 1 ∧ s.sme.install.isSome = true) →
      Gives (.lopDone n) s (ended st err)) ∧
    (HostMay s (Reg.LOP_CMD m) 0xFE → s.get (F.LOP_STAT_STATE m) = 2 → Gives (.lopAbort n) s fun t => t.status = 0 ∧ ended 5 0xFD t) ∧
    (HostMay s (Reg.LOP_CMD m) 0xFE → s.get (F.LOP_STAT_STATE m) = 1 → (s.lslot m).fin = none → Gives (.lopAbort n) s fun t =>
      t.status = 0 ∧ (t.lslot m).fin = some (5, 0xFD) ∧ t.mem = s.mem) ∧
    (HostMay s (Reg.LOP_CMD m) 0xFF → 3 ≤ s.get (F.LOP_STAT_STATE m) → Gives (.lopClear n) s fun t => t.status = 0 ∧
      t.get (F.LOP_STAT_STATE m) = 0 ∧ t.get (F.LOP_STAT_CODE m) = c ∧ t.get (F.LOP_STAT_ERR m) = 0 ∧ t.get (F.LOP_STAT_PCT m) = 0 ∧
      t.get (F.LOP_PART_COUNT m) = 0 ∧ t.get (F.LOP_RACK_WORDS m) = 0 ∧ ∀ j, j < 2048 → t.rd (lopWord m j) = 0) ∧
    (HostMay s (Reg.LOP_RACK m) v.toNat → s.get (F.LOP_STAT_STATE m) = 2 → Gives (.lopRackWrite n v) s fun t => t.status = 0 ∧
      t.get (F.LOP_RACK_WORDS m) = v.toNat % 2 ^ (F.LOP_RACK_WORDS m).width ∧
      t.get (F.LOP_STAT_STATE m) = if s.get (F.LOP_PART_COUNT m) - v.toNat % 2 ^ (F.LOP_RACK_WORDS m).width < 2048 then 1 else 2)) ∧
  (∀ (s : State) (n : BitVec 3) (f : BitVec 16) (us : BitVec 20),
    let m := n.toNat
    let x := s.lslot m
    let going (c : Nat) := s.inRunQuiet = true ∧ s.get (F.LOP_STAT_STATE m) = 1 ∧ s.get (F.LOP_STAT_CODE m) = c ∧ x.fin = none
    let word (t : State) := t.rd (lopWord m (s.get (F.LOP_PART_COUNT m)))
    (going 7 → x.pos = 2 → s.get (F.LOP_PART_COUNT m) = 2 → s.get (F.LOP_RACK_WORDS m) = 0 → Gives (.selftest n f) s fun t =>
      (t.lslot m).pos = 3 ∧ t.get (F.LOP_PART_COUNT m) = 3 ∧ word t = BitVec.ofNat 32 (3 + (if f = 0 then 0 else 256) + f.toNat * 65536) ∧
        t.get (F.LOP_STAT_PCT m) = 37 ∧ (t.lslot m).bad = (x.bad || decide (f ≠ 0))) ∧
    (going 7 → x.pos = 7 → s.get (F.LOP_PART_COUNT m) = 7 → s.get (F.LOP_RACK_WORDS m) = 0 → s.get F.GLB_ROLE_ROLE = 0 →
      Gives (.selftest n f) s fun t => (t.lslot m).fin = some (3, if x.bad then 3 else 0) ∧ word t = BitVec.ofNat 32 (8 + 2 * 256) ∧
        t.get (F.LOP_STAT_PCT m) = 100) ∧
    (going 8 → us.toNat % 20 = 0 → us.toNat / 20 ≤ 65535 → Gives (.holdtest n us false) s fun t =>
      t.get F.PHU_CAP_UF = us.toNat / 20 ∧ t.rd (lopWord m 0) = BitVec.ofNat 32 (us.toNat / 20) ∧
        t.get F.PHU_STAT_LIMITED = (if us.toNat / 20 < 400 then 1 else 0) ∧ (t.lslot m).fin = some (3, 0) ∧
          t.rdTime Reg.PHU_CAPAT_S_LO = s.ns % (2 ^ 48 * 1000000000)) ∧
    (going 8 → Gives (.holdtest n us true) s fun t => (t.lslot m).fin = some (4, 1) ∧ t.mem = s.mem))

/-! ## Closed loops (chapter 8) -/

/-- R231, R232, R234 (SP), R237 in OPEN, R228, R236: the inner run of a loop in TRACK that is neither held, swapped nor limited by a cap moves
its gain by the control law; the run of a loop in OPEN measures; the outer run of a loop in DLI moves the inner setpoint; neither run comes twice
at one inner instant.
Where a clause rests on a reading or a choice of the model's, it is that of assumption logs 7 and 25. -/
def Obligations.ControlLoopRuns : Prop :=
  ∀ (s : State) (z : BitVec 9), z.toNat ≠ 511 → s.mode = .run →
    let y := z.toNat
    let l := s.loop y
    let now := s.frameNow
    let frac (x : Int) := (x + 0x8000) / 65536
    let near (n d : Int) := if 0 ≤ n then (2 * n + d) / (2 * d) else -((2 * (-n) + d) / (2 * d))
    let lim (lo hi x : Int) := if x < lo then lo else if hi < x then hi else x
    let sat47 (i : Int) := lim (-(2 ^ 47)) (2 ^ 47) i
    let words (t : State) := ∀ a, a ≠ Reg.CCE_LSP y → a ≠ Reg.CCE_LOUT y → a ≠ Reg.CCE_LSTAT y → t.rd a = s.rd a
    (∀ m p, l.m = some m → l.fp = some p → l.prepAt = some now → l.doInner = true → l.pre = false → l.feh = false →
      s.emode y = .track → s.flag (F.CCE_LCTL_SPSEL y) = false → l.iset = s.get (F.CCE_LCTL_ICSET y) →
      s.loopQ y = 65536 → s.flag (F.ZON_STAT_SATG y) = false →
      let k := s.get (F.CCE_LCTL_ICSET y)
      s.get (F.CCE_FELIM_FELIM k) = 0 →
      let sp : Int := s.get (F.CCE_LSP_SP y)
      let e : Int := sp - m
      let dt : Int := ((now - p) / 1000 : Nat)
      let u : Int := s.get (F.CCE_LOUT_GAIN y)
      let omax : Int := s.get (F.CCE_OLIM_OMAX k)
      let omin : Int := min (s.get (F.CCE_OLIM_OMIN k) : Int) omax
      let slew : Int := s.get (F.CCE_SLEW_SLEW k)
      let i1 := sat47 (l.i + near (s.sget (F.CCE_KI_KI k) * e * dt) 1000000)
      let v := frac (s.sget (F.CCE_FF_FF k) * sp) + frac (s.sget (F.CCE_KP_KP k) * e) + frac i1
      let w1 := lim omin omax v
      let w := if slew = 0 then w1 else lim (u - near (slew * dt) 1000000) (u + near (slew * dt) 1000000) w1
      Gives (.innerLoopRun z) s fun t => (t.get (F.CCE_LOUT_GAIN y) : Int) = w ∧ (t.loop y).i = sat47 (i1 + (w - v) * 65536) ∧
        (t.loop y).e = e ∧ (t.loop y).doInner = false ∧ t.get (F.CCE_LOUT_MEAS y) = m % 65536 ∧ (t.get (F.CCE_LSP_INSP y) : Int) = sp ∧
        (t.flag (F.CCE_LSTAT_SAT y) = true ↔ w ≠ v ∨ (w = omax ∧ 0 < e) ∨ (w = omin ∧ e < 0)) ∧
        (t.get (F.CCE_LSTAT_SATSRC y) = 2 ↔ t.flag (F.CCE_LSTAT_SAT y) = true ∧ w ≠ w1) ∧ t.emode y = .track ∧ words t) ∧
    (∀ r p, s.loopSample y = some r → l.stamp ≠ some r.stamp → l.mp = some p → s.photoStart now ≤ p → l.dliRst = false → l.resumed = false →
      l.prepAt ≠ some now → now / (s.sea.fperUs * 1000) % s.get F.CCE_IDIV_FRAMES = 0 → s.loopStale y now = false → s.emode y = .open_ →
        s.rmode y = .open_ →
      let m := min 0xFFFF (r.value.toNat / 4096)
      Gives (.innerLoopRun z) s fun t => t.get (F.CCE_LSP_INSP y) = m ∧ t.get (F.CCE_LOUT_MEAS y) = m ∧ (t.loop y).m = some m ∧
        (t.loop y).imeas = l.imeas + BitVec.ofNat 64 (m * ((now - p) / 1000)) ∧ t.get (F.CCE_LOUT_GAIN y) = s.get (F.CCE_LOUT_GAIN y) ∧
        t.flag (F.CCE_LSTAT_STALE y) = false ∧ words t) ∧
    (∀ p, l.ofp = some p → l.prepAt = some now → l.doOuter = true → l.opre = false → l.ofeh = false →
      s.emode y = .dli → s.flag (F.CCE_LSTAT_SAT y) = false → l.oset = s.get (F.CCE_LCTL_OCSET y) →
      let k := s.get (F.CCE_LCTL_OCSET y)
      s.get (F.CCE_FELIM_FELIM k) = 0 → s.get (F.CCE_SLEW_SLEW k) = 0 →
      let x := s.photoSec now / 2
      let omax : Int := s.get (F.CCE_OLIM_OMAX k)
      let omin : Int := min (s.get (F.CCE_OLIM_OMIN k) : Int) omax
      Gives (.outerLoopRun z) s fun t => ∃ d : Int, (16000000000 * d - l.imeas.toNat).natAbs ≤ 8000000000 ∧
        let e : Int := (curveAt x (s.loopCurve y)).1 - d
        let i1 := sat47 (l.oi + near (s.sget (F.CCE_KI_KI k) * e * ((now - p) / 1000 : Nat)) 1000000)
        let v := frac (s.sget (F.CCE_FF_FF k) * curveRate x (s.loopCurve y)) + frac (s.sget (F.CCE_KP_KP k) * e) + frac i1
        (t.get (F.CCE_LSP_INSP y) : Int) = lim omin omax v ∧ (t.loop y).oi = sat47 (i1 + (lim omin omax v - v) * 65536) ∧
          (t.loop y).oe = e ∧ (t.loop y).doOuter = false ∧ t.get (F.CCE_LOUT_GAIN y) = s.get (F.CCE_LOUT_GAIN y) ∧ words t) ∧
    (l.prepAt = some now → l.doInner = false → l.doOuter = false → Gives (.innerLoopRun z) s (fun t => t = s) ∧
      Gives (.outerLoopRun z) s fun t => t = s)

/-- R242, R243, R244, R245: a trip holds the loop, counts, sets TRIP and, with FEOPEN, falls back to OPEN; the end of a hold, its error within the
limit, makes the next
run a preset run; a loop in OPEN neither trips nor is released; stale input in TRACK or DLI falls back to OPEN; each with its event.
Where a clause rests on a reading or a choice of the model's, it is that of assumption log 25. -/
def Obligations.ControlLoopTransitions : Prop :=
  ∀ (s : State) (z : BitVec 9), s.mode = .run →
    let y := z.toNat
    let l := s.loop y
    let k := s.get (F.CCE_LCTL_ICSET y)
    let time := s.get (F.CCE_FETIME_FETIME k) * 1000
    let pay (c : Nat) := [y + c * 65536, ofSigned 32 l.e, s.get (F.CCE_LOUT_GAIN y)]
    (s.emode y = .open_ → Gives (.cceFetrip z false) s (fun t => t = s) ∧ Gives (.cceFeclear z false) s fun t => t = s) ∧
    (s.emode y ≠ .open_ → l.feh = false → s.get (F.CCE_FELIM_FELIM k) ≠ 0 → 0 < l.fet → time ≤ l.fet → Gives (.cceFetrip z false) s fun t =>
      (t.loop y).feh = true ∧ t.get F.CCE_TRIPS_TRIPS = min (s.get F.CCE_TRIPS_TRIPS + 1) 0xFFFF ∧ t.flag F.CCE_STAT_TRIP = true ∧
        t.get (F.CCE_LOUT_GAIN y) = s.get (F.CCE_LOUT_GAIN y) ∧
        (s.flag (F.CCE_LCTL_FEOPEN y) = true → t.get (F.CCE_LCTL_MODE y) = 0 ∧ t.emode y = .open_ ∧ t.flag F.CCE_STAT_FALLBACK = true) ∧
        (s.flag (F.CCE_LCTL_FEOPEN y) = false → t.emode y = s.emode y) ∧
        (s.rateOk 0x501 y 1000000000 = true → Journalled s t 0x501 y (pay 0))) ∧
    (s.emode y ≠ .open_ → l.feh = true → time ≤ l.rel → (s.get (F.CCE_FELIM_FELIM k) = 0 ∨ l.e.natAbs ≤ s.get (F.CCE_FELIM_FELIM k)) →
      Gives (.cceFeclear z false) s fun t => (t.loop y).feh = false ∧ (t.loop y).fet = 0 ∧
      (t.loop y).pre = true ∧ (s.rateOk 0x502 y 1000000000 = true → Journalled s t 0x502 y (pay 0))) ∧
    (s.emode y ≠ .open_ → l.feh = true → s.get (F.CCE_FELIM_FELIM k) ≠ 0 → s.get (F.CCE_FELIM_FELIM k) < l.e.natAbs →
      Gives (.cceFeclear z false) s fun t => t = s) ∧
    (y ≠ 511 → s.emode y ≠ .open_ → s.loopStale y s.frameNow = true → Gives (.cceStale z) s fun t =>
      t.flag (F.CCE_LSTAT_STALE y) = true ∧ t.get F.CCE_TRIPS_STALES = min (s.get F.CCE_TRIPS_STALES + 1) 0xFFFF ∧
        t.flag F.CCE_STAT_STALE = true ∧ t.flag F.CCE_STAT_FALLBACK = true ∧ t.get (F.CCE_LCTL_MODE y) = 0 ∧ t.emode y = .open_ ∧
        (t.flag (F.CCE_LSTAT_RAMP y) = true ∨ t.get (F.CCE_LOUT_GAIN y) = 0x4000 ∨ s.get (F.CCE_LOUT_GAIN y) = 0x4000) ∧
        (s.rateOk 0x503 y 1000000000 = true → Journalled s t 0x503 y (pay 0)))

/-- R223, R224, R237, R238, R242: host writes of a loop's control word (0b11 leaves MODE, loop 511 ignores the write), COMMIT of every staged
coefficient word together, FECLR and DLIRST of the selected loop. -/
def Obligations.ControlLoopCommands : Prop :=
  ∀ (s : State) (z : BitVec 9) (v : Word),
    let y := z.toNat
    let sel := s.get F.CCE_SEL_LOOP
    (HostMay s (Reg.CCE_LCTL y) v.toNat → y = 511 → Gives (.cceLctlWrite z v) s fun t => t = { s with status := 0x01 }) ∧
    (HostMay s (Reg.CCE_LCTL y) v.toNat → y ≠ 511 → Gives (.cceLctlWrite z v) s fun t => t.status = 0 ∧
      t.get (F.CCE_LCTL_MODE y) = (if v.toNat % 4 = 3 then s.get (F.CCE_LCTL_MODE y) else v.toNat % 4) ∧
      t.get (F.CCE_LCTL_FEOPEN y) = v.toNat / 4 % 2 ∧ t.get (F.CCE_LCTL_SPSEL y) = v.toNat / 8 % 2 ∧
      t.get (F.CCE_LCTL_ICSET y) = v.toNat / 16 % 64 ∧ t.get (F.CCE_LCTL_OCSET y) = v.toNat / 1024 % 64 ∧
      t.get (F.CCE_LCTL_CURVE y) = v.toNat / 65536 % 256 ∧ t.emode y = s.emode y) ∧
    (HostMay s Reg.CCE_CMD 1 → spWf (fun _ => none) s.cce.staged = true → Gives .cceCmdCommit s fun t => t.status = 0 ∧ t.cce.staged = [] ∧
      ∀ a, t.rd a = (spGet (fun _ => none) s.cce.staged a).getD (s.rd a)) ∧
    (HostMay s Reg.CCE_CMD 2 → (s.loop sel).feh = true → Gives .cceCmdFeclr s fun t => t.status = 0 ∧ (t.loop sel).feh = false ∧
      (t.loop sel).ofeh = false ∧ (t.loop sel).pre = true) ∧
    (HostMay s Reg.CCE_CMD 4 → Gives .cceCmdDlirst s fun t => t.status = 0 ∧ t.mem = s.mem ∧ t.loop sel = { s.loop sel with dliRst := true } ∧
      ∀ j, j ≠ sel → t.loop j = s.loop j)

/-! ## Seams (chapter 6) -/

/-- R27, R170, R172, R173, R184, R185, R199, R253: what a seam's IN tells the module, a time stamp being the capture less the receiver's 36
ns: a frame that is no frame or fails HCRC is counted invalid; a slot that fails SCRC is counted; a return field stands in the node table;
link, LOST and SLOW states follow.
Where a clause rests on a reading or a choice of the model's, it is that of assumption logs 27, 28, 29, 51 and 58. -/
def Obligations.SeamReception : Prop :=
  ∀ (s : State) (n : BitVec 5) (i : BitVec 12) (sof : Nat) (bs : List (BitVec 8)),
    let m := n.toNat
    let x := i.toNat
    let got := readFrame (s.ns / 1000000000 / 4294967296) (bs.map (·.toNat))
    let hears := s.flag (F.SEA_CTL_ENABLE m) = true ∧ s.inRunQuiet = true
    (hears → (∀ r, got = some r → r.hcrcOk = false) → Gives (.seamFrameReceived n sof bs) s fun t =>
      t.get (F.SEA_ERR_INVAL m) = min (s.get (F.SEA_ERR_INVAL m) + 1) 0xFFFF ∧ t.rdTime (Reg.SEA_LAST_S_LO m) = (sof - 36) % (2 ^ 48 * 1000000000) ∧
        ∀ a, a ≠ Reg.SEA_ERR m → a ≠ Reg.SEA_LAST_S_LO m → a ≠ Reg.SEA_LAST_S_LO m + 4 → a ≠ Reg.SEA_LAST_S_LO m + 8 → t.rd a = s.rd a) ∧
    (∀ r sl, hears → got = some r → r.hcrcOk = true → r.digestOk = true → r.h.typ = ftIdle → r.h.wrap = false → r.slots = [sl] →
      s.flag (F.SEA_CTL_TOPO m) = false → crc8 (sl.take (sl.length - 1)) ≠ sl.getLastD 0 → Gives (.seamFrameReceived n sof bs) s fun t =>
        t.get (F.SEA_ERR_SCRC m) = min (s.get (F.SEA_ERR_SCRC m) + 1) 0xFFFF ∧ t.get (F.SEA_ERR_INVAL m) = s.get (F.SEA_ERR_INVAL m) ∧
          t.get (F.NT_SCRCERR (m * 128)) = min (s.get (F.NT_SCRCERR (m * 128)) + 1) 0xFF ∧ t.sens = s.sens ∧
          (s.rateOk 0x306 (m * 128) 1000000000 = true → Journalled s t 0x306 (m * 128) [m])) ∧
    (∀ r ret crc, hears → got = some r → r.hcrcOk = true → r.digestOk = true → r.h.typ = ftIdle → r.h.wrap = false → r.slots = [ret ++ [crc]] →
      ret.length = 8 → crc8 ret = crc → ret ≠ List.replicate 8 0xFF → s.flag (F.SEA_CTL_TOPO m) = false → s.paired = false →
      s.get (F.NT_STATE (m * 128)) = 1 → ret.getD 0 0 = 2 → Gives (.seamFrameReceived n sof bs) s fun t =>
        t.get (F.NT_FWVER (m * 128)) = (ret.getD 4 0 * 256 + ret.getD 5 0) % 65536 ∧
          t.rd (nodeAddr (m * 128) 5) = BitVec.ofNat 32 (Crypto.ofBytes (ret.take 4)) ∧
          t.rd (nodeAddr (m * 128) 6) = BitVec.ofNat 32 (Crypto.ofBytes (ret.drop 4)) ∧ (t.nslot (m * 128)).last = some s.ns ∧
          (ret.getD 2 0 * 256 + ret.getD 3 0 ≠ 0x8000 → (t.lum (m * 128)).tAt = some (sof - 36))) ∧
    (s.flag (F.SEA_CTL_ENABLE m) = true → Gives (.seamSignalLost n) s fun t => t.flag (F.SEA_STAT_LINK m) = false ∧
      Journalled s t 0x30B (m * 128) [m]) ∧
    (s.flag (F.SEA_CTL_ENABLE m) = true → Gives (.seamLinkLock n) s fun t => t.flag (F.SEA_STAT_LINK m) = true ∧
      ∀ a, a ≠ Reg.SEA_STAT m → t.rd a = s.rd a) ∧
    (s.get (F.NT_STATE x) = 1 ∨ s.get (F.NT_STATE x) = 2 ∨ s.get (F.NT_STATE x) = 3 → s.flag (F.SEA_CTL_ENABLE (x / 128)) = true →
      s.flag (F.SEA_CTL_INJECT (x / 128)) = true → ((s.nslot x).last.getD 0) + 50 * (s.sea.fperUs * 1000) ≤ s.ns →
      (s.nslot x).since + 50 * (s.sea.fperUs * 1000) ≤ s.ns → Gives (.seaNodeLost i) s fun t => t.get (F.NT_STATE x) = 4 ∧
        (t.nslot x).back = s.get (F.NT_STATE x) ∧ Journalled s t 0x310 x [x / 128]) ∧
    (∀ since, (s.nslot x).slowOk = some since → s.get (F.NT_STATE x) = 3 →
      (since + 60000000000 ≤ s.ns → Gives (.slowClear i) s fun t => t.get (F.NT_STATE x) = 1 ∧
        ∀ j, j ≠ x → t.get (F.NT_STATE j) = s.get (F.NT_STATE j)) ∧
      (s.ns < since + 60000000000 → Gives (.slowClear i) s fun t => t = s))

/-- R175, R182, R189, R190, R191, R195, R196: in an open auxiliary window a due SYNC is sent, and before it no outstanding frame is resent;
the outstanding control frame is resent under its number when it fits the window, refused with NOKEY when the key under which it is tagged
may not be used, and abandoned after the last resend; ENUM and census are asked for; GO queues the host's CONFIG frame.
Where a clause rests on a reading or a choice of the model's, it is that of assumption logs 27, 29 and 51. -/
def Obligations.SeamControlFrames : Prop :=
  ∀ (s : State) (n : BitVec 5) (c : CtlOut),
    let m := n.toNat
    let x := s.seam m
    let due := c.sentAt + s.get F.SEA_RESEND_INTV * (s.sea.fperUs * 1000) ≤ s.ns
    let k := s.get (F.SEA_CFGTGT_N m)
    let sync := x.syncSec < s.ns / 1000000000 ∧ s.auxFits (s.auxFrom m) 32 = true
    (s.sends = true → s.auxOpen m = true → x.syncSec < s.ns / 1000000000 → s.auxFits (s.auxFrom m) 32 = true → s.get F.SEA_KEY_SLOT = 0 →
      x.enumReq = none →
      x.queue = [] → s.sea.img = none → Gives (.auxWindow n) s fun t => ∃ b, t.out = s.out ++ [.seamFrame m (s.auxFrom m) b] ∧
        b.length = 64 ∧ b.take 1 = [0xFB] ∧ b.getD 1 0 / 16 = 6 ∧ b.getD 2 0 = m ∧ b.drop 48 = List.replicate 16 0 ∧
        t.get (F.SEA_SEQ_SEQ m) = (s.get (F.SEA_SEQ_SEQ m) + 1) % 2 ^ 32 ∧ (t.seam m).syncSec = s.ns / 1000000000 ∧
        (t.seam m).reseq = false ∧ (t.seam m).stepped = false) ∧
    (x.outst = some c → due → c.resends < s.get F.SEA_RESEND_RETRY → s.auxOpen m = true → s.auxFits (s.auxFrom m) (c.bytes.length - 32) = true →
      c.key = 0 → s.sends = true → ¬ sync → x.enumReq = none → (c.kind = .image → s.imgUsed m + 200 * c.bytes.length ≤ 200000000) →
        Gives (.controlFrameResend n) s fun t =>
      t.out = s.out ++ [.seamFrame m (s.auxFrom m) c.bytes] ∧ t.mem = s.mem ∧
        (t.seam m).outst = some { c with resends := c.resends + 1, sentAt := s.gridAt s.ns }) ∧
    (sync → s.get F.SEA_KEY_SLOT = 0 → Gives (.controlFrameResend n) s fun t => t = s) ∧
    (c.key ≠ 0 → s.keyFor c.key 0 = none → ¬ sync → x.enumReq = none → x.outst = some c → due → c.resends < s.get F.SEA_RESEND_RETRY →
      s.auxOpen m = true → s.auxFits (s.auxFrom m) (c.bytes.length - 32) = true → c.kind ≠ .image → Gives (.controlFrameResend n) s fun t =>
      t.out = s.out ∧ t.flag (F.SEA_STAT_NOKEY m) = true ∧ (t.seam m).outst = some c) ∧
    (x.outst = some c → due → s.get F.SEA_RESEND_RETRY ≤ c.resends → Gives (.seaResendFail n) s fun t => (t.seam m).outst = none ∧
      t.flag (F.SEA_STAT_CFGBUSY m) = false ∧ Journalled s t 0x307 (m * 128) [c.seq, c.waiting.length, c.waiting.headD 0] ∧
      (c.kind = .host → t.flag (F.SEA_CFGCMD_FAIL m) = true ∧ t.flag (F.SEA_CFGCMD_OK m) = false ∧ t.flag (F.SEA_CFGCMD_BUSY m) = false)) ∧
    (s.inRunQuiet = true → s.get F.SEA_CENSUS_SEC ≠ 0 → s.ns / 1000000000 % s.get F.SEA_CENSUS_SEC = 0 →
      s.sea.censusSec ≠ s.ns / 1000000000 → Gives .census s fun t => t.mem = s.mem ∧ t.sea.censusSec = s.ns / 1000000000 ∧ ∀ j, j < 32 →
        (t.seam j).enumReq = if s.flag (F.SEA_CTL_ENABLE j) then some ((s.seam j).enumReq == some true) else (s.seam j).enumReq) ∧
    (HostMay s (Reg.SEA_CMD m) 1 → Gives (.seaCmdEnum n) s fun t => t.status = 0 ∧ t.mem = s.mem ∧ (t.seam m).enumReq = some true) ∧
    (HostMay s (Reg.SEA_CMD m) 2 → Gives (.seaCmdCensus n) s fun t => t.status = 0 ∧ t.mem = s.mem ∧
      (t.seam m).enumReq = some (x.enumReq == some true)) ∧
    (HostMay s (Reg.SEA_CFGCMD m) 1 → s.flag (F.SEA_CFGCMD_BUSY m) = false → 1 ≤ k → k ≤ 4 → Gives (.seaCfgcmdGo n) s fun t => t.status = 0 ∧
      t.flag (F.SEA_CFGCMD_BUSY m) = true ∧ ∃ q, (t.seam m).queue = x.queue ++ [q] ∧ q.target = s.get (F.SEA_CFGTGT_TARGET m) ∧
        q.items.length = k ∧ ∀ j (h : j < q.items.length), q.items[j].param = s.get (F.SEA_CFGP_PARAM m j) ∧
          q.items[j].index = s.get (F.SEA_CFGP_INDEX m j) ∧ q.items[j].value = s.get (F.SEA_CFGV_VALUE m j))

/-- R162, R177, R182, R183, R184, R186, R188, R206: the host's writes of the seam registers: SEA_CTL, a frame period or lead that is accepted or
refused with its event, their taking effect at the next TAI second, the SEA_CFG registers, ACCEPT and LDLY of a node entry.
Where a clause rests on a reading or a choice of the model's, it is that of assumption log 29. -/
def Obligations.SeamHostWrites : Prop :=
  ∀ (s : State) (n : BitVec 5) (i : BitVec 12) (v : Word),
    let m := n.toNat
    let x := i.toNat
    let w := v.toNat
    let f := w % 2 ^ 17
    let d := w % 2 ^ 19
    let leadOk := s.get F.SEA_LEADMIN_NS < d * 1000 ∧ d ≤ 3 * s.sea.fperUs ∧ d ≤ 3 * s.get F.SEA_FPER_US
    (HostMay s (Reg.SEA_CTL m) w → s.disagree (Reg.SEA_CTL m) = [] → Gives (.seaCtlWrite n v) s fun t => t.status = 0 ∧
      t.get (F.SEA_CTL_ENABLE m) = w % 2 ∧
      t.get (F.SEA_CTL_INJECT m) = w / 2 % 2 ∧ t.get (F.SEA_CTL_TOPO m) = w / 4 % 2 ∧ (w % 2 = 0 → t.flag (F.SEA_STAT_LINK m) = false) ∧
      (w % 2 = 1 → s.flag (F.SEA_CTL_ENABLE m) = false → (∀ p, p < 128 → s.get (F.NT_NODEID (m * 128 + p)) = 0) → (t.seam m).enumReq = some true)) ∧
    (HostMay s Reg.SEA_FPER w → s.fperOk f = true → Gives (.seaFperWrite v) s fun t => t.status = 0 ∧ t.get F.SEA_FPER_US = f ∧
      t.sea = { s.sea with fperAt := s.ns } ∧ ∀ a, a ≠ Reg.SEA_FPER → t.rd a = s.rd a) ∧
    (HostMay s Reg.SEA_FPER w → f < 1000 ∨ 100000 < f ∨ 1000000 % f ≠ 0 ∨ 3 * f < s.sea.leadUs → Gives (.seaFperWrite v) s fun t => t.status = 0 ∧
      t.get F.SEA_FPER_US = s.get F.SEA_FPER_US ∧ t.sea = s.sea ∧ OnlyRecordWords s t ∧ Journalled s t 0x30F 0 [0]) ∧
    (s.sea.fperAt / 1000000000 < s.ns / 1000000000 → Gives .framePeriodChange s fun t =>
      t.sea.fperUs = s.get F.SEA_FPER_US ∧
        t = { s with sea := { s.sea with fperUs := t.sea.fperUs, fperWas := t.sea.fperWas, fperFrom := t.sea.fperFrom } } ∧
        (s.get F.SEA_FPER_US ≠ s.sea.fperUs → t.sea.fperWas = s.sea.fperUs ∧ t.sea.fperFrom = s.ns - s.ns % 1000000000)) ∧
    (HostMay s Reg.SEA_LEAD w → leadOk → Gives (.seaLeadWrite v) s fun t => t.status = 0 ∧ t.get F.SEA_LEAD_US = d ∧
      t.sea = { s.sea with leadAt := s.ns } ∧ ∀ a, a ≠ Reg.SEA_LEAD → t.rd a = s.rd a) ∧
    (HostMay s Reg.SEA_LEAD w → ¬ leadOk → Gives (.seaLeadWrite v) s fun t => t.status = 0 ∧ t.get F.SEA_LEAD_US = s.get F.SEA_LEAD_US ∧
      t.sea = s.sea ∧ OnlyRecordWords s t ∧ Journalled s t 0x308 0 [0]) ∧
    (s.sea.leadAt / 1000000000 < s.ns / 1000000000 →
      Gives .leadChange s fun t => t = { s with sea := { s.sea with leadUs := s.get F.SEA_LEAD_US } }) ∧
    (∀ (a : BitVec 8) (c : Nat), cfgMask a.toNat = some c → HostMay s (Reg.SEA_CTL m + a.toNat) w → s.flag (F.SEA_CFGCMD_BUSY m) = false →
      Gives (.seaCfgWrite n a v) s fun t => t.status = 0 ∧ t.rd (Reg.SEA_CTL m + a.toNat) = BitVec.ofNat 32 (w &&& c) ∧
        ∀ y, y ≠ Reg.SEA_CTL m + a.toNat → t.rd y = s.rd y) ∧
    (HostMay s (nodeAddr x 3) 0x80000000 → s.get (F.NT_STATE x) = 2 → Gives (.nodeAccept i) s fun t => t.status = 0 ∧
      t.get (F.NT_STATE x) = 1 ∧ t.get (F.NT_POSA x) = s.get (F.NT_POSA x) ∧ ∀ j, j ≠ x → t.get (F.NT_STATE j) = s.get (F.NT_STATE j)) ∧
    (HostMay s (nodeAddr x 2) w → Gives (.nodeLdlyWrite i v) s fun t => t.status = 0 ∧ t.get (F.NT_LDLY x) = w % 1024 ∧
      t.get (F.NT_CAP x) = s.get (F.NT_CAP x) ∧ (x % 128 < s.get (F.SEA_NODES_COUNT (x / 128)) →
        ∃ q ∈ (t.seam (x / 128)).queue, q.target = x % 128 ∧ q.items.head?.map (·.value) = some (w % 1024)))

/-! ## The time base (chapter 9) -/

/-- R253, R255, R256, R257, R260: a Sync of the selected master, stamped on the medium by the PHY's latency, steers TBU_FREQ by the servo law, or asks
for a step beyond TBU_STEPTH, which waits where a step is in progress; 16 good offsets lock; a two-step Sync waits for its Follow_Up; a Delay_Req and
its answer give one measurement of d, with the latest Sync received.
Where a clause rests on a reading or a choice of the model's, it is that of assumption logs 7, 15 and 30. -/
def Obligations.ServoFollowsTheMaster : Prop :=
  ∀ (s : State) (h : PtpHdr) (t1 t2 t3 t4 seq : Nat) (li : Int), h.bad = false → s.ptpTakes h = true → s.tbu.sel = some h.port →
    let u : Int := 840 * 131072
    let asym : Int := s.sget F.TBU_ASYM_NS * 65536
    let gbe (eth2 : Bool) := s.flag (if eth2 then F.HAP_STAT_GBE2 else F.HAP_STAT_GBE1)
    let rx (eth2 : Bool) := s.get (if gbe eth2 then F.TBU_PHY1G_RX else F.TBU_PHY100_RX)
    let tx (eth2 : Bool) := s.get (if gbe eth2 then F.TBU_PHY1G_TX else F.TBU_PHY100_TX)
    let m2 := t2 - rx h.eth2
    let delay (x : PtpSync) (t3 t4 : Nat) (corr : Int) : Int := ((x.t2 : Int) - x.t1) * 65536 - x.corr + (((t4 : Int) - t3) * 65536 - (corr - asym))
    let lim (l x : Int) := if x < -l then -l else if l < x then l else x
    (∀ m, s.mpd = some m →
      let o : Int := (((m2 : Int) - t1) * 65536 - (h.corr + asym)) * 1680 - m
      let within := o.natAbs ≤ s.get F.TBU_STEPTH_NS * (840 * 131072)
      let l : Int := s.get F.TBU_SLEWMAX_PPB * (u * 256)
      let i := lim l (s.tbu.i + s.get F.TBU_SERVO_KI * o)
      let y := lim l (-(s.get F.TBU_SERVO_KP * o + i))
      (s.flag F.TBU_CTL_SERVO = true → s.flag F.TBU_STAT_SRC = false → s.isStandby = false → within → s.get F.TBU_SLEWMAX_PPB ≤ 1000000 →
        s.tbu.slew = none →
        Gives (.ptpSyncReceived h false t1 t2 li) s fun t => t.tbu.i = i ∧
          (2 * (t.sget F.TBU_FREQ_FREQ * (256 * u * 1000000000) - y * 34359738368)).natAbs ≤ 256 * (840 * 131072) * 1000000000 ∧
          t.get F.TBU_RXCNT_SYNC = (s.get F.TBU_RXCNT_SYNC + 1) % 65536 ∧ t.ns = s.ns) ∧
      (s.flag F.TBU_CTL_SERVO = true → s.flag F.TBU_STAT_SRC = false → s.isStandby = false → ¬ within → s.tbu.step.isSome = true →
        Gives (.ptpSyncReceived h false t1 t2 li) s fun t => t.flag F.TBU_STAT_STEPPING = true ∧ t.tbu.step = s.tbu.step ∧
          t.tbu.stepNext.isSome = true) ∧
      (s.flag F.TBU_CTL_SERVO = true → s.flag F.TBU_STAT_SRC = false → s.isStandby = false → ¬ within → s.tbu.step = none →
        Gives (.ptpSyncReceived h false t1 t2 li) s fun t => t.flag F.TBU_STAT_STEPPING = true ∧ t.tbu.i = s.tbu.i ∧
          t.sget F.TBU_FREQ_FREQ = s.sget F.TBU_FREQ_FREQ ∧ ∃ d : Int, ((d + 1) * u + o).natAbs ≤ 840 * 131072 ∧
            (t.tbu.step = some { cause := 1, delta := some d } ∨ t.tbu.step = some { cause := 1, delta := some (d + 1) })) ∧
      (∀ k : Int, o = u * k → -0x80000000 ≤ k → k < 0x80000000 → Gives (.ptpSyncReceived h false t1 t2 li) s fun t =>
        t.sget F.TBU_OFFSET_NS = k) ∧
      (s.tbState = 0 → s.tbu.good = 15 → s.tbu.step = none → s.flag F.TBU_CTL_SERVO = true → within →
        o.natAbs ≤ s.get F.TBU_LOCKTH_NS * (840 * 131072) → Gives (.ptpSyncReceived h false t1 t2 li) s fun t => t.tbState = 1 ∧
          (s.rateOk 0x901 0 1000000000 = true → Journalled s t 0x901 0 []))) ∧
    (s.tbState ≠ 2 → Gives (.ptpSyncReceived h true t1 t2 li) s fun t =>
      t.tbu.waiting = some (h.seq, { t1 := t1, t2 := m2, corr := h.corr + asym, eth2 := h.eth2 }) ∧ t.tbu.syncAt = some s.ns ∧
        t.sget F.TBU_FREQ_FREQ = s.sget F.TBU_FREQ_FREQ) ∧
    (∀ x, s.tbu.waiting = some (h.seq, x) → Gives (.followUpReceived h t1) s fun t => t.tbu.waiting = none ∧
      t.tbu.sync = some { x with t1 := t1, corr := x.corr + h.corr } ∧ t.get F.TBU_RXCNT_SYNC = (s.get F.TBU_RXCNT_SYNC + 1) % 65536) ∧
    (∀ x q, s.tbu.waiting = some (h.seq, x) → s.tbu.dreq = some q → q.awaits = some h.seq →
      let y : PtpSync := { x with t1 := t1, corr := x.corr + h.corr }
      (∀ c, q.resp = some (t4, c) → 0 ≤ delay y q.t3 t4 c → Gives (.followUpReceived h t1) s fun t => t.tbu.dreq = none ∧
        t.tbu.ds = (delay y q.t3 t4 c :: s.tbu.ds).take 8) ∧
      (q.resp = none → Gives (.followUpReceived h t1) s fun t => t.tbu.dreq = some { q with sync := y, awaits := none })) ∧
    (∀ x, s.tbu.sync = some x → s.inRunQuiet = true →
      let tag := if s.flag F.HAP_CTL_VLANEN = true then some (s.get F.HAP_CTL_VID, s.get F.HAP_CTL_PCP) else none
      let sent (y : PtpSync) (q : Option Nat) (t : State) := t.out = s.out ++ [.delayReq tag seq] ∧
        t.tbu = { s.tbu with dreq := some { seq := seq, t3 := t3 + tx y.eth2, sync := y, awaits := q } } ∧
        t.get F.TBU_ERRCNT_DELAY = if s.tbu.dreq.isSome then min (s.get F.TBU_ERRCNT_DELAY + 1) 0xFFFF else s.get F.TBU_ERRCNT_DELAY
      (s.tbu.waiting = none → Gives (.delayReqSend seq t3) s (sent x none)) ∧
      (∀ y q, s.tbu.waiting = some (q, y) → x.t2 ≤ y.t2 → Gives (.delayReqSend seq t3) s (sent y (some q)))) ∧
    (∀ q, s.tbu.dreq = some q → q.seq = h.seq →
      let d := delay q.sync q.t3 t4 h.corr
      (q.awaits.isSome = true → Gives (.delayRespReceived h t4 li) s fun t => t.tbu = { s.tbu with dreq := some { q with resp := some (t4, h.corr) } }) ∧
      (q.awaits = none → 0 ≤ d → Gives (.delayRespReceived h t4 li) s fun t => t.tbu = { s.tbu with dreq := none, ds := (d :: s.tbu.ds).take 8 } ∧
        (∀ k : Nat, s.tbu.ds = [] → d = 131072 * k → k < 2 ^ 31 → t.sget F.TBU_MPD_NS = k)) ∧
      (q.awaits = none → d < 0 → Gives (.delayRespReceived h t4 li) s fun t => t.tbu = { s.tbu with dreq := none } ∧
        t.get F.TBU_ERRCNT_DELAY = min (s.get F.TBU_ERRCNT_DELAY + 1) 0xFFFF))

/-- R254, R257, R258: a master that qualifies is selected and its values are reported; the Announce and Sync receipt timeouts take LOCKED to HOLDOVER
with the mean of the trim where the module's own servo steers, and the holdover limit ends it in FREERUN.
Where a clause rests on a reading or a choice of the model's, it is that of assumption logs 7, 16 and 30. -/
def Obligations.MastersAndHoldover : Prop :=
  ∀ (s : State) (h : PtpHdr) (a : AnnData) (m : PtpMaster) (since : Nat) (f : Int),
    let mean := s.tbu.freqs = [(since, f)] ∧ since + 64000000000 ≤ s.ns ∧ -34359738 ≤ f ∧ f ≤ 34359738
    let steers := s.flag F.TBU_CTL_SERVO = true ∧ s.flag F.TBU_STAT_SRC = false ∧ s.isStandby = false
    let held (t : State) := t.tbState = 2 ∧ t.tbu.holdAt = some s.ns ∧ (steers → s.tbu.slew = none → t.sget F.TBU_FREQ_FREQ = f) ∧
      (¬ steers → t.sget F.TBU_FREQ_FREQ = s.sget F.TBU_FREQ_FREQ) ∧
      (s.rateOk 0x902 0 1000000000 = true → Journalled s t 0x902 0 [2])
    (h.bad = false → s.ptpTakes h = true → s.tbu.masters = [m] → m.port = h.port → a.steps < 255 → s.ns ≤ m.last + 4 * logNs a.logInt →
      a.gm < 2 ^ 64 → Gives (.announceReceived h a) s fun t => t.tbu.sel = some h.port ∧ t.gmId = a.gm ∧
        t.get F.TBU_GMQ_CLASS = a.cls % 256 ∧ t.get F.TBU_GMQ_ACC = a.acc % 256 ∧ t.get F.TBU_GMQ_STEPS = a.steps ∧
        t.flag F.TBU_STAT_LEAP61 = a.leap61 ∧ t.flag F.TBU_STAT_LEAP59 = a.leap59 ∧ t.flag F.TBU_STAT_UTCVALID = a.utcValid ∧
        t.flag F.TBU_STAT_TRACE = a.trace ∧ t.sget F.TBU_UTCOFF_SEC = s.sget F.TBU_UTCOFF_SEC ∧
        (s.gmId ≠ a.gm → t.flag F.TBU_STAT_GMCHG = true ∧ t.tbState ≠ 1)) ∧
    (s.tbu.masters = [m] → s.tbu.sel = some m.port → s.tbState = 1 → m.last + s.get F.TBU_ANNTO_COUNT * logNs m.data.logInt ≤ s.ns → mean →
      Gives .announceTimeout s fun t => held t ∧ t.tbu.sel = none ∧ t.tbu.masters = []) ∧
    (∀ at_, s.tbu.syncAt = some at_ → s.tbState = 1 → at_ + 4 * logNs (s.sget F.TBU_INTV_SYNC) ≤ s.ns → mean →
      Gives .syncTimeout s fun t => held t ∧ t.tbu.sel = s.tbu.sel) ∧
    (∀ at_, s.tbu.holdAt = some at_ → s.tbState = 2 → s.get F.TBU_HOLDMAX_SEC ≤ (s.ns - at_) / 1000000000 → Gives .tbuHoldend s fun t =>
      t.tbState = 0 ∧ t.sget F.TBU_FREQ_FREQ = s.sget F.TBU_FREQ_FREQ ∧ (s.rateOk 0x908 0 1000000000 = true → Journalled s t 0x908 0 []))

/-- R253, R259, R263, R264, R437, R451: the transparent clock adds a message's residence between the media of its ports, in HOLD too, and
the UDP checksum follows it; a standby measures TBU_XOFF from a time mark; reading the first word of a pair captures its partners; TBU_CTL
with SERVO = 0 returns to FREERUN and TBU_RATE.
Where a clause rests on a reading or a choice of the model's, it is that of assumption logs 12 and 30. -/
def Obligations.TransparentClockAndTimeMarks : Prop :=
  ∀ (s : State) (corr : Int) (ev two : Bool) (i e mark stamp : Nat) (sum : BitVec 16) (v a : Word),
    (s.flag F.HAP_CTL_CHAIN = true → s.mode = .run ∨ s.mode = .quiet ∨ s.mode = .hold →
      Gives (.ptpTransit { corr := corr, sum := sum } ev { fromEth2 := two, stamp := i } e) s fun t =>
      let gbe (eth2 : Bool) := s.flag (if eth2 then F.HAP_STAT_GBE2 else F.HAP_STAT_GBE1)
      let rx := s.get (if gbe two then F.TBU_PHY1G_RX else F.TBU_PHY100_RX)
      let tx := s.get (if gbe (!two) then F.TBU_PHY1G_TX else F.TBU_PHY100_TX)
      let c : Int := corr + (((e : Int) + tx) - ((i : Int) - rx)) * 65536
      if s.flag F.TBU_CTL_TCEN = true ∧ ev = true then
        t.get F.TBU_TCCNT_COUNT = (s.get F.TBU_TCCNT_COUNT + 1) % 2 ^ 32 ∧ ∃ k, k < 65536 ∧ t.out = s.out ++ [.ptpForward c k] ∧
          (sum = 0 → k = 0) ∧ (sum ≠ 0 → k ≠ 0 ∧ (k + ofSigned 64 c) % 65535 = (sum.toNat + ofSigned 64 corr) % 65535)
      else t = { s with out := s.out ++ [.ptpForward corr sum.toNat] }) ∧
    (let x : Int := (stamp : Int) - mark - s.get F.XLK_LDLY_NS
     s.isStandby = true → -0x80000000 ≤ x → x < 0x80000000 → Gives (.timeMarkReceived mark stamp) s fun t =>
       t.sget F.TBU_XOFF_NS = x ∧ t.flag F.TBU_STAT_SRC = true ∧ t.tbu.step = s.tbu.step ∧ (x.natAbs ≤ 100 → t.tbu.xoffSince = none) ∧
         (100 < x.natAbs → s.tbu.xoffSince = none → t.tbu.xoffSince = some s.ns)) ∧
    (HostMay s Reg.TBU_CTL v.toNat → Gives (.tbuCtlWrite v) s fun t => t.status = 0 ∧ t.get F.TBU_CTL_SERVO = v.toNat % 2 ∧
      t.get F.TBU_CTL_TCEN = v.toNat / 2 % 2 ∧ t.get F.TBU_CTL_IPV4 = v.toNat / 4 % 2 ∧ t.get F.TBU_CTL_IPV6 = v.toNat / 8 % 2 ∧
      t.get F.TBU_CTL_DOMAIN = v.toNat / 256 % 128 ∧ (v.toNat % 2 = 1 → t.tbState = s.tbState) ∧ (v.toNat % 2 = 0 → t.tbState = 0 ∧
        ((s.sget F.TBU_RATE_RATE).natAbs ≤ 34359738 → (s.tbu.slew = none → t.sget F.TBU_FREQ_FREQ = s.sget F.TBU_RATE_RATE) ∧
          (∀ w, s.tbu.slew = some w → t.tbu.slew.map (·.base) = some (s.sget F.TBU_RATE_RATE))))) ∧
    (s.inRunQuiet = true → partnersOf a.toNat ≠ 0 → Gives (.pairFirstWordRead a) s fun t => t.status = 0 ∧ t.mem = s.mem ∧
      t.rdata = [s.peek a.toNat] ∧ ∀ k, k < partnersOf a.toNat →
        spGet (fun _ => none) t.hap.sess0.snaps (a.toNat + 4 * (k + 1)) = some (s.peek (a.toNat + 4 * (k + 1))))

/-- R266, R269, R270, R280, R415: CAP captures the time; SET asks for a step and SLEW runs the trim by TBU_SLEWMAX until |TBU_ADJ| is made
up, both refused with their event while the servo steers or an adjustment is in progress, and on a standby; UTCARM arms the staged offset, with its
leap notice at once when
that is due, and the armed offset takes effect, after a leap notice when it moves by 1 s.
Where a clause rests on a reading or a choice of the model's, it is that of assumption logs 30 and 52. -/
def Obligations.TimeBaseCommands : Prop :=
  ∀ (s : State) (w : UtcArm),
    let adj := s.sget F.TBU_ADJ_NS
    let busy := s.flag F.TBU_CTL_SERVO = true ∨ s.isStandby = true ∨ s.tbu.step ≠ none ∨ s.tbu.slew ≠ none
    let base := s.sget F.TBU_FREQ_FREQ
    let refused (t : State) := t.status = 0 ∧ t.flag F.TBU_STAT_REFUSED = true ∧ t.tbu = s.tbu ∧
      (s.rateOk 0x906 0 1000000000 = true → Journalled s t 0x906 0 [])
    (HostMay s Reg.TBU_CMD 1 → Gives .tbuCmdCap s fun t => t.status = 0 ∧ t.rdTime Reg.TBU_CAP_S_LO = s.ns % (2 ^ 48 * 1000000000) ∧ t.ns = s.ns) ∧
    (HostMay s Reg.TBU_CMD 2 → busy → Gives .tbuCmdSet s refused) ∧
    (HostMay s Reg.TBU_CMD 2 → ¬ busy → Gives .tbuCmdSet s fun t => t.status = 0 ∧ t.flag F.TBU_STAT_STEPPING = true ∧ t.ns = s.ns ∧
      t.tbu = { s.tbu with step := some { cause := 2, delta := none } }) ∧
    (∀ b ∈ [(Instr.tbuCmdSet, 2), (.tbuCmdSlew, 4)], s.inRunQuiet = true → s.isStandby = true → Gives b.1 s fun t => t.status = 0x15 ∧
      t.flag F.TBU_STAT_REFUSED = true ∧ t.tbu = s.tbu) ∧
    (HostMay s Reg.TBU_CMD 4 → busy → Gives .tbuCmdSlew s refused) ∧
    (HostMay s Reg.TBU_CMD 4 → ¬ busy → adj ≠ 0 → 1 ≤ s.get F.TBU_SLEWMAX_PPB → base.natAbs + s.get F.TBU_SLEWMAX_PPB * 35 ≤ 34359738 →
      Gives .tbuCmdSlew s fun t =>
        let r := t.sget F.TBU_FREQ_FREQ - base
        t.status = 0 ∧ t.flag F.TBU_STAT_STEPPING = true ∧ (0 < r ↔ 0 < adj) ∧
          (2 * ((r.natAbs : Int) * 1000000000 - s.get F.TBU_SLEWMAX_PPB * 34359738368)).natAbs ≤ 1000000000 ∧
          t.tbu.slew = some { by_ := r, base := base, left := adj.natAbs * 34359738368, at_ := s.ns }) ∧
    (∀ w, s.tbu.slew = some w →
      let gone := (base - w.base).natAbs * (s.ns - w.at_)
      (w.left ≤ gone → w.base.natAbs ≤ 34359738 → Gives .slewComplete s fun t => t.sget F.TBU_FREQ_FREQ = w.base ∧
        t.flag F.TBU_STAT_STEPPING = s.tbu.step.isSome ∧ t.tbu.slew = none) ∧
      (gone < w.left → Gives .slewComplete s fun t => t = s)) ∧
    (HostMay s Reg.TBU_CMD 8 → s.tbu.utcArm = some w → w.noticed = true → Gives .tbuCmdUtcarm s refused) ∧
    (HostMay s Reg.TBU_CMD 8 → s.tbu.utcArm = none ∨ (s.tbu.utcArm = some w ∧ w.noticed = false) → Gives .tbuCmdUtcarm s fun t =>
      let d := toSigned 16 (getBits (s.stagedWord Reg.TBU_UTCOFF) 0 16) - s.sget F.TBU_UTCOFF_SEC
      t.status = 0 ∧ t.flag F.TBU_STAT_ARMED = true ∧ t.sget F.TBU_UTCOFF_SEC = s.sget F.TBU_UTCOFF_SEC ∧ ∃ x, t.tbu.utcArm = some x ∧
        (x.noticed = true ↔ (d = 1 ∨ d = -1) ∧ x.at_ ≤ s.ns + 500000000) ∧
        t.rtc.leap = (if x.noticed then some (decide (d = -1), x.at_ - 500000000) else s.rtc.leap) ∧
          x.offset = toSigned 16 (getBits (s.stagedWord Reg.TBU_UTCOFF) 0 16) ∧
        x.at_ = if s.ns < s.rdTime Reg.TBU_UTCAT_S_LO then s.rdTime Reg.TBU_UTCAT_S_LO else (s.ns / 1000000000 + 1) * 1000000000) ∧
    (s.tbu.utcArm = some w → w.at_ ≤ s.ns → -32768 ≤ w.offset → w.offset < 32768 → Gives .utcOffsetChange s fun t =>
      t.sget F.TBU_UTCOFF_SEC = w.offset ∧ t.flag F.TBU_STAT_ARMED = false ∧ t.tbu.utcArm = none ∧
        spGet (fun _ => none) t.basted Reg.TBU_UTCOFF = none ∧ (w.offset = s.sget F.TBU_UTCOFF_SEC → OnlyTouches s t [Reg.TBU_STAT]) ∧
        (w.offset ≠ s.sget F.TBU_UTCOFF_SEC → s.rateOk 0x905 0 1000000000 = true → Journalled s t 0x905 0 [] ∧ (s.acts = true →
          t.rd (jnlAddr (s.get F.JNL_WPTR_NUM) + 24) = BitVec.ofNat 32 (ofSigned 32 (s.sget F.TBU_UTCOFF_SEC)) ∧
          t.rd (jnlAddr (s.get F.JNL_WPTR_NUM) + 28) = BitVec.ofNat 32 (ofSigned 32 w.offset)))) ∧
    (s.tbu.utcArm = some w → w.offset - s.sget F.TBU_UTCOFF_SEC = 1 ∨ w.offset - s.sget F.TBU_UTCOFF_SEC = -1 → w.noticed = false →
      w.at_ ≤ s.ns + 500000000 → Gives .leapNotice s fun t => t.mem = s.mem ∧ t.tbu.utcArm = some { w with noticed := true } ∧
        t.rtc.leap = some (decide (w.offset < s.sget F.TBU_UTCOFF_SEC), w.at_ - 500000000))

/-- R19, R25, R260: a frame start is the next instant of the frame grid whose steps are not yet done, and is done once; nothing starts in
HOLD or KEEP; Fr of a requested step is a frame start; at Fs the time base takes Fs + Δ (for SET, the time staged then), STEPPED and VALID
are set, and no solve is in progress.
Where a clause rests on a reading or a choice of the model's, it is that of assumption logs 1 and 30. -/
def Obligations.FrameStartsAndTimeStep : Prop :=
  ∀ (s : State) (r : StepReq), 0 < s.sea.fperUs →
    let p := s.sea.fperUs * 1000
    let solo := s.inRunQuiet = true ∧ s.role = roleSolo ∧ s.xlk.swapAt = none
    let started (t : State) := ∃ f, t.lastFrame = some f ∧ s.lastFrame ≠ some f ∧ f % p = 0 ∧ f ≤ s.ns + p ∧ s.ns < f + p
    let f := s.nextFrame
    let d : Int := r.delta.getD (((if r.cause = 2 then s.stagedTime Reg.TBU_SET_S_LO else r.target) : Int) - f)
    (solo → s.tbu.step = none → Gives .frameStart s started) ∧
    (s.inRunQuiet = false → Gives .frameStart s fun t => t = s) ∧
    (solo → s.tbu.step = some r → r.fr = none → r.done = false → Gives .stepBegin s started) ∧
    (solo → s.tbu.step = some r → r.done = false → r.fr.map (fun x => decide (x + s.sea.leadUs * 1000 ≤ f)) = some true → s.ns ≤ f →
      s.sea.fperAt / 1000000000 = f / 1000000000 → s.sea.leadAt / 1000000000 = f / 1000000000 → 0 ≤ (f : Int) + d → Gives .timeStep s fun t =>
        (t.ns : Int) = f + d ∧ t.frac = 0 ∧ t.flag F.TBU_STAT_STEPPED = true ∧ t.flag F.TBU_STAT_VALID = true ∧ t.sme.latch = none ∧
          t.sea.sentAt = none ∧ t.rdTime Reg.TBU_STEPAT_S_LO = ((f : Int) + d).toNat % (2 ^ 48 * 1000000000) ∧
          (t.tbu.step.map fun x => x.done) = some true ∧ t.lastFrame = some (t.ns - t.ns % p))

/-! ## Calendar clock (chapter 10) -/

/-- R274, R275, R276, R277, R278, R281, R284, R290: staging, COMMIT and its application (taken, an increment in the same RTC
cycle discarded, rejected whole, or refused while the discipline is active),
DISCNOW, a read of RTC_TIME and the writes of an alarm's registers.
Where a clause rests on a reading or a choice of the model's, it is that of assumption logs 12 and 31. -/
def Obligations.CalendarSetting : Prop :=
  ∀ (s : State) (v : Word) (sub : BitVec 15) (n : BitVec 1) (k : BitVec 2),
    let w := v.toNat
    let m := n.toNat
    let tw := if s.flag F.RTC_STGTIME_TSTG then s.rd Reg.RTC_STGTIME else s.rd Reg.RTC_TIME
    let dw := if s.flag F.RTC_STGTIME_DSTG then s.rd Reg.RTC_STGDATE else s.rd Reg.RTC_DATE
    let mask := if k = 0 then 0x073F7F7F else if k = 1 then 0x00001F3F else 0x000F1FFF
    let a := Reg.RTC_ATIME m + 4 * k.toNat
    (HostMay s Reg.RTC_DATE w → Gives (.rtcStageWrite true v) s fun t => t.status = 0 ∧ t.flag F.RTC_STGTIME_DSTG = true ∧
      t.rd Reg.RTC_STGDATE = BitVec.ofNat 32 (w &&& 0xFFFF1F3F) ∧ t.rd Reg.RTC_DATE = s.rd Reg.RTC_DATE ∧ t.rd Reg.RTC_TIME = s.rd Reg.RTC_TIME) ∧
    (HostMay s Reg.RTC_TIME w → Gives (.rtcStageWrite false v) s fun t => t.status = 0 ∧ t.flag F.RTC_STGTIME_TSTG = true ∧
      t.get F.RTC_STGTIME_TIME = (w &&& 0x003F7F7F) ∧ t.rd Reg.RTC_DATE = s.rd Reg.RTC_DATE ∧ t.rd Reg.RTC_TIME = s.rd Reg.RTC_TIME) ∧
    (HostMay s Reg.RTC_CMD 1 → Gives .rtcCmdCommit s fun t => t = { s with rtc := { s.rtc with commit := true }, status := 0 }) ∧
    (s.rtc.commit = true → s.rtc.held = none → s.discActive = true → Gives .rtcCommitApply s fun t => t.rtc.commit = false ∧
      t.flag F.RTC_STAT_SETREF = true ∧
      t.flag F.RTC_STAT_CMDDONE = false ∧ t.rd Reg.RTC_STGTIME = 0 ∧ t.rd Reg.RTC_STGDATE = 0 ∧ t.rd Reg.RTC_TIME = s.rd Reg.RTC_TIME ∧
      t.rd Reg.RTC_DATE = s.rd Reg.RTC_DATE ∧ Journalled s t 0x916 0 []) ∧
    (s.rtc.commit = true → s.rtc.held = none → s.discActive = false → calRead tw dw = none → Gives .rtcCommitApply s fun t => t.rtc.commit = false ∧
      t.flag F.RTC_STAT_DATEINV = true ∧ t.flag F.RTC_STAT_CMDDONE = false ∧ t.rd Reg.RTC_STGTIME = 0 ∧ t.rd Reg.RTC_STGDATE = 0 ∧
      t.rd Reg.RTC_TIME = s.rd Reg.RTC_TIME ∧ t.rd Reg.RTC_DATE = s.rd Reg.RTC_DATE ∧ Journalled s t 0x911 0 []) ∧
    (∀ b, s.rtc.commit = true → (∀ c, s.rtc.held = some c → s.mode ≠ .keep ∧ s.ns < c + 30517) → s.discActive = false → calRead tw dw = some b →
      s.flag (F.RTC_ACTL_EN 0) = false → s.flag (F.RTC_ACTL_EN 1) = false →
      Gives .rtcCommitApply s fun t => t.rtc.commit = false ∧ t.rtc.held = none ∧ t.flag F.RTC_STAT_CMDDONE = true ∧ t.flag F.RTC_STAT_VALID = true ∧
        t.flag F.RTC_STAT_LEAPHOLD = false ∧ t.rd Reg.RTC_TIME = calTime b ∧ t.rd Reg.RTC_DATE = calDate b ∧ t.get F.RTC_SUBSEC_COUNT = 0 ∧
        t.rdTime Reg.RTC_SETAT_S_LO = s.ns % (2 ^ 48 * 1000000000) ∧ t.rd Reg.RTC_STGTIME = 0 ∧ t.rd Reg.RTC_STGDATE = 0) ∧
    (∀ c, HostMay s Reg.RTC_CMD 2 → s.rtc.cmpAt = some c → Gives .rtcCmdDiscnow s fun t => t.status = 0 ∧ t.mem = s.mem ∧
      t.rtc = { s.rtc with nowAt := some ((s.ns / 1000000000 + 1) * 1000000000) }) ∧
    (s.inRunQuiet = true → Gives (.rtcTimeRead sub) s fun t => t.status = 0 ∧ t.mem = s.mem ∧ t.rdata = [s.rd Reg.RTC_TIME] ∧
      t.rtc = { s.rtc with snapDate := some (s.rd Reg.RTC_DATE), snapSub := some (BitVec.ofNat 32 sub.toNat) }) ∧
    (HostMay s a w → k.toNat < 3 → alarmBad k.toNat w = false → Gives (.rtcAlarmWrite n k v) s fun t => t.status = 0 ∧
      t.rd a = BitVec.ofNat 32 (w &&& mask) ∧ ∀ x, x ≠ a → t.rd x = s.rd x) ∧
    (HostMay s a w → alarmBad k.toNat w = true → Gives (.rtcAlarmWrite n k v) s fun t => t.status = 0 ∧ t.flag F.RTC_STAT_DATEINV = true ∧
      ∀ x, x ≠ Reg.RTC_STAT → t.rd x = s.rd x)

/-- R277, R279, R280, R281, R282: a second increment in the RTC cycle of a commit is discarded, and one that comes while a commit is on its way
waits for it to the end of its RTC cycle; any other moves the calendar by one second,
by two at a negative leap and not at all at a positive one; an enabled alarm that compares nothing fires; the calendar stops at the end of
its range.
Where a clause rests on a reading or a choice of the model's, it is that of assumption logs 12 and 31. -/
def Obligations.CalendarSecond : Prop :=
  ∀ (s : State) (l at_ : Nat) (neg : Bool),
    (∀ c, s.rtc.takenAt = some c → s.ns < c + 30517 → s.mode ≠ .keep → Gives .rtcSecond s fun t =>
      t = { s with rtc := { s.rtc with takenAt := none } }) ∧
    ((∀ c, s.rtc.takenAt = some c → c + 30517 ≤ s.ns) → s.mode ≠ .keep → s.rtc.commit = true → s.rtc.held = none → Gives .rtcSecond s fun t =>
      t.rtc = { s.rtc with held := some s.ns, subAt := s.ns } ∧ t.get F.RTC_SUBSEC_COUNT = 0 ∧ ∀ a, a ≠ Reg.RTC_SUBSEC → t.rd a = s.rd a) ∧
    ((∀ c, s.rtc.takenAt = some c → c + 30517 ≤ s.ns) → s.mode = .run → s.rtc.commit = false → s.rtc.held = none →
      s.flag F.RTC_STAT_RANGEEND = false → s.flag (F.RTC_ACTL_EN 1) = false →
    calRead (s.rd Reg.RTC_TIME) (s.rd Reg.RTC_DATE) = some l →
    let silent := s.flag (F.RTC_ACTL_EN 0) = false
    let shows (t : State) (x : Nat) := t.rd Reg.RTC_TIME = calTime x ∧ t.rd Reg.RTC_DATE = calDate x
    (s.rtc.leap = none → l + 1 < calSeconds → silent → Gives .rtcSecond s fun t => shows t (l + 1) ∧ t.get F.RTC_SUBSEC_COUNT = 0 ∧
      t.flag F.RTC_STAT_LEAPHOLD = false ∧ ∀ a, a ≠ Reg.RTC_TIME → a ≠ Reg.RTC_DATE → a ≠ Reg.RTC_SUBSEC → a ≠ Reg.RTC_STAT → t.rd a = s.rd a) ∧
    (s.rtc.leap = none → l + 1 < calSeconds → s.flag (F.RTC_ACTL_EN 0) = true → s.get (F.RTC_ACTL_MASK 0) = 0 → Gives .rtcSecond s fun t =>
      shows t (l + 1) ∧ bit (t.get F.RTC_STAT_ALM) 0 = true ∧ Journalled s t 0x912 0 [0, (calDate (l + 1)).toNat, (calTime (l + 1)).toNat] ∧
        (s.acts = true → s.flag (F.RTC_ACTL_SIGEN 0) = true →
          let b := s.get (F.RTC_ACTL_BOBBIN 0)
          (t.bob b).hostPend = (s.bob b).hostPend ||| BitVec.ofNat 16 (2 ^ s.get (F.RTC_ACTL_SIGBIT 0)))) ∧
    (s.rtc.leap = some (neg, at_) → at_ ≤ s.ns → neg = true → l + 2 < calSeconds → silent → Gives .rtcSecond s fun t => shows t (l + 2) ∧
      t.rtc.leap = none ∧ t.flag F.RTC_STAT_LEAPDONE = true ∧ Journalled s t 0x913 0 [if l % 86400 = 86398 then 1 else 3]) ∧
    (s.rtc.leap = some (neg, at_) → at_ ≤ s.ns → neg = false → Gives .rtcSecond s fun t => t.rd Reg.RTC_TIME = s.rd Reg.RTC_TIME ∧
      t.rd Reg.RTC_DATE = s.rd Reg.RTC_DATE ∧ t.rtc.leap = none ∧ t.flag F.RTC_STAT_LEAPDONE = true ∧ t.flag F.RTC_STAT_LEAPHOLD = true ∧
      Journalled s t 0x913 0 [if l % 86400 = 86399 then 0 else 2]) ∧
    (s.rtc.leap = none → l + 1 = calSeconds → Gives .rtcSecond s fun t => t.flag F.RTC_STAT_RANGEEND = true ∧
      t.rd Reg.RTC_TIME = s.rd Reg.RTC_TIME ∧ t.rd Reg.RTC_DATE = s.rd Reg.RTC_DATE ∧ Journalled s t 0x914 0 []))

/-- R287, R288, R289, R290, R291: a temperature step adds the crystal error at a curve point to the accumulator and schedules cycles; scheduled cycles
are counted one by one; a comparison does nothing, slews or steps by |D|; the age update takes at most 800 into RTC_AGE.
Where a clause rests on a reading or a choice of the model's, it is that of assumption logs 7 and 31. -/
def Obligations.CalendarCompensation : Prop :=
  ∀ (s : State) (r : BitVec 16) (i : Fin 33) (sub : BitVec 15) (c u : Nat),
    let x := s.rtc
    let d : Int := (s.calNow * 1000000000 * 32768 + sub.toNat * 1000000000 : Nat) - ((u * 1000000000 + s.ns % 1000000000) * 32768 : Nat)
    let fresh := s.ns < x.ageFrom + 86400000000000
    let compares := s.discActive = true ∧ x.cmpAt = some c ∧ c ≤ s.ns ∧ s.utcCal = some u ∧ x.leap = none ∧ x.skipTo ≤ s.ns
    (r.toInt = 64 * i.val - 640 → s.flag F.RTC_CTL_COMP = true → Gives (.rtcTempRead (some r)) s fun t =>
      let n := t.rtc.sched - x.sched
      t.sget F.RTC_TEMP_T = r.toInt ∧ t.flag F.RTC_STAT_TSENS = false ∧ t.flag F.RTC_TEMP_TVALID = true ∧ t.rtc.temp = r.toInt ∧
        t.rtc.acc = x.acc + 64 * (x.curve[i] + s.sget F.RTC_AGE_AGE) + 1953125 * n ∧ n.natAbs ≤ 256 ∧
        (n.natAbs < 256 → t.rtc.acc.natAbs < 1953125)) ∧
    Gives (.rtcTempRead none) s (fun t => t.flag F.RTC_STAT_TSENS = true ∧ t.flag F.RTC_TEMP_TVALID = false ∧ t.rtc.temp = x.temp ∧
      (s.rateOk 0x917 0 3600000000000 = true → Journalled s t 0x917 0 [])) ∧
    (fresh → x.sched < 0 → Gives .rtcCycleAdjust s fun t => t.rtc = { x with sched := x.sched + 1 } ∧
      t.get F.RTC_ADJ_REM = (s.get F.RTC_ADJ_REM + 1) % 65536 ∧ t.get F.RTC_ADJ_INS = s.get F.RTC_ADJ_INS) ∧
    (fresh → 0 < x.sched → Gives .rtcCycleAdjust s fun t => t.rtc = { x with sched := x.sched - 1 } ∧
      t.get F.RTC_ADJ_INS = (s.get F.RTC_ADJ_INS + 1) % 65536 ∧ t.get F.RTC_ADJ_REM = s.get F.RTC_ADJ_REM) ∧
    (fresh → x.sched = 0 → 0 < x.slew → Gives .rtcCycleAdjust s fun t => t.rtc.slew = x.slew - 1 ∧
      t.get F.RTC_ADJ_INS = (s.get F.RTC_ADJ_INS + 1) % 65536 ∧ (t.flag F.RTC_STAT_SLEWING = true ↔ x.slew ≠ 1)) ∧
    (compares → d.natAbs < 61000 * 32768 → Gives (.rtcDisciplineCompare sub) s fun t => t.rtc.slew = 0 ∧ t.flag F.RTC_STAT_SLEWING = false ∧
      t.rd Reg.RTC_TIME = s.rd Reg.RTC_TIME ∧ t.rd Reg.RTC_DATE = s.rd Reg.RTC_DATE) ∧
    (compares → 61000 * 32768 ≤ d.natAbs → d.natAbs ≤ 2000000000 * 32768 → Gives (.rtcDisciplineCompare sub) s fun t =>
      (2 * (t.rtc.slew * 1000000000 + d)).natAbs ≤ 1000000000 ∧ t.flag F.RTC_STAT_SLEWING = true ∧
        t.rd Reg.RTC_TIME = s.rd Reg.RTC_TIME ∧ t.rd Reg.RTC_DATE = s.rd Reg.RTC_DATE) ∧
    (compares → 2000000000 * 32768 < d.natAbs → s.flag (F.RTC_ACTL_EN 0) = false → s.flag (F.RTC_ACTL_EN 1) = false →
      Gives (.rtcDisciplineCompare sub) s fun t => t.rtc.slew = 0 ∧ t.flag F.RTC_STAT_VALID = true ∧ t.flag F.RTC_STAT_DSTEP = true ∧
        t.rd Reg.RTC_TIME = calTime u ∧ t.rd Reg.RTC_DATE = calDate u ∧ t.rdTime Reg.RTC_SETAT_S_LO = s.ns % (2 ^ 48 * 1000000000) ∧
        Journalled s t 0x915 0 []) ∧
    (s.flag F.RTC_CTL_AGEAUTO = true → s.discActive = true → x.ageFrom + 86400000000000 ≤ s.ns → (s.sget F.RTC_AGE_AGE).natAbs ≤ 1000000 →
      Gives .rtcAgeUpdate s fun t => (t.sget F.RTC_AGE_AGE - s.sget F.RTC_AGE_AGE).natAbs ≤ 800 ∧ t.rtc.ageSum = 0 ∧ t.rtc.ageFrom ≤ s.ns ∧
        s.ns < t.rtc.ageFrom + 86400000000000 ∧ (x.ageSum = 0 → t.sget F.RTC_AGE_AGE = s.sget F.RTC_AGE_AGE))

/-! ## Metering (chapter 11) -/

/-- R298, R299, R302, R304, R305, R306, R310, R313, R317: a sample joins its channel's sum of squares; a cycle locks within the range of
FNOM, adds its energy to the import or export total by sign and starts the next; an interval boundary takes the totals as the next
interval's base; ACCRST needs its confirmation and MTR_INTV a divisor of an hour.
Where a clause rests on a reading or a choice of the model's, it is that of assumption logs 32, 53 and 54. -/
def Obligations.MeteringCyclesAndIntervals : Prop :=
  ∀ (s : State) (at_ : Nat) (raw alt : List Int) (c k : Nat) (settled : Bool) (hz : List (BitVec 32)) (conf : BitVec 16) (v : Word),
    let x := s.mch c
    let acc (y : State) (key : Nat) := spGet (fun _ => 0) y.mtr.acc key
    let b := s.ns / 1000000000 * 1000000000
    let w := v.toNat % 4096
    (s.inRunQuiet = true → 4 ≤ c → c < 28 → s.flag (F.MTR_CCTL_EN c) = true → s.flag (F.MTR_CCTL_FIXED c) = false →
      s.flag (F.MTR_CCTL_INTEG c) = false → s.calAux c % 65536 = 0 → (raw.getD c 0).natAbs ≤ 8388607 → x.want = none →
      let y := raw.getD c 0 * s.fullScale c * (64 / 4 ^ s.get (F.MTR_CSTAT_GAIN c) : Nat)
      Gives (.mtrSample at_ raw alt) s fun t => t.mtr.n = s.mtr.n + 1 ∧ (t.mch c).sq = x.sq + y.natAbs * y.natAbs ∧
        (t.mch c).peak = (if x.peak.natAbs < y.natAbs then y else x.peak) ∧ (t.mch c).wave = y :: x.wave) ∧
    (s.inRunQuiet = true → s.mtr.n ≠ 0 →
     let line := (hz.map (·.toNat)).getD s.pllInput 0
     let lo := if s.mtr.fnom60 then 55 * 65536 else 45 * 65536
     let lock := settled && decide (lo ≤ line ∧ line ≤ lo + 655360)
     Gives (.mtrCycleEnd at_ settled hz) s fun t => t.mtr.n = 0 ∧ t.mtr.from_ = at_ ∧
      t.flag F.MTR_STAT_FLOCK = lock ∧ (lock = true → t.get F.MTR_FREQ_HZ = line) ∧ (lock = false → t.mtr.nolock = true ∧
        t.get F.MTR_FREQ_HZ = if s.mtr.fnom60 then 3932160 else 3276800) ∧ (c < 28 → (t.mch c).sq = 0 ∧ (t.mch c).e = 0) ∧
      (k < 8 → s.isStandby = false → s.circMapped k = true → s.circChans k = [c, 0, 0] → 4 ≤ c → c < 28 →
        acc t (k * 16) = acc s (k * 16) + (if 0 ≤ x.e then x.e.natAbs else 0) ∧
        acc t (k * 16 + 1) = acc s (k * 16 + 1) + (if 0 ≤ x.e then 0 else x.e.natAbs))) ∧
    (s.inRunQuiet = true → s.isBoundary b s.mtr.intv = true → s.mtr.start < b → Gives .intervalBoundary s fun t => t.mtr.start = b ∧
      t.mtr.base = t.mtr.acc ∧ t.rdTime Reg.MTR_INTST_S_LO = b % (2 ^ 48 * 1000000000) ∧ t.mtr.accrst = false ∧ t.mtr.own = [] ∧
      t.mtr.reset = s.mtr.accrst ∧ (k < 8 → s.circMapped k = true → t.flag (F.MTR_KSTAT_ZEROE k) = decide (s.delta k 0 = 0))) ∧
    (HostMay s Reg.MTR_CMD (1 + conf.toNat * 65536) → Gives (.mtrCmdAccrst conf) s fun t =>
      t = { s with status := 0, mtr := { s.mtr with accrst := s.mtr.accrst || decide (conf = 0x4D52) } }) ∧
    (HostMay s Reg.MTR_INTV v.toNat → w ≠ 0 → 3600 % w = 0 → Gives (.mtrIntvWrite v) s fun t => t.status = 0 ∧ t.get F.MTR_INTV_SEC = w ∧
      t.mtr = s.mtr ∧ ∀ a, a ≠ Reg.MTR_INTV → t.rd a = s.rd a) ∧
    (HostMay s Reg.MTR_INTV v.toNat → w = 0 ∨ 3600 % w ≠ 0 → Gives (.mtrIntvWrite v) s fun t => t.status = 0 ∧ t.flag F.MTR_STAT_INTVREF = true ∧
      t.get F.MTR_INTV_SEC = s.get F.MTR_INTV_SEC ∧ Journalled s t 0x607 0 [])

/-! ## Sensor radio (chapter 12) -/

/-- R339, R341, R343, R346, R347, R350, R353: a rally starts with its BEACON; a wake slot opens with SERVE; LET repeats it; a slot without a reply is
missed and the second makes the node DRIFTED; a valid REPLY makes it ACTIVE; the recovery window calls a DRIFTED node; the last call makes it LOST.
Where a clause rests on a reading or a choice of the model's, it is that of assumption logs 12, 18, 34 and 55. -/
def Obligations.RadioRallyAndWakeSlots : Prop :=
  ∀ (s : State) (i : BitVec 10) (r at_ : Nat) (rssi : BitVec 8) (psdu : List (BitVec 8)) (e : RExch) (f g : RFrame) (c : Bool) (root key : List Nat),
    let n := i.toNat
    let x := s.rnode n
    let t0 := r + s.get (F.RT_SLOT n) * 2500000
    let width := s.get (F.RT_W n) * 2500000
    let rlist := s.nodeRoots f.src
    (s.role = roleSolo → s.radioOn = true → s.sru.cfgAt = none → s.rallyNow = r → s.sru.rally ≠ some r → (∀ j, s.calling j = false) →
      s.keyFor (s.get F.SRU_KEY_BCAST) 2 = some key → s.airOk r (s.slotChan r) (s.rcfg.frameUs 14) = true → s.sru.bfc < 0xFFFFFFFF →
        Gives .rallyStart s fun t =>
        t.sru.rally = some r ∧ t.rdTime Reg.SRU_RLYST_S_LO = r % (2 ^ 48 * 1000000000) ∧ t.sru.split = false ∧
          ∃ b l, t.out = s.out ++ .radioFrame (s.slotChan r) r (s.sendPower (s.slotChan r)) b :: l) ∧
    (s.sru.rally = some r → s.radioOn = true → s.get (F.RT_STATE n) = rsActive → x.served ≠ some r → t0 ≤ s.ns → s.ns < t0 + width →
      s.guardOver n = false → s.servesSlot (s.get (F.RT_SLOT n)) = true → s.get (F.RT_TXFC n) < 0xFFFFFFFF → (s.nodeRootOf n).isSome = true →
      s.airOk t0 (s.slotChan t0) (s.rcfg.frameUs (8 + (s.nextCmd n).length)) = true → Gives (.wakeSlot i) s fun t =>
        t.get (F.RT_TXFC n) = s.get (F.RT_TXFC n) + 1 ∧ t.get F.SRU_SERVES_COUNT = (s.get F.SRU_SERVES_COUNT + 1) % 2 ^ (F.SRU_SERVES_COUNT).width ∧
          (t.rnode n).served = some r ∧ (∃ y, (t.rnode n).ex = some y ∧ y.t0 = t0 ∧ y.own = true ∧ y.recover = false ∧ y.letSent = false) ∧
          ∃ b, t.out = s.out ++ [.radioFrame (s.slotChan t0) t0 (s.sendPower (s.slotChan t0)) b]) ∧
    (let lt := e.txEnd + (900 + s.rcfg.frameUs (s.get (F.RT_RLEN n))) * 1000
     x.ex = some e → e.own = true → e.recover = false → e.letSent = false → s.radioOn = true → lt ≤ s.ns → s.get (F.RT_TXFC n) < 0xFFFFFFFF →
      (s.nodeRootOf n).isSome = true → s.airOk lt (s.slotChan e.t0) (s.rcfg.frameUs e.payload.length) = true → Gives (.letTimeout i) s fun t =>
        t.get (F.RT_TXFC n) = s.get (F.RT_TXFC n) + 1 ∧
          t.get (F.RT_LETS n) = min (s.get (F.RT_LETS n) + 1) (2 ^ (F.RT_LETS n).width - 1) ∧
          (∃ y, (t.rnode n).ex = some y ∧ y.letSent = true ∧ y.msg = e.msg ∧ y.payload = e.payload) ∧
          ∃ b, t.out = s.out ++ [.radioFrame (s.slotChan e.t0) lt (s.sendPower (s.slotChan e.t0)) b]) ∧
    (x.ex = some e → e.recover = false → e.t0 + width ≤ s.ns → s.acts = true → (e.own = true → e.letSent = true) → s.guardOver n = false →
      (s.get (F.RT_MISS n) = 0 → Gives (.wakeSlotMissed i) s fun t => t.get (F.RT_MISS n) = 1 ∧ (t.rnode n).ex = none ∧
        t.get (F.RT_STATE n) = s.get (F.RT_STATE n)) ∧
      (1 ≤ s.get (F.RT_MISS n) → Gives (.wakeSlotMissed i) s fun t => t.get (F.RT_STATE n) = rsDrifted ∧ t.get (F.RT_CALLS n) = 0 ∧
        (t.rnode n).ex = none ∧ Journalled s t 0x703 n [n, s.get (F.RT_NODEID n)])) ∧
    (s.radioOn = true → parseFrame (psdu.map (·.toNat)) = none → Gives (.replyReceived at_ rssi psdu) s fun t =>
      t.get F.SRU_RXERR_FCS = min (s.get F.SRU_RXERR_FCS + 1) (2 ^ (F.SRU_RXERR_FCS).width - 1) ∧ t.sens = s.sens ∧ OnlyTouches s t [Reg.SRU_RXERR]) ∧
    (s.radioOn = true → parseFrame (psdu.map (·.toNat)) = some f → f.typ = 3 → f.dst = s.get F.SRU_ADDR_ADDR → s.entryOf f.src = some n →
      s.get (F.RT_STATE n) = rsActive → x.ex = some e → e.own = true → e.msg = f.msg → x.lastMsg ≠ some f.msg → x.rekey = none → s.sru.img = none →
      at_ - s.rcfg.latencyUs * 1000 ≤ e.txEnd + (800 + s.rcfg.shrUs) * 1000 → (c = x.copy → x.hist = true → s.get (F.RT_RXFC n) < f.fc) →
      (c ≠ x.copy → ∀ o, x.rxOther = some o → o < f.fc) →
      rlist = [(c, root)] → f.open_ (nodeEpochKey root (s.get (F.RT_EPOCH n))) = some g → Gives (.replyReceived at_ rssi psdu) s fun t =>
        t.get (F.RT_STATE n) = rsActive ∧ t.get (F.RT_MISS n) = 0 ∧ t.get (F.RT_CALLS n) = 0 ∧ t.get (F.RT_RXFC n) = f.fc % 2 ^ 32 ∧
          t.get (F.RT_RSSI n) = rssi.toNat ∧ (t.rnode n).ex = none ∧ (t.rnode n).lastMsg = some f.msg ∧ (t.rnode n).copy = c ∧
            (t.rnode n).hist = true) ∧
    (let w := s.rcfg
     let reps := s.get F.SRU_WAKE_WREP
     let ct := r + (w.slots - w.recov) * 2500000
     s.sru.rally = some r → s.radioOn = true → s.acts = true → s.sru.recovered ≠ some r → ct ≤ s.ns →
      (s.nextCall = none → Gives .recoveryWindow s fun t => t = { s with sru := { s.sru with recovered := some r, call := none } }) ∧
      (∀ j, s.nextCall = some j → s.airOk ct w.wch (7000 * reps) = true → Gives .recoveryWindow s fun t => t.sru.recovered = some r ∧
        t.sru.called = j ∧ s.get (F.RT_STATE j) = rsDrifted ∧ ∃ b l, t.out = s.out ++ .wakeCall w.wch ct (s.sendPower w.wch) b reps :: l ∧
          b.take 4 = [0xAA, 0xAA, 0xB3, 0x8F] ∧ (b.drop 4).take 2 = [s.get (F.RT_WADDR j) / 256, s.get (F.RT_WADDR j) % 256])) ∧
    (x.ex = some e → e.recover = true → e.txEnd + (800 + s.rcfg.shrUs) * 1000 < s.ns → s.get (F.RT_CALLS n) < 255 → Gives (.sruLost i) s fun t =>
      t.get (F.RT_CALLS n) = s.get (F.RT_CALLS n) + 1 ∧ (t.rnode n).ex = none ∧
        (s.get (F.RT_CALLS n) + 1 < s.get F.SRU_WAKE_WMAX → t.get (F.RT_STATE n) = s.get (F.RT_STATE n)) ∧
        (s.get F.SRU_WAKE_WMAX ≤ s.get (F.RT_CALLS n) + 1 → t.get (F.RT_STATE n) = rsLost ∧ Journalled s t 0x705 n [n, s.get (F.RT_NODEID n)]))

/-- R336, R337, R338, R348, R351, R355, R361: a JOIN that verifies gives its node an entry and a wake slot; a flooded frame is remembered
for 60 s, its repeats are counted, and the MIC and counter of a broadcast are checked; a counter near its end begins a rekey; a relayed
reception brings the partner's counter.
Where a clause rests on a reading or a choice of the model's, it is that of assumption logs 17, 18 and 34. -/
def Obligations.RadioJoinAndFlood : Prop :=
  ∀ (s : State) (i : BitVec 10) (at_ k a : Nat) (rssi : BitVec 8) (tx : BitVec 32) (psdu : List (BitVec 8)) (f g : RFrame) (c : Bool) (root : List Nat),
    let n := i.toNat
    let parsed := parseFrame (psdu.map (·.toNat))
    let live := s.sru.seen.filter fun p => decide (s.ns < p.2.2 + 60000000000)
    let known := live.any fun p => p.1 == f.src && p.2.1 == f.msg
    let ep := Crypto.ofBytesLE (f.payload.take 2)
    (s.radioOn = true → parsed = none → Gives (.joinReceived at_ psdu) s fun t =>
      t.get F.SRU_RXERR_FCS = min (s.get F.SRU_RXERR_FCS + 1) (2 ^ (F.SRU_RXERR_FCS).width - 1) ∧ OnlyTouches s t [Reg.SRU_RXERR]) ∧
    (s.radioOn = true → parsed = some f → f.typ = 5 → known = false → s.sru.seen.length < 512 → f.dst = s.get F.SRU_ADDR_ADDR → f.src ≠ 0 →
      f.src < 0xFFFFFFFF → 9 ≤ f.payload.length → s.entryOf f.src = none → s.nodeRoots f.src = [(c, root)] → f.open_ (nodeEpochKey root ep) = some g →
      s.acts = true → s.flag F.SRU_CTL_JOINEN = true → (List.range 1024).find? (fun j => s.get (F.RT_STATE j) == rsFree) = some k →
      s.placeNode k (min 31 (g.payload.getD 6 0)) = some a → a < 2 ^ (F.RT_SLOT k).width → Gives (.joinReceived at_ psdu) s fun t =>
        t.get (F.RT_STATE k) = rsActive ∧ t.get (F.RT_NODEID k) = g.src ∧ t.get (F.RT_SLOT k) = a ∧ t.get (F.RT_RXFC k) = g.fc % 2 ^ 32 ∧
          t.get (F.RT_MISS k) = 0 ∧ (t.rnode k).hist = true ∧ (t.rnode k).copy = c ∧ t.sru.seen = live ++ [(f.src, f.msg, s.ns)]) ∧
    (s.radioOn = true → parsed = some f → f.typ = 4 → known = false → live.length < 512 → f.dst ≠ 0xFFFFFFFF →
      Gives (.floodReceived at_ psdu) s fun t =>
      t.sru.seen = live ++ [(f.src, f.msg, s.ns)] ∧ t.mem = s.mem) ∧
    (∀ key, s.radioOn = true → parsed = some f → f.typ = 4 → known = false → live.length < 512 → f.dst = 0xFFFFFFFF → f.src ≠ 0 → f.src ≠ 0xFFFFFFFF →
      s.keyFor (s.get F.SRU_KEY_BCAST) 2 = some key →
      let newer := ∀ o, spGet (fun _ => none) s.sru.bcastRx f.src = some o → o < f.fc
      ((f.open_ key).isSome = true → newer → Gives (.floodReceived at_ psdu) s fun t => t.sru.seen = live ++ [(f.src, f.msg, s.ns)] ∧ t.mem = s.mem ∧
        spGet (fun _ => none) t.sru.bcastRx f.src = some f.fc) ∧
      (f.open_ key = none ∨ ¬ newer → Gives (.floodReceived at_ psdu) s fun t => t.sru.seen = live ++ [(f.src, f.msg, s.ns)] ∧
        t.get F.SRU_RXERR_MIC = min (s.get F.SRU_RXERR_MIC + 1) (2 ^ (F.SRU_RXERR_MIC).width - 1) ∧ t.sru.bcastRx = s.sru.bcastRx)) ∧
    (s.radioOn = true → parsed = some f → f.typ = 4 → known = true → Gives (.floodReceived at_ psdu) s fun t => t.sru.seen = live ∧
      t.get F.SRU_DUP_DUP = min (s.get F.SRU_DUP_DUP + 1) (2 ^ (F.SRU_DUP_DUP).width - 1)) ∧
    Gives .seenCacheExpiry s (fun t => t = { s with sru := { s.sru with seen := live } }) ∧
    (s.radioOn = true → 2 ≤ s.get (F.RT_STATE n) → (s.rnode n).rekey = none → 0xFFFF0000 ≤ s.get (F.RT_TXFC n) ∨ 0xFFFF0000 ≤ s.get (F.RT_RXFC n) →
      Gives (.sruRekey i) s fun t => t.mem = s.mem ∧ t.rnode n = { s.rnode n with rekey := some ((s.get (F.RT_EPOCH n) + 1) % 65536) }) ∧
    (s.activePaired = true ∨ s.isStandby = true → parsed = some f → f.typ = 3 → s.entryOf f.src = some n → s.get (F.RT_STATE n) ≠ rsActive →
      s.get (F.RT_STATE n) ≠ rsDrifted → Gives (.radioRelayReceived at_ rssi tx psdu) s fun t =>
        t.get (F.RT_TXFC n) = max (s.get (F.RT_TXFC n)) tx.toNat ∧ t.out = s.out ∧ t.sens = s.sens)

/-- R331, R332, R338, R347, R354, R361: radio configuration writes are staged with their change instant or refused, and take effect
together; SRU_TXPWR stores its ceiling at most; DROP, CALL and REKEY act on the selected entry; word 0 of an entry reserves it or frees it.
Where a clause rests on a reading or a choice of the model's, it is that of assumption log 34. -/
def Obligations.RadioHostWrites : Prop :=
  ∀ (s : State) (i : BitVec 10) (k : BitVec 3) (v : Word) (j : Nat),
    let n := i.toNat
    let q := k.toNat
    let w := v.toNat
    let sel := s.get F.SRU_SEL_NODE
    let s1 := s.stage (radioCfgReg q) (radioCfgMask q) w
    let c := s1.rcfgNext
    let modes := if q = 3 then [c.mode, s.rcfg.mode] else [c.mode]
    let p : Int := toSigned 8 (w % 256)
    (HostMay s (radioCfgReg q) w → c.mode = 3 ∨ s.chansOk c modes = false → Gives (.radioConfigWrite k v) s fun t => t.status = 0 ∧
      t.basted = s.basted ∧ t.sru = s.sru ∧ t.flag F.SRU_STAT_CHREF = true ∧ Journalled s t 0x707 0 []) ∧
    (HostMay s (radioCfgReg q) w → 1 ≤ q → q ≤ 4 → c.mode ≠ 3 → s.chansOk c modes = true → 1 ≤ c.rally → c.rally ≤ 600 → 30 ≤ c.opn → 30 ≤ c.recov →
      c.seed ≠ 0 → (s1.plan c).isSome = true → s1.stagedWord (radioCfgReg q) ≠ s.rd (radioCfgReg q) → Gives (.radioConfigWrite k v) s fun t =>
        t.status = 0 ∧ t.mem = s.mem ∧ t.basted = s1.basted ∧ s1.plan c = some t.sru.next ∧ (∀ e ∈ t.sru.nodes, e.2.told = false) ∧
        t.sru = { s.sru with cfgAt := some s.changeAt, cfgSet := s.ns, next := t.sru.next, nodes := t.sru.nodes }) ∧
    (s.inRunQuiet = true → s.sru.cfgAt = some j → j ≤ s.ns → s.placed = [] → Gives .radioConfigChange s fun t => t.sru.cfgAt = none ∧ t.sru.base = j ∧
      ∀ a ∈ [Reg.SRU_CTL, Reg.SRU_RALLY, Reg.SRU_WIN, Reg.SRU_CHAN, Reg.SRU_HOPSEED], t.rd a = s.stagedWord a ∧
        spGet (fun _ => none) t.basted a = none) ∧
    (HostMay s Reg.SRU_TXPWR w → s.variantE = false → Gives (.sruTxpwrWrite v) s fun t => t.status = 0 ∧ t.sget F.SRU_TXPWR_DBM = min 20 p) ∧
    (∀ b, HostMay s Reg.SRU_TXPWR w → s.variantE = true → subBandOf s.rcfg.mode (s.get F.SRU_CHAN_OPCH) = some b → Gives (.sruTxpwrWrite v) s fun t =>
      t.status = 0 ∧ t.sget F.SRU_TXPWR_DBM = min (if b = 4 then 20 else 14) p) ∧
    (HostMay s Reg.SRU_CMD 1 → Gives .sruCmdDrop s fun t => t.status = 0 ∧ t.get (F.RT_STATE sel) = rsFree ∧ t.rnode sel = {} ∧
      ∀ a, a < 16 → t.rd (radioAddr sel a) = resetWord (radioAddr sel a)) ∧
    (HostMay s Reg.SRU_CMD 2 → s.get (F.RT_STATE sel) = rsDrifted → Gives .sruCmdCall s fun t =>
      t = { s with status := 0, sru := { s.sru with call := some sel } }) ∧
    (HostMay s Reg.SRU_CMD 4 → 2 ≤ s.get (F.RT_STATE sel) → (s.rnode sel).rekey = none → Gives .sruCmdRekey s fun t => t.status = 0 ∧ t.mem = s.mem ∧
      t.rnode sel = { s.rnode sel with rekey := some ((s.get (F.RT_EPOCH sel) + 1) % 65536) }) ∧
    (HostMay s (radioAddr n 0) w → s.get (F.RT_STATE n) < 2 → w ≠ 0 → Gives (.radioNodeWrite i 0 v) s fun t => t.status = 0 ∧
      t.get (F.RT_NODEID n) = w ∧ t.get (F.RT_STATE n) = rsReserved) ∧
    (HostMay s (radioAddr n 0) w → s.get (F.RT_STATE n) < 2 → w = 0 → Gives (.radioNodeWrite i 0 v) s fun t => t.status = 0 ∧
      t.get (F.RT_STATE n) = rsFree ∧ t.get (F.RT_NODEID n) = 0) ∧
    (HostMay s (radioAddr n 0) w → 2 ≤ s.get (F.RT_STATE n) → Gives (.radioNodeWrite i 0 v) s fun t => t = { s with status := 0x16 })

/-! ## Key store (chapter 13) -/

/-- R17, R18, R369, R370, R371, R372, R373, R376, R377, R378: CREATE takes the lowest FREE slot; words go to the PENDING copy; DERIVE,
VERIFY, DISCARD, COMMIT, INVALIDATE and DELETE of the selected slot have their effect and result; OPEN can only be cleared, and a copy of it
that disagrees is voted first, the write then losing it (HWWIN), and counted.
Where a clause rests on a reading or a choice of the model's, it is that of assumption logs 6, 12 and 35. -/
def Obligations.KeyStoreCommands : Prop :=
  ∀ (s : State) (auth : Bool) (v : Word) (m : Nat),
    let n := s.get F.KST_SEL_SLOT
    let k := s.kslot n
    let type := s.get F.KST_DEF_TYPE
    let use := s.get F.KST_DEF_USE
    let par := s.get F.KST_DEF_PARENT
    let may (cmd : Nat) := HostMay s Reg.KST_CMD (2 ^ cmd) ∧ (auth = true ∨ s.flag F.KST_CTL_OPEN = true) ∧ s.kstBusy = false
    let live := n ≠ 0 ∧ (k.st = .new ∨ k.st = .active)
    let res (t : State) (code slot cmd : Nat) := t.status = 0 ∧ t.flag F.KST_RES_DONE = true ∧ t.get F.KST_RES_CODE = code ∧
      t.get F.KST_RES_SLOT = slot ∧ t.get F.KST_RES_CMD = cmd
    let others (t : State) := ∀ j, j ≠ n → t.kslot j = s.kslot j
    (may 0 → 1 ≤ m → m < 256 → (s.kslot m).st = .free → (∀ j, 1 ≤ j → j < m → (s.kslot j).st ≠ .free) → (s.kslot par).st = .active →
      (s.kslot par).depth < 3 → 1 ≤ type → type ≤ 5 → (type = 5 → use = 32) → Gives (.kstCmdCreate auth) s fun t => res t 0 m 0 ∧
        t.kslot m = { st := .new, type := type, use := use, parent := par, depth := (s.kslot par).depth + 1 } ∧ ∀ j, j ≠ m → t.kslot j = s.kslot j) ∧
    (may 0 → (∀ j, 1 ≤ j → j < 256 → (s.kslot j).st ≠ .free) → Gives (.kstCmdCreate auth) s fun t => res t 1 0 0 ∧ t.flag F.KST_STAT_FULL = true ∧
      t.kst = s.kst ∧ Journalled s t 0x806 0 []) ∧
    (may 1 → live → k.pend ≠ .empty → kcvOf k.type k.pkey = s.get F.KST_KCVX_KCV → Gives (.kstCmdVerify auth) s fun t => res t 0 n 1 ∧
      t.kslot n = { k with pend := .verified } ∧ others t) ∧
    (may 1 → live → k.pend ≠ .empty → kcvOf k.type k.pkey ≠ s.get F.KST_KCVX_KCV → Gives (.kstCmdVerify auth) s fun t => res t 5 n 1 ∧
      t.kslot n = { k with pend := .failed } ∧ others t ∧ Journalled s t 0x802 n [n]) ∧
    (may 2 → live → k.pend = .verified → Gives (.kstCmdCommit auth) s fun t => t.status = 0 ∧ t.flag F.KST_STAT_CBUSY = true ∧
      t.flag F.KST_RES_DONE = false ∧ t.kslot n = k ∧ ∃ w, t.kst.commit = some ⟨n, w, k.pkey⟩ ∧ getBits w 0 8 = n ∧
        getBits w 16 16 = (s.get F.KST_EPOCH_EPOCH + 1) % 65536) ∧
    (may 3 → n ≠ 0 → Gives (.kstCmdDiscard auth) s fun t => res t 0 n 3 ∧ t.kslot n = { k with pend := .empty, pkey := [], gen := false } ∧
      others t) ∧
    (may 4 → live → Gives (.kstCmdInvalidate auth) s fun t => t.status = 0 ∧ t.kslot n = { k with st := .invalid } ∧ others t ∧
      t.get F.KST_RES_CODE = 0 ∧ t.get F.KST_RES_SLOT = n ∧ t.get F.KST_EPOCH_EPOCH = (s.get F.KST_EPOCH_EPOCH + 1) % 2 ^ (F.KST_EPOCH_EPOCH).width ∧
      t.kst.marks = (List.range 256).filter (fun j => s.isAncestor n j) ∧ (t.flag F.KST_STAT_MARKING = true ↔ t.kst.marks ≠ []) ∧
      Journalled s t 0x803 n [n, t.kst.marks.length]) ∧
    (may 5 → n ≠ 0 → k.st = .invalid ∨ k.st = .orphaned → (∀ j, 1 ≤ j → j < 256 → (s.kslot j).parent = n → (s.kslot j).st = .free) →
      Gives (.kstCmdDelete auth) s fun t => res t 0 n 5 ∧ t.kslot n = {} ∧ others t) ∧
    (∀ key, may 6 → live → k.type ≠ 5 → s.keyFor k.parent 1 = some key → Gives (.kstCmdDerive auth) s fun t => res t 0 n 6 ∧ others t ∧
      t.kslot n = { k with pend := .written, gen := false,
                           pkey := Crypto.hkdf [] key ((s.rds (Reg.KST_INFO 0) 4).flatMap wordBytes) (keyLen k.type) }) ∧
    (HostMay s Reg.KST_KDAT v.toNat → (auth = true ∨ s.flag F.KST_CTL_OPEN = true) → live → k.type ≠ 5 → 4 * s.kst.kptr < keyLen k.type →
      k.pend ≠ .empty → k.pkey.length = keyLen k.type → Gives (.kstKdatWrite auth v) s fun t => t.status = 0 ∧ t.kst.kptr = s.kst.kptr + 1 ∧
        (t.kslot n).pend = .written ∧ (t.kslot n).st = k.st ∧ others t ∧ (t.kslot n).pkey.length = keyLen k.type ∧
        ((t.kslot n).pkey.drop (4 * s.kst.kptr)).take 4 = wordBytes v ∧ (t.kslot n).pkey.take (4 * s.kst.kptr) = k.pkey.take (4 * s.kst.kptr)) ∧
    (HostMay s Reg.KST_KDAT v.toNat → auth = false → s.flag F.KST_CTL_OPEN = false →
      Gives (.kstKdatWrite auth v) s fun t => t = { s with status := 0x14 }) ∧
    (HostMay s Reg.KST_SEL v.toNat → Gives (.kstSelWrite v) s fun t => t.status = 0 ∧ t.get F.KST_SEL_SLOT = v.toNat % 256 ∧
      t.kst = { s.kst with kptr := 0 }) ∧
    (HostMay s Reg.KST_CTL v.toNat → Gives (.kstCtlWrite v) s fun t => t.status = 0 ∧ t.kst = s.kst ∧
      t.flag F.KST_CTL_OPEN = (if s.disagree Reg.KST_CTL = [] then s.flag F.KST_CTL_OPEN && decide (v.toNat % 2 = 1) else s.flag F.KST_CTL_OPEN) ∧
      t.disagree Reg.KST_CTL = [] ∧
      t.get F.GLB_VSCRUB_COUNT = min (s.get F.GLB_VSCRUB_COUNT + (s.disagree Reg.KST_CTL).length) (2 ^ (F.GLB_VSCRUB_COUNT).width - 1))

/-- R373, R377, R380: a commit takes effect with its event, the copies exchanging roles; descendants of an invalidated slot become ORPHANED
one by one; a pair compares its key check values.
Where a clause rests on a reading or a choice of the model's, it is that of assumption log 35. -/
def Obligations.KeyStoreCommitAndMarking : Prop :=
  ∀ (s : State) (c : KCommit) (n : Nat) (l : List Nat) (p : List (BitVec 8 × BitVec 24)),
    let k := s.kslot c.slot
    let partner := p.map fun q => (q.1.toNat, q.2.toNat)
    let same (j : Nat) := s.kcvs.find? (fun q => q.1 == j) = partner.find? (fun q => q.1 == j)
    (s.inRunQuiet = true → s.kst.commit = some c → c.slot ≠ 0 → Gives .kstCommit s fun t => (t.kslot c.slot).st = .active ∧
      (t.kslot c.slot).key = c.key ∧
      (t.kslot c.slot).pend = .empty ∧ (t.kslot c.slot).type = k.type ∧ t.kst.commit = none ∧ t.flag F.KST_STAT_CBUSY = false ∧
      t.get F.KST_EPOCH_EPOCH = (s.get F.KST_EPOCH_EPOCH + 1) % 2 ^ (F.KST_EPOCH_EPOCH).width ∧ (∀ j, j ≠ c.slot → t.kslot j = s.kslot j) ∧
      (c.slot = s.get F.KST_DOMAIN_HOST → t.flag F.KST_CTL_OPEN = false) ∧ Journalled s t 0x801 c.slot [c.slot, kcvOf k.type c.key]) ∧
    (s.inRunQuiet = true → s.kst.marks = n :: l → n ≠ 0 → Gives .orphanMark s fun t => t.kslot n = { s.kslot n with st := .orphaned } ∧
      t.kst.marks = l ∧ (∀ j, j ≠ n → t.kslot j = s.kslot j) ∧ (l = [] → t.flag F.KST_STAT_MARKING = false ∧ t.flag F.KST_RES_DONE = true)) ∧
    (s.isStandby = true → Gives (.kcvCompare p) s fun t => t = { s with out := s.out ++ [.kcvs s.kcvs] }) ∧
    (s.activePaired = true → (∀ j, j < 256 → same j) → Gives (.kcvCompare p) s fun t => t = s) ∧
    (s.activePaired = true → (¬ ∀ j, j < 256 → same j) → Gives (.kcvCompare p) s fun t => t.flag F.KST_STAT_PAIRDIFF = true ∧
      ∃ j, j < 256 ∧ ¬ same j ∧ (∀ i, i < j → same i) ∧ Journalled s t 0x807 j [j])

/-! ## Event queue and journal (chapter 14) -/

/-- R393, R394, R396, R397, R398: a read of EVQ_POP0 returns and removes the oldest readable record, of the highest priority in priority
mode; the banks swap when the draining one is empty, and at SWAP; a requested mode takes effect once the queue is empty; a read of
EVQ_WMSTAT clears it.
Where a clause rests on a reading or a choice of the model's, it is that of assumption log 36. -/
def Obligations.EventQueueReads : Prop :=
  ∀ (s : State) (q : QRec) (rest : List QRec) (v : Word),
    (s.inRunQuiet = true → s.prioMode = false → s.evq.fifo = q :: rest → q.readable = true → Gives .evqPop0Read s fun t => t.status = 0 ∧
      t.rdata = [q.record.w0] ∧ t.evq.fifo = rest ∧ t.rds Reg.EVQ_POP1 7 = q.record.words.drop 1) ∧
    (s.inRunQuiet = true → s.prioMode = true → nextRec true s.draining = some q → Gives .evqPop0Read s fun t => t.status = 0 ∧
      t.rdata = [q.record.w0] ∧ t.draining = s.draining.erase q ∧ t.filling = s.filling ∧ q ∈ s.draining ∧ q.readable = true ∧
      ∀ r ∈ s.draining, r.readable = true → r.prio ≤ q.prio) ∧
    (s.inRunQuiet = true → (∀ r ∈ s.readList, r.readable = false) → Gives .evqPop0Read s fun t => t.status = 0 ∧ t.rdata = [0] ∧ t.evq = s.evq ∧
      t.rds Reg.EVQ_POP1 7 = List.replicate 7 0) ∧
    (s.prioMode = true → s.draining = [] → s.filling ≠ [] → Gives .evqBankSwap s fun t => t.draining = s.filling ∧ t.filling = []) ∧
    (s.draining ≠ [] → Gives .evqBankSwap s fun t => t = s) ∧
    (HostMay s Reg.EVQ_CMD 1 → s.prioMode = true → s.filling ≠ [] → Gives .evqCmdSwap s fun t => t.status = 0 ∧ t.draining = s.filling ∧
      ∃ l, t.filling = s.draining ++ l) ∧
    (HostMay s Reg.EVQ_CTL v.toNat → Gives (.evqCtlWrite v) s fun t => t.status = 0 ∧ t.get F.EVQ_CTL_MODE = v.toNat % 2 ∧ t.evq = s.evq ∧
      t.prioMode = s.prioMode) ∧
    (s.get F.EVQ_CTL_MODE ≠ s.get F.EVQ_STAT_EMODE → s.evq.bank0 = [] → s.evq.bank1 = [] → s.evq.fifo = [] → Gives .evqModeChange s fun t =>
      t.get F.EVQ_STAT_EMODE = s.get F.EVQ_CTL_MODE ∧ t.evq.bank0 = [] ∧ t.evq.bank1 = [] ∧ t.evq.fifo = []) ∧
    (s.readList ≠ [] → Gives .evqModeChange s fun t => t = s) ∧
    (s.inRunQuiet = true → Gives .evqWmstatRead s fun t => t.status = 0 ∧ t.rdata = [s.rd Reg.EVQ_WMSTAT] ∧ t.flag F.EVQ_WMSTAT_WMHIT = false ∧
      t.get F.EVQ_WMSTAT_PEAK = (if s.flag F.EVQ_WMSTAT_WMHIT then s.filling.length % 2 ^ (F.EVQ_WMSTAT_PEAK).width else s.get F.EVQ_WMSTAT_PEAK) ∧
      OnlyTouches s t [Reg.EVQ_WMSTAT])

/-- R399, R401, R402, R526: a read at the journal's cursor returns a good record and advances, or sets BAD or RDERR; a bad record is
repaired from the partner's copy or replaced by JNL_RECLOST; a scrub pass runs once for each 24 hours; REWIND goes to a mark or to the
oldest record; a mark is written.
Where a clause rests on a reading or a choice of the model's, it is that of assumption log 37. -/
def Obligations.JournalReadsAndRepairs : Prop :=
  ∀ (s : State) (n : BitVec 32) (m : BitVec 3) (oldest : Bool) (v : Word) (r : EvRec) (pt : Option EvRec) (l : List (BitVec 32 × EvRec)),
    let c := s.get F.JNL_CUR_NUM
    let wp := s.get F.JNL_WPTR_NUM
    let k := n.toNat
    let pair := s.activePaired = true ∨ s.isStandby = true
    let valid := bit (s.get F.JNL_MSTAT_VALID) m.toNat = true ∧ bit (s.get F.JNL_MSTAT_LOST) m.toNat = false
    (s.inRunQuiet = true → c ≠ wp → s.jnlHas c = true → (s.jnlRec c).crcOk = true → Gives .jnlRd0Read s fun t => t.status = 0 ∧
      t.rdata = [(s.jnlRec c).w0] ∧ t.get F.JNL_CUR_NUM = (c + 1) % 2 ^ 32 ∧ t.rds Reg.JNL_RD1 7 = (s.jnlRec c).words.drop 1) ∧
    (s.inRunQuiet = true → c = wp → Gives .jnlRd0Read s fun t => t.status = 0 ∧ t.rdata = [0] ∧ t.mem = s.mem) ∧
    (s.inRunQuiet = true → c ≠ wp → s.jnlHas c = false → Gives .jnlRd0Read s fun t => t.rdata = [0] ∧ t.flag F.JNL_STAT_RDERR = true ∧
      t.get F.JNL_CUR_NUM = c) ∧
    (s.inRunQuiet = true → c ≠ wp → s.jnlHas c = true → (s.jnlRec c).crcOk = false → Gives .jnlRd0Read s fun t => t.rdata = [0] ∧
      t.flag F.JNL_STAT_BAD = true ∧ t.get F.JNL_CUR_NUM = c) ∧
    (s.jnlHas k = true → (s.jnlRec k).crcOk = false → pair → r.crcOk = true → 24 ≤ (k % 262144 + 262144 - wp % 262144) % 262144 →
      Gives (.jnlRepair n (some r)) s fun t =>
      t.jnlRec k = r ∧ t.get F.JNL_REPAIR_COUNT = min (s.get F.JNL_REPAIR_COUNT + 1) (2 ^ (F.JNL_REPAIR_COUNT).width - 1) ∧
        (c = k → t.flag F.JNL_STAT_BAD = false)) ∧
    (s.jnlHas k = true → (s.jnlRec k).crcOk = false → ¬ pair → Gives (.jnlRepair n pt) s fun t => (t.jnlRec k).code = 0xC05 ∧
      (t.jnlRec k).w5 = n ∧ t.flag F.JNL_STAT_RECLOST = true ∧ (c = k → t.flag F.JNL_STAT_BAD = false)) ∧
    (s.jnlHas k = false ∨ (s.jnlRec k).crcOk = true → Gives (.jnlRepair n pt) s fun t => t = s) ∧
    (s.inRunQuiet = true → s.phu.scrubJ < (s.ns - s.phu.tr) / 86400000000000 → (∀ j, s.jnlHas j = true → (s.jnlRec j).crcOk = true) →
      Gives (.jnlScrubPass l) s fun t => t = { s with phu := { s.phu with scrubJ := s.phu.scrubJ + 1 } }) ∧
    (s.phu.scrubJ = (s.ns - s.phu.tr) / 86400000000000 → Gives (.jnlScrubPass l) s fun t => t = s) ∧
    (s.inRunQuiet = true → s.phu.scrubJ < (s.ns - s.phu.tr) / 86400000000000 → s.get F.JNL_COUNT_RECS = 1 → (s.jnlRec s.jnlOldest).crcOk = false →
      ¬ pair → Gives (.jnlScrubPass l) s fun t =>
      t.flag F.JNL_STAT_RECLOST = true ∧ (t.jnlRec s.jnlOldest).code = 0xC05) ∧
    (HostMay s Reg.JNL_CMD (m.toNat + 8) → Gives (.jnlCmdRewind m oldest) s fun t => t.status = 0 ∧
      (valid → t.get F.JNL_CUR_NUM = s.get (F.JNL_MARK_NUM m.toNat)) ∧
      (¬ valid → oldest = true → t.get F.JNL_CUR_NUM = (wp + 2 ^ 32 - s.get F.JNL_COUNT_RECS) % 2 ^ 32) ∧
      (¬ valid → oldest = false → t.get F.JNL_CUR_NUM = c ∧ t.flag F.JNL_STAT_RDERR = true)) ∧
    (HostMay s (Reg.JNL_MARK m.toNat) v.toNat → Gives (.jnlMarkWrite m v) s fun t => t.status = 0 ∧ t.get (F.JNL_MARK_NUM m.toNat) = v.toNat ∧
      bit (t.get F.JNL_MSTAT_VALID) m.toNat = true ∧ bit (t.get F.JNL_MSTAT_LOST) m.toNat = false)

/-! ## Redundant pair (chapter 15) -/

/-- R413, R414, R416, R420, R421, R424, R425, R426, R427, R428, R429, R431: heartbeats, the declaration of a failed partner, taking
authority, the FENCE lines, silent paths and lanes, the end of the wait for a partner, and the role swap at its frame start.
Where a clause rests on a reading or a choice of the model's, it is that of assumption logs 12, 33, 34, 38, 57 and 60. -/
def Obligations.HeartbeatsAndTakeover : Prop :=
  ∀ (s : State) (line : Bool) (b : Beat) (lane : BitVec 1),
    let up := s.beats = true ∧ s.flag F.XLK_STAT_PRESENT = true
    let tf := s.framePeriod
    let fences := s.ns + (if s.flag F.GLB_ROLE_HALF then 400 else 300)
    let pulled := s.mode = .hold ∧ s.phu.unmated = true ∧ s.phu.saved = false
    (s.beats = true → Gives .heartbeatSend s fun t => ∃ h, t = { s with out := s.out ++ [.heartbeat h] } ∧ h.role = s.get F.GLB_ROLE_ROLE ∧
      h.ready = s.flag F.XLK_STAT_READY ∧ h.permit = s.flag F.XLK_AUTH_PERMIT) ∧
    (s.beats = false → Gives .heartbeatSend s fun t => t = s) ∧
    (s.beats = true → Gives (.heartbeatReceived true b) s fun t => t.role = s.role ∧ t.flag F.XLK_STAT_PRESENT = true ∧
      t.flag F.XLK_STAT_HBLINE = true ∧ t.xlk.lastL = some s.ns ∧ t.xlk.seenL = true ∧ t.xlk.seenX = s.xlk.seenX ∧
      t.xlk.partner = s.xlk.partner ∧ OnlyTouches s t [Reg.XLK_STAT]) ∧
    (s.beats = true → s.role = roleActive → Gives (.heartbeatReceived false b) s fun t => t.role = roleActive ∧ t.flag F.XLK_STAT_PRESENT = true ∧
      t.flag F.XLK_STAT_READY = b.ready ∧ t.xlk.partner = some b ∧ t.xlk.lastX = some s.ns ∧
      (s.inRunQuiet = true → b.role = roleActive → s.flag F.GLB_ROLE_HALF = true → t.xlk.demote = true) ∧
      (s.xlk.joined = true → s.flag F.XLK_STAT_READY = true → b.ready = false → t.xlk.resync = true ∧ t.xlk.trans = [])) ∧
    (s.inRunQuiet = false → Gives (.heartbeatReceived line b) s fun t => t.role = s.role ∧ t.flag F.XLK_AUTH_HOLD = s.flag F.XLK_AUTH_HOLD) ∧
    (s.beats = true → s.inRunQuiet = true → line = false → s.role = roleJoining → b.role = roleJoining →
      (s.flag F.GLB_ROLE_HALF = false ∧ s.flag F.XLK_AUTH_PERMIT = true) ∨ (s.flag F.GLB_ROLE_HALF = true ∧ b.permit = false) →
      Gives (.heartbeatReceived line b) s fun t => t.role = roleActive ∧ t.flag F.XLK_AUTH_HOLD = true) ∧
    (up → s.inRunQuiet = true → s.xlk.seenX = false → s.xlk.seenL = false → 2 ≤ s.get F.XLK_HB_MISSX → 2 ≤ s.get F.XLK_HB_MISSL →
      Gives .heartbeatInterval s fun t => t.flag F.XLK_STAT_PRESENT = false ∧ t.flag F.XLK_STAT_HBLINE = false ∧ t.role = s.role ∧
        t.xlk.failedAt = some s.ns ∧ t.xlk.permit = s.flag F.XLK_AUTH_PERMIT ∧ t.xlk.partner = none ∧ t.xlk.swapAt = none ∧
        (s.role = roleActive → t.flag F.XLK_STAT_READY = false ∧ t.xlk.joined = false ∧ t.xlk.trans = []) ∧ Journalled s t 0xA01 0 []) ∧
    (s.beats = true → s.xlk.seenX = true ∨ s.xlk.seenL = true → Gives .heartbeatInterval s fun t => t.role = s.role ∧
      t.flag F.XLK_STAT_PRESENT = s.flag F.XLK_STAT_PRESENT ∧ t.xlk.failedAt = s.xlk.failedAt ∧ (s.xlk.seenX = true → t.get F.XLK_HB_MISSX = 0) ∧
      (s.xlk.seenL = true → t.get F.XLK_HB_MISSL = 0)) ∧
    (up → s.xlk.seenX = false → s.xlk.seenL = true → 2 ≤ s.get F.XLK_HB_MISSX → s.xlk.degX = false → Gives .heartbeatInterval s fun t =>
      t.role = s.role ∧ t.flag F.XLK_STAT_DEGRADED = true ∧ t.get F.XLK_CNT1_DEGRADED = min (s.get F.XLK_CNT1_DEGRADED + 1) 0xFFFF ∧
        Journalled s t 0xA03 0 [1]) ∧
    (up → s.xlk.seenX = true → s.xlk.seenL = false → 2 ≤ s.get F.XLK_HB_MISSL → s.xlk.degL = false → Gives .heartbeatInterval s fun t =>
      t.role = s.role ∧ t.flag F.XLK_STAT_DEGRADED = true ∧ t.get F.XLK_CNT1_DEGRADED = min (s.get F.XLK_CNT1_DEGRADED + 1) 0xFFFF ∧
        Journalled s t 0xA03 0 [2]) ∧
    (up → s.xlk.seenX = false → s.xlk.seenL = false → s.get F.XLK_HB_MISSX ≤ 1 ∨ s.get F.XLK_HB_MISSL ≤ 1 → Gives .heartbeatInterval s fun t =>
      t.role = s.role ∧ t.flag F.XLK_STAT_DEGRADED = s.flag F.XLK_STAT_DEGRADED ∧ t.get F.XLK_CNT1_DEGRADED = s.get F.XLK_CNT1_DEGRADED ∧
        t.xlk.failedAt = s.xlk.failedAt) ∧
    (s.mode = .hold ∨ s.mode = .keep → Gives .heartbeatInterval s (fun t => t.role = s.role ∧ t.xlk.failedAt = s.xlk.failedAt ∧
      t.flag F.XLK_STAT_FENCEOUT = s.flag F.XLK_STAT_FENCEOUT ∧ t.xlk.fenceAt = s.xlk.fenceAt) ∧ Gives .xlkTakeover s (fun t => t = s) ∧
        Gives .activeFenceAssert s (fun t => t = s)) ∧
    (s.isStandby = true → s.xlk.failedAt.isSome = true → s.xlk.permit = true → s.inRunQuiet = true →
      Gives .xlkTakeover s fun t => t.role = roleActive ∧ t.flag F.XLK_AUTH_HOLD = true ∧ t.xlk.fenceAt = some fences ∧
        t.flag F.XLK_STAT_TAKEOVER = true ∧ t.get F.XLK_CNT1_TAKEOVERS = min (s.get F.XLK_CNT1_TAKEOVERS + 1) 0xFFFF ∧
        t.rdTime Reg.XLK_TKAT_S_LO = s.ns % (2 ^ 48 * 1000000000) ∧ t.flag F.TBU_STAT_SRC = false ∧ t.mtr.since = [] ∧
          t.flag F.SRU_STAT_SERVEALL = true ∧
        (∀ i, i < 1024 → s.get (F.RT_STATE i) ≠ rsFree → t.get (F.RT_TXFC i) = min 0xFFFFFFFF (s.get (F.RT_TXFC i) + 16)) ∧
        ∃ k, getBits (t.rd (jnlAddr k)) 16 12 = 0xA02 ∧ bit (t.rd (jnlAddr k)).toNat 28 = true ∧
          t.rd (jnlAddr k + 20) = if s.flag F.XLK_STAT_READY then 0 else 1) ∧
    (s.xlk.permit = false → Gives .xlkTakeover s fun t => t = s) ∧
    (s.role = roleActive → s.xlk.failedAt.isSome = true → s.inRunQuiet = true → Gives .activeFenceAssert s fun t =>
      t = { s with xlk := { s.xlk with fenceAt := some fences } }) ∧
    (∀ f, s.xlk.fenceAt = some f → f ≤ s.ns → s.fenceSettle.xlk.fenceAt = none ∧ s.fenceSettle.role = s.role ∧
      s.fenceSettle.flag F.XLK_STAT_FENCEOUT = (s.flag F.XLK_STAT_FENCEOUT || !s.flag F.XLK_STAT_FENCEIN)) ∧
    (∀ f, s.xlk.fenceAt = some f → s.ns < f → s.fenceSettle = s) ∧
    (s.mode ≠ .reset → s.mode ≠ .keep → ¬ pulled → s.flag F.XLK_STAT_FENCEIN = false → Gives .fenceInAssert s fun t => t.mode = .reset ∧
      t.phu.fence = true ∧ t.beats = false ∧
      t.flag F.XLK_AUTH_HOLD = false ∧ t.flag F.XLK_STAT_FENCEOUT = false ∧ t.flag F.XLK_STAT_FENCEIN = true ∧
      ∀ n, n < 32 → t.flag (F.SEA_STAT_FENCED n) = true) ∧
    (pulled → s.flag F.XLK_STAT_FENCEIN = false → Gives .fenceInAssert s fun t => t.mode = .hold ∧ t.phu.fence = true ∧ t.phu.saved = false ∧
      t.flag F.XLK_STAT_FENCEOUT = false ∧ t.flag F.XLK_STAT_FENCEIN = true ∧ ∀ n, n < 32 → t.flag (F.SEA_STAT_FENCED n) = true) ∧
    (s.mode = .keep ∨ s.mode = .reset → Gives .fenceInAssert s fun t => t.mode = s.mode ∧ t.phu = s.phu ∧ t.xlk.fenceAt = none ∧
      t.flag F.XLK_STAT_FENCEOUT = false ∧ t.flag F.XLK_STAT_FENCEIN = true ∧ ∀ n, n < 32 → t.flag (F.SEA_STAT_FENCED n) = true) ∧
    Gives .fenceInDeassert s (fun t => t.flag F.XLK_STAT_FENCEIN = false ∧ t.mode = s.mode ∧ ∀ n, n < 32 → t.flag (F.SEA_STAT_FENCED n) = false) ∧
    (let was := if lane = 0 then s.xlk.lane0 else s.xlk.lane1
     was = true → s.role ≠ roleSolo → Gives (.xlkLaneLoss lane) s fun t => t.flag F.XLK_STAT_LINKUP = false ∧ t.flag F.XLK_STAT_DEGRADED = true ∧
       t.role = s.role ∧ t.get F.XLK_CNT1_DEGRADED = min (s.get F.XLK_CNT1_DEGRADED + 1) 0xFFFF ∧ Journalled s t 0xA03 0 [3]) ∧
    Gives (.xlkLaneLock lane) s (fun t => t.flag F.XLK_STAT_LINKUP = ((s.xlk.lane0 || lane == 0) && (s.xlk.lane1 || lane == 1)) ∧
      OnlyTouches s t [Reg.XLK_STAT]) ∧
    (s.inRunQuiet = true → s.xlk.degX = true → s.get F.XLK_HB_MISSX = 0 → s.xlk.upX + 1000000000 ≤ s.ns → Gives .xlkPathRestored s fun t =>
      t.xlk.degX = false ∧ Journalled s t 0xA04 0 [1]) ∧
    (s.inRunQuiet = true → s.xlk.degX = false → s.xlk.degL = true → s.get F.XLK_HB_MISSL = 0 → s.xlk.upL + 1000000000 ≤ s.ns →
      Gives .xlkPathRestored s fun t => t.xlk.degL = false ∧ Journalled s t 0xA04 0 [2]) ∧
    (s.role = roleJoining → s.inRunQuiet = true → s.flag F.XLK_STAT_PRESENT = false → s.xlk.joinFrom + 100000000 ≤ s.ns →
      Gives .partnerWaitExpiry s fun t =>
      t.role = roleActive ∧ t.flag F.XLK_AUTH_HOLD = true) ∧
    (s.ns < s.xlk.joinFrom + 100000000 → Gives .partnerWaitExpiry s fun t => t = s) ∧
    (HostMay s Reg.XLK_CMD 1 → s.swapOk = true → 0 < tf → Gives .xlkCmdSwap s fun t => ∃ f, s.ns + 2 * tf ≤ f ∧ f < s.ns + 3 * tf ∧ f % tf = 0 ∧
      t = { s with status := 0, xlk := { s.xlk with swapAt := some f } }) ∧
    (HostMay s Reg.XLK_CMD 1 → s.swapOk = false → Gives .xlkCmdSwap s fun t => t.status = 0 ∧ t.xlk = s.xlk ∧ t.flag F.XLK_STAT_SWAPDONE = false ∧
      Journalled s t 0xA07 0 [0]) ∧
    (∀ f, s.inRunQuiet = true → s.activePaired = true → s.flag F.XLK_STAT_READY = true → s.xlk.swapAt = some f → f ≤ s.ns →
      Gives .xlkSwap s fun t => t.role = roleStandby ∧
      t.flag F.XLK_AUTH_HOLD = false ∧ t.flag F.XLK_STAT_SWAPDONE = true ∧ t.flag F.XLK_STAT_READY = true ∧
      t.flag F.XLK_STAT_FENCEOUT = s.flag F.XLK_STAT_FENCEOUT ∧ t.get F.JNL_WPTR_NUM = s.xlk.jnlSent % 2 ^ 32 ∧
      ∃ l r, t.out = l ++ [.relayRecord r] ∧ getBits r.w0 16 12 = 0xA07 ∧ r.w5 = 1) ∧
    (∀ f, s.inRunQuiet = true → s.activePaired = true → s.flag F.XLK_STAT_READY = false → s.xlk.swapAt = some f → f ≤ s.ns →
      Gives .xlkSwap s fun t => t.role = roleActive ∧ t.flag F.XLK_STAT_SWAPDONE = false ∧ t.xlk = { s.xlk with swapAt := none } ∧
        Journalled s t 0xA07 0 [0]) ∧
    (s.xlk.swapAt = none ∨ (∃ f, s.xlk.swapAt = some f ∧ s.ns < f) → Gives .xlkSwap s fun t => t = s) ∧
    (∀ f, s.inRunQuiet = true → s.xlk.swapAt = some f → f ≤ s.ns → s.isStandby = true → s.flag F.XLK_STAT_READY = true →
      s.flag F.XLK_AUTH_PERMIT = true → Gives .xlkSwap s fun t => t.role = roleActive ∧ t.flag F.XLK_AUTH_HOLD = true ∧
        t.flag F.XLK_STAT_SWAPDONE = true ∧ t.xlk.joined = true ∧
        t.flag F.XLK_STAT_FENCEOUT = s.flag F.XLK_STAT_FENCEOUT)

/-- R134, R417, R419, R420, R421, R422, R430, R432, R443: the standby takes a copy whole, acknowledges it and only then solves; a lost copy
ends READY; transaction and calibration records are acknowledged; fields and local records are relayed; the join steps, the resync and a
firmware bank have their results.
Where a clause rests on a reading or a choice of the model's, it is that of assumption logs 9, 19, 38, 39, 42 and 57. -/
def Obligations.CopiesAndJoining : Prop :=
  ∀ (s : State) (c : CopyMsg) (diff : Option (BitVec 11)) (num : BitVec 32) (ok : Bool) (w : Copied) (m : TransMsg) (x : HTrans) (id : Nat)
    (i : BitVec 12) (peer : SeamPeer) (f : RetField) (r : EvRec) (ws : List (BitVec 32)) (jf : JoinFacts),
    let k := i.toNat
    let lost (t : State) := t.flag F.XLK_STAT_READY = false ∧ t.flag F.XLK_STAT_COPYLOST = true ∧
      t.get F.XLK_CNT0_COPYLOST = min (s.get F.XLK_CNT0_COPYLOST + 1) 0xFFFF ∧ t.xlk.resync = true ∧ t.bobs = s.bobs ∧ t.zon = s.zon ∧ t.cce = s.cce
    let s' : State := { s with xlk := { s.xlk with retryAt := none } }
    let tag := if s.flag F.HAP_CTL_VLANEN = true then some (s.get F.HAP_CTL_VID, s.get F.HAP_CTL_PCP) else none
    let taken (st : Copied) (t : State) := t.bobs = st.bobs ∧ t.zon = st.zon ∧ t.cce = st.cce ∧ t.pen = st.pen ∧
      ∀ (j : Nat) (y : HSess), j < 8 → spGet (fun _ => none) st.sess j = some y → spGet (fun _ => none) s.hap.sess j = (none : Option HSess) →
        spGet (fun _ => none) t.hap.sess j = some y
    let met := s'.joinMeet jf
    let accepted := jf.linkOk = true ∧ jf.fmt = s.get F.XLK_FMT_OWN ∧ ∃ z, s.keyFor (s.get F.KST_DOMAIN_HOST) 0 = some z ∧
      answerOk z s.newChallenge (Crypto.toBytes 8 jf.pid) jf.answer (timeQ s.ns) = true
    let img := if jf.ihash = s.rds (Reg.PEN_IHASH_A 0) 8 then none else jf.image
    let tries := s.inRunQuiet = true ∧ s.role = roleJoining ∧ s.xlk.joinDone = false ∧ s.xlk.resync = false ∧ (∀ t0, s.xlk.retryAt = some t0 →
      t0 ≤ s.ns) ∧
      ∃ p, s.xlk.partner = some p ∧ p.role = roleActive
    let fails (t : State) := t.role = roleJoining ∧ t.flag F.XLK_STAT_JOINFAIL = true ∧ t.xlk.retryAt = some (s.ns + 10000000000) ∧
      t.xlk.joinDone = false
    (s.takesCopies = true → c.crcOk = true → s.xlk.copyAt = some (c.f, c.num) → Gives (.stateCopyReceived c diff) s fun t => ∃ u l,
      taken c.st u ∧ u.xlk.applied = some c.f ∧ u.xlk.copyAt = none ∧ u.xlk.swapAt = c.swap ∧ u.get F.XLK_REFRESH_SEG = c.num % 256 ∧
      (s.isStandby = true → c.peer.enums = [] → u.get F.EVQ_SEQ_SEQ = c.evSeq % 2 ^ 32 ∧ u.get F.JNL_WPTR_NUM = c.wptr % 2 ^ 32) ∧
      (∃ p, u.out = l ++ [.ack c.num, .seamPeer p]) ∧
      (diff.isSome = true → u.flag F.XLK_STAT_DIVERGE = true ∧ u.get F.XLK_CNT0_DIVERGE = min (s.get F.XLK_CNT0_DIVERGE + 1) 0xFFFF) ∧
      (c.latch = [] → (s.segmentDiff c).isSome = true → u.flag F.XLK_STAT_DIVERGE = true) ∧
      (diff = none → c.latch = [] → s.segmentDiff c = none → u.get F.XLK_CNT0_DIVERGE = s.get F.XLK_CNT0_DIVERGE) ∧
      t = if u.isStandby && u.inRun then u.latchWith c.held (c.f + u.framePeriod) else u) ∧
    (s.takesCopies = true → c.crcOk = false → Gives (.stateCopyReceived c diff) s lost) ∧
    (c.crcOk = true → s.xlk.copyAt ≠ some (c.f, c.num) → Gives (.stateCopyReceived c diff) s fun t => t = s) ∧
    (s.takesCopies = false → Gives (.stateCopyReceived c diff) s fun t => t = s) ∧
    (∀ f0 n, s.isStandby = true ∨ s.role = roleJoining → s.inRunQuiet = true → s.xlk.copyAt = some (f0, n) → f0 + s.framePeriod ≤ s.ns →
      Gives .xlkCopylost s lost) ∧
    (∀ f0, s.role = roleActive → s.xlk.copyAt = some (f0, num.toNat) → Gives (.stateCopyAck num { peer := peer }) s fun t =>
      t.get F.XLK_COPYT_NS = (s.ns - f0) % 2 ^ 18 ∧
      t.xlk.copyAt = none ∧ t.xlk.partIdle = peer.idle ∧ t.xlk.jnlAcked = s.xlk.jnlSent ∧ t.xlk.ackSeen = true ∧
      (peer = {} → OnlyTouches s t [Reg.XLK_COPYT])) ∧
    (s.isStandby = true ∨ (s.role = roleJoining ∧ s.xlk.resync = true) → s.inRunQuiet = true → Gives (.readyRegain w) s fun t =>
      t.xlk.resync = false ∧ t.xlk.joinDone = (s.xlk.joinDone || s.xlk.resync) ∧ t.flag F.XLK_STAT_READY = s.flag F.XLK_STAT_READY ∧
      ((∀ a, s.xlk.applied = some a → a ≤ w.at_) → taken w t) ∧ (∀ a, s.xlk.applied = some a → w.at_ < a → t.mem = s.mem ∧ t.bobs = s.bobs)) ∧
    (s.isStandby = true → s.inRunQuiet = true → Gives (.transactionRecordReceived m) s fun t => t.status = s.status ∧
      (∃ l, t.out = l ++ [.ack (m.sess * 2 ^ 32 + m.xid)]) ∧ (∀ v, m.cur = some v → t.rd Reg.JNL_CUR = v) ∧
      (m.sess = 8 → m.writes = [] → t.hap.sess0.cache = cachePut s.hap.sess0.cache m.xid m.resp)) ∧
    (s.inRunQuiet = true → id < 2 ^ 40 → s.xlk.trans.find? (fun y => y.id == id) = some x → s.hap.waiting = [] → Gives (.transactionAck id) s fun t =>
      t.out = s.out ++ [.datagram tag x.peer x.resp] ∧ OnlyTouches s t [Reg.HAP_EXMAX] ∧ ∀ y, y ∈ t.xlk.trans ↔ y ∈ s.xlk.trans ∧ y.id ≠ id) ∧
    (∀ d, s.inRunQuiet = true → id < 2 ^ 40 → s.xlk.trans = [x] → x.id = id → s.hap.waiting = [d] → Gives (.transactionAck id) s fun t =>
      t = ({ s.sendResp x.peer x.resp with xlk := { s.xlk with trans := [] }, hap := { s.hap with waiting := [] } } : State).runDatagram
        d.1 d.2) ∧
    (s.inRunQuiet = true → s.sme.install = some k → Gives (.transactionAck (2 ^ 40 + k)) s fun t =>
      t = { s with sme := { s.sme with installAck := true } }) ∧
    (s.paired = true → s.inRunQuiet = true → f.dirB = false → (∀ g, (s.nslot k).fieldA = some g → seqNewer g.seq f.seq = false) →
      Gives (.returnFieldRelay i f) s fun t => (t.nslot k).fieldA = some f ∧ (t.nslot k).fieldB = (s.nslot k).fieldB) ∧
    (s.paired = true → s.inRunQuiet = true → f.dirB = true → (∀ g, (s.nslot k).fieldB = some g → seqNewer g.seq f.seq = false) →
      Gives (.returnFieldRelay i f) s fun t => (t.nslot k).fieldB = some f ∧ (t.nslot k).fieldA = (s.nslot k).fieldA) ∧
    (s.role = roleActive → s.xlk.joined = true ∨ s.xlk.resync = true → s.inRunQuiet = true →
      Gives (.localRecordRelay r) s fun t => t.jnlRec (s.get F.JNL_WPTR_NUM) = r) ∧
    (s.isStandby = true → s.inRunQuiet = true → Gives (.calRecordReceived i ws) s fun t => t.out = s.out ++ [.ack (2 ^ 40 + k)] ∧
      (∀ j, j < 128 → ∀ v, ws[j]? = some v → t.rd (calFlashAddr k + 4 * j) = v) ∧
      ∀ a, a < calFlashAddr k ∨ calFlashAddr k + 512 ≤ a → t.rd a = s.rd a) ∧
    (HostMay s Reg.XLK_CMD 2 → s.activePaired = true → Gives .xlkCmdResync s fun t => t.status = 0 ∧ t.xlk.resync = true ∧ t.mem = s.mem ∧
      t.out = s.out ++ [.whole s.copied]) ∧
    (HostMay s Reg.XLK_CMD 2 → s.isStandby = true → Gives .xlkCmdResync s fun t => t.status = 0 ∧ t.xlk.resync = true ∧ t.out = s.out ∧
      t.flag F.XLK_STAT_READY = false ∧ OnlyTouches s t [Reg.XLK_STAT]) ∧
    (HostMay s Reg.XLK_CMD 4 → s.xlk.fwBusy = none → Gives .xlkCmdFwcommit s fun t => t.status = 0 ∧ t.get F.XLK_FWSTAT_STATE = 1 ∧
      t.get F.XLK_FWSTAT_ERR = 0 ∧ t.xlk = { s.xlk with fwBusy := some (s.get F.XLK_FWPTR_PTR) } ∧ OnlyTouches s t [Reg.XLK_FWSTAT]) ∧
    (∀ n, s.inRunQuiet = true → s.xlk.fwBusy = some n → n ≤ 4194304 →
      (s.signErr fwStage n = 0 → ok = true → Gives (.firmwareBankVerified ok) s fun t => t.get F.XLK_FWSTAT_STATE = 2 ∧ t.xlk.fwBusy = none ∧
        t.xlk.fwNext = some (1 - s.xlk.fwBank) ∧ t.xlk.fwBank = s.xlk.fwBank ∧
        ∀ j, 4 * j < n - 64 → t.rd (fwBankAt (1 - s.xlk.fwBank) + 4 * j) = s.rd (fwStage + 4 * j)) ∧
      (s.signErr fwStage n ≠ 0 → Gives (.firmwareBankVerified ok) s fun t => t.get F.XLK_FWSTAT_STATE = 3 ∧ t.xlk = { s.xlk with fwBusy := none } ∧
        t.get F.XLK_FWSTAT_ERR = s.signErr fwStage n ∧ (s.signErr fwStage n = 5 → OnlyTouches s t [Reg.XLK_FWSTAT])) ∧
      (s.signErr fwStage n = 0 → ok = false → Gives (.firmwareBankVerified ok) s fun t => t.get F.XLK_FWSTAT_STATE = 3 ∧
        t.get F.XLK_FWSTAT_ERR = 8 ∧ OnlyTouches s t [Reg.XLK_FWSTAT])) ∧
    (tries → ¬ accepted → Gives (.pairJoin jf) s fails) ∧
    (tries → accepted → (∃ l, img = some l ∧ met.joinImage l = none) → Gives (.pairJoin jf) s fails) ∧
    (tries → accepted → (∀ l, img = some l → met.joinImage l ≠ none) → Gives (.pairJoin jf) s fun t => t.xlk.joinDone = true ∧
      t.flag F.GLB_RSTAT_JOINED = true ∧ taken jf.whole t) ∧
    (s.inRunQuiet = true → s.role = roleActive → (∃ p, s.xlk.partner = some p ∧ p.role = roleJoining) →
      (s.flag F.XLK_CTL_JOINEN = true → accepted → Gives (.pairJoin jf) s fun t => t.get F.XLK_LDLY_NS = jf.ldly % 2 ^ 16 ∧ t.xlk.resync = true ∧
        t.role = roleActive ∧ ∃ z l, t.out = l ++ [.whole z]) ∧
      (s.flag F.XLK_CTL_JOINEN = true → ¬ accepted → Gives (.pairJoin jf) s fun t => t.role = roleActive ∧ t.flag F.XLK_STAT_JOINFAIL = true ∧
        t.xlk.resync = s.xlk.resync) ∧
      (s.flag F.XLK_CTL_JOINEN = false → Gives (.pairJoin jf) s fun t => t = s)) ∧
    (∀ f0, s.inRunQuiet = true → s.role = roleJoining → s.xlk.joinDone = true → s.flag F.XLK_STAT_READY = true → s.xlk.readyAt = some f0 →
      f0 < s.ns - s.ns % s.framePeriod → Gives .xlkJoin s fun t => t.role = roleStandby ∧ t.flag F.XLK_STAT_READY = true ∧
        t.flag F.XLK_AUTH_HOLD = false ∧ t.xlk.joinDone = false) ∧
    (s.inRunQuiet = true → s.role = roleJoining → s.xlk.readyAt = none → Gives .xlkJoin s fun t => t = s) ∧
    (s.inRunQuiet = true → s.role = roleActive → s.xlk.joined = false → s.xlk.resync = true → s.flag F.XLK_STAT_READY = true →
      Gives .xlkJoin s fun t =>
      t.role = roleActive ∧ t.xlk.joined = true ∧ t.flag F.XLK_STAT_FENCEOUT = false ∧ Journalled s t 0xA05 0 []) ∧
    (∀ t0, s.role = roleJoining → s.xlk.retryAt = some t0 → (t0 ≤ s.ns → Gives .joinRetry s fun t => t = s') ∧
      (s.ns < t0 → Gives .joinRetry s fun t => t = s))

/-! ## Power, hold-up and restarts (chapter 17; R497, R498) -/

/-- R467, R468, R470, R472, R473, R474, R475, R476, R479, R480, R497, R498: feeds and the rail against the thresholds, entry to HOLD and to
KEEP, the critical and the periodic save, the return of the rail, the automatic hold-up test, and what else sends the module to HOLD or to
reset.
Where a clause rests on a reading or a choice of the model's, it is that of assumption logs 11, 12, 21 and 40. -/
def Obligations.HoldAndSaves : Prop :=
  ∀ (s : State) (fd : BitVec 1) (v rail : BitVec 13) (us : BitVec 12) (ok : Bool) (n : Nat),
    let k := fd.toNat
    let r := rail.toNat
    let g := s.gridAt s.ns
    let bank (b : Nat) (p : Phu) := if b = 0 then p.bank0 else p.bank1
    let tgt := s.saveBank
    (s.inRunQuiet = true → v.toNat < s.get F.PHU_WARN_V → s.get F.PHU_WARN_V < r → bit s.phu.feedLost k = false →
      Gives (.phuFeedLost fd v rail) s fun t =>
      bit t.phu.feedLost k = true ∧ t.get F.PHU_VIN_RAIL = r ∧ t.mode = s.mode ∧
        t.get (if k = 0 then F.PHU_FEED_A else F.PHU_FEED_B) = v.toNat ∧ (s.rateOk 0x003 0 1000000000 = true → Journalled s t 0x003 0 [k])) ∧
    (s.inRunQuiet = true → s.get F.PHU_RESUME_V < v.toNat → bit s.phu.feedLost k = true → Gives (.phuFeedRestored fd v) s fun t =>
      bit t.phu.feedLost k = false ∧ t.flag (if k = 0 then F.PHU_STAT_FEEDA else F.PHU_STAT_FEEDB) = true ∧ Journalled s t 0x004 0 [k]) ∧
    (s.inRunQuiet = true → r < s.get F.PHU_WARN_V → Gives (.phuWarn rail) s fun t => t.flag F.PHU_STAT_WARN = true ∧ t.mode = s.mode ∧
      (s.rateOk 0x001 0 1000000000 = true → Journalled s t 0x001 0 []) ∧
      (n < 8 → s.get (F.LOP_STAT_CODE n) = 8 → s.lopState n = 1 → (s.lslot n).fin = none → (t.lslot n).fin = some (4, 1))) ∧
    (s.inRunQuiet = true → s.get F.PHU_RESUME_V < r → s.flag F.PHU_STAT_WARN = true →
      Gives (.phuWarnEnd rail) s fun t => t.flag F.PHU_STAT_WARN = false ∧
      Journalled s t 0x002 0 []) ∧
    (s.inRunQuiet = true → r < s.get F.PHU_SAVE_V → Gives (.holdEntry rail) s fun t => t.mode = .hold ∧ t.phu.holdAt = some s.ns ∧
      t.phu.saved = false ∧
      t.phu.wasQuiet = (s.mode == .quiet) ∧ t.hap.posted = [] ∧ t.hap.waiting = [] ∧ t.phu.qreq = none ∧ t.phu.pwrite = none ∧
        t.phu.writing = none ∧ (∀ m, m < 32 → t.flag (F.SEA_STAT_MUTED m) = true) ∧
      (∀ m, m < 32 → s.ns + 20000 < (s.seam m).busyTo → .seamCut m (s.ns + 20000) ∈ t.out) ∧
      ((∃ p ∈ s.sru.air, s.ns + 20000 < p.at_ + p.us * 1000) → .radioCut (s.ns + 20000) ∈ t.out) ∧
      Journalled s t 0x005 0 [r]) ∧
    (s.get F.PHU_SAVE_V ≤ r → Gives (.holdEntry rail) s fun t => t.mode = s.mode ∧ t.phu = s.phu ∧ OnlyTouches s t [Reg.PHU_VIN]) ∧
    (s.mode = .reset → r < s.get F.PHU_SAVE_V → Gives (.holdEntry rail) s fun t => t.mode = .hold ∧ t.phu.saved = true ∧ t.phu.bank0 = s.phu.bank0 ∧
      t.phu.bank1 = s.phu.bank1) ∧
    (s.mode = .hold → s.phu.saved = false → Gives (.criticalSaveComplete us) s fun t => t.phu.saved = true ∧ t.phu.noBeat = true ∧ t.mode = .hold ∧
      t.kst.commit = none ∧ t.get F.PHU_SAVECNT_CRIT = min (s.get F.PHU_SAVECNT_CRIT + 1) 0xFFFF ∧ t.get F.PHU_SAVEINFO_US = us.toNat ∧
      t.get F.PHU_SAVEINFO_STEPS = (if s.flag F.PHU_STAT_LIMITED then 3 else 6) ∧ bank (1 - tgt) t.phu = bank (1 - tgt) s.phu ∧
      (∀ y, s.newest = some y → bank (1 - tgt) s.phu = some y) ∧
      ∃ x, bank tgt t.phu = some x ∧ x.kind = (if s.flag F.PHU_STAT_LIMITED then 3 else 2) ∧ x.quiet = s.phu.wasQuiet ∧
        x.cap = s.get F.PHU_CAP_UF ∧ x.mtr = s.mtr ∧ x.jnl = s.jnlSaved ∧
        x.seq = ((s.newest.map (·.seq + 1)).getD 1) % 2 ^ 32 ∧ x.time = s.phu.holdAt.getD s.ns + 50000 ∧
        x.evq = (if s.flag F.PHU_STAT_LIMITED then none else some (s.queueAll, s.get F.EVQ_SEQ_SEQ, s.get F.EVQ_LSEQ_SEQ)) ∧
        x.zones.isSome = !s.flag F.PHU_STAT_LIMITED) ∧
    (s.mode = .hold → r < 1800 → Gives (.keepEntry rail) s fun t => t.mode = .keep ∧ t.phu.noBeat = true ∧
      bank (1 - tgt) t.phu = bank (1 - tgt) s.phu ∧
      bank tgt t.phu = if s.phu.saved then bank tgt s.phu else none) ∧
    (1800 ≤ r → Gives (.keepEntry rail) s fun t => t.mode = s.mode ∧ t.phu = s.phu) ∧
    ((s.mode = .hold ∧ s.phu.saved = true) ∨ s.mode = .keep → s.get F.PHU_RESUME_V < r → Gives (.sagRestart rail) s fun t => t.mode = .reset ∧
      t.phu = { s.phu with noBeat := true }) ∧
    ((s.mode = .hold ∧ s.phu.saved = false) ∨ r ≤ s.get F.PHU_RESUME_V → Gives (.sagRestart rail) s fun t => t.mode = s.mode ∧ t.phu = s.phu) ∧
    (s.inRunQuiet = true → s.phu.writing = none → s.phu.psAt ≠ g → g % (s.get F.PHU_PSAVE_SEC * 1000000000) = 0 → Gives .periodicSave s fun t =>
      t.flag F.PHU_STAT_PSBUSY = true ∧ t.phu.bank0 = s.phu.bank0 ∧ t.phu.bank1 = s.phu.bank1 ∧
        ∃ x, t.phu.writing = some x ∧ x.kind = 1 ∧ x.time = g ∧ x.evq = none ∧ x.mtr = s.mtr ∧ x.jnl = s.jnlSaved ∧ x.zones = some s.zonesSaved) ∧
    (∀ x, s.inRunQuiet = true → s.phu.writing = some x → Gives (.periodicSaveDone true) s fun t => t.flag F.PHU_STAT_PSBUSY = false ∧
      t.phu.writing = none ∧
      bank tgt t.phu = some x ∧ bank (1 - tgt) t.phu = bank (1 - tgt) s.phu ∧ t.get F.PHU_SAVEINFO_KIND = 0) ∧
    (∀ x, s.inRunQuiet = true → s.phu.writing = some x → Gives (.periodicSaveDone false) s fun t => t.flag F.PHU_STAT_PSBUSY = false ∧
      t.phu.writing = none ∧ bank tgt t.phu = none ∧ bank (1 - tgt) t.phu = bank (1 - tgt) s.phu ∧ t.flag F.PHU_STAT_SAVEFAIL = true ∧
      t.get F.PHU_SAVECNT_PFAIL = min (s.get F.PHU_SAVECNT_PFAIL + 1) 0xFFFF ∧ Journalled s t 0x009 0 []) ∧
    (s.phu.writing = none → Gives (.periodicSaveDone ok) s fun t => t = s) ∧
    (s.inRunQuiet = true → s.holdtestDue = true → s.lopRunning 8 = false → n < 8 → s.lopState n = 0 → (∀ m, m < n → s.lopState m ≠ 0) →
      Gives .holdtestAuto s fun t => t.get (F.LOP_STAT_CODE n) = 8 ∧ t.lopState n = 1 ∧ t.status = s.status ∧
        t.phu.htDone = (s.phu.htDone || decide (s.phu.tr + 60000000000 ≤ s.ns))) ∧
    (s.holdtestDue = false → Gives .holdtestAuto s fun t => t = s) ∧
    (s.inRunQuiet = true → Gives .presentOpen s fun t => t.mode = .hold ∧ t.phu.saved = false ∧ t.phu.holdAt = some s.ns ∧ t.phu.noBeat = true ∧
      t.phu.unmated = true ∧ ∀ m, m < 32 → s.ns < (s.seam m).busyTo → .seamCut m s.ns ∈ t.out) ∧
    (s.inRunQuiet = false → Gives .presentOpen s fun t => t.mode = s.mode ∧ t.mem = s.mem ∧ t.phu = { s.phu with unmated := true, noBeat := true }) ∧
    Gives .insertionDetect s (fun t => t = { s with mode := .reset, phu := { s.phu with noBeat := true, insertion := true, unmated := true } }) ∧
    (s.inRunQuiet = true → s.flag F.GLB_RSTCTL_WDTEN = true → Gives .watchdogExpiry s fun t =>
      t = { s with mode := .reset, phu := { s.phu with noBeat := true, wdt := true } }) ∧
    (s.inRunQuiet = false ∨ s.flag F.GLB_RSTCTL_WDTEN = false → Gives .watchdogExpiry s fun t => t = s)

/-- R17, R469, R470, R471, R480, R481, R483, R486: threshold writes (of a threshold whose copies disagree the voted value stays), QUIET and
WAKE and their change, PERSIST and PCLR, RESTART, and the restart itself: its kind by the order of R480, the count, sessions ended, keys
kept, the state it resumes in.
Where a clause rests on a reading or a choice of the model's, it is that of assumption logs 12, 40, 44 and 50. -/
def Obligations.StatesPersistenceAndRestart : Prop :=
  ∀ (s : State) (k : BitVec 2) (v : BitVec 32) (cf : BitVec 16) (ok : Bool) (x : RestartFacts) (n : Nat),
    let g := s.gridAt s.ns
    let y := v.toNat % 8192
    let w := if k = 0 then y else s.get F.PHU_WARN_V
    let h := if k = 1 then y else s.get F.PHU_SAVE_V
    let r := if k = 2 then y else s.get F.PHU_RESUME_V
    let good := 3000 ≤ w ∧ w ≤ 4000 ∧ 2400 ≤ h ∧ h ≤ 3200 ∧ 3000 ≤ r ∧ r ≤ 4000 ∧ h + 200 ≤ w ∧ w ≤ r
    let agree := s.disagree (Reg.PHU_WARN + 4 * k.toNat) = []
    let status0 (t : State) := t = { s with status := 0 }
    let kind := if s.phu.insertion then 5 else if s.phu.fence || s.flag F.XLK_STAT_FENCEIN then 4 else if s.phu.wdt then 2
      else if s.newest.isSome then 1 else 0
    let count := s.get F.GLB_RSTAT_COUNT
    (HostMay s (Reg.PHU_WARN + 4 * k.toNat) v.toNat → k ≠ 3 → agree → good → Gives (.phuThresholdWrite k v) s fun t => t.status = 0 ∧
      t.get F.PHU_WARN_V = w ∧ t.get F.PHU_SAVE_V = h ∧ t.get F.PHU_RESUME_V = r ∧ t.flag F.PHU_STAT_FEEDA = decide (r < s.get F.PHU_FEED_A) ∧
      t.flag F.PHU_STAT_FEEDB = decide (r < s.get F.PHU_FEED_B) ∧ t.flag F.PHU_STAT_THREF = s.flag F.PHU_STAT_THREF ∧
      OnlyTouches s t [Reg.PHU_WARN, Reg.PHU_SAVE, Reg.PHU_RESUME, Reg.PHU_STAT]) ∧
    (HostMay s (Reg.PHU_WARN + 4 * k.toNat) v.toNat → k ≠ 3 → ¬ agree → Gives (.phuThresholdWrite k v) s fun t => t.status = 0 ∧
      t.get F.PHU_WARN_V = s.get F.PHU_WARN_V ∧ t.get F.PHU_SAVE_V = s.get F.PHU_SAVE_V ∧ t.get F.PHU_RESUME_V = s.get F.PHU_RESUME_V ∧
      t.get F.GLB_VSCRUB_COUNT = min (s.get F.GLB_VSCRUB_COUNT + 1) 0xFFFF) ∧
    (HostMay s (Reg.PHU_WARN + 4 * k.toNat) v.toNat → k ≠ 3 → agree → ¬ good → Gives (.phuThresholdWrite k v) s fun t => t.status = 0 ∧
      t.get F.PHU_WARN_V = s.get F.PHU_WARN_V ∧ t.get F.PHU_SAVE_V = s.get F.PHU_SAVE_V ∧ t.get F.PHU_RESUME_V = s.get F.PHU_RESUME_V ∧
      t.flag F.PHU_STAT_THREF = true ∧ Journalled s t 0x00A 0 []) ∧
    (HostMay s Reg.GLB_CMD 1 → s.isStandby = false → s.mode = .run → Gives .glbCmdQuiet s fun t => t.status = 0 ∧ t.mode = .run ∧
      t.phu.qreq = some (true, s.ns) ∧ t.flag F.GLB_STATE_QPEND = true ∧ OnlyTouches s t [Reg.GLB_STATE]) ∧
    (HostMay s Reg.GLB_CMD 1 → s.isStandby = true ∨ s.mode = .quiet → Gives .glbCmdQuiet s status0) ∧
    (HostMay s Reg.GLB_CMD 2 → s.isStandby = false → s.mode = .quiet → Gives .glbCmdWake s fun t => t.status = 0 ∧ t.mode = .quiet ∧
      t.phu.qreq = some (false, s.ns) ∧ t.flag F.GLB_STATE_QPEND = true ∧ OnlyTouches s t [Reg.GLB_STATE]) ∧
    (HostMay s Reg.GLB_CMD 2 → s.isStandby = true ∨ s.mode = .run → Gives .glbCmdWake s status0) ∧
    (∀ q at_, s.inRunQuiet = true → s.phu.qreq = some (q, at_) → at_ < g → (q = true → g % 100000000 = 0) → Gives .glbStatechg s fun t =>
      t.mode = (if q then .quiet else .run) ∧ t.phu.qreq = none ∧ t.flag F.GLB_STATE_QPEND = false ∧ Journalled s t 0x00C 0 []) ∧
    (∀ q at_, s.phu.qreq = some (q, at_) → g ≤ at_ ∨ (q = true ∧ g % 100000000 ≠ 0) → Gives .glbStatechg s fun t => t = s) ∧
    (HostMay s Reg.GLB_CMD 4 → s.flag F.GLB_PSTAT_PBUSY = false → Gives .glbCmdPersist s fun t => t.status = 0 ∧ t.flag F.GLB_PSTAT_PBUSY = true ∧
      OnlyTouches s t [Reg.GLB_PSTAT] ∧ ∃ p, t.phu.pwrite = some p ∧ p.gain = s.mtr.gain ∧ p.aux = s.mtr.aux ∧
        ∀ e, e ∈ p.words ↔ e ∈ s.inEffect.mem ∧ persistMask e.1 ≠ 0) ∧
    (HostMay s Reg.GLB_CMD 4 → s.flag F.GLB_PSTAT_PBUSY = true → Gives .glbCmdPersist s status0) ∧
    (∀ p, s.inRunQuiet = true → s.phu.pwrite = some p → Gives (.glbPersist true) s fun t => t.persisted = some p ∧ t.phu.pwrite = none ∧
      t.flag F.GLB_PSTAT_PBUSY = false ∧ t.flag F.GLB_PSTAT_PVALID = true ∧ Journalled s t 0x00B 0 [1]) ∧
    (∀ p, s.inRunQuiet = true → s.phu.pwrite = some p → Gives (.glbPersist false) s fun t => t.persisted = s.persisted ∧ t.phu.pwrite = none ∧
      t.flag F.GLB_PSTAT_PBUSY = false ∧ t.flag F.GLB_PSTAT_PFAIL = true ∧ Journalled s t 0x00B 0 [0]) ∧
    (s.phu.pwrite = none → Gives (.glbPersist ok) s fun t => t = s) ∧
    (HostMay s Reg.GLB_CMD (cf.toNat * 65536 + 8) → cf = 0x5253 → Gives (.glbCmdPclr cf) s fun t => t.status = 0 ∧ t.persisted = none ∧
      t.flag F.GLB_PSTAT_PVALID = false ∧ OnlyTouches s t [Reg.GLB_PSTAT]) ∧
    (HostMay s Reg.GLB_CMD (cf.toNat * 65536 + 8) → cf ≠ 0x5253 → Gives (.glbCmdPclr cf) s status0) ∧
    (HostMay s Reg.GLB_CMD (cf.toNat * 65536 + 16) → cf = 0x5253 → Gives (.glbCmdRestart cf) s fun t =>
      t = { s with status := 0, hap := { s.hap with restart := true } }) ∧
    (HostMay s Reg.GLB_CMD (cf.toNat * 65536 + 16) → cf ≠ 0x5253 → Gives (.glbCmdRestart cf) s status0) ∧
    (s.mode = .reset → x.mated = true → Gives (.glbRestart x) s fun t => t.get F.GLB_RSTAT_KIND = kind ∧ (t.mode = .run ∨ t.mode = .quiet) ∧
      t.get F.GLB_RSTAT_COUNT = (if kind = 0 then 0 else min 0xFFFF (count + 1)) ∧ t.hap.sess = [] ∧ t.hap.lastSid = s.hap.lastSid ∧
        t.hap.posted = [] ∧
      t.pending = s.pending ∧ (t.kslot n).key = (s.kslot n).key ∧ (t.kslot n).type = (s.kslot n).type ∧ (t.kslot n).pend = .empty) ∧
    (s.inRunQuiet = true → x.mated = true → s.hap.restart = true → s.xlk.trans = [] → Gives (.glbRestart x) s fun t => t.get F.GLB_RSTAT_KIND = 3 ∧
      (t.mode = .run ∨ t.mode = .quiet) ∧ t.get F.GLB_RSTAT_COUNT = min 0xFFFF (count + 1) ∧ t.hap.sess = [] ∧ t.hap.restart = false ∧
      ∃ z, (t.phu.bank0 = some z ∨ t.phu.bank1 = some z) ∧ z.time = s.ns ∧ z.kind = if s.flag F.PHU_STAT_LIMITED then 3 else 2) ∧
    (s.inRunQuiet = true → s.hap.restart = false ∨ s.xlk.trans ≠ [] → Gives (.glbRestart x) s fun t => t = s) ∧
    (x.mated = false → Gives (.glbRestart x) s fun t => t = s)

/-! ## Host access (chapter 16) -/

/-- R436, R438, R440, R441, R442, R444, R446, R458: the ports' links and the bridge, ARP and echo, setting up a session, its expiry, its end
by CLOSE, by time, by command; NETCOMMIT and the addressing change; POSTED after its response.
Where a clause rests on a reading or a choice of the model's, it is that of assumption logs 12, 42 and 43. -/
def Obligations.PortsAndSessions : Prop :=
  ∀ (s : State) (port : BitVec 1) (on gbe v6 : Bool) (addr : BitVec 128) (pay b : List (BitVec 8)) (peer : Peer),
    let k := port.toNat
    let bs := b.map (·.toNat)
    let h := headOf bs
    let u := s.settle
    let dst := Crypto.ofBytes (bs.take 6)
    let tag (x : State) := if x.flag F.HAP_CTL_VLANEN = true then some (x.get F.HAP_CTL_VID, x.get F.HAP_CTL_PCP) else none
    let tags2 := (bs.drop 12).take 2 = [0x81, 0x00] ∧ (bs.drop 16).take 2 = [0x81, 0x00]
    let takes := s.inRunQuiet = true ∧ 16 ≤ bs.length ∧ s.xlk.trans = [] ∧ s.hap.waiting = []
    let rejected (t : State) (reason : Nat) := t.get F.HAP_ERR1_REJECT = min (u.get F.HAP_ERR1_REJECT + 1) 0xFFFF ∧
      t.out = u.out ++ [.datagram (tag u) peer (headBytes 0x12 0 0 h.sid h.xid 8 ++ [reason, 0, 0, 0] ++ Crypto.toBytes 4 h.xid)]
    (s.portsOn = true → Gives (.ethLinkChange port on gbe) s fun t => t.flag (if k = 0 then F.HAP_STAT_LINK1 else F.HAP_STAT_LINK2) = on ∧
      t.flag (if k = 0 then F.HAP_STAT_GBE1 else F.HAP_STAT_GBE2) = (on && gbe) ∧ OnlyTouches s t [Reg.HAP_STAT]) ∧
    (s.mode = .keep ∨ s.mode = .reset → Gives (.ethLinkChange port on gbe) s (fun t => t = s) ∧ Gives (.ethFrameForward port on b) s fun t => t = s) ∧
    (s.portsOn = true → 14 ≤ bs.length → bs.length ≤ 1518 → ¬ tags2 → Gives (.ethFrameForward port false b) s fun t => t.mem = s.mem ∧
      t.hap.macs.head? = some (Crypto.ofBytes ((bs.drop 6).take 6), k, s.ns) ∧ ∃ l : List Nat, t.out = s.out ++ l.map (fun p => .ethFrame p bs) ∧
        k ∉ l ∧
        (s.flag F.HAP_CTL_CHAIN = false → 1 - k ∉ l) ∧
        (dst = s.ownMac → dst / 2 ^ 40 % 2 = 0 → s.vlanOk bs = true → l = [2]) ∧
        (dst / 2 ^ 40 % 2 = 1 → s.flag F.HAP_CTL_CHAIN = true → s.vlanOk bs = true → l = [1 - k, 2])) ∧
    (s.portsOn = true → 1518 < bs.length ∨ tags2 → Gives (.ethFrameForward port false b) s fun t => t = s) ∧
    (s.portsOn = true → Gives (.ethFrameForward port true b) s fun t => t.out = s.out ∧ OnlyTouches s t [Reg.HAP_PCNT] ∧
      (k = 0 → t.get F.HAP_PCNT_RXERR1 = min (s.get F.HAP_PCNT_RXERR1 + 1) 0xFFFF) ∧
      (k = 1 → t.get F.HAP_PCNT_RXERR2 = min (s.get F.HAP_PCNT_RXERR2 + 1) 0xFFFF)) ∧
    (s.inRunQuiet = true → s.hasAddr v6 addr.toNat = true →
      Gives (.arpRequest v6 addr) s fun t => t = { s with out := s.out ++ [.arpReply (tag s) v6 addr.toNat] }) ∧
    (s.hasAddr v6 addr.toNat = false → Gives (.arpRequest v6 addr) s (fun t => t = s) ∧ Gives (.icmpEcho v6 on addr pay) s fun t => t = s) ∧
    (s.inRunQuiet = true → s.hasAddr v6 addr.toNat = true → Gives (.icmpEcho v6 true addr pay) s fun t =>
      t = { s with out := s.out ++ [.echoReply (tag s) v6 (pay.map (·.toNat))] }) ∧
    (takes → h.typ ≠ 1 → h.typ ≠ 3 → h.typ ≠ 0x10 → h.typ ≠ 0x20 → Gives (.hello peer b) s fun t =>
      t.get F.HAP_ERR1_REJECT = min (u.get F.HAP_ERR1_REJECT + 1) 0xFFFF ∧ t.out = u.out ∧ OnlyTouches u t [Reg.HAP_ERR1]) ∧
    (takes → h.typ = 1 → h.ok bs.length = false → Gives (.hello peer b) s fun t => rejected t 1 ∧ OnlyTouches u t [Reg.HAP_ERR1]) ∧
    (∀ key, takes → h.typ = 1 → h.ok bs.length = true → h.nops = 0 → h.prot = false → h.len = 16 → h.sid = 0 → u.hostKey = some key →
      (u.sessOpen < 8 → u.pendLive.length < 8 → Gives (.hello peer b) s fun t => t.hap.lastSid = u.nextSid ∧ t.mem = u.mem ∧ u.nextSid ≠ 0 ∧
        ∃ p, t.hap.pend = u.hap.pend ++ [p] ∧ p.id = u.nextSid ∧ p.ch = bs.drop 16 ∧ p.at_ = s.ns ∧ p.cm.length = 16 ∧
          t.out = u.out ++ [.datagram (tag u) peer (headBytes 2 0 0 p.id h.xid (p.cm ++ challengeAnswer key p.ch u.moduleId p.tq ++ u.moduleId ++
            Crypto.toBytes 8 p.tq).length ++ (p.cm ++ challengeAnswer key p.ch u.moduleId p.tq ++ u.moduleId ++ Crypto.toBytes 8 p.tq))]) ∧
      (u.sessOpen = 8 → Gives (.hello peer b) s fun t => t.hap = u.hap ∧ t.flag F.HAP_STAT_FULL = true ∧ Journalled u t 0xB04 0 [] ∧
        t.get F.HAP_ERR1_REJECT = min (u.get F.HAP_ERR1_REJECT + 1) 0xFFFF)) ∧
    (∀ p key n, takes → h.typ = 3 → h.ok bs.length = true → h.nops = 0 → h.prot = false → h.len = 48 →
      u.pendLive.find? (fun q => q.id == h.sid) = some p → u.setupKey p.slot = some key →
      let right := (bs.drop 16).take 16 = p.ch ∧ ((bs.drop 16).drop 16).take 16 = p.cm ∧
        (bs.drop 16).drop 32 = (Crypto.hmac key (p.cm ++ p.ch ++ u.moduleId ++ Crypto.toBytes 8 p.tq)).take 16
      (right → n < 8 → u.sess n = none → (∀ j, j < n → (u.sess j).isSome = true) → Gives (.prove peer b) s fun t =>
        (∃ y, t.sess n = some y ∧ y.id = p.id ∧ y.ch = p.ch ∧ y.cm = p.cm ∧ y.peer = peer ∧ y.last = s.ns) ∧ (∀ j, j ≠ n → t.sess j = u.sess j) ∧
          t.hap.pend = u.hap.pend.filter (fun q => q.id != p.id) ∧ Journalled u t 0xB01 n [n, p.id] ∧
          ∃ d, .datagram (tag u) peer d ∈ t.out ∧ d.take 2 = [1, 4]) ∧
      (¬ right → Gives (.prove peer b) s fun t => t = u)) ∧
    (s.inRunQuiet = true → Gives .setupExpiry s fun t =>
      t = { s with hap := { s.hap with pend := s.hap.pend.filter fun p => decide (s.ns < p.at_ + 5000000000) } }) ∧
    (∀ n y, takes → h.typ = 0x20 → h.ok bs.length = true → h.nops = 0 → h.prot = true → h.sid ≠ 0 → u.sessIdx h.sid = some n → u.sess n = some y →
      (u.openBody y h bs).isSome = true → Gives (.close peer b) s fun t => t.sess n = none ∧ (∀ j, j ≠ n → t.sess j = u.sess j) ∧
        Journalled u t 0xB02 n [1, y.id]) ∧
    (takes → h.typ = 0x20 → h.ok bs.length = true → h.nops = 0 → h.prot = true → h.sid ≠ 0 → u.sessIdx h.sid = none → Gives (.close peer b) s fun t =>
      t.hap.sess = u.hap.sess ∧ t.get F.HAP_ERR0_AUTH = min (u.get F.HAP_ERR0_AUTH + 1) 0xFFFF ∧ t.flag F.HAP_STAT_AUTHF = true ∧
        t.get F.HAP_ERR1_REJECT = min (u.get F.HAP_ERR1_REJECT + 1) 0xFFFF) ∧
    (s.inRunQuiet = true → Gives .sessionTimeout s fun t => ∀ n, n < 8 → ∀ y, s.sess n = some y →
      t.sess n = if y.last + s.get F.HAP_SESSTO_SEC * 1000000000 ≤ s.ns then none else some y) ∧
    (∀ y, HostMay s Reg.HAP_CMD 2 → s.sess (s.get F.HAP_SSEL_INDEX) = some y → Gives .hapCmdClose s fun t => t.status = 0 ∧
      t.sess (s.get F.HAP_SSEL_INDEX) = none ∧ Journalled s t 0xB02 (s.get F.HAP_SSEL_INDEX) [3, y.id]) ∧
    (HostMay s Reg.HAP_CMD 4 → Gives .hapCmdCloseall s fun t => t.status = 0 ∧ ∀ n, n < 8 → t.sess n = none) ∧
    (HostMay s Reg.HAP_CMD 1 → Gives .hapCmdNetcommit s fun t => t = { s with status := 0, hap := { s.hap with netcommit := true } }) ∧
    (s.netDue = true → s.netOk = true → Gives .hapNetchg s fun t => t.hap.netcommit = false ∧ Journalled s t 0xB05 0 [1] ∧
      ∀ a ∈ addrRegs, t.rd a = s.stagedWord a ∧ spGet (fun _ => none) t.basted a = none) ∧
    (s.netDue = true → s.netOk = false → Gives .hapNetchg s fun t => t.hap.netcommit = false ∧ t.flag F.HAP_STAT_NETREF = true ∧
      Journalled s t 0xB05 0 [0] ∧ ∀ a ∈ addrRegs, t.rd a = s.rd a ∧ spGet (fun _ => none) t.basted a = none) ∧
    (s.netDue = false → Gives .hapNetchg s fun t => t = s) ∧
    (∀ v, s.hap.newPosted = some v → s.inRunQuiet = true → s.xlk.trans = [] → Gives .postedModeChange s fun t => t.flag F.HAP_CTL_POSTED = v ∧
      t.hap.newPosted = none ∧ OnlyTouches s t [Reg.HAP_CTL])

/-- R17, R372, R415, R421, R442, R443, R445, R449, R450, R456, R459: a request is answered from the cache, discarded, rejected whole or
executed once, its response sent or, with a READY standby, handed over with the transaction record; the STATUS of a register write by the
order of R450, with the vote of an RWV field first; a posted write is applied. A request that arrives while another waits for the standby
waits too, at most 32 of them.
Where a clause rests on a reading or a choice of the model's, it is that of assumption logs 41 and 42. -/
def Obligations.RequestsAndRegisterWrites : Prop :=
  ∀ (s : State) (peer : Peer) (b : List (BitVec 8)) (auth : Bool) (a v : BitVec 32) (bit_ : BitVec 5),
    let bs := b.map (·.toNat)
    let h := headOf bs
    let u := s.settle
    let x := u.hap.sess0
    let tag (y : State) := if y.flag F.HAP_CTL_VLANEN = true then some (y.get F.HAP_CTL_VID, y.get F.HAP_CTL_PCP) else none
    let u1 : State := { u with hap := { u.hap with sess0 := { x with last := u.ns } } }
    let alone := s.xlk.trans = [] ∧ s.hap.waiting = []
    let in0 := s.inRunQuiet = true ∧ alone ∧ h.typ = 0x10 ∧ h.ok bs.length = true ∧ h.sid = 0 ∧ h.prot = false ∧ s.settle.flag F.KST_CTL_OPEN = true
    let fresh := x.cache.find? (fun e => e.1 == h.xid) = none ∧ cacheStale x.cache h.xid = false
    let rejected (t : State) (reason : Nat) := OnlyTouches u t [Reg.HAP_ERR1] ∧ t.get F.HAP_ERR1_REJECT = min (u.get F.HAP_ERR1_REJECT + 1) 0xFFFF ∧
      t.hap = u1.hap ∧ t.out = u.out ++ [.datagram (tag u) peer (headBytes 0x12 0 0 h.sid h.xid 8 ++ [reason, 0, 0, 0] ++ Crypto.toBytes 4 h.xid)]
    let A := a.toNat
    let V := v.toNat
    let ends (c : Nat) (t : State) := t = { s with status := c }
    let endsVoted (c : Nat) (t : State) := t = { s with status := c, phu := { s.phu with odd := t.phu.odd } }
    let noStep := A = Reg.TBU_CMD → bit V 1 = false ∧ bit V 2 = false
    (s.inRunQuiet = true → alone → h.typ = 0x10 → h.ok bs.length = true → h.sid = 0 → h.prot = false → u.flag F.KST_CTL_OPEN = false →
      Gives (.request peer b) s fun t => t.get F.HAP_ERR0_AUTH = min (u.get F.HAP_ERR0_AUTH + 1) 0xFFFF ∧ t.out = u.out ∧
        OnlyTouches u t [Reg.HAP_ERR0]) ∧
    (∀ e, in0 → x.cache.find? (fun e => e.1 == h.xid) = some e → Gives (.request peer b) s fun t =>
      t.out = u.out ++ [.datagram (tag u) peer e.2] ∧ OnlyTouches u t [Reg.HAP_REPEATS, Reg.HAP_EXMAX] ∧
        u.get F.HAP_EXMAX_US ≤ t.get F.HAP_EXMAX_US ∧ t.hap = u1.hap ∧
        t.get F.HAP_REPEATS_COUNT = min (u.get F.HAP_REPEATS_COUNT + 1) 0xFFFF) ∧
    (in0 → x.cache.find? (fun e => e.1 == h.xid) = none → cacheStale x.cache h.xid = true → Gives (.request peer b) s fun t => t.out = u.out ∧
      t.flag F.HAP_STAT_STALE = true ∧ t.get F.HAP_ERR0_STALE = min (u.get F.HAP_ERR0_STALE + 1) 0xFFFF ∧
        OnlyTouches u t [Reg.HAP_STAT, Reg.HAP_ERR0]) ∧
    (s.inRunQuiet = true → s.xlk.trans ≠ [] → 16 ≤ bs.length → h.typ = 0x10 →
      (s.hap.waiting.length < 32 → Gives (.request peer b) s fun t => t = { s with hap := { s.hap with waiting := s.hap.waiting ++ [(peer, bs)] } }) ∧
      (32 ≤ s.hap.waiting.length → Gives (.request peer b) s fun t => t.get F.HAP_ERR1_QDROP = min (s.get F.HAP_ERR1_QDROP + 1) 0xFFFF ∧
        t.flag F.HAP_STAT_QDROP = true ∧ t.hap = s.hap ∧ t.out = s.out ∧ OnlyTouches s t [Reg.HAP_ERR1, Reg.HAP_STAT])) ∧
    (in0 → fresh → h.xid = 0 ∨ h.nops = 0 ∨ 64 < h.nops ∨ parseOps h.nops (bs.drop 16) = none → Gives (.request peer b) s fun t => rejected t 1) ∧
    (∀ ops, in0 → fresh → h.xid ≠ 0 → 1 ≤ h.nops → h.nops ≤ 64 → parseOps h.nops (bs.drop 16) = some ops →
      let r : HRun := ops.foldl (fun (r : HRun) o => r.exec 8 o) ({ s := u1, id := 8 * 2 ^ 32 + h.xid } : HRun)
      let resp := headBytes 0x11 0 ops.length 0 h.xid r.body.length ++ r.body
      (1440 < respSize false ops → Gives (.request peer b) s fun t => rejected t 2) ∧
      (respSize false ops ≤ 1440 → Gives (.request peer b) s fun t => ops.length = h.nops ∧
        t.get F.HAP_DGRAMS_COUNT = (r.s.get F.HAP_DGRAMS_COUNT + 1) % 2 ^ 32 ∧ t.hap.sess0.cache = cachePut r.s.hap.sess0.cache h.xid resp ∧
        OnlyTouches r.s t [Reg.HAP_DGRAMS, Reg.HAP_EXMAX] ∧ r.s.get F.HAP_EXMAX_US ≤ t.get F.HAP_EXMAX_US ∧
        (r.s.activePaired = false → t.out = r.s.out ++ [.datagram (tag r.s) peer resp]) ∧
        (r.s.activePaired = true → r.s.flag F.XLK_STAT_READY = false → t.xlk.trans = r.s.xlk.trans ∧
          ∃ m, t.out = r.s.out ++ [.transaction m, .datagram (tag r.s) peer resp] ∧ m.resp = resp) ∧
        (r.s.activePaired = true → r.s.flag F.XLK_STAT_READY = true → ∃ m, t.out = r.s.out ++ [.transaction m] ∧ m.resp = resp ∧
          m.writes = r.writes.filter (fun w => !standbyWritable w.1 w.2.toNat) ∧ m.xid = h.xid ∧ ∃ y, t.xlk.trans = r.s.xlk.trans ++ [y] ∧
            y.resp = resp ∧ y.peer = peer))) ∧
    (s.inRunQuiet = true → A % 4 ≠ 0 → Gives (.registerWrite auth a v) s (ends 0x11)) ∧
    (s.inRunQuiet = true → A % 4 = 0 → placeAt A = none → Gives (.registerWrite auth a v) s (ends 0x12)) ∧
    (s.inRunQuiet = true → A % 4 = 0 → 2 ≤ s.get F.GLB_ROLE_ROLE → placeAt A ≠ none → standbyWritable A V = false → noStep →
      Gives (.registerWrite auth a v) s (ends 0x15)) ∧
    (s.inRunQuiet = true → 2 ≤ s.get F.GLB_ROLE_ROLE → A % 4 = 0 → (0x2000 ≤ A ∧ A < 0x2100) ∨ (0x20000 ≤ A ∧ A < 0x24000) ∨ (0x60000 ≤ A ∧
      A < 0x60100) ∨
      (0x70000 ≤ A ∧ A < 0x70100) ∨ (0xC0000 ≤ A ∧ A < 0xC00C0) → noStep → Gives (.registerWrite auth a v) s (ends 0x15)) ∧
    (s.inRunQuiet = true → A ∈ [Reg.KST_KDAT, Reg.KST_DEF, Reg.KST_DOMAIN, Reg.KST_INFO 0, Reg.KST_VER 3] → s.flag F.KST_CTL_OPEN = false →
      Gives (.registerWrite false a v) s (endsVoted 0x14)) ∧
    (HostMay s A V → A % 4 = 0 → (∃ w, placeAt A = some (.window w) ∧ w ≠ .data ∧ w ≠ .node ∧ w ≠ .radio) →
      Gives (.registerWrite auth a v) s (ends 0x16)) ∧
    (HostMay s A V → A % 4 = 0 → (0xA1000 ≤ A ∧ A < 0xA1080) ∨ (0xC0000 ≤ A ∧ A < 0xC00C0) → regRow A = none →
      Gives (.registerWrite auth a v) s (endsVoted 0x01)) ∧
    (HostMay s Reg.SME_PCAP V → s.disagree Reg.SME_PCAP = [] → Gives (.registerWrite auth (BitVec.ofNat 32 Reg.SME_PCAP) v) s fun t => t.status = 0 ∧
      OnlyTouches s t [Reg.SME_PCAP] ∧ t.get F.SME_PCAP_PCAP = V % 2 ^ (F.SME_PCAP_PCAP).width) ∧
    (HostMay s Reg.SME_PCAP V → s.disagree Reg.SME_PCAP ≠ [] → Gives (.registerWrite auth (BitVec.ofNat 32 Reg.SME_PCAP) v) s fun t => t.status = 0 ∧
      OnlyTouches s t [Reg.GLB_VSCRUB] ∧ t.get F.GLB_VSCRUB_COUNT = min (s.get F.GLB_VSCRUB_COUNT + 1) 0xFFFF) ∧
    (HostMay s Reg.XLK_STAT V → Gives (.registerWrite auth (BitVec.ofNat 32 Reg.XLK_STAT) v) s fun t => t.status = 0 ∧
      OnlyTouches s t [Reg.XLK_STAT] ∧
      ∀ f ∈ [F.XLK_STAT_DEGRADED, F.XLK_STAT_DIVERGE, F.XLK_STAT_COPYLOST, F.XLK_STAT_JOINFAIL, F.XLK_STAT_TAKEOVER],
        t.flag f = (s.flag f && !bit V f.lo)) ∧
    (HostMay s Reg.XLK_STAT V → Gives (.registerWrite auth (BitVec.ofNat 32 Reg.XLK_STAT) v) s fun t =>
      ∀ f ∈ [F.XLK_STAT_PRESENT, F.XLK_STAT_LINKUP, F.XLK_STAT_HBLINE, F.XLK_STAT_READY, F.XLK_STAT_FENCEOUT, F.XLK_STAT_FENCEIN, F.XLK_STAT_SWAPDONE],
        t.flag f = s.flag f) ∧
    (HostMay s Reg.GLB_ROLE V → s.disagree Reg.GLB_ROLE = [] → Gives (.registerWrite auth (BitVec.ofNat 32 Reg.GLB_ROLE) v) s fun t =>
      t.get F.GLB_ROLE_ROLE = s.get F.GLB_ROLE_ROLE ∧ t.get F.GLB_ROLE_PMODE = (if V % 4 ≤ 1 then V % 4 else s.get F.GLB_ROLE_PMODE) ∧
        t.status = (if V % 4 ≤ 1 then 0 else 1) ∧ OnlyTouches s t [Reg.GLB_ROLE]) ∧
    (∀ p w, s.inRunQuiet = true → s.hap.posted.find? (fun q => q.1 == bit_.toNat) = some p → p.2.1 = [w] →
      let s1 : State := { s with hap := { s.hap with posted := s.hap.posted.filter fun q => q.1 != bit_.toNat } }
      Gives (.postedWriteApply bit_) s fun t => t.mem = (s1.writeWord p.2.2.1 w.1 w.2.toNat).mem ∧
        t.basted = (s1.writeWord p.2.2.1 w.1 w.2.toNat).basted ∧ t.hap = (s1.writeWord p.2.2.1 w.1 w.2.toNat).hap ∧ t.status = s.status) ∧
    (s.hap.posted.find? (fun q => q.1 == bit_.toNat) = none → Gives (.postedWriteApply bit_) s fun t => t = s)

/-! ## The module as a whole -/

/-- A step with the command `c` at the front of the queue is `exec c` on the state with the queue's rest, and answers a next state; an empty
queue idles: outside RUN and QUIET the state stays, else the RWV fields are voted (R15), the time base advances one TIME cycle (R250) with
what waits for a time of its own (R277, R502), then a datagram that waits is executed (R443), or with no bobbin in service the pattern engine
passes a group boundary (the model's choice,
assumption log 10); a vote leaves no copy that disagrees. -/
def Obligations.StepTakesTheFrontCommand : Prop :=
  ∀ (s : State) (c : Instr) (rest : List Instr),
    let u := s.voteAll.timeCycle.rtcSettle.fenceSettle
    (s.pending = c :: rest → step s = exec c { s with pending := rest } ∧ ∃ t, step s = .next t) ∧
    (s.pending = [] → s.inRunQuiet = false → step s = .next s) ∧
    (s.pending = [] → s.inRunQuiet = true → s.hostReady = true → step s = .next u.serveHost) ∧
    (s.pending = [] → s.inRunQuiet = true → s.hostReady = false → s.pen.cur = none → step s = .next u.groupBoundary) ∧
    (∀ a, s.voteAll.disagree a = []) ∧ (s.rtc.held = none → s.xlk.fenceAt = none → u = s.voteAll.timeCycle) ∧
    (s.pending = [] → s.inRunQuiet = true → ∀ n, n < 32 → s.pen.cur = some n → ∃ t, step s = .next t) ∧
    s.timeCycle = { s with ns := s.timeCycle.ns, frac := s.timeCycle.frac } ∧
    (s.timeCycle.ns : Int) * 2 ^ 32 + s.timeCycle.frac.toNat = (s.ns : Int) * 2 ^ 32 + s.frac.toNat + 8 * 2 ^ 32 + s.sget F.TBU_FREQ_FREQ

/-- R14 and the Reset columns of R59, R95, R96, R160, R184, R204, R221, R247, R248, R270, R293, R325, R359, R385, R410, R411, R434, R435,
R465, R490, R491: what reset leaves in the registers, beside an empty queue, the RUN state (R470) and a word store in its canonical form
with nothing listed. A value whose Reset entry names no number is the model's choice, assumption log 3. -/
def Obligations.ResetState : Prop :=
  let s := State.reset
  s.memOk = true ∧ s.mem = [] ∧ s.pending = [] ∧ s.mode = .run ∧ s.out = [] ∧ s.basted = [] ∧
  (∀ n, n < 32 → (s.bob n).pc = 0 ∧ (∀ r, (s.bob n).rg r = 0) ∧ s.get (F.PEN_BBUDGET_BUDGET n) = 1 ∧ s.get (F.PEN_BWIN_SIZE n) = 512 ∧
    s.get (F.SEA_TAILDLY_NS n) = 15 ∧ s.get (F.SEA_CFGTGT_TARGET n) = 0xFF ∧ s.flag (F.SEA_CTL_ENABLE n) = false) ∧
  (∀ z, z < 512 → s.get (F.ZON_CTL_REACT z) = 1 ∧ s.get (F.ZON_CTL_FCAP z) = 0xFFFF ∧ s.get (F.ZON_PCAP_PCAP z) = 0xFFFFFF ∧
    s.get (F.ZON_SRC_SOURCE z) = 0xFFFF ∧ s.get (F.CCE_LOUT_GAIN z) = 0x4000 ∧ s.flag (F.CCE_LCTL_FEOPEN z) = true ∧
    s.get (F.ZON_STAT_MEMBERS z) = if z = 511 then 4096 else 0) ∧
  (∀ i, i < 4096 → s.get (F.NT_ZONE i) = 511 ∧ s.get (F.NT_LDLY i) = 15 ∧ s.get (F.NT_STATE i) = 0) ∧
  (∀ i, i < 1024 → s.get (F.RT_STATE i) = 0) ∧
  s.flag F.PEN_CTL_RUN = true ∧ s.get F.PEN_TICK_TICK = 10000 ∧ s.get F.SEA_FPER_US = 2000 ∧ s.get F.SEA_LEAD_US = 2000 ∧ s.get F.SEA_HOLD_SEC = 60 ∧
  s.get F.SME_PCAP_PCAP = 0xFFFFFF ∧ s.get F.SME_AGELIM_LIMIT = 0xB333 ∧ s.get F.SME_CTL_TDEAD = 4 ∧ s.get F.DIA_CTL_FLAPLIM = 4 ∧
  s.get F.DIA_PERIOD_FRAMES = 1000 ∧ s.get F.CCE_IDIV_FRAMES = 50 ∧ s.get F.CCE_ODIV_RUNS = 600 ∧ s.get F.CCE_STALE_TIME = 300 ∧
  s.get F.TBU_UTCOFF_SEC = 37 ∧ s.get F.TBU_LOCKTH_NS = 500 ∧ s.get F.TBU_SLEWMAX_PPB = 200000 ∧ s.get F.TBU_STAT_STATE = 0 ∧
  s.flag F.RTC_STAT_LOST = true ∧ s.get F.RTC_TIME_DOW = 6 ∧ s.get F.RTC_DATE_CENT = 0x20 ∧ s.get F.MTR_INTV_SEC = 900 ∧
  s.get F.SRU_RALLY_SEC = 10 ∧ s.get F.SRU_WIN_OPEN = 40 ∧ s.get F.SRU_TXPWR_DBM = 14 ∧ s.get F.SRU_HOPSEED_SEED = 1 ∧
  s.flag F.KST_CTL_OPEN = true ∧ s.flag F.EVQ_CTL_MODE = true ∧ s.get F.EVQ_WM_LEVEL = 768 ∧ s.get F.JNL_WPTR_NUM = 0 ∧
  s.flag F.XLK_AUTH_PERMIT = true ∧ s.flag F.XLK_CTL_JOINEN = true ∧ s.get F.GLB_ROLE_PMODE = 1 ∧ s.get F.HAP_PORT_PORT = 47190 ∧
  s.get F.HAP_IP4NET_PREFIX = 24 ∧ s.flag F.HAP_CTL_CHAIN = true ∧ s.flag F.HAP_CTL_POSTED = false ∧ s.get F.HAP_SESSTO_SEC = 3600 ∧
  s.get F.GLB_RSTCTL_RETAIN = 0xEA6 ∧ s.flag F.GLB_RSTCTL_WDTEN = true ∧ s.get F.PHU_WARN_V = 3200 ∧ s.get F.PHU_SAVE_V = 2800 ∧
  s.get F.PHU_RESUME_V = 3400 ∧ s.get F.PHU_CAP_UF = 1500 ∧ s.peek Reg.SME_LAGE = 0x10000 ∧ s.peek Reg.SME_LTEMP = 0xFFFF0190 ∧
  s.peek Reg.EVQ_STAT = 3 ∧ s.peek Reg.SRU_SLOTS = 80 ∧ s.peek Reg.KST_COUNT = 1

/-- R98 to R125: every legal bobbin instruction of every bobbin, with every operand at every value its encoding admits, is read back from its word. -/
def Obligations.BobbinWordsReadBack : Prop :=
  ∀ (n : BitVec 5) (i : Instr), i.bobbin? = some n → i.legal = true → decodeBobbin n (bobbinWord i) = i

/-- Every step keeps the word store in its canonical form: addresses strictly rising, no word listed that equals what an unwritten word
reads as, so that equal stores are equal data (the model's own form of the store). The form is that of assumption log 2. -/
def Obligations.StepKeepsTheStoreCanonical : Prop :=
  ∀ s t : State, s.memOk = true → step s = .next t → t.memOk = true

/-- Every command of the table completes in every state, and a command whose effect is due does it: the tick commit at a tick start that has
not been committed (R25, R46), the repair of the word for which a bobbin is parked (R78), the scrub of program and curve memory (R79), and
the host writes of a node's zone, of a zone's target and of its control word (R39, R43, R44).  What a command does that is not due is the
model's choice, assumption log 12. -/
def Obligations.EveryCommandCompletes : Prop :=
  (∀ (c : Instr) (s : State), ∃ t, exec c s = .next t) ∧
  (∀ s : State, s.inRunQuiet = true → s.isTick s.gridNow = true → s.pen.lastCommit ≠ some s.gridNow → s.pen.tickAt ≠ some s.gridNow →
    s.lastFrame ≠ some s.gridNow → Gives .tickCommit s fun t => t.pen.lastCommit = some s.gridNow ∧ t.zon.node = []) ∧
  (∀ (s : State) (n : BitVec 5) (a : Nat), (s.bob n.toNat).parked = some a → s.parBad a = true → isEngineMem a = true →
    Gives (.penPfix n true) s fun t => t.rd a = s.flashWord a ∧ t.parBad a = false ∧ (t.bob n.toNat).parked = none) ∧
  (∀ s : State, s.inRunQuiet = true → s.phu.tr + (s.phu.scrubP + 1) * 600000000000 ≤ s.ns →
    Gives .programScrubPass s fun t => t.phu.scrubP = s.phu.scrubP + 1 ∧ ∀ a, isEngineMem a = true → t.parBad a = false) ∧
  (∀ (s : State) (i : BitVec 12) (v : Word), HostMay s (nodeAddr i.toNat 0) v.toNat → v.toNat % 1024 ≤ 511 →
    Gives (.nodeZoneWrite i v) s fun t => t.status = 0 ∧ spGet (fun _ => none) t.zon.node i.toNat = some (v.toNat % 1024)) ∧
  (∀ (s : State) (z : BitVec 9) (k : BitVec 2) (v : Word), HostMay s (Reg.ZON_TGT z.toNat k.toNat) v.toNat → z.toNat ≠ 511 →
    s.get (F.ZON_CTL_OWNER z.toNat) = 1 → Gives (.zonTgtWrite z k v) s fun t => t.status = 0 ∧ ∀ j : Fin 8, j.val / 2 = k.toNat →
      (t.zstage z.toNat).bands[j] = some (BitVec.ofNat 16 (v.toNat / 2 ^ (16 * (j.val % 2)) % 65536))) ∧
  (∀ (s : State) (z : BitVec 9) (v : Word), HostMay s (Reg.ZON_CTL z.toNat) v.toNat →
    Gives (.zonCtlWrite z v) s fun t => t.status = 0 ∧ t.get (F.ZON_CTL_OWNER z.toNat) = v.toNat / 2 % 2 ∧
      t.get (F.ZON_CTL_FCAP z.toNat) = v.toNat / 65536)
end

