-- ==== Sys2Proof/Laws/Store.lean ====
section
/-!
SUPPORT. Laws/Store.lean: reading after writing in a sparse table, the canonical form, and the bit fields of a word.
-/

namespace Sys2Proof.Machine

variable {α : Type}

/-! ## Reading after writing -/

theorem spGet_spIns_same (d : Nat → α) (k : Nat) (v : α) (m : Sp α) (h : ∀ p ∈ m, p.1 ≠ k) :
    spGet d (spIns k v m) k = v := by
  induction m with
  | nil => simp [spIns, spGet]
  | cons p t ih =>
    obtain ⟨j, w⟩ := p
    have hj : k ≠ j := fun e => h (j, w) (by simp) e.symm
    by_cases hkj : k < j
    · simp [spIns, hkj, spGet]
    · simp [spIns, hkj, spGet, hj, ih fun q hq => h q (by simp [hq])]

theorem spGet_spIns_ne (d : Nat → α) {k a : Nat} (v : α) (m : Sp α) (h : a ≠ k) :
    spGet d (spIns k v m) a = spGet d m a := by
  induction m with
  | nil => simp [spIns, spGet, h]
  | cons p t ih =>
    obtain ⟨j, w⟩ := p
    by_cases hkj : k < j
    · simp [spIns, hkj, spGet, h]
    · by_cases haj : a = j <;> simp [spIns, hkj, spGet, haj, ih]

theorem spDel_no_key (k : Nat) (m : Sp α) : ∀ p ∈ spDel k m, p.1 ≠ k := by
  induction m with
  | nil => simp [spDel]
  | cons p t ih =>
    obtain ⟨j, w⟩ := p
    by_cases hj : j = k
    · simpa [spDel, hj] using ih
    · intro q hq
      simp only [spDel, hj, if_false, List.mem_cons] at hq
      rcases hq with rfl | hq
      · exact hj
      · exact ih q hq

theorem spGet_of_no_key (d : Nat → α) (k : Nat) (m : Sp α) (h : ∀ p ∈ m, p.1 ≠ k) : spGet d m k = d k := by
  induction m with
  | nil => simp [spGet]
  | cons p t ih =>
    obtain ⟨j, w⟩ := p
    have hj : k ≠ j := fun e => h (j, w) (by simp) e.symm
    simp [spGet, hj, ih fun q hq => h q (by simp [hq])]

theorem spGet_spDel_ne (d : Nat → α) {k a : Nat} (m : Sp α) (h : a ≠ k) : spGet d (spDel k m) a = spGet d m a := by
  induction m with
  | nil => rfl
  | cons p t ih =>
    obtain ⟨j, w⟩ := p
    by_cases hj : j = k
    · simp [spDel, hj, spGet, h, ih]
    · by_cases haj : a = j <;> simp [spDel, hj, spGet, haj, ih]

@[simp] theorem spGet_nil (d : Nat → α) (k : Nat) : spGet d [] k = d k := rfl

variable [DecidableEq α]

/-- A key reads as the value last written to it. -/
@[simp] theorem spGet_spSet_same (d : Nat → α) (m : Sp α) (k : Nat) (v : α) : spGet d (spSet d m k v) k = v := by
  unfold spSet
  split
  · next h => rw [h]; exact spGet_of_no_key d k _ (spDel_no_key k m)
  · exact spGet_spIns_same d k v _ (spDel_no_key k m)

/-- A write leaves every other key alone. -/
theorem spGet_spSet_ne (d : Nat → α) (m : Sp α) {k a : Nat} (v : α) (h : a ≠ k) :
    spGet d (spSet d m k v) a = spGet d m a := by
  unfold spSet
  split
  · exact spGet_spDel_ne d m h
  · rw [spGet_spIns_ne d v _ h, spGet_spDel_ne d m h]

/-- Reading after one write. -/
theorem spGet_spSet (d : Nat → α) (m : Sp α) (k a : Nat) (v : α) :
    spGet d (spSet d m k v) a = if a = k then v else spGet d m a := by
  split
  · next h => rw [h]; exact spGet_spSet_same d m k v
  · next h => exact spGet_spSet_ne d m v h

/-! ## The canonical form -/

/-- A table that is canonical above some key is canonical above every smaller one. -/
theorem spWfFrom_mono (d : Nat → α) {lo lo' : Option Nat} (m : Sp α)
    (hle : ∀ l', lo' = some l' → ∃ l, lo = some l ∧ l' ≤ l) (h : spWfFrom d lo m = true) : spWfFrom d lo' m = true := by
  cases m with
  | nil => rfl
  | cons p t =>
    obtain ⟨j, v⟩ := p
    simp only [spWfFrom, Bool.and_eq_true] at h ⊢
    refine ⟨⟨?_, h.1.2⟩, h.2⟩
    cases lo' with
    | none => rfl
    | some l' =>
      obtain ⟨l, rfl, hl⟩ := hle l' rfl
      have := h.1.1
      simp only [decide_eq_true_eq] at this ⊢
      omega

theorem spWfFrom_spDel (d : Nat → α) (k : Nat) (m : Sp α) (lo : Option Nat) (h : spWfFrom d lo m = true) :
    spWfFrom d lo (spDel k m) = true := by
  induction m generalizing lo with
  | nil => rfl
  | cons p t ih =>
    obtain ⟨j, v⟩ := p
    have h' := h
    simp only [spWfFrom, Bool.and_eq_true] at h'
    by_cases hj : j = k
    · simp only [spDel, hj, if_true]
      refine spWfFrom_mono d _ ?_ (ih (some j) h'.2)
      intro l' hl'
      subst hl'
      have := h'.1.1
      simp only [decide_eq_true_eq] at this
      exact ⟨j, rfl, by omega⟩
    · simp only [spDel, hj, if_false, spWfFrom, Bool.and_eq_true]
      exact ⟨h'.1, ih (some j) h'.2⟩

theorem spWfFrom_spIns (d : Nat → α) (k : Nat) (v : α) (m : Sp α) (lo : Option Nat) (hv : v ≠ d k)
    (hk : ∀ p ∈ m, p.1 ≠ k) (hlo : ∀ l, lo = some l → l < k) (h : spWfFrom d lo m = true) :
    spWfFrom d lo (spIns k v m) = true := by
  induction m generalizing lo with
  | nil =>
    simp only [spIns, spWfFrom, Bool.and_true, Bool.and_eq_true]
    refine ⟨?_, by simpa using hv⟩
    cases lo with
    | none => rfl
    | some l => simpa using hlo l rfl
  | cons p t ih =>
    obtain ⟨j, w⟩ := p
    have h' := h
    simp only [spWfFrom, Bool.and_eq_true] at h'
    by_cases hkj : k < j
    · simp only [spIns, hkj, if_true, spWfFrom, Bool.and_eq_true]
      refine ⟨⟨?_, by simpa using hv⟩, ⟨by simp, h'.1.2⟩, h'.2⟩
      cases lo with
      | none => rfl
      | some l => simpa using hlo l rfl
    · have hne : j ≠ k := hk (j, w) (by simp)
      simp only [spIns, hkj, if_false, spWfFrom, Bool.and_eq_true]
      refine ⟨h'.1, ih (some j) (fun q hq => hk q (by simp [hq])) ?_ h'.2⟩
      intro l hl
      cases hl
      omega

/-- A write keeps a table canonical. -/
theorem spWf_spSet (d : Nat → α) (m : Sp α) (k : Nat) (v : α) (h : spWf d m = true) : spWf d (spSet d m k v) = true := by
  unfold spSet
  split
  · exact spWfFrom_spDel d k m none h
  · next hv =>
    exact spWfFrom_spIns d k v _ none hv (spDel_no_key k m) (fun l hl => by cases hl) (spWfFrom_spDel d k m none h)

/-- Leaving out pairs keeps a table canonical. -/
theorem spWfFrom_filter (d : Nat → α) (p : Nat × α → Bool) (m : Sp α) (lo : Option Nat) (h : spWfFrom d lo m = true) :
    spWfFrom d lo (m.filter p) = true := by
  induction m generalizing lo with
  | nil => rfl
  | cons q t ih =>
    obtain ⟨j, v⟩ := q
    have h' := h
    simp only [spWfFrom, Bool.and_eq_true] at h'
    by_cases hq : p (j, v) = true
    · simp only [List.filter_cons, hq, if_true, spWfFrom, Bool.and_eq_true]
      exact ⟨h'.1, ih (some j) h'.2⟩
    · simp only [List.filter_cons, hq]
      refine spWfFrom_mono d _ ?_ (ih (some j) h'.2)
      intro l' hl'
      subst hl'
      have := h'.1.1
      simp only [decide_eq_true_eq] at this
      exact ⟨j, rfl, by omega⟩

theorem spWf_filter (d : Nat → α) (p : Nat × α → Bool) (m : Sp α) (h : spWf d m = true) :
    spWf d (m.filter p) = true := spWfFrom_filter d p m none h

/-! ## Bit fields -/

/-- Bit `i` of a word, as its bit field of width 1. -/
theorem getLsbD_putBits (w : Word) (lo n v i : Nat) (hi : i < 32) :
    (putBits w lo n v).getLsbD i = if lo ≤ i ∧ i < lo + n then v.testBit (i - lo) else w.getLsbD i := by
  unfold putBits
  have h1 : ((2 ^ n - 1) * 2 ^ lo).testBit i = decide (lo ≤ i ∧ i < lo + n) := by
    rw [Nat.testBit_mul_two_pow, Nat.testBit_two_pow_sub_one]
    by_cases a : lo ≤ i <;> by_cases b : i < lo + n <;> simp [a, b] <;> omega
  have h2 : (v % 2 ^ n * 2 ^ lo).testBit i = (decide (lo ≤ i ∧ i < lo + n) && v.testBit (i - lo)) := by
    rw [Nat.testBit_mul_two_pow, Nat.testBit_mod_two_pow]
    by_cases a : lo ≤ i <;> by_cases b : i < lo + n <;> simp [a, b] <;> omega
  by_cases hh : lo ≤ i ∧ i < lo + n
  · simp only [BitVec.getLsbD_or, BitVec.getLsbD_and, BitVec.getLsbD_not, BitVec.getLsbD_ofNat, hi, h1, h2, hh,
      decide_true, Bool.true_and, Bool.not_true, Bool.and_false, Bool.false_or, and_self, if_true]
  · simp only [BitVec.getLsbD_or, BitVec.getLsbD_and, BitVec.getLsbD_not, BitVec.getLsbD_ofNat, hi, h1, h2, hh,
      decide_true, decide_false, Bool.true_and, Bool.not_false, Bool.and_true, Bool.false_and, Bool.or_false, if_false]

theorem testBit_getBits (w : Word) (lo n i : Nat) :
    (getBits w lo n).testBit i = (decide (i < n) && w.getLsbD (lo + i)) := by
  unfold getBits
  rw [Nat.testBit_mod_two_pow, Nat.testBit_div_two_pow, BitVec.getLsbD, Nat.add_comm]

/-- A field reads as what was put into it. -/
theorem getBits_putBits_same (w : Word) (lo n v : Nat) (h : lo + n ≤ 32) : getBits (putBits w lo n v) lo n = v % 2 ^ n := by
  apply Nat.eq_of_testBit_eq
  intro i
  rw [testBit_getBits, Nat.testBit_mod_two_pow]
  by_cases hi : i < n
  · rw [getLsbD_putBits _ _ _ _ _ (by omega)]
    simp [hi]
  · simp [hi]

/-- A field reads as before after a field with other bits is put. -/
theorem getBits_putBits_disj (w : Word) (lo n v lo' n' : Nat) (h : lo' + n' ≤ lo ∨ lo + n ≤ lo') :
    getBits (putBits w lo n v) lo' n' = getBits w lo' n' := by
  apply Nat.eq_of_testBit_eq
  intro i
  rw [testBit_getBits, testBit_getBits]
  by_cases hi : i < n'
  · by_cases h32 : lo' + i < 32
    · rw [getLsbD_putBits _ _ _ _ _ h32, if_neg (by omega)]
    · rw [BitVec.getLsbD_of_ge _ _ (by omega), BitVec.getLsbD_of_ge _ _ (by omega)]
  · simp [hi]

theorem getBits_lt (w : Word) (lo n : Nat) : getBits w lo n < 2 ^ n := Nat.mod_lt _ (Nat.two_pow_pos n)

end Sys2Proof.Machine
end

