-- ==== Sys2Proof/Laws/State.lean ====
section
/-!
SUPPORT. Laws/State.lean: one lemma for each field of the state and each named update (what the update leaves alone), what an
update writes, and reading a register word or field after each update.
-/

namespace Sys2Proof.Machine

variable (s : State)

/-! ## wr -/

@[simp] theorem State.wr_badPar (a : Nat) (w : Word) : (s.wr a w).badPar = s.badPar := rfl
@[simp] theorem State.wr_ns (a : Nat) (w : Word) : (s.wr a w).ns = s.ns := rfl
@[simp] theorem State.wr_frac (a : Nat) (w : Word) : (s.wr a w).frac = s.frac := rfl
@[simp] theorem State.wr_lastFrame (a : Nat) (w : Word) : (s.wr a w).lastFrame = s.lastFrame := rfl
@[simp] theorem State.wr_bobs (a : Nat) (w : Word) : (s.wr a w).bobs = s.bobs := rfl
@[simp] theorem State.wr_pen (a : Nat) (w : Word) : (s.wr a w).pen = s.pen := rfl
@[simp] theorem State.wr_zon (a : Nat) (w : Word) : (s.wr a w).zon = s.zon := rfl
@[simp] theorem State.wr_sens (a : Nat) (w : Word) : (s.wr a w).sens = s.sens := rfl
@[simp] theorem State.wr_evq (a : Nat) (w : Word) : (s.wr a w).evq = s.evq := rfl
@[simp] theorem State.wr_sme (a : Nat) (w : Word) : (s.wr a w).sme = s.sme := rfl
@[simp] theorem State.wr_sea (a : Nat) (w : Word) : (s.wr a w).sea = s.sea := rfl
@[simp] theorem State.wr_dia (a : Nat) (w : Word) : (s.wr a w).dia = s.dia := rfl
@[simp] theorem State.wr_cce (a : Nat) (w : Word) : (s.wr a w).cce = s.cce := rfl
@[simp] theorem State.wr_tbu (a : Nat) (w : Word) : (s.wr a w).tbu = s.tbu := rfl
@[simp] theorem State.wr_rtc (a : Nat) (w : Word) : (s.wr a w).rtc = s.rtc := rfl
@[simp] theorem State.wr_mtr (a : Nat) (w : Word) : (s.wr a w).mtr = s.mtr := rfl
@[simp] theorem State.wr_sru (a : Nat) (w : Word) : (s.wr a w).sru = s.sru := rfl
@[simp] theorem State.wr_kst (a : Nat) (w : Word) : (s.wr a w).kst = s.kst := rfl
@[simp] theorem State.wr_lop (a : Nat) (w : Word) : (s.wr a w).lop = s.lop := rfl
@[simp] theorem State.wr_xlk (a : Nat) (w : Word) : (s.wr a w).xlk = s.xlk := rfl
@[simp] theorem State.wr_hap (a : Nat) (w : Word) : (s.wr a w).hap = s.hap := rfl
@[simp] theorem State.wr_phu (a : Nat) (w : Word) : (s.wr a w).phu = s.phu := rfl
@[simp] theorem State.wr_basted (a : Nat) (w : Word) : (s.wr a w).basted = s.basted := rfl
@[simp] theorem State.wr_mode (a : Nat) (w : Word) : (s.wr a w).mode = s.mode := rfl
@[simp] theorem State.wr_out (a : Nat) (w : Word) : (s.wr a w).out = s.out := rfl
@[simp] theorem State.wr_rates (a : Nat) (w : Word) : (s.wr a w).rates = s.rates := rfl
@[simp] theorem State.wr_status (a : Nat) (w : Word) : (s.wr a w).status = s.status := rfl
@[simp] theorem State.wr_rdata (a : Nat) (w : Word) : (s.wr a w).rdata = s.rdata := rfl
@[simp] theorem State.wr_free (a : Nat) (w : Word) : (s.wr a w).free = s.free := rfl
@[simp] theorem State.wr_pending (a : Nat) (w : Word) : (s.wr a w).pending = s.pending := rfl

/-! ## put -/

@[simp] theorem State.put_badPar (f : Fld) (v : Nat) : (s.put f v).badPar = s.badPar := rfl
@[simp] theorem State.put_ns (f : Fld) (v : Nat) : (s.put f v).ns = s.ns := rfl
@[simp] theorem State.put_frac (f : Fld) (v : Nat) : (s.put f v).frac = s.frac := rfl
@[simp] theorem State.put_lastFrame (f : Fld) (v : Nat) : (s.put f v).lastFrame = s.lastFrame := rfl
@[simp] theorem State.put_bobs (f : Fld) (v : Nat) : (s.put f v).bobs = s.bobs := rfl
@[simp] theorem State.put_pen (f : Fld) (v : Nat) : (s.put f v).pen = s.pen := rfl
@[simp] theorem State.put_zon (f : Fld) (v : Nat) : (s.put f v).zon = s.zon := rfl
@[simp] theorem State.put_sens (f : Fld) (v : Nat) : (s.put f v).sens = s.sens := rfl
@[simp] theorem State.put_evq (f : Fld) (v : Nat) : (s.put f v).evq = s.evq := rfl
@[simp] theorem State.put_sme (f : Fld) (v : Nat) : (s.put f v).sme = s.sme := rfl
@[simp] theorem State.put_sea (f : Fld) (v : Nat) : (s.put f v).sea = s.sea := rfl
@[simp] theorem State.put_dia (f : Fld) (v : Nat) : (s.put f v).dia = s.dia := rfl
@[simp] theorem State.put_cce (f : Fld) (v : Nat) : (s.put f v).cce = s.cce := rfl
@[simp] theorem State.put_tbu (f : Fld) (v : Nat) : (s.put f v).tbu = s.tbu := rfl
@[simp] theorem State.put_rtc (f : Fld) (v : Nat) : (s.put f v).rtc = s.rtc := rfl
@[simp] theorem State.put_mtr (f : Fld) (v : Nat) : (s.put f v).mtr = s.mtr := rfl
@[simp] theorem State.put_sru (f : Fld) (v : Nat) : (s.put f v).sru = s.sru := rfl
@[simp] theorem State.put_kst (f : Fld) (v : Nat) : (s.put f v).kst = s.kst := rfl
@[simp] theorem State.put_lop (f : Fld) (v : Nat) : (s.put f v).lop = s.lop := rfl
@[simp] theorem State.put_xlk (f : Fld) (v : Nat) : (s.put f v).xlk = s.xlk := rfl
@[simp] theorem State.put_hap (f : Fld) (v : Nat) : (s.put f v).hap = s.hap := rfl
@[simp] theorem State.put_phu (f : Fld) (v : Nat) : (s.put f v).phu = s.phu := rfl
@[simp] theorem State.put_basted (f : Fld) (v : Nat) : (s.put f v).basted = s.basted := rfl
@[simp] theorem State.put_mode (f : Fld) (v : Nat) : (s.put f v).mode = s.mode := rfl
@[simp] theorem State.put_out (f : Fld) (v : Nat) : (s.put f v).out = s.out := rfl
@[simp] theorem State.put_rates (f : Fld) (v : Nat) : (s.put f v).rates = s.rates := rfl
@[simp] theorem State.put_status (f : Fld) (v : Nat) : (s.put f v).status = s.status := rfl
@[simp] theorem State.put_rdata (f : Fld) (v : Nat) : (s.put f v).rdata = s.rdata := rfl
@[simp] theorem State.put_free (f : Fld) (v : Nat) : (s.put f v).free = s.free := rfl
@[simp] theorem State.put_pending (f : Fld) (v : Nat) : (s.put f v).pending = s.pending := rfl

/-! ## sput -/

@[simp] theorem State.sput_badPar (f : Fld) (v : Int) : (s.sput f v).badPar = s.badPar := rfl
@[simp] theorem State.sput_ns (f : Fld) (v : Int) : (s.sput f v).ns = s.ns := rfl
@[simp] theorem State.sput_frac (f : Fld) (v : Int) : (s.sput f v).frac = s.frac := rfl
@[simp] theorem State.sput_lastFrame (f : Fld) (v : Int) : (s.sput f v).lastFrame = s.lastFrame := rfl
@[simp] theorem State.sput_bobs (f : Fld) (v : Int) : (s.sput f v).bobs = s.bobs := rfl
@[simp] theorem State.sput_pen (f : Fld) (v : Int) : (s.sput f v).pen = s.pen := rfl
@[simp] theorem State.sput_zon (f : Fld) (v : Int) : (s.sput f v).zon = s.zon := rfl
@[simp] theorem State.sput_sens (f : Fld) (v : Int) : (s.sput f v).sens = s.sens := rfl
@[simp] theorem State.sput_evq (f : Fld) (v : Int) : (s.sput f v).evq = s.evq := rfl
@[simp] theorem State.sput_sme (f : Fld) (v : Int) : (s.sput f v).sme = s.sme := rfl
@[simp] theorem State.sput_sea (f : Fld) (v : Int) : (s.sput f v).sea = s.sea := rfl
@[simp] theorem State.sput_dia (f : Fld) (v : Int) : (s.sput f v).dia = s.dia := rfl
@[simp] theorem State.sput_cce (f : Fld) (v : Int) : (s.sput f v).cce = s.cce := rfl
@[simp] theorem State.sput_tbu (f : Fld) (v : Int) : (s.sput f v).tbu = s.tbu := rfl
@[simp] theorem State.sput_rtc (f : Fld) (v : Int) : (s.sput f v).rtc = s.rtc := rfl
@[simp] theorem State.sput_mtr (f : Fld) (v : Int) : (s.sput f v).mtr = s.mtr := rfl
@[simp] theorem State.sput_sru (f : Fld) (v : Int) : (s.sput f v).sru = s.sru := rfl
@[simp] theorem State.sput_kst (f : Fld) (v : Int) : (s.sput f v).kst = s.kst := rfl
@[simp] theorem State.sput_lop (f : Fld) (v : Int) : (s.sput f v).lop = s.lop := rfl
@[simp] theorem State.sput_xlk (f : Fld) (v : Int) : (s.sput f v).xlk = s.xlk := rfl
@[simp] theorem State.sput_hap (f : Fld) (v : Int) : (s.sput f v).hap = s.hap := rfl
@[simp] theorem State.sput_phu (f : Fld) (v : Int) : (s.sput f v).phu = s.phu := rfl
@[simp] theorem State.sput_basted (f : Fld) (v : Int) : (s.sput f v).basted = s.basted := rfl
@[simp] theorem State.sput_mode (f : Fld) (v : Int) : (s.sput f v).mode = s.mode := rfl
@[simp] theorem State.sput_out (f : Fld) (v : Int) : (s.sput f v).out = s.out := rfl
@[simp] theorem State.sput_rates (f : Fld) (v : Int) : (s.sput f v).rates = s.rates := rfl
@[simp] theorem State.sput_status (f : Fld) (v : Int) : (s.sput f v).status = s.status := rfl
@[simp] theorem State.sput_rdata (f : Fld) (v : Int) : (s.sput f v).rdata = s.rdata := rfl
@[simp] theorem State.sput_free (f : Fld) (v : Int) : (s.sput f v).free = s.free := rfl
@[simp] theorem State.sput_pending (f : Fld) (v : Int) : (s.sput f v).pending = s.pending := rfl

/-! ## setFlag -/

@[simp] theorem State.setFlag_badPar (f : Fld) (b : Bool) : (s.setFlag f b).badPar = s.badPar := rfl
@[simp] theorem State.setFlag_ns (f : Fld) (b : Bool) : (s.setFlag f b).ns = s.ns := rfl
@[simp] theorem State.setFlag_frac (f : Fld) (b : Bool) : (s.setFlag f b).frac = s.frac := rfl
@[simp] theorem State.setFlag_lastFrame (f : Fld) (b : Bool) : (s.setFlag f b).lastFrame = s.lastFrame := rfl
@[simp] theorem State.setFlag_bobs (f : Fld) (b : Bool) : (s.setFlag f b).bobs = s.bobs := rfl
@[simp] theorem State.setFlag_pen (f : Fld) (b : Bool) : (s.setFlag f b).pen = s.pen := rfl
@[simp] theorem State.setFlag_zon (f : Fld) (b : Bool) : (s.setFlag f b).zon = s.zon := rfl
@[simp] theorem State.setFlag_sens (f : Fld) (b : Bool) : (s.setFlag f b).sens = s.sens := rfl
@[simp] theorem State.setFlag_evq (f : Fld) (b : Bool) : (s.setFlag f b).evq = s.evq := rfl
@[simp] theorem State.setFlag_sme (f : Fld) (b : Bool) : (s.setFlag f b).sme = s.sme := rfl
@[simp] theorem State.setFlag_sea (f : Fld) (b : Bool) : (s.setFlag f b).sea = s.sea := rfl
@[simp] theorem State.setFlag_dia (f : Fld) (b : Bool) : (s.setFlag f b).dia = s.dia := rfl
@[simp] theorem State.setFlag_cce (f : Fld) (b : Bool) : (s.setFlag f b).cce = s.cce := rfl
@[simp] theorem State.setFlag_tbu (f : Fld) (b : Bool) : (s.setFlag f b).tbu = s.tbu := rfl
@[simp] theorem State.setFlag_rtc (f : Fld) (b : Bool) : (s.setFlag f b).rtc = s.rtc := rfl
@[simp] theorem State.setFlag_mtr (f : Fld) (b : Bool) : (s.setFlag f b).mtr = s.mtr := rfl
@[simp] theorem State.setFlag_sru (f : Fld) (b : Bool) : (s.setFlag f b).sru = s.sru := rfl
@[simp] theorem State.setFlag_kst (f : Fld) (b : Bool) : (s.setFlag f b).kst = s.kst := rfl
@[simp] theorem State.setFlag_lop (f : Fld) (b : Bool) : (s.setFlag f b).lop = s.lop := rfl
@[simp] theorem State.setFlag_xlk (f : Fld) (b : Bool) : (s.setFlag f b).xlk = s.xlk := rfl
@[simp] theorem State.setFlag_hap (f : Fld) (b : Bool) : (s.setFlag f b).hap = s.hap := rfl
@[simp] theorem State.setFlag_phu (f : Fld) (b : Bool) : (s.setFlag f b).phu = s.phu := rfl
@[simp] theorem State.setFlag_basted (f : Fld) (b : Bool) : (s.setFlag f b).basted = s.basted := rfl
@[simp] theorem State.setFlag_mode (f : Fld) (b : Bool) : (s.setFlag f b).mode = s.mode := rfl
@[simp] theorem State.setFlag_out (f : Fld) (b : Bool) : (s.setFlag f b).out = s.out := rfl
@[simp] theorem State.setFlag_rates (f : Fld) (b : Bool) : (s.setFlag f b).rates = s.rates := rfl
@[simp] theorem State.setFlag_status (f : Fld) (b : Bool) : (s.setFlag f b).status = s.status := rfl
@[simp] theorem State.setFlag_rdata (f : Fld) (b : Bool) : (s.setFlag f b).rdata = s.rdata := rfl
@[simp] theorem State.setFlag_free (f : Fld) (b : Bool) : (s.setFlag f b).free = s.free := rfl
@[simp] theorem State.setFlag_pending (f : Fld) (b : Bool) : (s.setFlag f b).pending = s.pending := rfl

/-! ## inc -/

@[simp] theorem State.inc_badPar (f : Fld) : (s.inc f).badPar = s.badPar := rfl
@[simp] theorem State.inc_ns (f : Fld) : (s.inc f).ns = s.ns := rfl
@[simp] theorem State.inc_frac (f : Fld) : (s.inc f).frac = s.frac := rfl
@[simp] theorem State.inc_lastFrame (f : Fld) : (s.inc f).lastFrame = s.lastFrame := rfl
@[simp] theorem State.inc_bobs (f : Fld) : (s.inc f).bobs = s.bobs := rfl
@[simp] theorem State.inc_pen (f : Fld) : (s.inc f).pen = s.pen := rfl
@[simp] theorem State.inc_zon (f : Fld) : (s.inc f).zon = s.zon := rfl
@[simp] theorem State.inc_sens (f : Fld) : (s.inc f).sens = s.sens := rfl
@[simp] theorem State.inc_evq (f : Fld) : (s.inc f).evq = s.evq := rfl
@[simp] theorem State.inc_sme (f : Fld) : (s.inc f).sme = s.sme := rfl
@[simp] theorem State.inc_sea (f : Fld) : (s.inc f).sea = s.sea := rfl
@[simp] theorem State.inc_dia (f : Fld) : (s.inc f).dia = s.dia := rfl
@[simp] theorem State.inc_cce (f : Fld) : (s.inc f).cce = s.cce := rfl
@[simp] theorem State.inc_tbu (f : Fld) : (s.inc f).tbu = s.tbu := rfl
@[simp] theorem State.inc_rtc (f : Fld) : (s.inc f).rtc = s.rtc := rfl
@[simp] theorem State.inc_mtr (f : Fld) : (s.inc f).mtr = s.mtr := rfl
@[simp] theorem State.inc_sru (f : Fld) : (s.inc f).sru = s.sru := rfl
@[simp] theorem State.inc_kst (f : Fld) : (s.inc f).kst = s.kst := rfl
@[simp] theorem State.inc_lop (f : Fld) : (s.inc f).lop = s.lop := rfl
@[simp] theorem State.inc_xlk (f : Fld) : (s.inc f).xlk = s.xlk := rfl
@[simp] theorem State.inc_hap (f : Fld) : (s.inc f).hap = s.hap := rfl
@[simp] theorem State.inc_phu (f : Fld) : (s.inc f).phu = s.phu := rfl
@[simp] theorem State.inc_basted (f : Fld) : (s.inc f).basted = s.basted := rfl
@[simp] theorem State.inc_mode (f : Fld) : (s.inc f).mode = s.mode := rfl
@[simp] theorem State.inc_out (f : Fld) : (s.inc f).out = s.out := rfl
@[simp] theorem State.inc_rates (f : Fld) : (s.inc f).rates = s.rates := rfl
@[simp] theorem State.inc_status (f : Fld) : (s.inc f).status = s.status := rfl
@[simp] theorem State.inc_rdata (f : Fld) : (s.inc f).rdata = s.rdata := rfl
@[simp] theorem State.inc_free (f : Fld) : (s.inc f).free = s.free := rfl
@[simp] theorem State.inc_pending (f : Fld) : (s.inc f).pending = s.pending := rfl

/-! ## incSat -/

@[simp] theorem State.incSat_badPar (f : Fld) (n : Nat) : (s.incSat f n).badPar = s.badPar := rfl
@[simp] theorem State.incSat_ns (f : Fld) (n : Nat) : (s.incSat f n).ns = s.ns := rfl
@[simp] theorem State.incSat_frac (f : Fld) (n : Nat) : (s.incSat f n).frac = s.frac := rfl
@[simp] theorem State.incSat_lastFrame (f : Fld) (n : Nat) : (s.incSat f n).lastFrame = s.lastFrame := rfl
@[simp] theorem State.incSat_bobs (f : Fld) (n : Nat) : (s.incSat f n).bobs = s.bobs := rfl
@[simp] theorem State.incSat_pen (f : Fld) (n : Nat) : (s.incSat f n).pen = s.pen := rfl
@[simp] theorem State.incSat_zon (f : Fld) (n : Nat) : (s.incSat f n).zon = s.zon := rfl
@[simp] theorem State.incSat_sens (f : Fld) (n : Nat) : (s.incSat f n).sens = s.sens := rfl
@[simp] theorem State.incSat_evq (f : Fld) (n : Nat) : (s.incSat f n).evq = s.evq := rfl
@[simp] theorem State.incSat_sme (f : Fld) (n : Nat) : (s.incSat f n).sme = s.sme := rfl
@[simp] theorem State.incSat_sea (f : Fld) (n : Nat) : (s.incSat f n).sea = s.sea := rfl
@[simp] theorem State.incSat_dia (f : Fld) (n : Nat) : (s.incSat f n).dia = s.dia := rfl
@[simp] theorem State.incSat_cce (f : Fld) (n : Nat) : (s.incSat f n).cce = s.cce := rfl
@[simp] theorem State.incSat_tbu (f : Fld) (n : Nat) : (s.incSat f n).tbu = s.tbu := rfl
@[simp] theorem State.incSat_rtc (f : Fld) (n : Nat) : (s.incSat f n).rtc = s.rtc := rfl
@[simp] theorem State.incSat_mtr (f : Fld) (n : Nat) : (s.incSat f n).mtr = s.mtr := rfl
@[simp] theorem State.incSat_sru (f : Fld) (n : Nat) : (s.incSat f n).sru = s.sru := rfl
@[simp] theorem State.incSat_kst (f : Fld) (n : Nat) : (s.incSat f n).kst = s.kst := rfl
@[simp] theorem State.incSat_lop (f : Fld) (n : Nat) : (s.incSat f n).lop = s.lop := rfl
@[simp] theorem State.incSat_xlk (f : Fld) (n : Nat) : (s.incSat f n).xlk = s.xlk := rfl
@[simp] theorem State.incSat_hap (f : Fld) (n : Nat) : (s.incSat f n).hap = s.hap := rfl
@[simp] theorem State.incSat_phu (f : Fld) (n : Nat) : (s.incSat f n).phu = s.phu := rfl
@[simp] theorem State.incSat_basted (f : Fld) (n : Nat) : (s.incSat f n).basted = s.basted := rfl
@[simp] theorem State.incSat_mode (f : Fld) (n : Nat) : (s.incSat f n).mode = s.mode := rfl
@[simp] theorem State.incSat_out (f : Fld) (n : Nat) : (s.incSat f n).out = s.out := rfl
@[simp] theorem State.incSat_rates (f : Fld) (n : Nat) : (s.incSat f n).rates = s.rates := rfl
@[simp] theorem State.incSat_status (f : Fld) (n : Nat) : (s.incSat f n).status = s.status := rfl
@[simp] theorem State.incSat_rdata (f : Fld) (n : Nat) : (s.incSat f n).rdata = s.rdata := rfl
@[simp] theorem State.incSat_free (f : Fld) (n : Nat) : (s.incSat f n).free = s.free := rfl
@[simp] theorem State.incSat_pending (f : Fld) (n : Nat) : (s.incSat f n).pending = s.pending := rfl

/-! ## wrTime -/

@[simp] theorem State.wrTime_badPar (a t : Nat) : (s.wrTime a t).badPar = s.badPar := rfl
@[simp] theorem State.wrTime_ns (a t : Nat) : (s.wrTime a t).ns = s.ns := rfl
@[simp] theorem State.wrTime_frac (a t : Nat) : (s.wrTime a t).frac = s.frac := rfl
@[simp] theorem State.wrTime_lastFrame (a t : Nat) : (s.wrTime a t).lastFrame = s.lastFrame := rfl
@[simp] theorem State.wrTime_bobs (a t : Nat) : (s.wrTime a t).bobs = s.bobs := rfl
@[simp] theorem State.wrTime_pen (a t : Nat) : (s.wrTime a t).pen = s.pen := rfl
@[simp] theorem State.wrTime_zon (a t : Nat) : (s.wrTime a t).zon = s.zon := rfl
@[simp] theorem State.wrTime_sens (a t : Nat) : (s.wrTime a t).sens = s.sens := rfl
@[simp] theorem State.wrTime_evq (a t : Nat) : (s.wrTime a t).evq = s.evq := rfl
@[simp] theorem State.wrTime_sme (a t : Nat) : (s.wrTime a t).sme = s.sme := rfl
@[simp] theorem State.wrTime_sea (a t : Nat) : (s.wrTime a t).sea = s.sea := rfl
@[simp] theorem State.wrTime_dia (a t : Nat) : (s.wrTime a t).dia = s.dia := rfl
@[simp] theorem State.wrTime_cce (a t : Nat) : (s.wrTime a t).cce = s.cce := rfl
@[simp] theorem State.wrTime_tbu (a t : Nat) : (s.wrTime a t).tbu = s.tbu := rfl
@[simp] theorem State.wrTime_rtc (a t : Nat) : (s.wrTime a t).rtc = s.rtc := rfl
@[simp] theorem State.wrTime_mtr (a t : Nat) : (s.wrTime a t).mtr = s.mtr := rfl
@[simp] theorem State.wrTime_sru (a t : Nat) : (s.wrTime a t).sru = s.sru := rfl
@[simp] theorem State.wrTime_kst (a t : Nat) : (s.wrTime a t).kst = s.kst := rfl
@[simp] theorem State.wrTime_lop (a t : Nat) : (s.wrTime a t).lop = s.lop := rfl
@[simp] theorem State.wrTime_xlk (a t : Nat) : (s.wrTime a t).xlk = s.xlk := rfl
@[simp] theorem State.wrTime_hap (a t : Nat) : (s.wrTime a t).hap = s.hap := rfl
@[simp] theorem State.wrTime_phu (a t : Nat) : (s.wrTime a t).phu = s.phu := rfl
@[simp] theorem State.wrTime_basted (a t : Nat) : (s.wrTime a t).basted = s.basted := rfl
@[simp] theorem State.wrTime_mode (a t : Nat) : (s.wrTime a t).mode = s.mode := rfl
@[simp] theorem State.wrTime_out (a t : Nat) : (s.wrTime a t).out = s.out := rfl
@[simp] theorem State.wrTime_rates (a t : Nat) : (s.wrTime a t).rates = s.rates := rfl
@[simp] theorem State.wrTime_status (a t : Nat) : (s.wrTime a t).status = s.status := rfl
@[simp] theorem State.wrTime_rdata (a t : Nat) : (s.wrTime a t).rdata = s.rdata := rfl
@[simp] theorem State.wrTime_free (a t : Nat) : (s.wrTime a t).free = s.free := rfl
@[simp] theorem State.wrTime_pending (a t : Nat) : (s.wrTime a t).pending = s.pending := rfl

/-! ## stage -/

@[simp] theorem State.stage_mem (a m v : Nat) : (s.stage a m v).mem = s.mem := rfl
@[simp] theorem State.stage_badPar (a m v : Nat) : (s.stage a m v).badPar = s.badPar := rfl
@[simp] theorem State.stage_ns (a m v : Nat) : (s.stage a m v).ns = s.ns := rfl
@[simp] theorem State.stage_frac (a m v : Nat) : (s.stage a m v).frac = s.frac := rfl
@[simp] theorem State.stage_lastFrame (a m v : Nat) : (s.stage a m v).lastFrame = s.lastFrame := rfl
@[simp] theorem State.stage_bobs (a m v : Nat) : (s.stage a m v).bobs = s.bobs := rfl
@[simp] theorem State.stage_pen (a m v : Nat) : (s.stage a m v).pen = s.pen := rfl
@[simp] theorem State.stage_zon (a m v : Nat) : (s.stage a m v).zon = s.zon := rfl
@[simp] theorem State.stage_sens (a m v : Nat) : (s.stage a m v).sens = s.sens := rfl
@[simp] theorem State.stage_evq (a m v : Nat) : (s.stage a m v).evq = s.evq := rfl
@[simp] theorem State.stage_sme (a m v : Nat) : (s.stage a m v).sme = s.sme := rfl
@[simp] theorem State.stage_sea (a m v : Nat) : (s.stage a m v).sea = s.sea := rfl
@[simp] theorem State.stage_dia (a m v : Nat) : (s.stage a m v).dia = s.dia := rfl
@[simp] theorem State.stage_cce (a m v : Nat) : (s.stage a m v).cce = s.cce := rfl
@[simp] theorem State.stage_tbu (a m v : Nat) : (s.stage a m v).tbu = s.tbu := rfl
@[simp] theorem State.stage_rtc (a m v : Nat) : (s.stage a m v).rtc = s.rtc := rfl
@[simp] theorem State.stage_mtr (a m v : Nat) : (s.stage a m v).mtr = s.mtr := rfl
@[simp] theorem State.stage_sru (a m v : Nat) : (s.stage a m v).sru = s.sru := rfl
@[simp] theorem State.stage_kst (a m v : Nat) : (s.stage a m v).kst = s.kst := rfl
@[simp] theorem State.stage_lop (a m v : Nat) : (s.stage a m v).lop = s.lop := rfl
@[simp] theorem State.stage_xlk (a m v : Nat) : (s.stage a m v).xlk = s.xlk := rfl
@[simp] theorem State.stage_hap (a m v : Nat) : (s.stage a m v).hap = s.hap := rfl
@[simp] theorem State.stage_phu (a m v : Nat) : (s.stage a m v).phu = s.phu := rfl
@[simp] theorem State.stage_mode (a m v : Nat) : (s.stage a m v).mode = s.mode := rfl
@[simp] theorem State.stage_out (a m v : Nat) : (s.stage a m v).out = s.out := rfl
@[simp] theorem State.stage_rates (a m v : Nat) : (s.stage a m v).rates = s.rates := rfl
@[simp] theorem State.stage_status (a m v : Nat) : (s.stage a m v).status = s.status := rfl
@[simp] theorem State.stage_rdata (a m v : Nat) : (s.stage a m v).rdata = s.rdata := rfl
@[simp] theorem State.stage_free (a m v : Nat) : (s.stage a m v).free = s.free := rfl
@[simp] theorem State.stage_pending (a m v : Nat) : (s.stage a m v).pending = s.pending := rfl

@[simp] theorem State.stage_rd (a m v : Nat) (y : Nat) : (s.stage a m v).rd y = s.rd y := rfl
@[simp] theorem State.stage_get (a m v : Nat) (g : Fld) : (s.stage a m v).get g = s.get g := rfl
@[simp] theorem State.stage_flag (a m v : Nat) (g : Fld) : (s.stage a m v).flag g = s.flag g := rfl

/-! ## unstage -/

@[simp] theorem State.unstage_mem (a : Nat) : (s.unstage a).mem = s.mem := rfl
@[simp] theorem State.unstage_badPar (a : Nat) : (s.unstage a).badPar = s.badPar := rfl
@[simp] theorem State.unstage_ns (a : Nat) : (s.unstage a).ns = s.ns := rfl
@[simp] theorem State.unstage_frac (a : Nat) : (s.unstage a).frac = s.frac := rfl
@[simp] theorem State.unstage_lastFrame (a : Nat) : (s.unstage a).lastFrame = s.lastFrame := rfl
@[simp] theorem State.unstage_bobs (a : Nat) : (s.unstage a).bobs = s.bobs := rfl
@[simp] theorem State.unstage_pen (a : Nat) : (s.unstage a).pen = s.pen := rfl
@[simp] theorem State.unstage_zon (a : Nat) : (s.unstage a).zon = s.zon := rfl
@[simp] theorem State.unstage_sens (a : Nat) : (s.unstage a).sens = s.sens := rfl
@[simp] theorem State.unstage_evq (a : Nat) : (s.unstage a).evq = s.evq := rfl
@[simp] theorem State.unstage_sme (a : Nat) : (s.unstage a).sme = s.sme := rfl
@[simp] theorem State.unstage_sea (a : Nat) : (s.unstage a).sea = s.sea := rfl
@[simp] theorem State.unstage_dia (a : Nat) : (s.unstage a).dia = s.dia := rfl
@[simp] theorem State.unstage_cce (a : Nat) : (s.unstage a).cce = s.cce := rfl
@[simp] theorem State.unstage_tbu (a : Nat) : (s.unstage a).tbu = s.tbu := rfl
@[simp] theorem State.unstage_rtc (a : Nat) : (s.unstage a).rtc = s.rtc := rfl
@[simp] theorem State.unstage_mtr (a : Nat) : (s.unstage a).mtr = s.mtr := rfl
@[simp] theorem State.unstage_sru (a : Nat) : (s.unstage a).sru = s.sru := rfl
@[simp] theorem State.unstage_kst (a : Nat) : (s.unstage a).kst = s.kst := rfl
@[simp] theorem State.unstage_lop (a : Nat) : (s.unstage a).lop = s.lop := rfl
@[simp] theorem State.unstage_xlk (a : Nat) : (s.unstage a).xlk = s.xlk := rfl
@[simp] theorem State.unstage_hap (a : Nat) : (s.unstage a).hap = s.hap := rfl
@[simp] theorem State.unstage_phu (a : Nat) : (s.unstage a).phu = s.phu := rfl
@[simp] theorem State.unstage_mode (a : Nat) : (s.unstage a).mode = s.mode := rfl
@[simp] theorem State.unstage_out (a : Nat) : (s.unstage a).out = s.out := rfl
@[simp] theorem State.unstage_rates (a : Nat) : (s.unstage a).rates = s.rates := rfl
@[simp] theorem State.unstage_status (a : Nat) : (s.unstage a).status = s.status := rfl
@[simp] theorem State.unstage_rdata (a : Nat) : (s.unstage a).rdata = s.rdata := rfl
@[simp] theorem State.unstage_free (a : Nat) : (s.unstage a).free = s.free := rfl
@[simp] theorem State.unstage_pending (a : Nat) : (s.unstage a).pending = s.pending := rfl

@[simp] theorem State.unstage_rd (a : Nat) (y : Nat) : (s.unstage a).rd y = s.rd y := rfl
@[simp] theorem State.unstage_get (a : Nat) (g : Fld) : (s.unstage a).get g = s.get g := rfl
@[simp] theorem State.unstage_flag (a : Nat) (g : Fld) : (s.unstage a).flag g = s.flag g := rfl

/-! ## commitWord -/

@[simp] theorem State.commitWord_badPar (a : Nat) : (s.commitWord a).badPar = s.badPar := rfl
@[simp] theorem State.commitWord_ns (a : Nat) : (s.commitWord a).ns = s.ns := rfl
@[simp] theorem State.commitWord_frac (a : Nat) : (s.commitWord a).frac = s.frac := rfl
@[simp] theorem State.commitWord_lastFrame (a : Nat) : (s.commitWord a).lastFrame = s.lastFrame := rfl
@[simp] theorem State.commitWord_bobs (a : Nat) : (s.commitWord a).bobs = s.bobs := rfl
@[simp] theorem State.commitWord_pen (a : Nat) : (s.commitWord a).pen = s.pen := rfl
@[simp] theorem State.commitWord_zon (a : Nat) : (s.commitWord a).zon = s.zon := rfl
@[simp] theorem State.commitWord_sens (a : Nat) : (s.commitWord a).sens = s.sens := rfl
@[simp] theorem State.commitWord_evq (a : Nat) : (s.commitWord a).evq = s.evq := rfl
@[simp] theorem State.commitWord_sme (a : Nat) : (s.commitWord a).sme = s.sme := rfl
@[simp] theorem State.commitWord_sea (a : Nat) : (s.commitWord a).sea = s.sea := rfl
@[simp] theorem State.commitWord_dia (a : Nat) : (s.commitWord a).dia = s.dia := rfl
@[simp] theorem State.commitWord_cce (a : Nat) : (s.commitWord a).cce = s.cce := rfl
@[simp] theorem State.commitWord_tbu (a : Nat) : (s.commitWord a).tbu = s.tbu := rfl
@[simp] theorem State.commitWord_rtc (a : Nat) : (s.commitWord a).rtc = s.rtc := rfl
@[simp] theorem State.commitWord_mtr (a : Nat) : (s.commitWord a).mtr = s.mtr := rfl
@[simp] theorem State.commitWord_sru (a : Nat) : (s.commitWord a).sru = s.sru := rfl
@[simp] theorem State.commitWord_kst (a : Nat) : (s.commitWord a).kst = s.kst := rfl
@[simp] theorem State.commitWord_lop (a : Nat) : (s.commitWord a).lop = s.lop := rfl
@[simp] theorem State.commitWord_xlk (a : Nat) : (s.commitWord a).xlk = s.xlk := rfl
@[simp] theorem State.commitWord_hap (a : Nat) : (s.commitWord a).hap = s.hap := rfl
@[simp] theorem State.commitWord_phu (a : Nat) : (s.commitWord a).phu = s.phu := rfl
@[simp] theorem State.commitWord_mode (a : Nat) : (s.commitWord a).mode = s.mode := rfl
@[simp] theorem State.commitWord_out (a : Nat) : (s.commitWord a).out = s.out := rfl
@[simp] theorem State.commitWord_rates (a : Nat) : (s.commitWord a).rates = s.rates := rfl
@[simp] theorem State.commitWord_status (a : Nat) : (s.commitWord a).status = s.status := rfl
@[simp] theorem State.commitWord_rdata (a : Nat) : (s.commitWord a).rdata = s.rdata := rfl
@[simp] theorem State.commitWord_free (a : Nat) : (s.commitWord a).free = s.free := rfl
@[simp] theorem State.commitWord_pending (a : Nat) : (s.commitWord a).pending = s.pending := rfl

/-! ## parFix -/

@[simp] theorem State.parFix_mem (a : Nat) : (s.parFix a).mem = s.mem := rfl
@[simp] theorem State.parFix_ns (a : Nat) : (s.parFix a).ns = s.ns := rfl
@[simp] theorem State.parFix_frac (a : Nat) : (s.parFix a).frac = s.frac := rfl
@[simp] theorem State.parFix_lastFrame (a : Nat) : (s.parFix a).lastFrame = s.lastFrame := rfl
@[simp] theorem State.parFix_bobs (a : Nat) : (s.parFix a).bobs = s.bobs := rfl
@[simp] theorem State.parFix_pen (a : Nat) : (s.parFix a).pen = s.pen := rfl
@[simp] theorem State.parFix_zon (a : Nat) : (s.parFix a).zon = s.zon := rfl
@[simp] theorem State.parFix_sens (a : Nat) : (s.parFix a).sens = s.sens := rfl
@[simp] theorem State.parFix_evq (a : Nat) : (s.parFix a).evq = s.evq := rfl
@[simp] theorem State.parFix_sme (a : Nat) : (s.parFix a).sme = s.sme := rfl
@[simp] theorem State.parFix_sea (a : Nat) : (s.parFix a).sea = s.sea := rfl
@[simp] theorem State.parFix_dia (a : Nat) : (s.parFix a).dia = s.dia := rfl
@[simp] theorem State.parFix_cce (a : Nat) : (s.parFix a).cce = s.cce := rfl
@[simp] theorem State.parFix_tbu (a : Nat) : (s.parFix a).tbu = s.tbu := rfl
@[simp] theorem State.parFix_rtc (a : Nat) : (s.parFix a).rtc = s.rtc := rfl
@[simp] theorem State.parFix_mtr (a : Nat) : (s.parFix a).mtr = s.mtr := rfl
@[simp] theorem State.parFix_sru (a : Nat) : (s.parFix a).sru = s.sru := rfl
@[simp] theorem State.parFix_kst (a : Nat) : (s.parFix a).kst = s.kst := rfl
@[simp] theorem State.parFix_lop (a : Nat) : (s.parFix a).lop = s.lop := rfl
@[simp] theorem State.parFix_xlk (a : Nat) : (s.parFix a).xlk = s.xlk := rfl
@[simp] theorem State.parFix_hap (a : Nat) : (s.parFix a).hap = s.hap := rfl
@[simp] theorem State.parFix_phu (a : Nat) : (s.parFix a).phu = s.phu := rfl
@[simp] theorem State.parFix_basted (a : Nat) : (s.parFix a).basted = s.basted := rfl
@[simp] theorem State.parFix_mode (a : Nat) : (s.parFix a).mode = s.mode := rfl
@[simp] theorem State.parFix_out (a : Nat) : (s.parFix a).out = s.out := rfl
@[simp] theorem State.parFix_rates (a : Nat) : (s.parFix a).rates = s.rates := rfl
@[simp] theorem State.parFix_status (a : Nat) : (s.parFix a).status = s.status := rfl
@[simp] theorem State.parFix_rdata (a : Nat) : (s.parFix a).rdata = s.rdata := rfl
@[simp] theorem State.parFix_free (a : Nat) : (s.parFix a).free = s.free := rfl
@[simp] theorem State.parFix_pending (a : Nat) : (s.parFix a).pending = s.pending := rfl

@[simp] theorem State.parFix_rd (a : Nat) (y : Nat) : (s.parFix a).rd y = s.rd y := rfl
@[simp] theorem State.parFix_get (a : Nat) (g : Fld) : (s.parFix a).get g = s.get g := rfl
@[simp] theorem State.parFix_flag (a : Nat) (g : Fld) : (s.parFix a).flag g = s.flag g := rfl

/-! ## setBob -/

@[simp] theorem State.setBob_mem (n : Nat) (b : Bobbin) : (s.setBob n b).mem = s.mem := rfl
@[simp] theorem State.setBob_badPar (n : Nat) (b : Bobbin) : (s.setBob n b).badPar = s.badPar := rfl
@[simp] theorem State.setBob_ns (n : Nat) (b : Bobbin) : (s.setBob n b).ns = s.ns := rfl
@[simp] theorem State.setBob_frac (n : Nat) (b : Bobbin) : (s.setBob n b).frac = s.frac := rfl
@[simp] theorem State.setBob_lastFrame (n : Nat) (b : Bobbin) : (s.setBob n b).lastFrame = s.lastFrame := rfl
@[simp] theorem State.setBob_pen (n : Nat) (b : Bobbin) : (s.setBob n b).pen = s.pen := rfl
@[simp] theorem State.setBob_zon (n : Nat) (b : Bobbin) : (s.setBob n b).zon = s.zon := rfl
@[simp] theorem State.setBob_sens (n : Nat) (b : Bobbin) : (s.setBob n b).sens = s.sens := rfl
@[simp] theorem State.setBob_evq (n : Nat) (b : Bobbin) : (s.setBob n b).evq = s.evq := rfl
@[simp] theorem State.setBob_sme (n : Nat) (b : Bobbin) : (s.setBob n b).sme = s.sme := rfl
@[simp] theorem State.setBob_sea (n : Nat) (b : Bobbin) : (s.setBob n b).sea = s.sea := rfl
@[simp] theorem State.setBob_dia (n : Nat) (b : Bobbin) : (s.setBob n b).dia = s.dia := rfl
@[simp] theorem State.setBob_cce (n : Nat) (b : Bobbin) : (s.setBob n b).cce = s.cce := rfl
@[simp] theorem State.setBob_tbu (n : Nat) (b : Bobbin) : (s.setBob n b).tbu = s.tbu := rfl
@[simp] theorem State.setBob_rtc (n : Nat) (b : Bobbin) : (s.setBob n b).rtc = s.rtc := rfl
@[simp] theorem State.setBob_mtr (n : Nat) (b : Bobbin) : (s.setBob n b).mtr = s.mtr := rfl
@[simp] theorem State.setBob_sru (n : Nat) (b : Bobbin) : (s.setBob n b).sru = s.sru := rfl
@[simp] theorem State.setBob_kst (n : Nat) (b : Bobbin) : (s.setBob n b).kst = s.kst := rfl
@[simp] theorem State.setBob_lop (n : Nat) (b : Bobbin) : (s.setBob n b).lop = s.lop := rfl
@[simp] theorem State.setBob_xlk (n : Nat) (b : Bobbin) : (s.setBob n b).xlk = s.xlk := rfl
@[simp] theorem State.setBob_hap (n : Nat) (b : Bobbin) : (s.setBob n b).hap = s.hap := rfl
@[simp] theorem State.setBob_phu (n : Nat) (b : Bobbin) : (s.setBob n b).phu = s.phu := rfl
@[simp] theorem State.setBob_basted (n : Nat) (b : Bobbin) : (s.setBob n b).basted = s.basted := rfl
@[simp] theorem State.setBob_mode (n : Nat) (b : Bobbin) : (s.setBob n b).mode = s.mode := rfl
@[simp] theorem State.setBob_out (n : Nat) (b : Bobbin) : (s.setBob n b).out = s.out := rfl
@[simp] theorem State.setBob_rates (n : Nat) (b : Bobbin) : (s.setBob n b).rates = s.rates := rfl
@[simp] theorem State.setBob_status (n : Nat) (b : Bobbin) : (s.setBob n b).status = s.status := rfl
@[simp] theorem State.setBob_rdata (n : Nat) (b : Bobbin) : (s.setBob n b).rdata = s.rdata := rfl
@[simp] theorem State.setBob_free (n : Nat) (b : Bobbin) : (s.setBob n b).free = s.free := rfl
@[simp] theorem State.setBob_pending (n : Nat) (b : Bobbin) : (s.setBob n b).pending = s.pending := rfl

@[simp] theorem State.setBob_rd (n : Nat) (b : Bobbin) (y : Nat) : (s.setBob n b).rd y = s.rd y := rfl
@[simp] theorem State.setBob_get (n : Nat) (b : Bobbin) (g : Fld) : (s.setBob n b).get g = s.get g := rfl
@[simp] theorem State.setBob_flag (n : Nat) (b : Bobbin) (g : Fld) : (s.setBob n b).flag g = s.flag g := rfl

/-! ## emit -/

@[simp] theorem State.emit_mem (m : OutMsg) : (s.emit m).mem = s.mem := rfl
@[simp] theorem State.emit_badPar (m : OutMsg) : (s.emit m).badPar = s.badPar := rfl
@[simp] theorem State.emit_ns (m : OutMsg) : (s.emit m).ns = s.ns := rfl
@[simp] theorem State.emit_frac (m : OutMsg) : (s.emit m).frac = s.frac := rfl
@[simp] theorem State.emit_lastFrame (m : OutMsg) : (s.emit m).lastFrame = s.lastFrame := rfl
@[simp] theorem State.emit_bobs (m : OutMsg) : (s.emit m).bobs = s.bobs := rfl
@[simp] theorem State.emit_pen (m : OutMsg) : (s.emit m).pen = s.pen := rfl
@[simp] theorem State.emit_zon (m : OutMsg) : (s.emit m).zon = s.zon := rfl
@[simp] theorem State.emit_sens (m : OutMsg) : (s.emit m).sens = s.sens := rfl
@[simp] theorem State.emit_evq (m : OutMsg) : (s.emit m).evq = s.evq := rfl
@[simp] theorem State.emit_sme (m : OutMsg) : (s.emit m).sme = s.sme := rfl
@[simp] theorem State.emit_sea (m : OutMsg) : (s.emit m).sea = s.sea := rfl
@[simp] theorem State.emit_dia (m : OutMsg) : (s.emit m).dia = s.dia := rfl
@[simp] theorem State.emit_cce (m : OutMsg) : (s.emit m).cce = s.cce := rfl
@[simp] theorem State.emit_tbu (m : OutMsg) : (s.emit m).tbu = s.tbu := rfl
@[simp] theorem State.emit_rtc (m : OutMsg) : (s.emit m).rtc = s.rtc := rfl
@[simp] theorem State.emit_mtr (m : OutMsg) : (s.emit m).mtr = s.mtr := rfl
@[simp] theorem State.emit_sru (m : OutMsg) : (s.emit m).sru = s.sru := rfl
@[simp] theorem State.emit_kst (m : OutMsg) : (s.emit m).kst = s.kst := rfl
@[simp] theorem State.emit_lop (m : OutMsg) : (s.emit m).lop = s.lop := rfl
@[simp] theorem State.emit_xlk (m : OutMsg) : (s.emit m).xlk = s.xlk := rfl
@[simp] theorem State.emit_hap (m : OutMsg) : (s.emit m).hap = s.hap := rfl
@[simp] theorem State.emit_phu (m : OutMsg) : (s.emit m).phu = s.phu := rfl
@[simp] theorem State.emit_basted (m : OutMsg) : (s.emit m).basted = s.basted := rfl
@[simp] theorem State.emit_mode (m : OutMsg) : (s.emit m).mode = s.mode := rfl
@[simp] theorem State.emit_rates (m : OutMsg) : (s.emit m).rates = s.rates := rfl
@[simp] theorem State.emit_status (m : OutMsg) : (s.emit m).status = s.status := rfl
@[simp] theorem State.emit_rdata (m : OutMsg) : (s.emit m).rdata = s.rdata := rfl
@[simp] theorem State.emit_free (m : OutMsg) : (s.emit m).free = s.free := rfl
@[simp] theorem State.emit_pending (m : OutMsg) : (s.emit m).pending = s.pending := rfl

@[simp] theorem State.emit_rd (m : OutMsg) (y : Nat) : (s.emit m).rd y = s.rd y := rfl
@[simp] theorem State.emit_get (m : OutMsg) (g : Fld) : (s.emit m).get g = s.get g := rfl
@[simp] theorem State.emit_flag (m : OutMsg) (g : Fld) : (s.emit m).flag g = s.flag g := rfl

/-! ## answer -/

@[simp] theorem State.answer_mem (c : Nat) : (s.answer c).mem = s.mem := rfl
@[simp] theorem State.answer_badPar (c : Nat) : (s.answer c).badPar = s.badPar := rfl
@[simp] theorem State.answer_ns (c : Nat) : (s.answer c).ns = s.ns := rfl
@[simp] theorem State.answer_frac (c : Nat) : (s.answer c).frac = s.frac := rfl
@[simp] theorem State.answer_lastFrame (c : Nat) : (s.answer c).lastFrame = s.lastFrame := rfl
@[simp] theorem State.answer_bobs (c : Nat) : (s.answer c).bobs = s.bobs := rfl
@[simp] theorem State.answer_pen (c : Nat) : (s.answer c).pen = s.pen := rfl
@[simp] theorem State.answer_zon (c : Nat) : (s.answer c).zon = s.zon := rfl
@[simp] theorem State.answer_sens (c : Nat) : (s.answer c).sens = s.sens := rfl
@[simp] theorem State.answer_evq (c : Nat) : (s.answer c).evq = s.evq := rfl
@[simp] theorem State.answer_sme (c : Nat) : (s.answer c).sme = s.sme := rfl
@[simp] theorem State.answer_sea (c : Nat) : (s.answer c).sea = s.sea := rfl
@[simp] theorem State.answer_dia (c : Nat) : (s.answer c).dia = s.dia := rfl
@[simp] theorem State.answer_cce (c : Nat) : (s.answer c).cce = s.cce := rfl
@[simp] theorem State.answer_tbu (c : Nat) : (s.answer c).tbu = s.tbu := rfl
@[simp] theorem State.answer_rtc (c : Nat) : (s.answer c).rtc = s.rtc := rfl
@[simp] theorem State.answer_mtr (c : Nat) : (s.answer c).mtr = s.mtr := rfl
@[simp] theorem State.answer_sru (c : Nat) : (s.answer c).sru = s.sru := rfl
@[simp] theorem State.answer_kst (c : Nat) : (s.answer c).kst = s.kst := rfl
@[simp] theorem State.answer_lop (c : Nat) : (s.answer c).lop = s.lop := rfl
@[simp] theorem State.answer_xlk (c : Nat) : (s.answer c).xlk = s.xlk := rfl
@[simp] theorem State.answer_hap (c : Nat) : (s.answer c).hap = s.hap := rfl
@[simp] theorem State.answer_phu (c : Nat) : (s.answer c).phu = s.phu := rfl
@[simp] theorem State.answer_basted (c : Nat) : (s.answer c).basted = s.basted := rfl
@[simp] theorem State.answer_mode (c : Nat) : (s.answer c).mode = s.mode := rfl
@[simp] theorem State.answer_out (c : Nat) : (s.answer c).out = s.out := rfl
@[simp] theorem State.answer_rates (c : Nat) : (s.answer c).rates = s.rates := rfl
@[simp] theorem State.answer_rdata (c : Nat) : (s.answer c).rdata = s.rdata := rfl
@[simp] theorem State.answer_free (c : Nat) : (s.answer c).free = s.free := rfl
@[simp] theorem State.answer_pending (c : Nat) : (s.answer c).pending = s.pending := rfl

@[simp] theorem State.answer_rd (c : Nat) (y : Nat) : (s.answer c).rd y = s.rd y := rfl
@[simp] theorem State.answer_get (c : Nat) (g : Fld) : (s.answer c).get g = s.get g := rfl
@[simp] theorem State.answer_flag (c : Nat) (g : Fld) : (s.answer c).flag g = s.flag g := rfl

/-! ## takeFree -/

@[simp] theorem State.takeFree_mem : s.takeFree.mem = s.mem := rfl
@[simp] theorem State.takeFree_badPar : s.takeFree.badPar = s.badPar := rfl
@[simp] theorem State.takeFree_ns : s.takeFree.ns = s.ns := rfl
@[simp] theorem State.takeFree_frac : s.takeFree.frac = s.frac := rfl
@[simp] theorem State.takeFree_lastFrame : s.takeFree.lastFrame = s.lastFrame := rfl
@[simp] theorem State.takeFree_bobs : s.takeFree.bobs = s.bobs := rfl
@[simp] theorem State.takeFree_pen : s.takeFree.pen = s.pen := rfl
@[simp] theorem State.takeFree_zon : s.takeFree.zon = s.zon := rfl
@[simp] theorem State.takeFree_sens : s.takeFree.sens = s.sens := rfl
@[simp] theorem State.takeFree_evq : s.takeFree.evq = s.evq := rfl
@[simp] theorem State.takeFree_sme : s.takeFree.sme = s.sme := rfl
@[simp] theorem State.takeFree_sea : s.takeFree.sea = s.sea := rfl
@[simp] theorem State.takeFree_dia : s.takeFree.dia = s.dia := rfl
@[simp] theorem State.takeFree_cce : s.takeFree.cce = s.cce := rfl
@[simp] theorem State.takeFree_tbu : s.takeFree.tbu = s.tbu := rfl
@[simp] theorem State.takeFree_rtc : s.takeFree.rtc = s.rtc := rfl
@[simp] theorem State.takeFree_mtr : s.takeFree.mtr = s.mtr := rfl
@[simp] theorem State.takeFree_sru : s.takeFree.sru = s.sru := rfl
@[simp] theorem State.takeFree_kst : s.takeFree.kst = s.kst := rfl
@[simp] theorem State.takeFree_lop : s.takeFree.lop = s.lop := rfl
@[simp] theorem State.takeFree_xlk : s.takeFree.xlk = s.xlk := rfl
@[simp] theorem State.takeFree_hap : s.takeFree.hap = s.hap := rfl
@[simp] theorem State.takeFree_phu : s.takeFree.phu = s.phu := rfl
@[simp] theorem State.takeFree_basted : s.takeFree.basted = s.basted := rfl
@[simp] theorem State.takeFree_mode : s.takeFree.mode = s.mode := rfl
@[simp] theorem State.takeFree_out : s.takeFree.out = s.out := rfl
@[simp] theorem State.takeFree_rates : s.takeFree.rates = s.rates := rfl
@[simp] theorem State.takeFree_status : s.takeFree.status = s.status := rfl
@[simp] theorem State.takeFree_rdata : s.takeFree.rdata = s.rdata := rfl
@[simp] theorem State.takeFree_pending : s.takeFree.pending = s.pending := rfl

@[simp] theorem State.takeFree_rd (y : Nat) : s.takeFree.rd y = s.rd y := rfl
@[simp] theorem State.takeFree_get (g : Fld) : s.takeFree.get g = s.get g := rfl
@[simp] theorem State.takeFree_flag (g : Fld) : s.takeFree.flag g = s.flag g := rfl

/-! ## rateMark -/

@[simp] theorem State.rateMark_mem (c u : Nat) : (s.rateMark c u).mem = s.mem := rfl
@[simp] theorem State.rateMark_badPar (c u : Nat) : (s.rateMark c u).badPar = s.badPar := rfl
@[simp] theorem State.rateMark_ns (c u : Nat) : (s.rateMark c u).ns = s.ns := rfl
@[simp] theorem State.rateMark_frac (c u : Nat) : (s.rateMark c u).frac = s.frac := rfl
@[simp] theorem State.rateMark_lastFrame (c u : Nat) : (s.rateMark c u).lastFrame = s.lastFrame := rfl
@[simp] theorem State.rateMark_bobs (c u : Nat) : (s.rateMark c u).bobs = s.bobs := rfl
@[simp] theorem State.rateMark_pen (c u : Nat) : (s.rateMark c u).pen = s.pen := rfl
@[simp] theorem State.rateMark_zon (c u : Nat) : (s.rateMark c u).zon = s.zon := rfl
@[simp] theorem State.rateMark_sens (c u : Nat) : (s.rateMark c u).sens = s.sens := rfl
@[simp] theorem State.rateMark_evq (c u : Nat) : (s.rateMark c u).evq = s.evq := rfl
@[simp] theorem State.rateMark_sme (c u : Nat) : (s.rateMark c u).sme = s.sme := rfl
@[simp] theorem State.rateMark_sea (c u : Nat) : (s.rateMark c u).sea = s.sea := rfl
@[simp] theorem State.rateMark_dia (c u : Nat) : (s.rateMark c u).dia = s.dia := rfl
@[simp] theorem State.rateMark_cce (c u : Nat) : (s.rateMark c u).cce = s.cce := rfl
@[simp] theorem State.rateMark_tbu (c u : Nat) : (s.rateMark c u).tbu = s.tbu := rfl
@[simp] theorem State.rateMark_rtc (c u : Nat) : (s.rateMark c u).rtc = s.rtc := rfl
@[simp] theorem State.rateMark_mtr (c u : Nat) : (s.rateMark c u).mtr = s.mtr := rfl
@[simp] theorem State.rateMark_sru (c u : Nat) : (s.rateMark c u).sru = s.sru := rfl
@[simp] theorem State.rateMark_kst (c u : Nat) : (s.rateMark c u).kst = s.kst := rfl
@[simp] theorem State.rateMark_lop (c u : Nat) : (s.rateMark c u).lop = s.lop := rfl
@[simp] theorem State.rateMark_xlk (c u : Nat) : (s.rateMark c u).xlk = s.xlk := rfl
@[simp] theorem State.rateMark_hap (c u : Nat) : (s.rateMark c u).hap = s.hap := rfl
@[simp] theorem State.rateMark_phu (c u : Nat) : (s.rateMark c u).phu = s.phu := rfl
@[simp] theorem State.rateMark_basted (c u : Nat) : (s.rateMark c u).basted = s.basted := rfl
@[simp] theorem State.rateMark_mode (c u : Nat) : (s.rateMark c u).mode = s.mode := rfl
@[simp] theorem State.rateMark_out (c u : Nat) : (s.rateMark c u).out = s.out := rfl
@[simp] theorem State.rateMark_status (c u : Nat) : (s.rateMark c u).status = s.status := rfl
@[simp] theorem State.rateMark_rdata (c u : Nat) : (s.rateMark c u).rdata = s.rdata := rfl
@[simp] theorem State.rateMark_free (c u : Nat) : (s.rateMark c u).free = s.free := rfl
@[simp] theorem State.rateMark_pending (c u : Nat) : (s.rateMark c u).pending = s.pending := rfl

@[simp] theorem State.rateMark_rd (c u : Nat) (y : Nat) : (s.rateMark c u).rd y = s.rd y := rfl
@[simp] theorem State.rateMark_get (c u : Nat) (g : Fld) : (s.rateMark c u).get g = s.get g := rfl
@[simp] theorem State.rateMark_flag (c u : Nat) (g : Fld) : (s.rateMark c u).flag g = s.flag g := rfl

/-! ## noteSense -/

@[simp] theorem State.noteSense_mem (src q v t : Nat) : (s.noteSense src q v t).mem = s.mem := rfl
@[simp] theorem State.noteSense_badPar (src q v t : Nat) : (s.noteSense src q v t).badPar = s.badPar := rfl
@[simp] theorem State.noteSense_ns (src q v t : Nat) : (s.noteSense src q v t).ns = s.ns := rfl
@[simp] theorem State.noteSense_frac (src q v t : Nat) : (s.noteSense src q v t).frac = s.frac := rfl
@[simp] theorem State.noteSense_lastFrame (src q v t : Nat) : (s.noteSense src q v t).lastFrame = s.lastFrame := rfl
@[simp] theorem State.noteSense_bobs (src q v t : Nat) : (s.noteSense src q v t).bobs = s.bobs := rfl
@[simp] theorem State.noteSense_pen (src q v t : Nat) : (s.noteSense src q v t).pen = s.pen := rfl
@[simp] theorem State.noteSense_zon (src q v t : Nat) : (s.noteSense src q v t).zon = s.zon := rfl
@[simp] theorem State.noteSense_evq (src q v t : Nat) : (s.noteSense src q v t).evq = s.evq := rfl
@[simp] theorem State.noteSense_sme (src q v t : Nat) : (s.noteSense src q v t).sme = s.sme := rfl
@[simp] theorem State.noteSense_sea (src q v t : Nat) : (s.noteSense src q v t).sea = s.sea := rfl
@[simp] theorem State.noteSense_dia (src q v t : Nat) : (s.noteSense src q v t).dia = s.dia := rfl
@[simp] theorem State.noteSense_cce (src q v t : Nat) : (s.noteSense src q v t).cce = s.cce := rfl
@[simp] theorem State.noteSense_tbu (src q v t : Nat) : (s.noteSense src q v t).tbu = s.tbu := rfl
@[simp] theorem State.noteSense_rtc (src q v t : Nat) : (s.noteSense src q v t).rtc = s.rtc := rfl
@[simp] theorem State.noteSense_mtr (src q v t : Nat) : (s.noteSense src q v t).mtr = s.mtr := rfl
@[simp] theorem State.noteSense_sru (src q v t : Nat) : (s.noteSense src q v t).sru = s.sru := rfl
@[simp] theorem State.noteSense_kst (src q v t : Nat) : (s.noteSense src q v t).kst = s.kst := rfl
@[simp] theorem State.noteSense_lop (src q v t : Nat) : (s.noteSense src q v t).lop = s.lop := rfl
@[simp] theorem State.noteSense_xlk (src q v t : Nat) : (s.noteSense src q v t).xlk = s.xlk := rfl
@[simp] theorem State.noteSense_hap (src q v t : Nat) : (s.noteSense src q v t).hap = s.hap := rfl
@[simp] theorem State.noteSense_phu (src q v t : Nat) : (s.noteSense src q v t).phu = s.phu := rfl
@[simp] theorem State.noteSense_basted (src q v t : Nat) : (s.noteSense src q v t).basted = s.basted := rfl
@[simp] theorem State.noteSense_mode (src q v t : Nat) : (s.noteSense src q v t).mode = s.mode := rfl
@[simp] theorem State.noteSense_out (src q v t : Nat) : (s.noteSense src q v t).out = s.out := rfl
@[simp] theorem State.noteSense_rates (src q v t : Nat) : (s.noteSense src q v t).rates = s.rates := rfl
@[simp] theorem State.noteSense_status (src q v t : Nat) : (s.noteSense src q v t).status = s.status := rfl
@[simp] theorem State.noteSense_rdata (src q v t : Nat) : (s.noteSense src q v t).rdata = s.rdata := rfl
@[simp] theorem State.noteSense_free (src q v t : Nat) : (s.noteSense src q v t).free = s.free := rfl
@[simp] theorem State.noteSense_pending (src q v t : Nat) : (s.noteSense src q v t).pending = s.pending := rfl

@[simp] theorem State.noteSense_rd (src q v t : Nat) (y : Nat) : (s.noteSense src q v t).rd y = s.rd y := rfl
@[simp] theorem State.noteSense_get (src q v t : Nat) (g : Fld) : (s.noteSense src q v t).get g = s.get g := rfl
@[simp] theorem State.noteSense_flag (src q v t : Nat) (g : Fld) : (s.noteSense src q v t).flag g = s.flag g := rfl

/-! ## setZstage -/

@[simp] theorem State.setZstage_mem (z : Nat) (x : ZStage) : (s.setZstage z x).mem = s.mem := rfl
@[simp] theorem State.setZstage_badPar (z : Nat) (x : ZStage) : (s.setZstage z x).badPar = s.badPar := rfl
@[simp] theorem State.setZstage_ns (z : Nat) (x : ZStage) : (s.setZstage z x).ns = s.ns := rfl
@[simp] theorem State.setZstage_frac (z : Nat) (x : ZStage) : (s.setZstage z x).frac = s.frac := rfl
@[simp] theorem State.setZstage_lastFrame (z : Nat) (x : ZStage) : (s.setZstage z x).lastFrame = s.lastFrame := rfl
@[simp] theorem State.setZstage_bobs (z : Nat) (x : ZStage) : (s.setZstage z x).bobs = s.bobs := rfl
@[simp] theorem State.setZstage_pen (z : Nat) (x : ZStage) : (s.setZstage z x).pen = s.pen := rfl
@[simp] theorem State.setZstage_sens (z : Nat) (x : ZStage) : (s.setZstage z x).sens = s.sens := rfl
@[simp] theorem State.setZstage_evq (z : Nat) (x : ZStage) : (s.setZstage z x).evq = s.evq := rfl
@[simp] theorem State.setZstage_sme (z : Nat) (x : ZStage) : (s.setZstage z x).sme = s.sme := rfl
@[simp] theorem State.setZstage_sea (z : Nat) (x : ZStage) : (s.setZstage z x).sea = s.sea := rfl
@[simp] theorem State.setZstage_dia (z : Nat) (x : ZStage) : (s.setZstage z x).dia = s.dia := rfl
@[simp] theorem State.setZstage_cce (z : Nat) (x : ZStage) : (s.setZstage z x).cce = s.cce := rfl
@[simp] theorem State.setZstage_tbu (z : Nat) (x : ZStage) : (s.setZstage z x).tbu = s.tbu := rfl
@[simp] theorem State.setZstage_rtc (z : Nat) (x : ZStage) : (s.setZstage z x).rtc = s.rtc := rfl
@[simp] theorem State.setZstage_mtr (z : Nat) (x : ZStage) : (s.setZstage z x).mtr = s.mtr := rfl
@[simp] theorem State.setZstage_sru (z : Nat) (x : ZStage) : (s.setZstage z x).sru = s.sru := rfl
@[simp] theorem State.setZstage_kst (z : Nat) (x : ZStage) : (s.setZstage z x).kst = s.kst := rfl
@[simp] theorem State.setZstage_lop (z : Nat) (x : ZStage) : (s.setZstage z x).lop = s.lop := rfl
@[simp] theorem State.setZstage_xlk (z : Nat) (x : ZStage) : (s.setZstage z x).xlk = s.xlk := rfl
@[simp] theorem State.setZstage_hap (z : Nat) (x : ZStage) : (s.setZstage z x).hap = s.hap := rfl
@[simp] theorem State.setZstage_phu (z : Nat) (x : ZStage) : (s.setZstage z x).phu = s.phu := rfl
@[simp] theorem State.setZstage_basted (z : Nat) (x : ZStage) : (s.setZstage z x).basted = s.basted := rfl
@[simp] theorem State.setZstage_mode (z : Nat) (x : ZStage) : (s.setZstage z x).mode = s.mode := rfl
@[simp] theorem State.setZstage_out (z : Nat) (x : ZStage) : (s.setZstage z x).out = s.out := rfl
@[simp] theorem State.setZstage_rates (z : Nat) (x : ZStage) : (s.setZstage z x).rates = s.rates := rfl
@[simp] theorem State.setZstage_status (z : Nat) (x : ZStage) : (s.setZstage z x).status = s.status := rfl
@[simp] theorem State.setZstage_rdata (z : Nat) (x : ZStage) : (s.setZstage z x).rdata = s.rdata := rfl
@[simp] theorem State.setZstage_free (z : Nat) (x : ZStage) : (s.setZstage z x).free = s.free := rfl
@[simp] theorem State.setZstage_pending (z : Nat) (x : ZStage) : (s.setZstage z x).pending = s.pending := rfl

@[simp] theorem State.setZstage_rd (z : Nat) (x : ZStage) (y : Nat) : (s.setZstage z x).rd y = s.rd y := rfl
@[simp] theorem State.setZstage_get (z : Nat) (x : ZStage) (g : Fld) : (s.setZstage z x).get g = s.get g := rfl
@[simp] theorem State.setZstage_flag (z : Nat) (x : ZStage) (g : Fld) : (s.setZstage z x).flag g = s.flag g := rfl

/-! ## What each update writes -/

@[simp] theorem State.answer_status (c : Nat) : (s.answer c).status = c := rfl
@[simp] theorem State.emit_out (m : OutMsg) : (s.emit m).out = s.out ++ [m] := rfl
@[simp] theorem State.takeFree_free : s.takeFree.free = s.free + 1 := rfl
theorem State.wr_mem (a : Nat) (w : Word) : (s.wr a w).mem = spSet resetWord s.mem a w := rfl

/-- A word reads as what was last written to it. -/
theorem State.rd_wr (a x : Nat) (w : Word) : (s.wr a w).rd x = if x = a then w else s.rd x :=
  spGet_spSet resetWord s.mem a x w

@[simp] theorem State.rd_wr_same (a : Nat) (w : Word) : (s.wr a w).rd a = w := spGet_spSet_same resetWord s.mem a w

theorem State.rd_wr_ne {a x : Nat} (w : Word) (h : x ≠ a) : (s.wr a w).rd x = s.rd x := spGet_spSet_ne resetWord s.mem w h

/-- A bobbin reads as what was last put there. -/
theorem State.bob_setBob (n m : Nat) (b : Bobbin) : (s.setBob n b).bob m = if m = n then b else s.bob m :=
  spGet_spSet _ s.bobs n m b

@[simp] theorem State.bob_setBob_same (n : Nat) (b : Bobbin) : (s.setBob n b).bob n = b := spGet_spSet_same _ s.bobs n b

theorem State.bob_setBob_ne {n m : Nat} (b : Bobbin) (h : m ≠ n) : (s.setBob n b).bob m = s.bob m :=
  spGet_spSet_ne _ s.bobs b h

theorem State.zstage_setZstage (z y : Nat) (x : ZStage) : (s.setZstage z x).zstage y = if y = z then x else s.zstage y :=
  spGet_spSet _ s.zon.staged z y x

@[simp] theorem State.zstage_setZstage_same (z : Nat) (x : ZStage) : (s.setZstage z x).zstage z = x :=
  spGet_spSet_same _ s.zon.staged z x

/-! ## Fields -/

/-- Two fields share no bit. -/
def Fld.disj (f g : Fld) : Bool :=
  f.addr != g.addr || decide (f.lo + f.width ≤ g.lo) || decide (g.lo + g.width ≤ f.lo)

/-- The field lies in its word. -/
def Fld.ok (f : Fld) : Bool := decide (f.lo + f.width ≤ 32)

theorem State.rd_put (f : Fld) (v x : Nat) :
    (s.put f v).rd x = if x = f.addr then putBits (s.rd f.addr) f.lo f.width v else s.rd x := s.rd_wr _ _ _

theorem State.rd_put_ne {f : Fld} (v : Nat) {x : Nat} (h : x ≠ f.addr) : (s.put f v).rd x = s.rd x := s.rd_wr_ne _ h

/-- A field reads as what was put into it. -/
theorem State.get_put_same (f : Fld) (v : Nat) (h : f.ok = true) : (s.put f v).get f = v % 2 ^ f.width := by
  simp only [Fld.ok, decide_eq_true_eq] at h
  simp only [State.get, State.rd_put, if_true]
  exact getBits_putBits_same _ _ _ _ h

/-- A field reads as before after a field that shares no bit with it is put. -/
theorem State.get_put_disj {f g : Fld} (v : Nat) (h : f.disj g = true) : (s.put f v).get g = s.get g := by
  simp only [State.get, State.rd_put]
  split
  · next e =>
    simp only [Fld.disj, e, bne_self_eq_false, Bool.false_or, Bool.or_eq_true, decide_eq_true_eq] at h
    rw [getBits_putBits_disj _ _ _ _ _ _ (by omega), e]
  · rfl

theorem State.get_lt (f : Fld) : s.get f < 2 ^ f.width := getBits_lt _ _ _

/-- A one-bit field reads as what was put into it. -/
theorem State.flag_setFlag_same (f : Fld) (b : Bool) (h : f.ok = true) (hw : f.width = 1) : (s.setFlag f b).flag f = b := by
  simp only [State.flag, State.setFlag, State.get_put_same _ _ _ h, hw]
  cases b <;> rfl

theorem State.flag_put_disj {f g : Fld} (v : Nat) (h : f.disj g = true) : (s.put f v).flag g = s.flag g := by
  simp only [State.flag, State.get_put_disj _ _ h]

theorem State.get_setFlag_disj {f g : Fld} (b : Bool) (h : f.disj g = true) : (s.setFlag f b).get g = s.get g :=
  s.get_put_disj _ h

theorem State.flag_setFlag_disj {f g : Fld} (b : Bool) (h : f.disj g = true) : (s.setFlag f b).flag g = s.flag g :=
  s.flag_put_disj _ h

/-- A counter that wraps. -/
theorem State.get_inc_same (f : Fld) (h : f.ok = true) : (s.inc f).get f = (s.get f + 1) % 2 ^ f.width :=
  s.get_put_same f _ h

theorem State.get_inc_disj {f g : Fld} (h : f.disj g = true) : (s.inc f).get g = s.get g := s.get_put_disj _ h

/-- A counter that saturates. -/
theorem State.get_incSat_same (f : Fld) (n : Nat) (h : f.ok = true) :
    (s.incSat f n).get f = min (s.get f + n) (2 ^ f.width - 1) := by
  rw [State.incSat, State.get_put_same _ _ _ h, Nat.mod_eq_of_lt]
  have := Nat.two_pow_pos f.width
  omega

theorem State.get_incSat_disj {f g : Fld} (n : Nat) (h : f.disj g = true) : (s.incSat f n).get g = s.get g :=
  s.get_put_disj _ h

end Sys2Proof.Machine
end

