-- ==== Sys2Proof/Laws/Records.lean ====
section
/-!
SUPPORT. Laws/Records.lean: what raising events can change: the words of the event queue and the journal (their registers and the
ring), the queue's banks, the instants of rate-limited events, and, on a standby, the messages sent.  Nothing else.
-/

namespace Sys2Proof.Machine

/-- The EVQ and JNL registers but JNL_WPTR, which only journalling moves. -/
def recReg (a : Nat) : Bool := decide (0xA0000 ≤ a) && decide (a < 0xA2000) && a != Reg.JNL_WPTR

/-- What raising events can do to a state, where `P` names the words that may change. -/
structure State.Recs (P : Nat → Bool) (s t : State) : Prop where
  only : t = { s with mem := t.mem, evq := t.evq, rates := t.rates, out := t.out }
  rd : ∀ a, P a = false → t.rd a = s.rd a
  wf : spWf resetWord s.mem = true → spWf resetWord t.mem = true

/-- What raising events can do to a state. -/
abbrev State.Records (s t : State) : Prop := State.Recs recordAddr s t

namespace State.Recs

variable {P Q : Nat → Bool} {s t u : State}

theorem refl (s : State) : State.Recs P s s := ⟨rfl, fun _ _ => rfl, fun h => h⟩

theorem trans (h : State.Recs P s t) (k : State.Recs P t u) : State.Recs P s u :=
  ⟨by rw [k.only, h.only], fun a ha => (k.rd a ha).trans (h.rd a ha), fun hw => k.wf (h.wf hw)⟩

theorem mono (h : State.Recs P s t) (hPQ : ∀ a, P a = true → Q a = true) : State.Recs Q s t :=
  ⟨h.only, fun a ha => h.rd a (by cases e : P a with | false => rfl | true => rw [hPQ a e] at ha; cases ha), h.wf⟩

theorem of_wr (a : Nat) (w : Word) (h : P a = true) : State.Recs P s (s.wr a w) :=
  ⟨rfl, fun x hx => s.rd_wr_ne w (by rintro rfl; rw [h] at hx; cases hx), fun hw => spWf_spSet _ _ _ _ hw⟩

theorem of_put (f : Fld) (v : Nat) (h : P f.addr = true) : State.Recs P s (s.put f v) := of_wr _ _ h

theorem of_evq (q : Evq) : State.Recs P s { s with evq := q } := ⟨rfl, fun _ _ => rfl, fun h => h⟩

theorem of_rates (r : Rates) : State.Recs P s { s with rates := r } := ⟨rfl, fun _ _ => rfl, fun h => h⟩

theorem of_emit (m : OutMsg) : State.Recs P s (s.emit m) := ⟨rfl, fun _ _ => rfl, fun h => h⟩

theorem of_wrTime (a x : Nat) (h0 : P a = true) (h4 : P (a + 4) = true) (h8 : P (a + 8) = true) : State.Recs P s (s.wrTime a x) :=
  ((of_wr a _ h0).trans (of_wr (a + 4) _ h4)).trans (of_wr (a + 8) _ h8)

theorem of_wrs (ws : List Word) (a : Nat) (h : ∀ k, k < ws.length → P (a + 4 * k) = true) : State.Recs P s (s.wrs a ws) := by
  induction ws generalizing s a with
  | nil => exact refl s
  | cons w ws ih =>
    refine (of_wr a w (by simpa using h 0 (by simp))).trans (ih (a + 4) fun k hk => ?_)
    have := h (k + 1) (by simp; omega)
    rwa [show a + 4 + 4 * k = a + 4 * (k + 1) by omega]

end State.Recs

open State.Recs

theorem recordAddr_of_recReg (a : Nat) (h : recReg a = true) : recordAddr a = true := by
  simp only [recReg, Bool.and_eq_true] at h
  simp [recordAddr, h.1.1, h.1.2]

theorem jnlAddr_record (n k : Nat) (hk : k < 8) : recordAddr (jnlAddr n + 4 * k) = true := by
  have : n % 262144 < 262144 := Nat.mod_lt _ (by decide)
  unfold recordAddr
  rw [Bool.or_eq_true, Bool.and_eq_true, Bool.and_eq_true, decide_eq_true_eq, decide_eq_true_eq, decide_eq_true_eq,
    decide_eq_true_eq]
  unfold jnlAddr jnlBase jnlSize
  omega

theorem State.loseMark_records (s : State) (m : Nat) : State.Recs recReg s (s.loseMark m) :=
  (of_put F.JNL_MSTAT_LOST _ (by decide)).trans (of_put F.JNL_STAT_MARKLOST _ (by decide))

theorem foldl_loseMark_records (l : List Nat) (s : State) : State.Recs recReg s (l.foldl State.loseMark s) := by
  induction l generalizing s with
  | nil => exact refl s
  | cons m l ih => exact (s.loseMark_records m).trans (ih _)

theorem State.badDone_records (s : State) (n : Nat) : State.Recs recReg s (s.badDone n) := by
  unfold State.badDone
  simp only
  split
  · exact refl s
  · exact (of_put F.JNL_STAT_BAD _ (by decide)).trans (of_evq _)

/-- R399: what journalling a record writes: its slot, the next number, and registers of the journal beside. -/
theorem State.journal_shape (s : State) (r : EvRec) : ∃ t, State.Recs recReg s t ∧
    State.Recs recReg ((t.wrs (jnlAddr (s.get F.JNL_WPTR_NUM)) r.words).put F.JNL_WPTR_NUM (s.get F.JNL_WPTR_NUM + 1)) (s.journal r).1 := by
  unfold State.journal
  dsimp only
  generalize s.get F.JNL_WPTR_NUM = n
  generalize (s.get F.JNL_COUNT_RECS == jnlSize) = full
  refine ⟨if full then s.badDone ((n + 4294967296 - jnlSize) % 4294967296) else s, ?_, ?_⟩
  · split
    · exact s.badDone_records _
    · exact refl s
  · generalize (if full = true then s.badDone ((n + 4294967296 - jnlSize) % 4294967296) else s) = t
    generalize (t.wrs (jnlAddr n) r.words).put F.JNL_WPTR_NUM (n + 1) = u
    refine State.Recs.trans ?_ (foldl_loseMark_records _ _)
    have h1 : State.Recs recReg u (if full = true then u.inc F.JNL_WRAPS_COUNT else u.inc F.JNL_COUNT_RECS) := by
      split
      · exact of_put F.JNL_WRAPS_COUNT _ (by decide)
      · exact of_put F.JNL_COUNT_RECS _ (by decide)
    generalize (if full = true then u.inc F.JNL_WRAPS_COUNT else u.inc F.JNL_COUNT_RECS) = v at h1 ⊢
    refine h1.trans ?_
    split
    · exact of_put F.JNL_STAT_WRAPPED _ (by decide)
    · exact refl v

/-- What journalling a record can do. -/
theorem State.journal_records (s : State) (r : EvRec) : State.Records s (s.journal r).1 := by
  obtain ⟨t, h1, h2⟩ := s.journal_shape r
  have h3 : State.Records t ((t.wrs (jnlAddr (s.get F.JNL_WPTR_NUM)) r.words).put F.JNL_WPTR_NUM (s.get F.JNL_WPTR_NUM + 1)) :=
    (of_wrs r.words _ fun k hk => jnlAddr_record _ k (by simpa [EvRec.words] using hk)).trans (of_put _ _ (by decide))
  exact ((h1.mono recordAddr_of_recReg).trans h3).trans (h2.mono recordAddr_of_recReg)

theorem State.setFilling_records (s : State) (l : List QRec) : State.Recs recReg s (s.setFilling l) := by
  unfold State.setFilling
  split
  · split <;> exact of_evq _
  · exact of_evq _

theorem State.setFull_records (s : State) : State.Recs recReg s s.setFull := by
  unfold State.setFull
  simp only
  split
  · exact refl s
  · exact (of_put F.EVQ_STAT_FULL _ (by decide)).trans (of_evq _)

theorem State.watermark_records (s : State) (n : Nat) : State.Recs recReg s (s.watermark n).1 := by
  have h1 : State.Recs recReg s (if s.flag F.EVQ_WMSTAT_WMHIT then
      s.put F.EVQ_WMSTAT_PEAK (max (s.get F.EVQ_WMSTAT_PEAK) s.filling.length) else s) := by
    split
    · exact of_put _ _ (by decide)
    · exact refl s
  unfold State.watermark
  dsimp only
  generalize (if s.flag F.EVQ_WMSTAT_WMHIT then
      s.put F.EVQ_WMSTAT_PEAK (max (s.get F.EVQ_WMSTAT_PEAK) s.filling.length) else s) = u at h1 ⊢
  split
  · refine h1.trans (State.Recs.trans ?_ (of_wrTime _ _ (by decide) (by decide) (by decide)))
    split
    · exact refl u
    · exact (of_put F.EVQ_WMSTAT_WMHIT _ (by decide)).trans (of_put F.EVQ_WMSTAT_PEAK _ (by decide))
  · exact h1

theorem State.overrun_records (s : State) : State.Recs recReg s s.overrun.1 := by
  have h1 : State.Recs recReg s ((s.inc F.EVQ_LOST_COUNT).setFlag F.EVQ_STAT_OVERRUN true) :=
    (of_put F.EVQ_LOST_COUNT _ (by decide)).trans (of_put F.EVQ_STAT_OVERRUN _ (by decide))
  simp only [State.overrun]
  split
  · exact (h1.trans (of_rates _)).trans (of_evq _)
  · exact h1.trans (of_evq _)

theorem State.enqueue_records (s : State) (q : QRec) : State.Recs recReg s (s.enqueue q).1 := by
  simp only [State.enqueue]
  split
  · exact s.overrun_records
  · exact (((s.setFilling_records _).trans (of_evq _)).trans (State.setFull_records _)).trans (State.watermark_records _ _)

theorem State.number_records (s : State) (loc : Bool) : State.Recs recReg s (s.number loc).2 := by
  unfold State.number
  split
  · exact of_put F.EVQ_LSEQ_SEQ _ (by decide)
  · exact of_put F.EVQ_SEQ_SEQ _ (by decide)

theorem State.notePrio_records (s : State) (e : Ev) : State.Recs recReg s (s.notePrio e) := by
  unfold State.notePrio
  split
  · exact of_evq _
  · exact refl s

/-- A record's number is taken after its priority is noted. -/
theorem State.noteNumber_records (s : State) (e : Ev) (loc : Bool) : State.Recs recReg s ((s.notePrio e).number loc).2 :=
  (s.notePrio_records e).trans ((s.notePrio e).number_records loc)

/-- Journalling a record, or relaying it. -/
theorem State.journalOr_records (s : State) (b : Bool) (r : EvRec) :
    State.Records s (if b then s.journal r else (s.relay r, [])).1 := by
  cases b
  · exact (of_emit _).trans (of_evq _)
  · exact s.journal_records r

/-- What raising one record can do. -/
theorem State.raise1_records (s : State) (e : Ev) : State.Records s (s.raise1 e).1 := by
  unfold State.raise1
  dsimp only
  generalize s.recLocal e = loc
  split
  · exact refl s
  · have h1 := (s.noteNumber_records e loc).mono recordAddr_of_recReg
    generalize (s.notePrio e).number loc = p at h1 ⊢
    have h2 := State.journalOr_records p.2 (s.acts || s.joinsAlone) (mkRec s e loc p.1)
    generalize (if s.acts || s.joinsAlone then p.2.journal (mkRec s e loc p.1) else (p.2.relay (mkRec s e loc p.1), [])) = q at h2 ⊢
    split
    · exact h1.trans h2
    · exact (h1.trans h2).trans ((State.enqueue_records _ _).mono recordAddr_of_recReg)

/-- What raising a list of records can do. -/
theorem raiseAll_records (fuel : Nat) (es : List Ev) (s : State) : State.Records s (raiseAll fuel es s) := by
  induction fuel generalizing es s with
  | zero => exact refl s
  | succ n ih =>
    cases es with
    | nil => exact refl s
    | cons e es => exact (s.raise1_records e).trans (ih _ _)

theorem State.raiseEv_records (s : State) (e : Ev) : State.Records s (s.raiseEv e) := raiseAll_records _ _ _

theorem State.raise_records (s : State) (c u : Nat) (p : List Nat) : State.Records s (s.raise c u p) := raiseAll_records _ _ _

theorem State.raiseSkip_records (s : State) (c u k : Nat) (p : List Nat) : State.Records s (s.raiseSkip c u k p) := by
  unfold State.raiseSkip
  split
  · exact (of_rates _).trans (State.raiseEv_records _ _)
  · exact refl s

theorem State.raiseRated_records (s : State) (g c u : Nat) (p : List Nat) (k : Nat) :
    State.Records s (s.raiseRated g c u p k) := by
  unfold State.raiseRated
  split
  · exact (of_rates _).trans (State.raise_records _ _ _ _)
  · exact refl s

/-! ## The fields that raising leaves alone -/

namespace State.Recs

variable {P : Nat → Bool} {s t : State}

theorem badPar_eq (h : State.Recs P s t) : t.badPar = s.badPar := by rw [h.only]
theorem ns_eq (h : State.Recs P s t) : t.ns = s.ns := by rw [h.only]
theorem frac_eq (h : State.Recs P s t) : t.frac = s.frac := by rw [h.only]
theorem lastFrame_eq (h : State.Recs P s t) : t.lastFrame = s.lastFrame := by rw [h.only]
theorem bobs_eq (h : State.Recs P s t) : t.bobs = s.bobs := by rw [h.only]
theorem pen_eq (h : State.Recs P s t) : t.pen = s.pen := by rw [h.only]
theorem zon_eq (h : State.Recs P s t) : t.zon = s.zon := by rw [h.only]
theorem sens_eq (h : State.Recs P s t) : t.sens = s.sens := by rw [h.only]
theorem sme_eq (h : State.Recs P s t) : t.sme = s.sme := by rw [h.only]
theorem sea_eq (h : State.Recs P s t) : t.sea = s.sea := by rw [h.only]
theorem dia_eq (h : State.Recs P s t) : t.dia = s.dia := by rw [h.only]
theorem cce_eq (h : State.Recs P s t) : t.cce = s.cce := by rw [h.only]
theorem tbu_eq (h : State.Recs P s t) : t.tbu = s.tbu := by rw [h.only]
theorem rtc_eq (h : State.Recs P s t) : t.rtc = s.rtc := by rw [h.only]
theorem mtr_eq (h : State.Recs P s t) : t.mtr = s.mtr := by rw [h.only]
theorem sru_eq (h : State.Recs P s t) : t.sru = s.sru := by rw [h.only]
theorem kst_eq (h : State.Recs P s t) : t.kst = s.kst := by rw [h.only]
theorem lop_eq (h : State.Recs P s t) : t.lop = s.lop := by rw [h.only]
theorem xlk_eq (h : State.Recs P s t) : t.xlk = s.xlk := by rw [h.only]
theorem hap_eq (h : State.Recs P s t) : t.hap = s.hap := by rw [h.only]
theorem phu_eq (h : State.Recs P s t) : t.phu = s.phu := by rw [h.only]
theorem basted_eq (h : State.Recs P s t) : t.basted = s.basted := by rw [h.only]
theorem mode_eq (h : State.Recs P s t) : t.mode = s.mode := by rw [h.only]
theorem status_eq (h : State.Recs P s t) : t.status = s.status := by rw [h.only]
theorem rdata_eq (h : State.Recs P s t) : t.rdata = s.rdata := by rw [h.only]
theorem free_eq (h : State.Recs P s t) : t.free = s.free := by rw [h.only]
theorem pending_eq (h : State.Recs P s t) : t.pending = s.pending := by rw [h.only]

theorem get (h : State.Recs P s t) {f : Fld} (hf : P f.addr = false) : t.get f = s.get f := by
  simp only [State.get, h.rd _ hf]

theorem flag (h : State.Recs P s t) {f : Fld} (hf : P f.addr = false) : t.flag f = s.flag f := by
  simp only [State.flag, h.get hf]

theorem bob (h : State.Recs P s t) (n : Nat) : t.bob n = s.bob n := by simp only [State.bob, h.bobs_eq]

end State.Recs

/-! ## raiseEv -/

@[simp] theorem State.raiseEv_badPar (s : State) (e : Ev) : (s.raiseEv e).badPar = s.badPar :=
  (s.raiseEv_records e).badPar_eq
@[simp] theorem State.raiseEv_ns (s : State) (e : Ev) : (s.raiseEv e).ns = s.ns :=
  (s.raiseEv_records e).ns_eq
@[simp] theorem State.raiseEv_frac (s : State) (e : Ev) : (s.raiseEv e).frac = s.frac :=
  (s.raiseEv_records e).frac_eq
@[simp] theorem State.raiseEv_lastFrame (s : State) (e : Ev) : (s.raiseEv e).lastFrame = s.lastFrame :=
  (s.raiseEv_records e).lastFrame_eq
@[simp] theorem State.raiseEv_bobs (s : State) (e : Ev) : (s.raiseEv e).bobs = s.bobs :=
  (s.raiseEv_records e).bobs_eq
@[simp] theorem State.raiseEv_pen (s : State) (e : Ev) : (s.raiseEv e).pen = s.pen :=
  (s.raiseEv_records e).pen_eq
@[simp] theorem State.raiseEv_zon (s : State) (e : Ev) : (s.raiseEv e).zon = s.zon :=
  (s.raiseEv_records e).zon_eq
@[simp] theorem State.raiseEv_sens (s : State) (e : Ev) : (s.raiseEv e).sens = s.sens :=
  (s.raiseEv_records e).sens_eq
@[simp] theorem State.raiseEv_sme (s : State) (e : Ev) : (s.raiseEv e).sme = s.sme :=
  (s.raiseEv_records e).sme_eq
@[simp] theorem State.raiseEv_sea (s : State) (e : Ev) : (s.raiseEv e).sea = s.sea :=
  (s.raiseEv_records e).sea_eq
@[simp] theorem State.raiseEv_dia (s : State) (e : Ev) : (s.raiseEv e).dia = s.dia :=
  (s.raiseEv_records e).dia_eq
@[simp] theorem State.raiseEv_cce (s : State) (e : Ev) : (s.raiseEv e).cce = s.cce :=
  (s.raiseEv_records e).cce_eq
@[simp] theorem State.raiseEv_tbu (s : State) (e : Ev) : (s.raiseEv e).tbu = s.tbu :=
  (s.raiseEv_records e).tbu_eq
@[simp] theorem State.raiseEv_rtc (s : State) (e : Ev) : (s.raiseEv e).rtc = s.rtc :=
  (s.raiseEv_records e).rtc_eq
@[simp] theorem State.raiseEv_mtr (s : State) (e : Ev) : (s.raiseEv e).mtr = s.mtr :=
  (s.raiseEv_records e).mtr_eq
@[simp] theorem State.raiseEv_sru (s : State) (e : Ev) : (s.raiseEv e).sru = s.sru :=
  (s.raiseEv_records e).sru_eq
@[simp] theorem State.raiseEv_kst (s : State) (e : Ev) : (s.raiseEv e).kst = s.kst :=
  (s.raiseEv_records e).kst_eq
@[simp] theorem State.raiseEv_lop (s : State) (e : Ev) : (s.raiseEv e).lop = s.lop :=
  (s.raiseEv_records e).lop_eq
@[simp] theorem State.raiseEv_xlk (s : State) (e : Ev) : (s.raiseEv e).xlk = s.xlk :=
  (s.raiseEv_records e).xlk_eq
@[simp] theorem State.raiseEv_hap (s : State) (e : Ev) : (s.raiseEv e).hap = s.hap :=
  (s.raiseEv_records e).hap_eq
@[simp] theorem State.raiseEv_phu (s : State) (e : Ev) : (s.raiseEv e).phu = s.phu :=
  (s.raiseEv_records e).phu_eq
@[simp] theorem State.raiseEv_basted (s : State) (e : Ev) : (s.raiseEv e).basted = s.basted :=
  (s.raiseEv_records e).basted_eq
@[simp] theorem State.raiseEv_mode (s : State) (e : Ev) : (s.raiseEv e).mode = s.mode :=
  (s.raiseEv_records e).mode_eq
@[simp] theorem State.raiseEv_status (s : State) (e : Ev) : (s.raiseEv e).status = s.status :=
  (s.raiseEv_records e).status_eq
@[simp] theorem State.raiseEv_rdata (s : State) (e : Ev) : (s.raiseEv e).rdata = s.rdata :=
  (s.raiseEv_records e).rdata_eq
@[simp] theorem State.raiseEv_free (s : State) (e : Ev) : (s.raiseEv e).free = s.free :=
  (s.raiseEv_records e).free_eq
@[simp] theorem State.raiseEv_pending (s : State) (e : Ev) : (s.raiseEv e).pending = s.pending :=
  (s.raiseEv_records e).pending_eq
@[simp] theorem State.raiseEv_bob (s : State) (e : Ev) (m : Nat) : (s.raiseEv e).bob m = s.bob m :=
  (s.raiseEv_records e).bob m
theorem State.raiseEv_rd (s : State) (e : Ev) {x : Nat} (h : recordAddr x = false) : (s.raiseEv e).rd x = s.rd x :=
  (s.raiseEv_records e).rd x h
theorem State.raiseEv_get (s : State) (e : Ev) {f : Fld} (h : recordAddr f.addr = false) : (s.raiseEv e).get f = s.get f :=
  (s.raiseEv_records e).get h
theorem State.raiseEv_flag (s : State) (e : Ev) {f : Fld} (h : recordAddr f.addr = false) : (s.raiseEv e).flag f = s.flag f :=
  (s.raiseEv_records e).flag h

/-! ## raise -/

@[simp] theorem State.raise_badPar (s : State) (c u : Nat) (p : List Nat) : (s.raise c u p).badPar = s.badPar :=
  (s.raise_records c u p).badPar_eq
@[simp] theorem State.raise_ns (s : State) (c u : Nat) (p : List Nat) : (s.raise c u p).ns = s.ns :=
  (s.raise_records c u p).ns_eq
@[simp] theorem State.raise_frac (s : State) (c u : Nat) (p : List Nat) : (s.raise c u p).frac = s.frac :=
  (s.raise_records c u p).frac_eq
@[simp] theorem State.raise_lastFrame (s : State) (c u : Nat) (p : List Nat) : (s.raise c u p).lastFrame = s.lastFrame :=
  (s.raise_records c u p).lastFrame_eq
@[simp] theorem State.raise_bobs (s : State) (c u : Nat) (p : List Nat) : (s.raise c u p).bobs = s.bobs :=
  (s.raise_records c u p).bobs_eq
@[simp] theorem State.raise_pen (s : State) (c u : Nat) (p : List Nat) : (s.raise c u p).pen = s.pen :=
  (s.raise_records c u p).pen_eq
@[simp] theorem State.raise_zon (s : State) (c u : Nat) (p : List Nat) : (s.raise c u p).zon = s.zon :=
  (s.raise_records c u p).zon_eq
@[simp] theorem State.raise_sens (s : State) (c u : Nat) (p : List Nat) : (s.raise c u p).sens = s.sens :=
  (s.raise_records c u p).sens_eq
@[simp] theorem State.raise_sme (s : State) (c u : Nat) (p : List Nat) : (s.raise c u p).sme = s.sme :=
  (s.raise_records c u p).sme_eq
@[simp] theorem State.raise_sea (s : State) (c u : Nat) (p : List Nat) : (s.raise c u p).sea = s.sea :=
  (s.raise_records c u p).sea_eq
@[simp] theorem State.raise_dia (s : State) (c u : Nat) (p : List Nat) : (s.raise c u p).dia = s.dia :=
  (s.raise_records c u p).dia_eq
@[simp] theorem State.raise_cce (s : State) (c u : Nat) (p : List Nat) : (s.raise c u p).cce = s.cce :=
  (s.raise_records c u p).cce_eq
@[simp] theorem State.raise_tbu (s : State) (c u : Nat) (p : List Nat) : (s.raise c u p).tbu = s.tbu :=
  (s.raise_records c u p).tbu_eq
@[simp] theorem State.raise_rtc (s : State) (c u : Nat) (p : List Nat) : (s.raise c u p).rtc = s.rtc :=
  (s.raise_records c u p).rtc_eq
@[simp] theorem State.raise_mtr (s : State) (c u : Nat) (p : List Nat) : (s.raise c u p).mtr = s.mtr :=
  (s.raise_records c u p).mtr_eq
@[simp] theorem State.raise_sru (s : State) (c u : Nat) (p : List Nat) : (s.raise c u p).sru = s.sru :=
  (s.raise_records c u p).sru_eq
@[simp] theorem State.raise_kst (s : State) (c u : Nat) (p : List Nat) : (s.raise c u p).kst = s.kst :=
  (s.raise_records c u p).kst_eq
@[simp] theorem State.raise_lop (s : State) (c u : Nat) (p : List Nat) : (s.raise c u p).lop = s.lop :=
  (s.raise_records c u p).lop_eq
@[simp] theorem State.raise_xlk (s : State) (c u : Nat) (p : List Nat) : (s.raise c u p).xlk = s.xlk :=
  (s.raise_records c u p).xlk_eq
@[simp] theorem State.raise_hap (s : State) (c u : Nat) (p : List Nat) : (s.raise c u p).hap = s.hap :=
  (s.raise_records c u p).hap_eq
@[simp] theorem State.raise_phu (s : State) (c u : Nat) (p : List Nat) : (s.raise c u p).phu = s.phu :=
  (s.raise_records c u p).phu_eq
@[simp] theorem State.raise_basted (s : State) (c u : Nat) (p : List Nat) : (s.raise c u p).basted = s.basted :=
  (s.raise_records c u p).basted_eq
@[simp] theorem State.raise_mode (s : State) (c u : Nat) (p : List Nat) : (s.raise c u p).mode = s.mode :=
  (s.raise_records c u p).mode_eq
@[simp] theorem State.raise_status (s : State) (c u : Nat) (p : List Nat) : (s.raise c u p).status = s.status :=
  (s.raise_records c u p).status_eq
@[simp] theorem State.raise_rdata (s : State) (c u : Nat) (p : List Nat) : (s.raise c u p).rdata = s.rdata :=
  (s.raise_records c u p).rdata_eq
@[simp] theorem State.raise_free (s : State) (c u : Nat) (p : List Nat) : (s.raise c u p).free = s.free :=
  (s.raise_records c u p).free_eq
@[simp] theorem State.raise_pending (s : State) (c u : Nat) (p : List Nat) : (s.raise c u p).pending = s.pending :=
  (s.raise_records c u p).pending_eq
@[simp] theorem State.raise_bob (s : State) (c u : Nat) (p : List Nat) (m : Nat) : (s.raise c u p).bob m = s.bob m :=
  (s.raise_records c u p).bob m
theorem State.raise_rd (s : State) (c u : Nat) (p : List Nat) {x : Nat} (h : recordAddr x = false) : (s.raise c u p).rd x = s.rd x :=
  (s.raise_records c u p).rd x h
theorem State.raise_get (s : State) (c u : Nat) (p : List Nat) {f : Fld} (h : recordAddr f.addr = false) : (s.raise c u p).get f = s.get f :=
  (s.raise_records c u p).get h
theorem State.raise_flag (s : State) (c u : Nat) (p : List Nat) {f : Fld} (h : recordAddr f.addr = false) : (s.raise c u p).flag f = s.flag f :=
  (s.raise_records c u p).flag h

/-! ## raiseSkip -/

@[simp] theorem State.raiseSkip_badPar (s : State) (c u k : Nat) (p : List Nat) : (s.raiseSkip c u k p).badPar = s.badPar :=
  (s.raiseSkip_records c u k p).badPar_eq
@[simp] theorem State.raiseSkip_ns (s : State) (c u k : Nat) (p : List Nat) : (s.raiseSkip c u k p).ns = s.ns :=
  (s.raiseSkip_records c u k p).ns_eq
@[simp] theorem State.raiseSkip_frac (s : State) (c u k : Nat) (p : List Nat) : (s.raiseSkip c u k p).frac = s.frac :=
  (s.raiseSkip_records c u k p).frac_eq
@[simp] theorem State.raiseSkip_lastFrame (s : State) (c u k : Nat) (p : List Nat) : (s.raiseSkip c u k p).lastFrame = s.lastFrame :=
  (s.raiseSkip_records c u k p).lastFrame_eq
@[simp] theorem State.raiseSkip_bobs (s : State) (c u k : Nat) (p : List Nat) : (s.raiseSkip c u k p).bobs = s.bobs :=
  (s.raiseSkip_records c u k p).bobs_eq
@[simp] theorem State.raiseSkip_pen (s : State) (c u k : Nat) (p : List Nat) : (s.raiseSkip c u k p).pen = s.pen :=
  (s.raiseSkip_records c u k p).pen_eq
@[simp] theorem State.raiseSkip_zon (s : State) (c u k : Nat) (p : List Nat) : (s.raiseSkip c u k p).zon = s.zon :=
  (s.raiseSkip_records c u k p).zon_eq
@[simp] theorem State.raiseSkip_sens (s : State) (c u k : Nat) (p : List Nat) : (s.raiseSkip c u k p).sens = s.sens :=
  (s.raiseSkip_records c u k p).sens_eq
@[simp] theorem State.raiseSkip_sme (s : State) (c u k : Nat) (p : List Nat) : (s.raiseSkip c u k p).sme = s.sme :=
  (s.raiseSkip_records c u k p).sme_eq
@[simp] theorem State.raiseSkip_sea (s : State) (c u k : Nat) (p : List Nat) : (s.raiseSkip c u k p).sea = s.sea :=
  (s.raiseSkip_records c u k p).sea_eq
@[simp] theorem State.raiseSkip_dia (s : State) (c u k : Nat) (p : List Nat) : (s.raiseSkip c u k p).dia = s.dia :=
  (s.raiseSkip_records c u k p).dia_eq
@[simp] theorem State.raiseSkip_cce (s : State) (c u k : Nat) (p : List Nat) : (s.raiseSkip c u k p).cce = s.cce :=
  (s.raiseSkip_records c u k p).cce_eq
@[simp] theorem State.raiseSkip_tbu (s : State) (c u k : Nat) (p : List Nat) : (s.raiseSkip c u k p).tbu = s.tbu :=
  (s.raiseSkip_records c u k p).tbu_eq
@[simp] theorem State.raiseSkip_rtc (s : State) (c u k : Nat) (p : List Nat) : (s.raiseSkip c u k p).rtc = s.rtc :=
  (s.raiseSkip_records c u k p).rtc_eq
@[simp] theorem State.raiseSkip_mtr (s : State) (c u k : Nat) (p : List Nat) : (s.raiseSkip c u k p).mtr = s.mtr :=
  (s.raiseSkip_records c u k p).mtr_eq
@[simp] theorem State.raiseSkip_sru (s : State) (c u k : Nat) (p : List Nat) : (s.raiseSkip c u k p).sru = s.sru :=
  (s.raiseSkip_records c u k p).sru_eq
@[simp] theorem State.raiseSkip_kst (s : State) (c u k : Nat) (p : List Nat) : (s.raiseSkip c u k p).kst = s.kst :=
  (s.raiseSkip_records c u k p).kst_eq
@[simp] theorem State.raiseSkip_lop (s : State) (c u k : Nat) (p : List Nat) : (s.raiseSkip c u k p).lop = s.lop :=
  (s.raiseSkip_records c u k p).lop_eq
@[simp] theorem State.raiseSkip_xlk (s : State) (c u k : Nat) (p : List Nat) : (s.raiseSkip c u k p).xlk = s.xlk :=
  (s.raiseSkip_records c u k p).xlk_eq
@[simp] theorem State.raiseSkip_hap (s : State) (c u k : Nat) (p : List Nat) : (s.raiseSkip c u k p).hap = s.hap :=
  (s.raiseSkip_records c u k p).hap_eq
@[simp] theorem State.raiseSkip_phu (s : State) (c u k : Nat) (p : List Nat) : (s.raiseSkip c u k p).phu = s.phu :=
  (s.raiseSkip_records c u k p).phu_eq
@[simp] theorem State.raiseSkip_basted (s : State) (c u k : Nat) (p : List Nat) : (s.raiseSkip c u k p).basted = s.basted :=
  (s.raiseSkip_records c u k p).basted_eq
@[simp] theorem State.raiseSkip_mode (s : State) (c u k : Nat) (p : List Nat) : (s.raiseSkip c u k p).mode = s.mode :=
  (s.raiseSkip_records c u k p).mode_eq
@[simp] theorem State.raiseSkip_status (s : State) (c u k : Nat) (p : List Nat) : (s.raiseSkip c u k p).status = s.status :=
  (s.raiseSkip_records c u k p).status_eq
@[simp] theorem State.raiseSkip_rdata (s : State) (c u k : Nat) (p : List Nat) : (s.raiseSkip c u k p).rdata = s.rdata :=
  (s.raiseSkip_records c u k p).rdata_eq
@[simp] theorem State.raiseSkip_free (s : State) (c u k : Nat) (p : List Nat) : (s.raiseSkip c u k p).free = s.free :=
  (s.raiseSkip_records c u k p).free_eq
@[simp] theorem State.raiseSkip_pending (s : State) (c u k : Nat) (p : List Nat) : (s.raiseSkip c u k p).pending = s.pending :=
  (s.raiseSkip_records c u k p).pending_eq
@[simp] theorem State.raiseSkip_bob (s : State) (c u k : Nat) (p : List Nat) (m : Nat) : (s.raiseSkip c u k p).bob m = s.bob m :=
  (s.raiseSkip_records c u k p).bob m
theorem State.raiseSkip_rd (s : State) (c u k : Nat) (p : List Nat) {x : Nat} (h : recordAddr x = false) : (s.raiseSkip c u k p).rd x = s.rd x :=
  (s.raiseSkip_records c u k p).rd x h
theorem State.raiseSkip_get (s : State) (c u k : Nat) (p : List Nat) {f : Fld} (h : recordAddr f.addr = false) : (s.raiseSkip c u k p).get f = s.get f :=
  (s.raiseSkip_records c u k p).get h
theorem State.raiseSkip_flag (s : State) (c u k : Nat) (p : List Nat) {f : Fld} (h : recordAddr f.addr = false) : (s.raiseSkip c u k p).flag f = s.flag f :=
  (s.raiseSkip_records c u k p).flag h

/-! ## raiseRated -/

@[simp] theorem State.raiseRated_badPar (s : State) (g c u : Nat) (p : List Nat) (k : Nat) : (s.raiseRated g c u p k).badPar = s.badPar :=
  (s.raiseRated_records g c u p k).badPar_eq
@[simp] theorem State.raiseRated_ns (s : State) (g c u : Nat) (p : List Nat) (k : Nat) : (s.raiseRated g c u p k).ns = s.ns :=
  (s.raiseRated_records g c u p k).ns_eq
@[simp] theorem State.raiseRated_frac (s : State) (g c u : Nat) (p : List Nat) (k : Nat) : (s.raiseRated g c u p k).frac = s.frac :=
  (s.raiseRated_records g c u p k).frac_eq
@[simp] theorem State.raiseRated_lastFrame (s : State) (g c u : Nat) (p : List Nat) (k : Nat) : (s.raiseRated g c u p k).lastFrame = s.lastFrame :=
  (s.raiseRated_records g c u p k).lastFrame_eq
@[simp] theorem State.raiseRated_bobs (s : State) (g c u : Nat) (p : List Nat) (k : Nat) : (s.raiseRated g c u p k).bobs = s.bobs :=
  (s.raiseRated_records g c u p k).bobs_eq
@[simp] theorem State.raiseRated_pen (s : State) (g c u : Nat) (p : List Nat) (k : Nat) : (s.raiseRated g c u p k).pen = s.pen :=
  (s.raiseRated_records g c u p k).pen_eq
@[simp] theorem State.raiseRated_zon (s : State) (g c u : Nat) (p : List Nat) (k : Nat) : (s.raiseRated g c u p k).zon = s.zon :=
  (s.raiseRated_records g c u p k).zon_eq
@[simp] theorem State.raiseRated_sens (s : State) (g c u : Nat) (p : List Nat) (k : Nat) : (s.raiseRated g c u p k).sens = s.sens :=
  (s.raiseRated_records g c u p k).sens_eq
@[simp] theorem State.raiseRated_sme (s : State) (g c u : Nat) (p : List Nat) (k : Nat) : (s.raiseRated g c u p k).sme = s.sme :=
  (s.raiseRated_records g c u p k).sme_eq
@[simp] theorem State.raiseRated_sea (s : State) (g c u : Nat) (p : List Nat) (k : Nat) : (s.raiseRated g c u p k).sea = s.sea :=
  (s.raiseRated_records g c u p k).sea_eq
@[simp] theorem State.raiseRated_dia (s : State) (g c u : Nat) (p : List Nat) (k : Nat) : (s.raiseRated g c u p k).dia = s.dia :=
  (s.raiseRated_records g c u p k).dia_eq
@[simp] theorem State.raiseRated_cce (s : State) (g c u : Nat) (p : List Nat) (k : Nat) : (s.raiseRated g c u p k).cce = s.cce :=
  (s.raiseRated_records g c u p k).cce_eq
@[simp] theorem State.raiseRated_tbu (s : State) (g c u : Nat) (p : List Nat) (k : Nat) : (s.raiseRated g c u p k).tbu = s.tbu :=
  (s.raiseRated_records g c u p k).tbu_eq
@[simp] theorem State.raiseRated_rtc (s : State) (g c u : Nat) (p : List Nat) (k : Nat) : (s.raiseRated g c u p k).rtc = s.rtc :=
  (s.raiseRated_records g c u p k).rtc_eq
@[simp] theorem State.raiseRated_mtr (s : State) (g c u : Nat) (p : List Nat) (k : Nat) : (s.raiseRated g c u p k).mtr = s.mtr :=
  (s.raiseRated_records g c u p k).mtr_eq
@[simp] theorem State.raiseRated_sru (s : State) (g c u : Nat) (p : List Nat) (k : Nat) : (s.raiseRated g c u p k).sru = s.sru :=
  (s.raiseRated_records g c u p k).sru_eq
@[simp] theorem State.raiseRated_kst (s : State) (g c u : Nat) (p : List Nat) (k : Nat) : (s.raiseRated g c u p k).kst = s.kst :=
  (s.raiseRated_records g c u p k).kst_eq
@[simp] theorem State.raiseRated_lop (s : State) (g c u : Nat) (p : List Nat) (k : Nat) : (s.raiseRated g c u p k).lop = s.lop :=
  (s.raiseRated_records g c u p k).lop_eq
@[simp] theorem State.raiseRated_xlk (s : State) (g c u : Nat) (p : List Nat) (k : Nat) : (s.raiseRated g c u p k).xlk = s.xlk :=
  (s.raiseRated_records g c u p k).xlk_eq
@[simp] theorem State.raiseRated_hap (s : State) (g c u : Nat) (p : List Nat) (k : Nat) : (s.raiseRated g c u p k).hap = s.hap :=
  (s.raiseRated_records g c u p k).hap_eq
@[simp] theorem State.raiseRated_phu (s : State) (g c u : Nat) (p : List Nat) (k : Nat) : (s.raiseRated g c u p k).phu = s.phu :=
  (s.raiseRated_records g c u p k).phu_eq
@[simp] theorem State.raiseRated_basted (s : State) (g c u : Nat) (p : List Nat) (k : Nat) : (s.raiseRated g c u p k).basted = s.basted :=
  (s.raiseRated_records g c u p k).basted_eq
@[simp] theorem State.raiseRated_mode (s : State) (g c u : Nat) (p : List Nat) (k : Nat) : (s.raiseRated g c u p k).mode = s.mode :=
  (s.raiseRated_records g c u p k).mode_eq
@[simp] theorem State.raiseRated_status (s : State) (g c u : Nat) (p : List Nat) (k : Nat) : (s.raiseRated g c u p k).status = s.status :=
  (s.raiseRated_records g c u p k).status_eq
@[simp] theorem State.raiseRated_rdata (s : State) (g c u : Nat) (p : List Nat) (k : Nat) : (s.raiseRated g c u p k).rdata = s.rdata :=
  (s.raiseRated_records g c u p k).rdata_eq
@[simp] theorem State.raiseRated_free (s : State) (g c u : Nat) (p : List Nat) (k : Nat) : (s.raiseRated g c u p k).free = s.free :=
  (s.raiseRated_records g c u p k).free_eq
@[simp] theorem State.raiseRated_pending (s : State) (g c u : Nat) (p : List Nat) (k : Nat) : (s.raiseRated g c u p k).pending = s.pending :=
  (s.raiseRated_records g c u p k).pending_eq
@[simp] theorem State.raiseRated_bob (s : State) (g c u : Nat) (p : List Nat) (k : Nat) (m : Nat) : (s.raiseRated g c u p k).bob m = s.bob m :=
  (s.raiseRated_records g c u p k).bob m
theorem State.raiseRated_rd (s : State) (g c u : Nat) (p : List Nat) (k : Nat) {x : Nat} (h : recordAddr x = false) : (s.raiseRated g c u p k).rd x = s.rd x :=
  (s.raiseRated_records g c u p k).rd x h
theorem State.raiseRated_get (s : State) (g c u : Nat) (p : List Nat) (k : Nat) {f : Fld} (h : recordAddr f.addr = false) : (s.raiseRated g c u p k).get f = s.get f :=
  (s.raiseRated_records g c u p k).get h
theorem State.raiseRated_flag (s : State) (g c u : Nat) (p : List Nat) (k : Nat) {f : Fld} (h : recordAddr f.addr = false) : (s.raiseRated g c u p k).flag f = s.flag f :=
  (s.raiseRated_records g c u p k).flag h

end Sys2Proof.Machine
end

