-- ==== Sys2Proof/Laws/Bobbin.lean ====
section
/-!
SUPPORT. Laws/Bobbin.lean: what issuing, retiring and ending a group can do, and the small lemmas of the register operations of a
bobbin.
-/

namespace Sys2Proof.Machine

/-! ## Registers of a bobbin -/

theorem Bobbin.rg_wg (b : Bobbin) (d r : BitVec 4) (w : Word) : (b.wg d w).rg r = if r = d ∧ r ≠ 0 then w else b.rg r := by
  unfold Bobbin.wg Bobbin.rg
  by_cases hr : r = 0
  · rw [if_pos hr, if_pos hr, if_neg fun h => h.2 hr]
  · rw [if_neg hr, if_neg hr]
    by_cases hd : d = 0
    · rw [if_pos hd, if_neg fun h => hr (h.1.trans hd)]
    · rw [if_neg hd]
      by_cases e : r = d
      · subst e
        rw [if_pos ⟨rfl, hr⟩]
        exact Vector.getElem_set_self _
      · rw [if_neg fun h => e h.1]
        exact Vector.getElem_set_ne d.isLt r.isLt fun h => e (BitVec.eq_of_toNat_eq h.symm)

@[simp] theorem Bobbin.wg_v (b : Bobbin) (d : BitVec 4) (w : Word) : (b.wg d w).v = b.v := by unfold Bobbin.wg; split <;> rfl
@[simp] theorem Bobbin.wg_rv (b : Bobbin) (d : BitVec 4) (w : Word) (r : BitVec 3) : (b.wg d w).rv r = b.rv r := by
  simp [Bobbin.rv]
@[simp] theorem Bobbin.wg_flags (b : Bobbin) (d : BitVec 4) (w : Word) : (b.wg d w).flags = b.flags := by
  unfold Bobbin.wg; split <;> rfl
@[simp] theorem Bobbin.wg_pc (b : Bobbin) (d : BitVec 4) (w : Word) : (b.wg d w).pc = b.pc := by unfold Bobbin.wg; split <;> rfl

/-- A V register reads as what was put there. -/
theorem VReg.ofFn_get (f : Nat → BitVec 16) (i : Fin 8) : (VReg.ofFn f)[i] = f i := by simp [VReg.ofFn]

theorem Bobbin.rv_wv (b : Bobbin) (d r : BitVec 3) (x : VReg) : (b.wv d x).rv r = if r = d then x else b.rv r := by
  unfold Bobbin.wv Bobbin.rv
  by_cases e : r = d
  · subst e
    rw [if_pos rfl]
    exact Vector.getElem_set_self _
  · rw [if_neg e]
    exact Vector.getElem_set_ne d.isLt r.isLt fun h => e (BitVec.eq_of_toNat_eq h.symm)

@[simp] theorem Bobbin.wv_rg (b : Bobbin) (d : BitVec 3) (x : VReg) (r : BitVec 4) : (b.wv d x).rg r = b.rg r := rfl

/-! ## Ending a group -/

/-- What the end of a group does to its bobbin: the copies the host reads. -/
theorem State.endGroup_bob (s : State) (n : Nat) : (s.endGroup n).bob n = (s.bob n).show := by
  unfold State.endGroup
  simp only
  split
  · exact s.bob_setBob_same n _
  · exact s.bob_setBob_same n _

theorem State.endGroup_others (s : State) (n : Nat) {m : Nat} (h : m ≠ n) : (s.endGroup n).bob m = s.bob m := by
  unfold State.endGroup
  simp only
  split
  · exact s.bob_setBob_ne _ h
  · exact s.bob_setBob_ne _ h

theorem State.endGroup_only (s : State) (n : Nat) : OnlyBobbins s (s.endGroup n) := by
  unfold State.endGroup OnlyBobbins
  simp only
  split <;> rfl

theorem State.endGroup_cyc (s : State) (n : Nat) : (s.endGroup n).pen.cyc = s.pen.cyc := by
  unfold State.endGroup
  simp only
  split <;> rfl

theorem OnlyBobbins.refl (s : State) : OnlyBobbins s s := rfl

theorem OnlyBobbins.trans {s t u : State} (h : OnlyBobbins s t) (k : OnlyBobbins t u) : OnlyBobbins s u := by
  unfold OnlyBobbins at *
  rw [k, h]

/-- What the end of an instruction's turn in its group can do. -/
theorem State.groupStep_spec (s : State) (n : Nat) :
    (∃ g v, (s.groupStep n).bob n = { s.bob n with gShow := g, vShow := v }) ∧
      (∀ m, m ≠ n → (s.groupStep n).bob m = s.bob m) ∧ OnlyBobbins s (s.groupStep n) ∧ (s.groupStep n).pen.cyc = s.pen.cyc := by
  have he : (∃ g v, (s.endGroup n).bob n = { s.bob n with gShow := g, vShow := v }) ∧
      (∀ m, m ≠ n → (s.endGroup n).bob m = s.bob m) ∧ OnlyBobbins s (s.endGroup n) ∧ (s.endGroup n).pen.cyc = s.pen.cyc :=
    ⟨⟨_, _, s.endGroup_bob n⟩, fun m hm => s.endGroup_others n hm, s.endGroup_only n, s.endGroup_cyc n⟩
  unfold State.groupStep
  split
  · exact he
  · split
    · split
      · exact he
      · exact ⟨⟨(s.bob n).gShow, (s.bob n).vShow, rfl⟩, fun _ _ => rfl, rfl, rfl⟩
    · exact he

/-! ## Retiring an instruction -/

/-- R70: the bobbin after one instruction is taken off its budget. -/
def Bobbin.account (b : Bobbin) : Bobbin :=
  { b with left := b.left - 1, used := b.used + 1,
           st := if b.st = .runnable ∧ b.left - 1 = 0 then .preempted else b.st }

/-- R70: what running out of budget does: the bobbin is PREEMPTED; beyond that only its overrun count and the records of an event. -/
theorem State.exhaust_bob (s : State) (n m : Nat) :
    (s.exhaust n).bob m = if m = n then { s.bob n with st := .preempted } else s.bob m := by
  unfold State.exhaust
  rw [State.raiseRated_bob]
  exact (s.bob_setBob n m { s.bob n with st := .preempted } :)

theorem State.exhaust_pen (s : State) (n : Nat) : (s.exhaust n).pen = s.pen := by
  unfold State.exhaust; rw [State.raiseRated_pen]; rfl

/-- R70, R106: what retiring an instruction does to its bobbin, to the others and to the rest of the state. -/
theorem State.retire_spec (s : State) (n cost : Nat) :
    (∃ g v, (s.retire n cost).bob n = { (s.bob n).account with gShow := g, vShow := v }) ∧
      (∀ m, m ≠ n → (s.retire n cost).bob m = s.bob m) ∧
      (((s.bob n).st = .runnable → 1 < (s.bob n).left) → OnlyBobbins s (s.retire n cost)) ∧
      (s.retire n cost).pen.cyc = s.pen.cyc + cost := by
  unfold State.retire
  simp only
  split
  · next h =>
    obtain ⟨⟨g, v, hb⟩, ho, -, hc⟩ := State.groupStep_spec
      (State.exhaust { s.setBob n { s.bob n with left := (s.bob n).left - 1, used := (s.bob n).used + 1 } with
        pen := { s.pen with cyc := s.pen.cyc + cost } } n) n
    refine ⟨⟨g, v, ?_⟩, ?_, ?_, ?_⟩
    · refine hb.trans ?_
      rw [State.exhaust_bob, if_pos rfl]
      have hs : (s.bob n).account.st = .preempted := if_pos h
      have e : ∀ p : Pen, State.bob { s.setBob n { s.bob n with left := (s.bob n).left - 1, used := (s.bob n).used + 1 } with
          pen := p } n = { s.bob n with left := (s.bob n).left - 1, used := (s.bob n).used + 1 } :=
        fun p => s.bob_setBob_same n _
      rw [e]
      simp only [Bobbin.account, if_pos h]
    · intro m hm
      refine (ho m hm).trans ?_
      rw [State.exhaust_bob, if_neg hm]
      exact s.bob_setBob_ne _ hm
    · intro hl
      exact absurd (hl h.1) (by have := h.2; omega)
    · refine hc.trans ?_
      rw [State.exhaust_pen]
  · next h =>
    obtain ⟨⟨g, v, hb⟩, ho, hf, hc⟩ := State.groupStep_spec
      { s.setBob n { s.bob n with left := (s.bob n).left - 1, used := (s.bob n).used + 1 } with
        pen := { s.pen with cyc := s.pen.cyc + cost } } n
    refine ⟨⟨g, v, ?_⟩, ?_, ?_, ?_⟩
    · refine hb.trans ?_
      have e : State.bob { s.setBob n { s.bob n with left := (s.bob n).left - 1, used := (s.bob n).used + 1 } with
          pen := { s.pen with cyc := s.pen.cyc + cost } } n =
          { s.bob n with left := (s.bob n).left - 1, used := (s.bob n).used + 1 } := s.bob_setBob_same n _
      rw [e]
      simp only [Bobbin.account, if_neg h]
    · intro m hm
      exact (ho m hm).trans (s.bob_setBob_ne _ hm)
    · intro _
      have h1 : OnlyBobbins s { s.setBob n { s.bob n with left := (s.bob n).left - 1, used := (s.bob n).used + 1 } with
          pen := { s.pen with cyc := s.pen.cyc + cost } } := rfl
      exact h1.trans hf
    · exact hc

theorem State.groupStep_rd (s : State) (n a : Nat) : (s.groupStep n).rd a = s.rd a := by
  have h := (State.groupStep_spec s n).2.2.1
  unfold OnlyBobbins at h
  rw [h]; rfl

/-- The words that retiring an instruction can change: the overrun count of its bobbin and the words of a record. -/
theorem State.retire_rd (s : State) (n cost : Nat) {a : Nat} (ha : a ≠ Reg.PEN_BOVR n) (hr : recordAddr a = false) :
    (s.retire n cost).rd a = s.rd a := by
  unfold State.retire
  simp only [State.groupStep_rd]
  split
  · unfold State.exhaust
    rw [State.raiseRated_rd _ _ _ _ _ _ hr, State.incSat, State.rd_put_ne _ _ ha]
    rfl
  · rfl

/-! ## Issuing -/

/-- A ready bobbin's instruction issues at once: it is not held for a group boundary. -/
theorem issue_ready {s : State} {n : BitVec 5} (h : Ready s n) (w : Word) (cost : Nat) (body : State → Body) :
    s.issue n.toNat w cost body = s.issueNow n.toNat w cost body := if_pos h.1

/-- A ready bobbin whose instruction's body answers a state retires it. -/
theorem issue_ok {s t : State} {n : BitVec 5} {w : Word} {cost : Nat} {body : State → Body} (h : Ready s n)
    (hb : body s = .ok t) : s.issue n.toNat w cost body = t.retire n.toNat cost := by
  rw [issue_ready h]
  simp only [State.issueNow, h.2, hb, Bool.false_eq_true, if_false]

/-- A ready bobbin whose instruction's body faults stops with the fault. -/
theorem issue_fault {s : State} {n : BitVec 5} {w : Word} {cost c : Nat} {body : State → Body} (h : Ready s n)
    (hb : body s = .error (.fault c)) : s.issue n.toNat w cost body = s.faultBob n.toNat c w := by
  rw [issue_ready h]
  simp only [State.issueNow, h.2, hb, Bool.false_eq_true, if_false]

theorem Ready.runnable {s : State} {n : BitVec 5} (h : Ready s n) : (s.bob n.toNat).st = .runnable := by
  have := h.1
  simp only [State.canIssue, Bool.and_eq_true, beq_iff_eq] at this
  exact this.1.1.2

theorem Ready.left {s : State} {n : BitVec 5} (h : Ready s n) : 0 < (s.bob n.toNat).left := by
  have := h.1
  simp only [State.canIssue, Bool.and_eq_true, decide_eq_true_eq] at this
  exact this.2

/-- What an instruction does whose body changes only its own bobbin, and of it only registers, flags and PC. -/
theorem goesOn_of_body {s : State} {n : BitVec 5} (h : Ready s n) (cost : Nat) (b : Bobbin)
    (hb : b = { s.bob n.toNat with g := b.g, v := b.v, fz := b.fz, fn := b.fn, fc := b.fc, fv := b.fv, pc := b.pc }) :
    GoesOn s n cost ((s.setBob n.toNat b).retire n.toNat cost) ∧
      ∃ g v, ((s.setBob n.toNat b).retire n.toNat cost).bob n.toNat = { b.account with gShow := g, vShow := v } := by
  obtain ⟨⟨g, v, h1⟩, h2, h3, h4⟩ := (s.setBob n.toNat b).retire_spec n.toNat cost
  rw [State.bob_setBob_same] at h1 h3
  have hst : b.st = .runnable := by rw [hb]; exact h.runnable
  have hl : b.left = (s.bob n.toNat).left := by rw [hb]
  have hu : b.used = (s.bob n.toNat).used := by rw [hb]
  have h0 := h.left
  refine ⟨⟨⟨by rw [h1]; exact congrArg (· - 1) hl, by rw [h1]; exact congrArg (· + 1) hu, h4⟩, ?_, ?_, ?_, ?_, ?_⟩, g, v, h1⟩
  · rw [h1]
    simp only [Bobbin.account, hst, hl, true_and]
    by_cases e : (s.bob n.toNat).left = 1
    · simp [e]
    · rw [if_neg (by omega), if_neg e]
  · unfold Bobbin.SameElse
    rw [h1, hb]
    rfl
  · intro m hm
    exact (h2 m hm).trans (s.bob_setBob_ne b hm)
  · intro a ha hr
    exact (State.retire_rd _ _ _ ha hr).trans rfl
  · intro h1l
    have h5 : OnlyBobbins s (s.setBob n.toNat b) := rfl
    exact h5.trans (h3 fun _ => by omega)

/-- A scalar instruction whose body writes `w` to Gd and sets flags. -/
theorem issue_scalar {s : State} {n : BitVec 5} (h : Ready s n) (w0 : Word) (cost : Nat) (d : BitVec 4) (w : Word)
    (fl : Bool × Bool × Bool × Bool) (f : Bobbin → Bobbin) (b : Bobbin) (hf : f (s.bob n.toNat) = b.wg d w)
    (hb : b = { s.bob n.toNat with fz := b.fz, fn := b.fn, fc := b.fc, fv := b.fv }) (hfl : b.flags = fl) :
    Scalar s n cost d w fl (s.issue n.toNat w0 cost (bodyOn n.toNat f)) := by
  rw [issue_ok h (t := s.setBob n.toNat (f (s.bob n.toNat)).next) rfl, hf]
  have hw : (b.wg d w).next = { s.bob n.toNat with
      g := (b.wg d w).next.g, v := (b.wg d w).next.v, fz := (b.wg d w).next.fz, fn := (b.wg d w).next.fn,
      fc := (b.wg d w).next.fc, fv := (b.wg d w).next.fv, pc := (b.wg d w).next.pc } := by
    rw [hb]
    unfold Bobbin.wg
    split <;> rfl
  obtain ⟨h1, g, v, h2⟩ := goesOn_of_body h cost _ hw
  refine ⟨h1, ?_, ?_, ?_, ?_⟩
  · rw [h2]
    change (b.wg d w).pc + 1 = _
    rw [Bobbin.wg_pc, hb]
  · intro r
    rw [h2]
    change (b.wg d w).rg r = _
    rw [Bobbin.rg_wg, hb]
    rfl
  · intro r
    rw [h2]
    change (b.wg d w).rv r = _
    rw [Bobbin.wg_rv, hb]
    rfl
  · rw [h2]
    change (b.wg d w).flags = _
    rw [Bobbin.wg_flags, hfl]

end Sys2Proof.Machine
end

