-- ==== Sys2Proof/Laws/Host.lean ====
section
/-!
SUPPORT. Laws/Host.lean: what the arrival of a datagram can do (R443): it runs when the module is free, else it waits or is dropped.
-/

namespace Sys2Proof.Machine

variable (s : State)

/-- Nothing waits: nothing is served. -/
theorem serveUpTo_of_none (n : Nat) (h : s.hap.waiting = []) : State.serveUpTo n s = s := by
  cases n with
  | zero => rfl
  | succ n => simp only [State.serveUpTo]; split <;> simp_all

/-- A datagram is in execution: nothing is served. -/
theorem serveUpTo_of_busy (n : Nat) (h : s.xlk.trans ≠ []) : State.serveUpTo n s = s := by
  cases n with
  | zero => rfl
  | succ n => simp only [State.serveUpTo]; split <;> simp_all

/-- A datagram of the command's type that finds the module free is executed. -/
theorem datagram_runs {typ : Nat} {peer : Peer} {b : List Nat} (hr : s.inRunQuiet = true) (hl : 16 ≤ b.length)
    (ht : (headOf b).typ = typ) (hk : typ ∈ [tHello, tProve, tRequest, tClose]) (hw : s.hap.waiting = []) (hx : s.xlk.trans = []) :
    s.datagram typ peer b = s.runDatagram peer b := by
  have hn : ¬ b.length < 16 := by omega
  simp [State.datagram, State.serveHost, serveUpTo_of_none s _ hw, hr, hn, ht, hx]
  intros; simp_all

/-- One that finds a datagram in execution is held. -/
theorem datagram_held {typ : Nat} {peer : Peer} {b : List Nat} (hr : s.inRunQuiet = true) (hl : 16 ≤ b.length)
    (ht : (headOf b).typ = typ) (hk : typ ∈ [tHello, tProve, tRequest, tClose]) (hx : s.xlk.trans ≠ []) :
    s.datagram typ peer b = s.hold peer b := by
  have hn : ¬ b.length < 16 := by omega
  simp [State.datagram, State.serveHost, serveUpTo_of_busy s _ hx, hr, hn, ht, hx]
  intros; simp_all

end Sys2Proof.Machine
end

