-- ==== Sys2Proof/Laws/Journal.lean ====
section
/-!
SUPPORT. Laws/Journal.lean: where a raised event stands in the journal (R387, R399), and that the events that follow it leave it
there.
-/

namespace Sys2Proof.Machine

open State.Recs

/-! ## Writing consecutive words -/

theorem State.wrs_rd_ne (ws : List Word) (a x : Nat) (s : State) (h : ∀ k, k < ws.length → x ≠ a + 4 * k) :
    (s.wrs a ws).rd x = s.rd x := by
  induction ws generalizing s a with
  | nil => rfl
  | cons w ws ih =>
    refine (ih (a + 4) (s.wr a w) fun k hk => ?_).trans (s.rd_wr_ne w (by simpa using h 0 (by simp)))
    have := h (k + 1) (by simp; omega)
    omega

theorem State.wrs_rd_at (ws : List Word) (a k : Nat) (s : State) (h : k < ws.length) :
    (s.wrs a ws).rd (a + 4 * k) = ws.getD k 0 := by
  induction ws generalizing s a k with
  | nil => simp at h
  | cons w ws ih =>
    cases k with
    | zero =>
      refine (State.wrs_rd_ne ws (a + 4) _ (s.wr a w) fun k _ => by omega).trans ?_
      simp
    | succ k =>
      have := ih (a + 4) k (s.wr a w) (by simpa using h)
      rw [show a + 4 * (k + 1) = a + 4 + 4 * k by omega]
      simpa [State.wrs] using this

/-! ## One record -/

/-- The next record number. -/
abbrev State.wptr (s : State) : Nat := s.get F.JNL_WPTR_NUM

theorem jnl_ne_reg (m k : Nat) {a : Nat} (h : a < jnlBase) : jnlAddr m + 4 * k ≠ a := by unfold jnlAddr; omega

theorem recReg_jnl (m k : Nat) : recReg (jnlAddr m + 4 * k) = false := by
  have h : ¬ jnlAddr m + 4 * k < 0xA2000 := by unfold jnlAddr jnlBase; omega
  simp [recReg, h]

theorem recReg_wptr : recReg (F.JNL_WPTR_NUM).addr = false := by decide

/-- What changes only other records leaves every slot of the ring and the next number. -/
theorem State.Recs.slot {s t : State} (h : State.Recs recReg s t) (m k : Nat) :
    t.rd (jnlAddr m + 4 * k) = s.rd (jnlAddr m + 4 * k) := h.rd _ (recReg_jnl m k)

theorem State.Recs.wptr {s t : State} (h : State.Recs recReg s t) : t.wptr = s.wptr := h.get recReg_wptr

theorem State.journal_wptr (s : State) (r : EvRec) : (s.journal r).1.wptr = (s.wptr + 1) % 4294967296 := by
  obtain ⟨t, -, h⟩ := s.journal_shape r
  rw [h.wptr]
  exact State.get_put_same _ F.JNL_WPTR_NUM _ (by decide)

/-- R399: the record is at the slot of its number. -/
theorem State.journal_here (s : State) (r : EvRec) (k : Nat) (hk : k < 8) :
    (s.journal r).1.rd (jnlAddr s.wptr + 4 * k) = r.words.getD k 0 := by
  obtain ⟨t, -, h⟩ := s.journal_shape r
  rw [h.slot, State.rd_put_ne _ _ (jnl_ne_reg _ _ (by decide)), State.wrs_rd_at _ _ _ _ (by simpa [EvRec.words] using hk)]

/-- R399: no other slot of the ring changes. -/
theorem State.journal_there (s : State) (r : EvRec) (m k : Nat) (hk : k < 8) (hm : m % jnlSize ≠ s.wptr % jnlSize) :
    (s.journal r).1.rd (jnlAddr m + 4 * k) = s.rd (jnlAddr m + 4 * k) := by
  obtain ⟨t, h1, h2⟩ := s.journal_shape r
  rw [h2.slot, State.rd_put_ne _ _ (jnl_ne_reg _ _ (by decide)), State.wrs_rd_ne, h1.slot]
  intro j hj
  have : j < 8 := by simpa [EvRec.words] using hj
  simp only [State.wptr] at hm
  unfold jnlAddr
  omega

/-! ## Raising -/

theorem State.acts_role {s : State} (h : s.acts = true) : ¬ 2 ≤ s.get F.GLB_ROLE_ROLE := by
  simp only [State.acts, decide_eq_true_eq] at h
  omega

/-- R389, R399: on a SOLO or ACTIVE module, raising one event journals its record at the next number. -/
theorem State.raise1_acts (s : State) (e : Ev) (h : s.acts = true) :
    ∃ loc seq, (∀ k, k < 8 → (s.raise1 e).1.rd (jnlAddr s.wptr + 4 * k) = (mkRec s e loc seq).words.getD k 0) ∧
      (s.raise1 e).1.wptr = (s.wptr + 1) % 4294967296 := by
  have hr := State.acts_role h
  unfold State.raise1
  dsimp only
  generalize s.recLocal e = loc
  rw [if_neg (by simp [hr])]
  have h1 := s.noteNumber_records e loc
  generalize (s.notePrio e).number loc = p at h1 ⊢
  rw [if_pos (by simp [h] : (s.acts || s.joinsAlone) = true)]
  refine ⟨loc, p.1, ?_⟩
  have hw : p.2.wptr = s.wptr := h1.wptr
  have hj := fun k hk => p.2.journal_here (mkRec s e loc p.1) k hk
  have hn := p.2.journal_wptr (mkRec s e loc p.1)
  rw [hw] at hj hn
  generalize p.2.journal (mkRec s e loc p.1) = q at hj hn ⊢
  split
  · exact ⟨hj, hn⟩
  · have he := q.1.enqueue_records { record := mkRec s e loc p.1, prio := s.evPrio e, copy := if (s.activePaired && !loc) = true then some s.wptr else none }
    exact ⟨fun k hk => (he.slot _ _).trans (hj k hk), he.wptr.trans hn⟩

/-- Raising one event writes at most the slot of the next number, and moves that number by at most one. -/
theorem State.raise1_slots (s : State) (e : Ev) :
    (∀ m k, k < 8 → m % jnlSize ≠ s.wptr % jnlSize → (s.raise1 e).1.rd (jnlAddr m + 4 * k) = s.rd (jnlAddr m + 4 * k)) ∧
      ((s.raise1 e).1.wptr = s.wptr ∨ (s.raise1 e).1.wptr = (s.wptr + 1) % 4294967296) := by
  unfold State.raise1
  dsimp only
  generalize s.recLocal e = loc
  split
  · exact ⟨fun _ _ _ _ => rfl, .inl rfl⟩
  · have h1 := s.noteNumber_records e loc
    generalize (s.notePrio e).number loc = p at h1 ⊢
    have hw : p.2.wptr = s.wptr := h1.wptr
    have h2 : (∀ m k, k < 8 → m % jnlSize ≠ s.wptr % jnlSize →
        (if s.acts || s.joinsAlone then p.2.journal (mkRec s e loc p.1) else (p.2.relay (mkRec s e loc p.1), [])).1.rd
          (jnlAddr m + 4 * k) = s.rd (jnlAddr m + 4 * k)) ∧
        ((if s.acts || s.joinsAlone then p.2.journal (mkRec s e loc p.1) else (p.2.relay (mkRec s e loc p.1), [])).1.wptr = s.wptr ∨
         (if s.acts || s.joinsAlone then p.2.journal (mkRec s e loc p.1) else (p.2.relay (mkRec s e loc p.1), [])).1.wptr =
          (s.wptr + 1) % 4294967296) := by
      split
      · refine ⟨fun m k hk hm => (p.2.journal_there _ m k hk (by rwa [hw])).trans (h1.slot m k), .inr ?_⟩
        rw [p.2.journal_wptr, hw]
      · exact ⟨fun m k _ _ => h1.slot m k, .inl hw⟩
    generalize (if s.acts || s.joinsAlone then p.2.journal (mkRec s e loc p.1) else (p.2.relay (mkRec s e loc p.1), [])) = q at h2 ⊢
    split
    · exact h2
    · have he := q.1.enqueue_records { record := mkRec s e loc p.1, prio := s.evPrio e, copy := if (s.activePaired && !loc) = true then some s.wptr else none }
      exact ⟨fun m k hk hm => (he.slot m k).trans (h2.1 m k hk hm), by rw [he.wptr]; exact h2.2⟩

/-- The events that follow leave a slot that they do not reach. -/
theorem raiseAll_slot (fuel : Nat) (es : List Ev) (s : State) (m k : Nat) (hk : k < 8)
    (h : ∀ i, i < fuel → m % jnlSize ≠ (s.wptr + i) % jnlSize) :
    (raiseAll fuel es s).rd (jnlAddr m + 4 * k) = s.rd (jnlAddr m + 4 * k) := by
  induction fuel generalizing es s with
  | zero => rfl
  | succ n ih =>
    cases es with
    | nil => rfl
    | cons e es =>
      obtain ⟨h1, h2⟩ := s.raise1_slots e
      have h0 : m % jnlSize ≠ s.wptr % jnlSize := by simpa using h 0 (by omega)
      refine (ih (es ++ (s.raise1 e).2) (s.raise1 e).1 fun i hi => ?_).trans (h1 m k hk h0)
      rcases h2 with h2 | h2
      · rw [h2]; exact h i (by omega)
      · have := h (i + 1) (by omega)
        rw [h2]
        unfold jnlSize at *
        omega

/-- R387, R399: an event raised on a SOLO or ACTIVE module stands in the journal at the next number. -/
theorem State.raiseEv_slot (s : State) (e : Ev) (h : s.acts = true) :
    ∃ loc seq, ∀ k, k < 8 → (s.raiseEv e).rd (jnlAddr s.wptr + 4 * k) = (mkRec s e loc seq).words.getD k 0 := by
  obtain ⟨loc, seq, h1, h2⟩ := s.raise1_acts e h
  refine ⟨loc, seq, fun k hk => ?_⟩
  refine (raiseAll_slot 23 ([] ++ (s.raise1 e).2) (s.raise1 e).1 s.wptr k hk fun i hi => ?_).trans (h1 k hk)
  rw [h2]
  unfold jnlSize
  omega

/-- The fields of a record's word 0. -/
theorem recWord0 (p l c h u : Nat) (hp : p < 4) (hl : l ≤ 268435456) (hm : l % 268435456 = 0) (hc : c < 4096) (hh : h < 16)
    (hu : u < 4096) :
    (2147483648 + p * 536870912 + l + c * 65536 + h * 4096 + u) % 2 ^ 32 / 2 ^ 16 % 2 ^ 12 = c ∧
      (2147483648 + p * 536870912 + l + c * 65536 + h * 4096 + u) % 2 ^ 32 / 2 ^ 0 % 2 ^ 12 = u := by
  have h0 : 2147483648 + p * 536870912 + l + c * 65536 + h * 4096 + u < 2 ^ 32 := by
    obtain rfl | rfl : l = 0 ∨ l = 268435456 := by omega
    · omega
    · omega
  rw [Nat.mod_eq_of_lt h0]
  simp only [Nat.reducePow, Nat.div_one]
  constructor
  · omega
  · omega

theorem mkRec_word0 (s : State) (e : Ev) (loc : Bool) (seq : Nat) :
    getBits ((mkRec s e loc seq).words.getD 0 0) 16 12 = e.code % 4096 ∧
      getBits ((mkRec s e loc seq).words.getD 0 0) 0 12 = e.unit % 4096 := by
  simp only [mkRec, EvRec.sealed, EvRec.words, List.getD_cons_zero, getBits, BitVec.toNat_ofNat]
  exact recWord0 _ _ _ _ _ (Nat.mod_lt _ (by decide)) (by split <;> omega) (by split <;> rfl) (Nat.mod_lt _ (by decide))
    (by have := Nat.mod_lt e.code (show 4096 > 0 by decide); omega) (Nat.mod_lt _ (by decide))

theorem mkRec_payload (s : State) (e : Ev) (loc : Bool) (seq k : Nat) (hk : k < 3) :
    (mkRec s e loc seq).words.getD (5 + k) 0 = e.payload seq k := by
  rcases k with _ | _ | _ | k
  · rfl
  · rfl
  · rfl
  · omega

/-- The record of an event whose rule names the payload from w5 on. -/
theorem State.raiseEv_journalled (s : State) (e : Ev) (hs : e.skip = 0) : Journalled s (s.raiseEv e) e.code e.unit e.pay := by
  intro h
  obtain ⟨loc, seq, hr⟩ := s.raiseEv_slot e h
  refine ⟨?_, ?_, ?_⟩
  · have := hr 0 (by omega)
    rw [Nat.mul_zero, Nat.add_zero] at this
    rw [this]
    exact (mkRec_word0 s e loc seq).1
  · have := hr 0 (by omega)
    rw [Nat.mul_zero, Nat.add_zero] at this
    rw [this]
    exact (mkRec_word0 s e loc seq).2
  · intro k v hk hv
    have := hr (5 + k) (by omega)
    rw [show jnlAddr s.wptr + 4 * (5 + k) = jnlAddr s.wptr + 20 + 4 * k by omega] at this
    rw [this, mkRec_payload _ _ _ _ _ hk]
    simp only [Ev.payload, hs, Nat.not_lt_zero, if_false, Nat.sub_zero, hv]

theorem State.raise_journalled (s : State) (c u : Nat) (p : List Nat) : Journalled s (s.raise c u p) c u p :=
  s.raiseEv_journalled { code := c, unit := u, pay := p } rfl

/-- A rate-limited event that is due is journalled. -/
theorem State.raiseRated_journalled (s : State) (g c u : Nat) (p : List Nat) (k : Nat) (h : s.rateOk c k g = true) :
    Journalled s (s.raiseRated g c u p k) c u p := by
  unfold State.raiseRated
  rw [if_pos h]
  exact (State.raise_journalled (s.rateMark c k) c u p :)

end Sys2Proof.Machine
end

