-- ==== Sys2Proof/Laws/Issue.lean ====
section
/-!
SUPPORT. Laws/Issue.lean: what issuing an instruction does, by the shape of its body: a result in a G register, in a V register, a
jump, a yield, a fault.
-/

namespace Sys2Proof.Machine

/-- The body's answer decides what a ready bobbin's instruction does. -/
theorem issue_congr {s : State} {n : BitVec 5} {w : Word} {cost : Nat} {f g : State → Body} (hr : Ready s n) (h : f s = g s) :
    s.issue n.toNat w cost f = s.issue n.toNat w cost g := by
  rw [issue_ready hr, issue_ready hr]
  unfold State.issueNow
  rw [h]

theorem OnlyBobbins.mem {s t : State} (h : OnlyBobbins s t) : t.mem = s.mem := by rw [h]

theorem State.endGroup_rd (s : State) (n a : Nat) : (s.endGroup n).rd a = s.rd a := by
  unfold State.rd
  rw [(s.endGroup_only n).mem]

/-- R81: an instruction that faults. -/
theorem issue_faulted {s : State} {n : BitVec 5} (h : Ready s n) (w : Word) (cost c : Nat) (hc : c < 16) (body : State → Body)
    (hb : body s = .error (.fault c)) : Faulted s n c w (s.issue n.toNat w cost body) := by
  rw [issue_fault h hb]
  unfold State.faultBob
  dsimp only
  have hN : n.toNat % 32 = n.toNat := Nat.mod_eq_of_lt n.isLt
  have hC : c % 16 = c := Nat.mod_eq_of_lt hc
  rw [hN, hC]
  have e := s.bob_setBob n.toNat
  have j := State.raise_journalled (s.setBob n.toNat { s.bob n.toNat with st := .faulted, fcode := c, fpc := (s.bob n.toNat).pc }) 0x101
    n.toNat [n.toNat + c * 256, (s.bob n.toNat).pc.toNat, w.toNat]
  have r := State.raise_records (s.setBob n.toNat { s.bob n.toNat with st := .faulted, fcode := c, fpc := (s.bob n.toNat).pc }) 0x101
    n.toNat [n.toNat + c * 256, (s.bob n.toNat).pc.toNat, w.toNat]
  generalize State.raise (s.setBob n.toNat { s.bob n.toNat with st := .faulted, fcode := c, fpc := (s.bob n.toNat).pc }) 0x101
    n.toNat [n.toNat + c * 256, (s.bob n.toNat).pc.toNat, w.toNat] = u at j r ⊢
  have hm : (u.endGroup n.toNat).bob n.toNat =
      Bobbin.show { s.bob n.toNat with st := .faulted, fcode := c, fpc := (s.bob n.toNat).pc } := by
    rw [State.endGroup_bob, r.bob, e, if_pos rfl]
  refine ⟨?_, ?_, ?_, ?_, ?_, ?_, ?_, ⟨?_, ?_, ?_⟩, ?_, ?_, ?_⟩
  · rw [hm]; rfl
  · rw [hm]; rfl
  · rw [hm]; rfl
  · rw [hm]; rfl
  · rw [hm]; rfl
  · rw [hm]; rfl
  · rw [State.endGroup_cyc, r.pen_eq]; rfl
  · intro x; rw [hm]; rfl
  · intro x; rw [hm]; rfl
  · rw [hm]; rfl
  · intro m hmn
    rw [State.endGroup_others _ _ hmn, r.bob, e, if_neg hmn]
  · intro a ha
    rw [State.endGroup_rd, r.rd a ha]
    rfl
  · intro ha
    have := j ha
    simp only [State.endGroup_rd]
    exact this

/-- A body that changes only registers, flags and PC of its bobbin. -/
theorem issue_plain {s : State} {n : BitVec 5} (h : Ready s n) (w0 : Word) (cost : Nat) (body : State → Body) (b : Bobbin)
    (hb : body s = .ok (s.setBob n.toNat b))
    (hp : b = { s.bob n.toNat with g := b.g, v := b.v, fz := b.fz, fn := b.fn, fc := b.fc, fv := b.fv, pc := b.pc }) :
    GoesOn s n cost (s.issue n.toNat w0 cost body) ∧
      ∃ g v, (s.issue n.toNat w0 cost body).bob n.toNat = { b.account with gShow := g, vShow := v } := by
  rw [issue_ok h hb]
  exact goesOn_of_body h cost b hp

/-- A control-flow body. -/
theorem issue_jumps {s : State} {n : BitVec 5} (h : Ready s n) (w0 : Word) (body : State → Body) (d : BitVec 4) (w : Word)
    (pc : BitVec 16) (hb : body s = .ok (s.setBob n.toNat { (s.bob n.toNat).wg d w with pc := pc })) :
    Jumps s n pc d w (s.issue n.toNat w0 1 body) := by
  obtain ⟨h1, g, v, h2⟩ := issue_plain h w0 1 body _ hb (by unfold Bobbin.wg; split <;> rfl)
  refine ⟨h1, ?_, ?_, ?_, ?_⟩
  · rw [h2]; rfl
  · intro r
    rw [h2]
    exact (s.bob n.toNat).rg_wg d r w
  · intro r
    rw [h2]
    exact (s.bob n.toNat).wg_rv d w r
  · rw [h2]
    exact (s.bob n.toNat).wg_flags d w

/-- A body that writes a V register and sets flags. -/
theorem issue_vec {s : State} {n : BitVec 5} (h : Ready s n) (w0 : Word) (cost : Nat) (d : BitVec 3) (r : VReg) (x : Fin 8 → Nat)
    (fl : Bool × Bool × Bool × Bool) (body : State → Body) (b : Bobbin)
    (hb : body s = .ok (s.setBob n.toNat (b.wv d r).next))
    (hp : b = { s.bob n.toNat with fz := b.fz, fn := b.fn, fc := b.fc, fv := b.fv }) (hfl : b.flags = fl)
    (hx : ∀ i : Fin 8, (r[i]).toNat = x i) : VecOp s n cost d x fl (s.issue n.toNat w0 cost body) := by
  obtain ⟨h1, g, v, h2⟩ := issue_plain h w0 cost body _ hb (by rw [hp]; rfl)
  refine ⟨h1, ?_, ?_, ?_, ?_, ?_⟩
  · rw [h2, hp]; rfl
  · intro i
    rw [h2]
    change (((b.wv d r).rv d)[i]).toNat = _
    rw [Bobbin.rv_wv, if_pos rfl]
    exact hx i
  · intro k hk
    rw [h2]
    change (b.wv d r).rv k = _
    rw [Bobbin.rv_wv, if_neg hk, hp]
    rfl
  · intro k
    rw [h2, hp]
    rfl
  · rw [h2]
    exact hfl

/-- A body that writes a G register through a test of the state. -/
theorem issue_scalar_body {s : State} {n : BitVec 5} (h : Ready s n) (w0 : Word) (cost : Nat) (d : BitVec 4) (w : Word)
    (fl : Bool × Bool × Bool × Bool) (body : State → Body) (b : Bobbin)
    (hb : body s = .ok (s.setBob n.toNat (b.wg d w).next))
    (hp : b = { s.bob n.toNat with fz := b.fz, fn := b.fn, fc := b.fc, fv := b.fv }) (hfl : b.flags = fl) :
    Scalar s n cost d w fl (s.issue n.toNat w0 cost body) :=
  issue_congr (g := bodyOn n.toNat fun _ => b.wg d w) h hb ▸ issue_scalar h w0 cost d w fl _ b rfl hp hfl

/-- A body after which its bobbin waits or halts. -/
theorem issue_yields {s : State} {n : BitVec 5} (h : Ready s n) (w0 : Word) (body : State → Body) (b : Bobbin) (st : BState)
    (hb : body s = .ok (s.setBob n.toNat b)) (hst : b.st = st) (hne : st ≠ .runnable)
    (hp : b = { s.bob n.toNat with st := b.st, wmask := b.wmask, waitK := b.waitK, waitT := b.waitT, waitAt := b.waitAt,
                                   pc := (s.bob n.toNat).pc + 1 }) :
    Yields s n st (s.issue n.toNat w0 1 body) ∧
      ∃ g v, (s.issue n.toNat w0 1 body).bob n.toNat = { b.account with gShow := g, vShow := v } := by
  rw [issue_ok h hb]
  obtain ⟨⟨g, v, h1⟩, h2, h3, h4⟩ := (s.setBob n.toNat b).retire_spec n.toNat 1
  rw [State.bob_setBob_same] at h1 h3
  have hacc : b.account = { b with left := b.left - 1, used := b.used + 1 } := by
    unfold Bobbin.account
    rw [if_neg fun hh => hne (hst ▸ hh.1)]
  refine ⟨⟨⟨?_, ?_, h4⟩, ?_, ?_, ⟨?_, ?_, ?_⟩, ?_, ?_⟩, g, v, h1⟩
  · rw [h1, hacc, hp]
  · rw [h1, hacc, hp]
  · rw [h1, hacc]; exact hst
  · rw [h1, hacc, hp]
  · intro r; rw [h1, hacc, hp]; rfl
  · intro r; rw [h1, hacc, hp]; rfl
  · rw [h1, hacc, hp]; rfl
  · intro m hm
    exact (h2 m hm).trans (s.bob_setBob_ne b hm)
  · have h5 : OnlyBobbins s (s.setBob n.toNat b) := rfl
    exact h5.trans (h3 fun hr => absurd (hst ▸ hr) hne)

end Sys2Proof.Machine
end

