-- ==== Sys2Proof/Laws/Voting.lean ====
section
/-!
SUPPORT. Laws/Voting.lean: what voting the copies of an RWV field can do (R15, R18): nothing where the copies agree; otherwise it
marks them as agreeing and counts in GLB_VSCRUB.
-/

namespace Sys2Proof.Machine

/-- No copy disagrees where none is listed. -/
@[simp] theorem State.disagree_of_none (s : State) (a : Nat) (h : s.phu.odd = []) : s.disagree a = [] := by
  simp [State.disagree, h]

/-- A write over copies that agree writes what it was given. -/
theorem State.voteIn_of_agree (s : State) (a v : Nat) (h : s.disagree a = []) : s.voteIn a v = v := by
  simp [State.voteIn, h]

/-- A word whose copies agree is not counted. -/
theorem State.vote_of_agree (s : State) (a : Nat) (h : s.disagree a = []) :
    s.vote a = { s with phu := { s.phu with odd := spSet (fun _ => 0) s.phu.odd a 0 } } := by
  simp [State.vote, h, forEach]

/-- A cycle in which no copy disagrees changes nothing. -/
theorem State.voteAll_of_none (s : State) (h : s.phu.odd = []) : s.voteAll = s := by
  simp [State.voteAll, h, forEach]

/-- A vote changes the word GLB_VSCRUB and the marks of the copies and nothing else. -/
theorem State.vote_only (s : State) (a : Nat) :
    s.vote a = { s with mem := (s.vote a).mem, phu := { s.phu with odd := spSet (fun _ => 0) s.phu.odd a 0 } } := by
  have key : ∀ (l : List Nat) (t : State), forEach (fun _ t => t.incSat F.GLB_VSCRUB_COUNT) l t =
      { t with mem := (forEach (fun _ t => t.incSat F.GLB_VSCRUB_COUNT) l t).mem } := by
    intro l
    induction l with
    | nil => intro t; rfl
    | cons x l ih =>
      intro t
      have h : forEach (fun _ t => t.incSat F.GLB_VSCRUB_COUNT) (x :: l) t =
          forEach (fun _ t => t.incSat F.GLB_VSCRUB_COUNT) l (t.incSat F.GLB_VSCRUB_COUNT) := rfl
      rw [h, ih]
      rfl
  exact key _ _

end Sys2Proof.Machine
end

