-- ==== Sys2Proof/Tests/Slice0.lean ====
section
/-!
SUPPORT. Tests/Slice0.lean: the well-formedness smoke test, words of the bobbin instruction set written out from the spec's encodings,
small tests on single commands, and for every statement with hypotheses states that meet them, clause by clause.
-/

namespace Sys2Proof.Tests

open Sys2Proof Sys2Proof.Machine

set_option Elab.async false

/-! ## Well-formedness: an ill-formed term for each check -/

theorem test_wf_refuses_each_illegal_field :
    (Instr.br 0 9 0).wf = false ∧ (Instr.loop 0 0 1).wf = false ∧ (Instr.time 0 1 5).wf = false ∧ (Instr.civil 0 1 9).wf = false ∧
    (Instr.sense 0 15 0 0).wf = false ∧ (Instr.meter 0 1 0 11).wf = false ∧ (Instr.waits 0 0).wf = false ∧ (Instr.csr 0 1 10).wf = false ∧
    (Instr.illegalInstruction 0 0).wf = false := by decide

theorem test_wf_takes_each_last_legal_field :
    (Instr.br 0 8 0).wf = true ∧ (Instr.loop 0 1 1).wf = true ∧ (Instr.time 0 1 4).wf = true ∧ (Instr.civil 0 1 8).wf = true ∧
    (Instr.sense 0 14 0 0).wf = true ∧ (Instr.meter 0 1 0 10).wf = true ∧ (Instr.waits 0 1).wf = true ∧ (Instr.csr 0 1 9).wf = true ∧
    (Instr.illegalInstruction 0 0xC0000000).wf = true := by decide

/-! ## Bobbin words: opcode [31:26], d [25:22], a [21:18], b [17:14], immediate [17:0] (R98 to R125; R126's worked example) -/

theorem test_decode_addi : decodeBobbin 0 0b001000_0011_0011_000000000000000001#32 = .addi 0 3 3 1 := by decide
theorem test_decode_br_always_back_three : decodeBobbin 0 0b010100_1000_1111111111111111111101#32 = .br 0 8 (-3) := by decide
theorem test_decode_zset : decodeBobbin 0 0b100101_000_011_000_0011_0000000000000#32 = .zset 0 3 3 := by decide
theorem test_decode_halt_and_nop : decodeBobbin 7 0xBC000000#32 = .halt 7 ∧ decodeBobbin 7 0#32 = .nop 7 := by decide
theorem test_decode_add : decodeBobbin 0 0b000001_0001_0010_0011_00000000000000#32 = .add 0 1 2 3 := by decide
theorem test_decode_ldv : decodeBobbin 0 0b010010_0_101_0010_000000000000010000#32 = .ldv 0 5 2 16 := by decide
theorem test_decode_emit : decodeBobbin 0 0b101011_00_10_0001_0010_0000000_0000101#32 = .emit 0 2 1 2 5 := by decide
theorem test_decode_sense : decodeBobbin 0 0b101001_0001_0010_0000000000_00100000#32 = .sense 0 1 2 0x20 := by decide
theorem test_decode_opcode_from_0x30 : decodeBobbin 0 0xC0000000#32 = .illegalInstruction 0 0xC0000000#32 := by decide
theorem test_decode_reserved_bit : decodeBobbin 0 0xBC000001#32 = .illegalInstruction 0 0xBC000001#32 := by decide

/-! ## States of the tests -/

/-- The module after reset, alone (R414: SOLO). -/
def r0 : State := State.reset

/-- With one bobbin 3 in service: `b` is its state. -/
def withBob (b : Bobbin) : State := { r0 with bobs := [(3, b)], pen := { r0.pen with cur := some 3, grpLeft := 8 } }

/-- A runnable bobbin with budget left and G1 = `w`. -/
def run1 (w : Word) : Bobbin := { st := .runnable, left := 5, g := (Vector.replicate 16 0).set 1 w }

/-- The state after a command. -/
def after (c : Instr) (s : State) : State := match exec c s with | .next t => t | _ => s

/-- At the instant `t`. -/
def atNs (s : State) (t : Nat) : State := { s with ns := t }

theorem witness_ready : Ready (withBob (run1 7)) 3 := by unfold Ready; decide +kernel

theorem witness_BobbinMemoryInstructions :
    let b := run1 0x1FFFC
    let s := withBob b
    let p := dataBase + 0x1FFFC
    Ready s 3 ∧ 0x1FFFC + 4 ≤ b.winSize * 256 ∧ 0x1FFF0 + 16 ≤ b.winSize * 256 ∧ ¬ 0x20000 + 4 ≤ b.winSize * 256 ∧
    s.parBad p = false ∧ ({ s with badPar := [p] } : State).parBad p = true ∧ Ready { s with badPar := [p] } 3 := by
  unfold Ready; decide +kernel

theorem witness_BobbinCurveInterpolates :
    let s := (withBob (run1 500)).wrs (curveAddr 0 2 0) [100 * 65536 + 10, 1000 * 65536 + 20]
    let X (i : Nat) := getBits (s.rd (curveAddr 0 2 i)) 16 16
    Ready s 3 ∧ X 0 < X 1 ∧ X 2 ≤ X 1 ∧ X 0 < 500 ∧ 500 < X 1 ∧ s.parBad (curveAddr 0 2 0) = false := by
  unfold Ready; decide +kernel

theorem witness_BobbinWaits :
    let s := withBob { run1 5 with pend := 2 }
    Ready s 3 ∧ s.pen.snap.start < 5 * 1000000000 ∧ (s.bob 3).pend &&& 2 ≠ 0 ∧ (s.bob 3).pend &&& 1 = 0 := by unfold Ready; decide +kernel

theorem witness_BobbinZoneInstructions :
    Ready (withBob (run1 511)) 3 ∧ Ready (withBob (run1 512)) 3 ∧
    (let s := (withBob (run1 510)).put (F.ZON_CTL_OWNER 510) 1
     Ready s 3 ∧ s.get (F.ZON_CTL_OWNER 510) = 1 ∧ (withBob (run1 510)).get (F.ZON_CTL_OWNER 510) = 0) := by unfold Ready; decide +kernel

theorem witness_Zone511StaysDark :
    HostMay r0 (Reg.ZON_TGT 511 3) 5 ∧ Ready (withBob (run1 511)) 3 ∧ (((withBob (run1 511)).bob 3).rg 1).toNat = 511 := by
  unfold HostMay Ready; decide +kernel

theorem test_shift_words :
    decodeBobbin 0 0b000111_0001_0010_0011_000000_00000_0_10#32 = .sar 0 1 2 (.reg 3) ∧
    decodeBobbin 0 0b000111_0001_0010_0000_000000_11111_1_01#32 = .shr 0 1 2 (.imm 31) ∧
    decodeBobbin 0 0b000111_0001_0010_0011_000000_00000_0_11#32 = .illegalInstruction 0 0b000111_0001_0010_0011_000000_00000_0_11#32 := by decide

theorem witness_BobbinSenseMeterCsr :
    let s := { withBob (run1 7) with pen := { (withBob (run1 7)).pen with
      snap := { sens := [(7 * 256 + 1, some ⟨5, 0⟩)], meter := [(7 * 16 + 10, some 9)] } } }
    Ready s 3 ∧ spGet (fun _ => none) s.pen.snap.sens (7 * 256 + 1) = some ⟨5, 0⟩ ∧ spGet (fun _ => none) s.pen.snap.sens (7 * 256) = none ∧
    spGet (fun _ => none) s.pen.snap.meter (7 * 16 + 10) = some 9 ∧ spGet (fun _ => none) s.pen.snap.meter (7 * 16) = none := by
  unfold Ready; decide +kernel

theorem witness_PatternHostWritesAndStaging :
    HostMay r0 Reg.PEN_CTL 0 ∧ HostMay r0 Reg.PEN_HSIG 31 ∧ HostMay r0 (Reg.PEN_BBUDGET 31) 1 ∧ HostMay r0 (Reg.PEN_BWIN 31) 0 ∧
    HostMay r0 (dataBase + 0x1FFFC) 5 ∧ HostMay r0 Reg.PEN_IMGPTR 524288 ∧ HostMay r0 Reg.SME_CALDAT 1 ∧ HostMay r0 Reg.SEA_IMGDAT 1 ∧
    HostMay r0 Reg.SRU_IMGDAT 1 ∧ HostMay r0 Reg.XLK_FWDAT 1 ∧ r0.inRunQuiet = true := by unfold HostMay; decide +kernel

theorem witness_TickIsCheckedAndChangesAtACommit :
    let s := (atNs r0 1000000000).put F.PEN_TICK_TICK 20000
    HostMay r0 Reg.PEN_TICK 20000 ∧ 1000000 % 20000 = 0 ∧ 20000 % r0.sea.fperUs = 0 ∧ 20000 % r0.get F.SEA_FPER_US = 0 ∧ 3 % r0.sea.fperUs ≠ 0 ∧
    (s.ns - s.ns % (s.sea.fperUs * 1000)) % (s.pen.tickUs * 1000) = 0 ∧ s.ns % (s.get F.PEN_TICK_TICK * 1000) = 0 ∧ s.inRunQuiet = true ∧
    (atNs s 1010000000).ns % (s.get F.PEN_TICK_TICK * 1000) ≠ 0 ∧ 1000000 % s.pen.tickUs = 0 ∧ 1000000 % s.get F.PEN_TICK_TICK = 0 := by
  unfold HostMay; decide +kernel

theorem witness_PatternSwaps :
    let v := r0.put F.PEN_STAT_IDLEST 2
    let busy := (v.put (F.LOP_STAT_CODE 1) 2).put (F.LOP_STAT_STATE 1) 1
    let pair := { v.put F.GLB_ROLE_ROLE 1 with xlk := { v.xlk with joined := true } }
    let armed := { (atNs v 1000000000).put F.PEN_STAT_ARMED 1 with pen := { v.pen with armAt := 996000000 } }
    HostMay v Reg.PEN_CMD 1 ∧ v.get F.PEN_STAT_ARMED = 0 ∧ v.get F.PEN_STAT_IDLEST = 2 ∧ v.lopRunning 2 = false ∧ r0.get F.PEN_STAT_IDLEST ≠ 2 ∧
    busy.lopRunning 2 = true ∧ busy.get F.PEN_STAT_IDLEST = 2 ∧ pair.activePaired = true ∧ pair.xlk.partIdle ≠ (List.range 8).map (fun k => pair.rd (Reg.PEN_IHASH_I k)) ∧ HostMay pair Reg.PEN_CMD 1 ∧
    armed.get F.PEN_STAT_ARMED = 1 ∧ armed.inRunQuiet = true ∧ armed.rdTime Reg.PEN_SWAPAT_S_LO ≤ 1000000000 ∧
    armed.pen.armAt + 2 * (armed.sea.fperUs * 1000) = 1000000000 ∧ 1000000000 % (armed.pen.tickUs * 1000) = 0 ∧
    armed.pen.lastCommit ≠ some 1000000000 ∧ armed.pen.tickAt ≠ some 1000000000 ∧ armed.lastFrame ≠ some 1000000000 ∧ v.get F.PEN_STAT_ARMED ≠ 1 := by
  unfold HostMay; decide +kernel

theorem witness_BobbinStartAndStop :
    let off := { r0.put F.PEN_CTL_RUN 0 with bobs := [(3, { startPend := true, stopReq := true }), (4, { startReq := true })] }
    HostMay r0 (Reg.PEN_BCTL 31) 0x100 ∧ bit 0x1FF 9 = false ∧ r0.get F.PEN_CTL_RUN = 1 ∧ off.get F.PEN_CTL_RUN = 0 ∧ off.pen.cur = none ∧
    HostMay off (Reg.PEN_BCTL 3) 0 ∧ (r0.bob 31).startPend = false ∧ (off.bob 3).startPend = true ∧ (off.bob 3).stopReq = true ∧ (off.bob 4).startReq = true ∧ (off.bob 4).stopReq = false ∧
    (let s := withBob (run1 7); s.pen.cur = some 3 ∧ (s.bob 3).st = .runnable ∧ (s.bob 3).parked = none ∧ 0 < (s.bob 3).left) := by
  unfold HostMay; decide +kernel

theorem witness_BobbinReleasesAndBudget :
    let g := 1000000000
    let s (b : Bobbin) := { atNs r0 (g + 5) with bobs := [(3, b)], pen := { r0.pen with ranAt := some g } }
    (s {}).inRunQuiet = true ∧ (s {}).get F.PEN_CTL_RUN = 1 ∧ (s {}).ns - (s {}).ns % ((s {}).sea.fperUs * 1000) = g ∧ (s {}).pen.ranAt = some g ∧
    r0.pen.ranAt = none ∧
    (let b := (s { st := .waitk, waitK := 1 }).bob 3
     b.st = .waitk ∧ b.waitK = 1 ∧ b.waitAt ≠ some g) ∧
    ((s { st := .waitk, waitK := 2 }).bob 3).waitK = 2 ∧ ((s { st := .waitt, waitT := g }).bob 3).waitT = g ∧ g < ((s { st := .waitt, waitT := g + 1 }).bob 3).waitT ∧
    ((s { st := .runnable }).bob 3).left = 0 := by decide +kernel

theorem witness_ParityRepairs :
    let a := progAddr 0 0
    let s := { r0 with badPar := [a], bobs := [(3, { st := .runnable, parked := some a })] }
    (s.bob 3).parked = some a ∧ isEngineMem a = true ∧ s.parBad a = true ∧ s.inRunQuiet = true ∧
    (atNs s 600000000000).phu.scrubP < ((atNs s 600000000000).ns - (atNs s 600000000000).phu.tr) / 600000000000 := by decide +kernel

theorem witness_ZoneWritesAndTickCommit :
    let own := r0.put (F.ZON_CTL_OWNER 510) 1
    HostMay r0 (nodeAddr 4095 0) 511 ∧ HostMay r0 (nodeAddr 4095 0) 512 ∧ HostMay r0 (Reg.ZON_TGT 511 3) 7 ∧ r0.get (F.ZON_CTL_OWNER 510) = 0 ∧
    own.get (F.ZON_CTL_OWNER 510) = 1 ∧ HostMay own (Reg.ZON_TGT 510 0) 7 ∧ HostMay own (Reg.ZON_CTL 511) 0xF ∧
    (let s := atNs r0 1000000000
     s.inRunQuiet = true ∧ (s.ns - s.ns % (s.sea.fperUs * 1000)) % (s.pen.tickUs * 1000) = 0 ∧ s.pen.lastCommit ≠ some 1000000000 ∧
      s.pen.tickAt ≠ some 1000000000 ∧ s.lastFrame ≠ some 1000000000) := by unfold HostMay; decide +kernel

theorem witness_SolveCompletesWithinTheCap :
    let lt : Latched := { origin := 0, lums := [], zones := [], pcap := 16777215, iter := 3 }
    let s := { r0 with sme := { r0.sme with latch := some lt } }
    (∀ l ∈ lt.lums, l.rec_ = .valid → s.recParBad l.slot = false) ∧ (∀ l ∈ lt.lums, l.zone ∈ lt.zones.map (·.zone)) ∧ s.sme.latch = some lt ∧ s.sme.next = none ∧ s.sme.capFailed = false ∧ s.mode = .run ∧ (lt.zones.map (·.zone)).Nodup ∧ lt.pcap < 2 ^ 24 := by
  decide +kernel

theorem witness_SolverLanes :
    let two := { r0 with sme := { r0.sme with laneDue := 3 } }
    let one := two.put F.SME_STAT_LANES 1
    HostMay r0 Reg.SME_CMD 1 ∧ two.inRunQuiet = true ∧ two.frameDue = true ∧ one.frameDue = true ∧ bit two.sme.laneDue 1 = true ∧ bit (two.get F.SME_STAT_LANES) 1 = true ∧ two.get F.SME_STAT_LANES ≠ 2 ∧
    bit one.sme.laneDue 0 = true ∧ one.get F.SME_STAT_LANES = 1 := by unfold HostMay; decide +kernel

/-- Slot 4095 with a VALID record whose first word in use has bad parity; its flash copy has the CRC `c` (R127: version 1, channel 0 fitted
with CMAX 0xFFFF; zlib's CRC-32 of those 508 bytes is 0x6126C1A9). -/
def badRec (c : Word) : State :=
  let s := ((r0.wr (calFlashAddr 4095 + 416) 0xFFFF0000).wr (calFlashAddr 4095 + 452) 0x01010000).wr (calFlashAddr 4095 + 508) c
  { s with badPar := [calAddr 4095], sme := { r0.sme with lums := [(4095, { rec_ := .valid })] } }

theorem witness_CalibrationRepair : (badRec 0).inRunQuiet = true ∧ (badRec 0).recParBad 4095 = true ∧ ((badRec 0).lum 4095).rec_ = .valid := by decide +kernel

set_option maxRecDepth 20000 in
theorem witness_CalibrationRecordGood : (badRec 0x6126C1A9).recCheck (calFlashAddr 4095) = 0 := by decide +kernel

set_option maxRecDepth 20000 in
theorem witness_CalibrationRecordBad : (badRec 0).recCheck (calFlashAddr 4095) ≠ 0 := by decide +kernel

theorem witness_CalScrub :
    let s := atNs (badRec 0) 600000000000
    (s.phu.scrubC < (s.ns - s.phu.tr) / 600000000000 ∧ s.inRunQuiet = true) ∧ (s.sme.lums.map (·.1)) = [4095] ∧
    spWf (fun _ => ({} : Lum)) s.sme.lums = true ∧ (atNs r0 600000000000).sme.lums = [] := by decide +kernel

set_option maxRecDepth 20000 in
theorem witness_CalScrubBadCrc : crc32 ((badRec 0).rdBytes (calAddr 4095) 0 508) ≠ (badRec 0).recU (calAddr 4095) 508 4 := by decide +kernel

theorem witness_InstallAndAgeing :
    let ins := { r0 with sme := { r0.sme with install := some 4095, installAck := true } }
    let old := { r0 with sme := { r0.sme with ageNewer := 0 } }
    ins.inRunQuiet = true ∧ ins.frameDue = true ∧ ins.sme.install = some 4095 ∧ ins.sme.installAck = true ∧ (∀ n, n < 8 → ins.get (F.LOP_STAT_CODE n) = 0) ∧
    r0.inRunQuiet = true ∧ r0.sme.ageNewer = 1 ∧ old.sme.ageNewer ≠ 1 ∧ r0.sme.lums = [] ∧
    (let s := atNs r0 3600000000000; s.phu.ageSaves < (s.ns - s.phu.tr) / 3600000000000) ∧ ¬ r0.phu.ageSaves < (r0.ns - r0.phu.tr) / 3600000000000 := by decide +kernel

theorem witness_LampDiagnosticsCommands :
    let c : Chan := { r0.chan 4095 7 with st := .unverified, aged := false, vage := 86400000000000 }
    let s := r0.setChan 4095 7 c
    HostMay r0 Reg.DIA_CMD 1 ∧ HostMay r0 Reg.DIA_CMD 2 ∧ spWf (fun _ => noChan) r0.dia.chans = true ∧ s.get F.DIA_UNVLIM_SEC = 86400 ∧
    (s.chan 4095 7).st = .unverified ∧ (s.chan 4095 7).aged = false ∧ (s.chan 4095 7).vage = 86400 * 1000000000 := by
  unfold HostMay; decide +kernel

theorem witness_LongOperations :
    let s (c st : Nat) := ((r0.put (F.LOP_STAT_CODE 7) c).put (F.LOP_STAT_STATE 7) st)
    let fin := (s 8 1).setLslot 7 { fin := some (3, 255) }
    let t2 := ((s 7 1).put (F.LOP_PART_COUNT 7) 2).setLslot 7 { pos := 2 }
    let t7 := ((s 7 1).put (F.LOP_PART_COUNT 7) 7).setLslot 7 { pos := 7 }
    HostMay r0 (Reg.LOP_CMD 7) 1 ∧ HostMay r0 (Reg.LOP_CMD 7) 10 ∧ r0.get (F.LOP_STAT_STATE 7) = 0 ∧ HostMay (s 1 2) (Reg.LOP_CMD 7) 1 ∧
    (s 1 2).get (F.LOP_STAT_STATE 7) = 2 ∧ HostMay r0 (Reg.LOP_CMD 7) 0xFD ∧ (fin.lslot 7).fin = some (3, 255) ∧ fin.get (F.LOP_STAT_STATE 7) = 1 ∧
    fin.get (F.LOP_STAT_CODE 7) = 8 ∧ HostMay (s 7 2) (Reg.LOP_CMD 7) 0xFE ∧ ((s 7 1).lslot 7).fin = none ∧ 3 ≤ (s 7 3).get (F.LOP_STAT_STATE 7) ∧
    HostMay (s 7 2) (Reg.LOP_RACK 7) 1 ∧ (t2.lslot 7).pos = 2 ∧ t2.get (F.LOP_PART_COUNT 7) = 2 ∧ t2.get (F.LOP_RACK_WORDS 7) = 0 ∧
    t2.inRunQuiet = true ∧ (t7.lslot 7).pos = 7 ∧ t7.get (F.LOP_PART_COUNT 7) = 7 ∧ t7.get F.GLB_ROLE_ROLE = 0 ∧
    (s 8 1).get (F.LOP_STAT_CODE 7) = 8 ∧ 1048560 % 20 = 0 ∧ 1048560 / 20 ≤ 65535 := by unfold HostMay; decide +kernel


/-! ## Closed loops -/

/-- At second 1000 (a multiple of the inner interval of 100 ms), loop 510 as `l` describes it. -/
def atLoop (l : Loop) : State := (atNs r0 1000000000000).setLoop 510 l

theorem witness_ControlLoopRuns :
    let now := 1000000000000
    let l1 : Loop := { m := some 400, fp := some 999900000000, prepAt := some now, doInner := true }
    let s1 := (atLoop l1).put (F.CCE_LSTAT_EMODE 510) 1
    let l2 : Loop := { mp := some 999900000000 }
    let s2 := { ((((atLoop l2).put (F.ZON_SRC_SOURCE 510) 7).put (F.ZON_SRC_QTY 510) 0x20).put (F.NT_CAP 7) 2) with
      sens := [(7 * 256 + 0x20, some ⟨4096000, 999950000000⟩)] }
    let l3 : Loop := { ofp := some 999900000000, prepAt := some now, doOuter := true }
    let s3 := (atLoop l3).put (F.CCE_LSTAT_EMODE 510) 2
    s1.mode = .run ∧ s1.frameNow = now ∧ (s1.loop 510).m = some 400 ∧ (s1.loop 510).fp = some 999900000000 ∧ (s1.loop 510).prepAt = some s1.frameNow ∧
    (s1.loop 510).doInner = true ∧ (s1.loop 510).pre = false ∧ (s1.loop 510).feh = false ∧
    s1.emode 510 = .track ∧ s1.flag (F.CCE_LCTL_SPSEL 510) = false ∧ (s1.loop 510).iset = s1.get (F.CCE_LCTL_ICSET 510) ∧
    s1.loopQ 510 = 65536 ∧ s1.flag (F.ZON_STAT_SATG 510) = false ∧
    s1.get (F.CCE_FELIM_FELIM (s1.get (F.CCE_LCTL_ICSET 510))) = 0 ∧
    s2.mode = .run ∧ s2.loopSample 510 = some ⟨4096000, 999950000000⟩ ∧ (s2.loop 510).stamp ≠ some 999950000000 ∧
    (s2.loop 510).mp = some 999900000000 ∧ s2.photoStart s2.frameNow ≤ 999900000000 ∧ (s2.loop 510).dliRst = false ∧
    (s2.loop 510).resumed = false ∧ (s2.loop 510).prepAt ≠ some s2.frameNow ∧
    s2.frameNow / (s2.sea.fperUs * 1000) % s2.get F.CCE_IDIV_FRAMES = 0 ∧ s2.loopStale 510 s2.frameNow = false ∧ s2.emode 510 = .open_ ∧ s2.rmode 510 = .open_ ∧
    s3.mode = .run ∧ (s3.loop 510).ofp = some 999900000000 ∧ (s3.loop 510).prepAt = some s3.frameNow ∧ (s3.loop 510).doOuter = true ∧
    (s1.loop 510).doOuter = false ∧ (s3.loop 510).opre = false ∧ (s3.loop 510).ofeh = false ∧ s3.emode 510 = .dli ∧
    s3.flag (F.CCE_LSTAT_SAT 510) = false ∧ (s3.loop 510).oset = s3.get (F.CCE_LCTL_OCSET 510) ∧
    s3.get (F.CCE_FELIM_FELIM (s3.get (F.CCE_LCTL_OCSET 510))) = 0 ∧ s3.get (F.CCE_SLEW_SLEW (s3.get (F.CCE_LCTL_OCSET 510))) = 0 := by
  decide +kernel

theorem witness_ControlLoopTransitions :
    let lim (s : State) := (s.put (F.CCE_FELIM_FELIM 0) 5).put (F.CCE_FETIME_FETIME 0) 3
    let trk (s : State) := s.put (F.CCE_LSTAT_EMODE 510) 1
    let trip := trk (lim (atLoop { fet := 3000 }))
    let held := trk (lim (atLoop { feh := true, rel := 3000 }))
    let far := trk (lim (atLoop { feh := true, rel := 3000, e := -6 }))
    let stale := ((atLoop {}).put (F.CCE_LCTL_MODE 510) 1).put (F.CCE_LSTAT_EMODE 510) 1
    r0.emode 510 = .open_ ∧ trip.emode 510 ≠ .open_ ∧ held.emode 510 ≠ .open_ ∧ (held.loop 510).e.natAbs ≤ held.get (F.CCE_FELIM_FELIM 0) ∧
    far.emode 510 ≠ .open_ ∧ (far.loop 510).feh = true ∧ far.get (F.CCE_FELIM_FELIM 0) < (far.loop 510).e.natAbs ∧
    trip.mode = .run ∧ (trip.loop 510).feh = false ∧ trip.get (F.CCE_LCTL_ICSET 510) = 0 ∧ trip.get (F.CCE_FELIM_FELIM 0) ≠ 0 ∧
    0 < (trip.loop 510).fet ∧ trip.get (F.CCE_FETIME_FETIME 0) * 1000 ≤ (trip.loop 510).fet ∧ trip.rateOk 0x501 510 1000000000 = true ∧
    trip.flag (F.CCE_LCTL_FEOPEN 510) = true ∧ (trip.put (F.CCE_LCTL_FEOPEN 510) 0).flag (F.CCE_LCTL_FEOPEN 510) = false ∧
    (held.loop 510).feh = true ∧ held.get (F.CCE_FETIME_FETIME 0) * 1000 ≤ (held.loop 510).rel ∧
    stale.emode 510 ≠ .open_ ∧ stale.loopStale 510 stale.frameNow = true ∧ stale.rateOk 0x503 510 1000000000 = true := by decide +kernel

theorem witness_ControlLoopCommands :
    let sel := (atLoop { feh := true }).put F.CCE_SEL_LOOP 510
    HostMay r0 (Reg.CCE_LCTL 511) 5 ∧ HostMay r0 (Reg.CCE_LCTL 510) 3 ∧ HostMay r0 Reg.CCE_CMD 1 ∧ spWf (fun _ => none) r0.cce.staged = true ∧
    HostMay sel Reg.CCE_CMD 2 ∧ (sel.loop (sel.get F.CCE_SEL_LOOP)).feh = true ∧ HostMay r0 Reg.CCE_CMD 4 := by unfold HostMay; decide +kernel

/-! ## Seams -/

/-- Seam 31 in service at second 1000, its DRIVE frame of the present frame sent. -/
def seam31 : State :=
  let s := ((atNs r0 1000000000000).put (F.SEA_CTL_ENABLE 31) 1).put (F.SEA_CTL_INJECT 31) 1
  { s with sea := { s.sea with sentAt := some 1000000000000 } }

/-- An IDLE frame of seam 31 with one slot. -/
def idleFrame (slot : List Nat) : List (BitVec 8) :=
  (({ typ := 5, dirB := false, auth := true, seam := 31, count := 1, seq := 0, at_ := 1000002000000, lead := 2000 } : Hdr).frame 0 slot).map
    (BitVec.ofNat 8)

theorem witness_SeamReception :
    let s := (((seam31.put (F.NT_STATE 3968) 1).put (F.SEA_NODES_COUNT 31) 1).setNslot 3968 { slowOk := some 940000000000 })
    let ret := [2, 0, 1, 0x90, 1, 2, 0, 0]
    let bad := ret ++ [crc8 ret ^^^ 1]
    let good := ret ++ [crc8 ret]
    let got (b : List (BitVec 8)) := readFrame (s.ns / 1000000000 / 4294967296) (b.map (·.toNat))
    let is (b : List (BitVec 8)) (p : Rcvd → Bool) := ((got b).map p).getD false = true
    let idle (sl : List Nat) (r : Rcvd) := r.hcrcOk && r.digestOk && r.h.typ == 5 && !r.h.wrap && r.slots == [sl]
    let gone := (s.setNslot 3968 { last := some 899900000000, since := 0 })
    let slow := s.put (F.NT_STATE 3968) 3
    s.flag (F.SEA_CTL_ENABLE 31) = true ∧ s.inRunQuiet = true ∧ got [] = none ∧ is ((idleFrame good).set 31 0) (fun r => !r.hcrcOk) ∧
    is (idleFrame bad) (idle bad) ∧ s.flag (F.SEA_CTL_TOPO 31) = false ∧ crc8 (bad.take (bad.length - 1)) ≠ bad.getLastD 0 ∧
    is (idleFrame good) (idle good) ∧ ret.length = 8 ∧ ret ≠ List.replicate 8 0xFF ∧ s.paired = false ∧ s.get (F.NT_STATE (31 * 128)) = 1 ∧
    ret.getD 0 0 = 2 ∧ ret.getD 2 0 * 256 + ret.getD 3 0 ≠ 0x8000 ∧
    gone.flag (F.SEA_CTL_ENABLE (3968 / 128)) = true ∧ gone.flag (F.SEA_CTL_INJECT (3968 / 128)) = true ∧
    ((gone.nslot 3968).last.getD 0) + 50 * (gone.sea.fperUs * 1000) ≤ gone.ns ∧ (gone.nslot 3968).since + 50 * (gone.sea.fperUs * 1000) ≤ gone.ns ∧
    (slow.nslot 3968).slowOk = some 940000000000 ∧ slow.get (F.NT_STATE 3968) = 3 ∧ 940000000000 + 60000000000 ≤ slow.ns := by decide +kernel

theorem witness_SeamControlFrames :
    let c : CtlOut := { kind := .host, seq := 5, bytes := [0xFB], waiting := [3968], resends := 0, sentAt := 999000000000 }
    let out (r : Nat) := seam31.setSeam 31 { outst := some { c with resends := r }, syncSec := 1000 }
    let r := r0.get F.SEA_RESEND_RETRY
    let cen := (atNs r0 1000000000000).put F.SEA_CENSUS_SEC 10
    let k4 := r0.put (F.SEA_CFGTGT_N 31) 4
    seam31.sends = true ∧ seam31.auxOpen 31 = true ∧ (seam31.seam 31).syncSec < seam31.ns / 1000000000 ∧ seam31.auxFits (seam31.auxFrom 31) 32 = true ∧
    seam31.get F.SEA_KEY_SLOT = 0 ∧ (seam31.seam 31).enumReq = none ∧ (seam31.seam 31).queue = [] ∧ seam31.sea.img = none ∧
    c.sentAt + (out 0).get F.SEA_RESEND_INTV * ((out 0).sea.fperUs * 1000) ≤ (out 0).ns ∧ 0 < r ∧ (out 0).auxOpen 31 = true ∧
    (out 0).auxFits ((out 0).auxFrom 31) (c.bytes.length - 32) = true ∧ (out 0).get F.SEA_KEY_SLOT = 0 ∧ c.kind ≠ .image ∧
    c.key = 0 ∧ ¬ ((out 0).seam 31).syncSec < (out 0).ns / 1000000000 ∧ ((out 0).seam 31).enumReq = none ∧ (out 0).keyFor 9 0 = none ∧
    ((out r).seam 31).outst = some { c with resends := r } ∧ cen.inRunQuiet = true ∧ cen.get F.SEA_CENSUS_SEC ≠ 0 ∧
    cen.ns / 1000000000 % cen.get F.SEA_CENSUS_SEC = 0 ∧ cen.sea.censusSec ≠ cen.ns / 1000000000 ∧ HostMay r0 (Reg.SEA_CMD 31) 1 ∧
    HostMay r0 (Reg.SEA_CMD 31) 2 ∧ HostMay k4 (Reg.SEA_CFGCMD 31) 1 ∧ k4.flag (F.SEA_CFGCMD_BUSY 31) = false ∧ k4.get (F.SEA_CFGTGT_N 31) = 4 := by
  unfold HostMay; decide +kernel

theorem witness_SeamHostWrites :
    let later := { atNs r0 1000000000 with sea := { r0.sea with fperAt := 999999999, leadAt := 999999999 } }
    let newid := r0.put (F.NT_STATE 4095) 2
    HostMay r0 (Reg.SEA_CTL 31) 7 ∧ r0.disagree (Reg.SEA_CTL 31) = [] ∧ HostMay r0 Reg.SEA_FPER 1000 ∧ r0.fperOk 1000 = true ∧ HostMay r0 Reg.SEA_FPER 999 ∧ 1000000 % 3000 ≠ 0 ∧
    later.sea.fperAt / 1000000000 < later.ns / 1000000000 ∧ later.sea.leadAt / 1000000000 < later.ns / 1000000000 ∧
    HostMay r0 Reg.SEA_LEAD 6000 ∧ r0.get F.SEA_LEADMIN_NS < 6000 * 1000 ∧ 6000 ≤ 3 * r0.sea.fperUs ∧ 6000 ≤ 3 * r0.get F.SEA_FPER_US ∧
    ¬ 6001 ≤ 3 * r0.sea.fperUs ∧ HostMay r0 Reg.SEA_LEAD 6001 ∧ cfgMask 0x4C = some 0xFFFFFFFF ∧ HostMay r0 (Reg.SEA_CTL 31 + 0x4C) 9 ∧
    r0.flag (F.SEA_CFGCMD_BUSY 31) = false ∧ HostMay newid (nodeAddr 4095 3) 0x80000000 ∧ newid.get (F.NT_STATE 4095) = 2 ∧
    HostMay r0 (nodeAddr 4095 2) 1023 ∧ 3968 % 128 < seam31.get (F.SEA_NODES_COUNT (3968 / 128)) + 1 := by unfold HostMay; decide +kernel

/-! ## The time base -/

/-- An Announce of grandmaster 0x1234, and the master that sent it. -/
def ann : AnnData :=
  { gm := 0x1234, prio1 := 128, cls := 6, acc := 0x21, var := 0x4E5D, prio2 := 128, steps := 254, utc := 37, leap61 := false, leap59 := false,
    utcValid := true, trace := true, logInt := 0 }
def master (last : Nat) : PtpMaster := { port := 7, data := ann, last := last, prev := some 999000000000 }

/-- Second 1000, PTP over IPv4 in domain 127, master 7 selected, the servo on, delay 0 measured. -/
def ptp : State :=
  let s := (((atNs r0 1000000000000).put F.TBU_CTL_IPV4 1).put F.TBU_CTL_DOMAIN 127).put F.TBU_CTL_SERVO 1
  { s with tbu := { s.tbu with sel := some 7, ds := [0], masters := [master 1000000000000] } }
def hdr7 : PtpHdr := { domain := 127, port := 7, seq := 65535, corr := 0 }

theorem witness_ServoFollowsTheMaster :
    let u : Int := 840 * 131072
    let o (s : State) (t1 t2 : Nat) : Int := (((t2 : Int) - t1) * 65536 - (hdr7.corr + s.sget F.TBU_ASYM_NS * 65536)) * 1680 - 0
    let th := ptp.get F.TBU_STEPTH_NS
    let lock := { ptp with tbu := { ptp.tbu with good := 15 } }
    let x : PtpSync := { t1 := 10, t2 := 20, corr := 0 }
    let q : DReq := { seq := 65535, t3 := 30, sync := x }
    let wait := { ptp with tbu := { ptp.tbu with waiting := some (65535, x), sync := some x, dreq := some q } }
    let aw (r : Option (Nat × Int)) := { wait with tbu := { wait.tbu with dreq := some { q with awaits := some 65535, resp := r } } }
    let busy := { ptp with tbu := { ptp.tbu with step := some { cause := 2, delta := none } } }
    let d (t4 : Nat) : Int := ((x.t2 : Int) - x.t1) * 65536 - x.corr + (((t4 : Int) - 30) * 65536 - (hdr7.corr - wait.sget F.TBU_ASYM_NS * 65536))
    hdr7.bad = false ∧ ptp.ptpTakes hdr7 = true ∧ ptp.tbu.sel = some hdr7.port ∧ ptp.mpd = some 0 ∧ ptp.flag F.TBU_CTL_SERVO = true ∧
    ptp.flag F.TBU_STAT_SRC = false ∧ (o ptp 0 th).natAbs = th * (840 * 131072) ∧ ¬ (o ptp 0 (th + 1)).natAbs ≤ th * (840 * 131072) ∧
    ptp.get F.TBU_SLEWMAX_PPB ≤ 1000000 ∧ ptp.tbu.step = none ∧ o ptp 0x80000000 0 = u * (-0x80000000) ∧
    lock.tbState = 0 ∧ lock.tbu.good = 15 ∧ (o lock 0 500).natAbs = lock.get F.TBU_LOCKTH_NS * (840 * 131072) ∧ ptp.tbState ≠ 2 ∧
    wait.tbu.waiting = some (hdr7.seq, x) ∧ wait.tbu.sync = some x ∧ wait.inRunQuiet = true ∧ wait.tbu.dreq = some q ∧ q.seq = hdr7.seq ∧ q.awaits = none ∧
    0 ≤ d 20 ∧ d 19 < 0 ∧ ({ wait with tbu := { wait.tbu with ds := [] } } : State).tbu.ds = [] ∧ (aw none).tbu.waiting = some (hdr7.seq, x) ∧
    (aw (some (20, 0))).tbu.dreq = some { q with awaits := some hdr7.seq, resp := some (20, 0) } ∧ ptp.isStandby = false ∧ busy.tbu.step.isSome = true ∧
    busy.ptpTakes hdr7 = true ∧ ptp.tbu.waiting = none := by decide +kernel

theorem witness_MastersAndHoldover :
    let s := { ptp with tbu := { ptp.tbu with freqs := [(936000000000, 34359738)], syncAt := some 0, masters := [master 0] } }
    let locked := s.put F.TBU_STAT_STATE 1
    let held := { s.put F.TBU_STAT_STATE 2 with tbu := { s.tbu with holdAt := some 0 }, ns := s.get F.TBU_HOLDMAX_SEC * 1000000000 }
    ptp.ptpTakes hdr7 = true ∧ ptp.tbu.masters = [master 1000000000000] ∧ (master 0).port = hdr7.port ∧ ann.steps < 255 ∧
    ptp.ns ≤ (master 1000000000000).last + 4 * logNs ann.logInt ∧ ann.gm < 2 ^ 64 ∧ ptp.gmId ≠ ann.gm ∧
    locked.tbu.masters = [master 0] ∧ locked.tbu.sel = some (master 0).port ∧ locked.tbState = 1 ∧
    (master 0).last + locked.get F.TBU_ANNTO_COUNT * logNs (master 0).data.logInt ≤ locked.ns ∧ locked.tbu.freqs = [(936000000000, 34359738)] ∧
    936000000000 + 64000000000 ≤ locked.ns ∧ locked.tbu.syncAt = some 0 ∧ 0 + 4 * logNs (locked.sget F.TBU_INTV_SYNC) ≤ locked.ns ∧
    held.tbu.holdAt = some 0 ∧ held.tbState = 2 ∧ held.get F.TBU_HOLDMAX_SEC ≤ (held.ns - 0) / 1000000000 ∧ held.rateOk 0x908 0 1000000000 = true := by
  decide +kernel

theorem witness_TransparentClockAndTimeMarks :
    let sb := (r0.put F.GLB_ROLE_ROLE 2)
    r0.flag F.HAP_CTL_CHAIN = true ∧ r0.mode = .run ∧ r0.inRunQuiet = true ∧ sb.isStandby = true ∧ sb.tbu.xoffSince = none ∧
    HostMay r0 Reg.TBU_CTL 0x7F0F ∧ r0.tbu.slew = none ∧ (r0.sget F.TBU_RATE_RATE).natAbs ≤ 34359738 ∧ partnersOf Reg.TBU_NOW_S_LO = 2 := by
  unfold HostMay; decide +kernel

theorem witness_TimeBaseCommands :
    let free := ((atNs r0 1000000000000).put F.TBU_CTL_SERVO 0).sput F.TBU_ADJ_NS (-1)
    let done := { free with tbu := { free.tbu with slew := some { by_ := 5, base := 0, left := 0, at_ := 1000000000000 } } }
    let left := { free with tbu := { free.tbu with slew := some { by_ := 5, base := 0, left := 1, at_ := 1000000000000 } } }
    let arm (n : Bool) (v : Int) (t : Nat) := { free with tbu := { free.tbu with utcArm := some { offset := v, at_ := t, noticed := n } } }
    HostMay free Reg.TBU_CMD 1 ∧ HostMay ptp Reg.TBU_CMD 2 ∧ ptp.flag F.TBU_CTL_SERVO = true ∧ HostMay free Reg.TBU_CMD 2 ∧
    free.flag F.TBU_CTL_SERVO = false ∧ free.isStandby = false ∧ free.tbu.step = none ∧ free.tbu.slew = none ∧
    (free.sget F.TBU_FREQ_FREQ).natAbs + free.get F.TBU_SLEWMAX_PPB * 35 ≤ 34359738 ∧
    HostMay ptp Reg.TBU_CMD 4 ∧ HostMay free Reg.TBU_CMD 4 ∧ free.sget F.TBU_ADJ_NS ≠ 0 ∧ free.sget F.TBU_RATE_RATE = 0 ∧
    1 ≤ free.get F.TBU_SLEWMAX_PPB ∧ free.get F.TBU_SLEWMAX_PPB ≤ 1000000 ∧ done.tbu.slew.map (·.left) = some 0 ∧ left.tbu.slew.map (·.left) = some 1 ∧ left.sget F.TBU_FREQ_FREQ = 0 ∧
    (let sb := r0.put F.GLB_ROLE_ROLE 2; sb.inRunQuiet = true ∧ sb.isStandby = true) ∧
    HostMay (arm true 38 0) Reg.TBU_CMD 8 ∧ ((arm true 38 0).tbu.utcArm.map (·.noticed)) = some true ∧ HostMay free Reg.TBU_CMD 8 ∧
    free.tbu.utcArm = none ∧ HostMay (arm false 38 0) Reg.TBU_CMD 8 ∧ free.sget F.TBU_UTCOFF_SEC = 37 ∧
    1000000000000 ≤ (arm true (-32768) 1000000000000).ns ∧ (38 : Int) - (arm false 38 1000500000000).sget F.TBU_UTCOFF_SEC = 1 ∧
    1000500000000 ≤ (arm false 38 1000500000000).ns + 500000000 := by unfold HostMay; decide +kernel

theorem witness_FrameStartsAndTimeStep :
    let s := { atNs r0 1000000000000 with lastFrame := some 999998000000 }
    let req (fr : Option Nat) : StepReq := { cause := 2, delta := some (-5), fr := fr }
    let ask := { s with tbu := { s.tbu with step := some (req none) } }
    let due := { s with tbu := { s.tbu with step := some (req (some 999998000000)) },
                        sea := { s.sea with fperAt := 1000000000000, leadAt := 1000000000000 } }
    0 < s.sea.fperUs ∧ s.inRunQuiet = true ∧ s.role = roleSolo ∧ s.xlk.swapAt = none ∧ s.tbu.step = none ∧
    ({ s with mode := .hold } : State).inRunQuiet = false ∧ ask.tbu.step = some (req none) ∧ (req none).fr = none ∧ (req none).done = false ∧
    due.tbu.step = some (req (some 999998000000)) ∧ due.nextFrame = 1000000000000 ∧
    999998000000 + due.sea.leadUs * 1000 ≤ due.nextFrame ∧ due.ns ≤ due.nextFrame ∧ due.sea.fperAt / 1000000000 = due.nextFrame / 1000000000 ∧
    due.sea.leadAt / 1000000000 = due.nextFrame / 1000000000 ∧ 0 ≤ (due.nextFrame : Int) + (req none).delta.getD 0 := by decide +kernel

/-! ## The calendar -/

theorem witness_CalendarSetting :
    let c := { r0 with rtc := { r0.rtc with commit := true, cmpAt := some 9 } }
    let undo := { c with rtc := { c.rtc with held := some 0 } }
    let disc := ((c.put F.RTC_CTL_DISC 1).put F.TBU_STAT_VALID 1).put F.TBU_STAT_STATE 1
    HostMay r0 Reg.RTC_DATE 0x20241231 ∧ HostMay r0 Reg.RTC_TIME 0x235959 ∧ HostMay r0 Reg.RTC_CMD 1 ∧ c.rtc.commit = true ∧ disc.rtc.commit = true ∧
    disc.discActive = true ∧ c.discActive = false ∧ calRead 0x60 0x20000101 = none ∧ calRead (c.rd Reg.RTC_TIME) (c.rd Reg.RTC_DATE) = some 0 ∧
    c.flag F.RTC_STGTIME_TSTG = false ∧ c.flag F.RTC_STGTIME_DSTG = false ∧ c.flag (F.RTC_ACTL_EN 0) = false ∧ c.flag (F.RTC_ACTL_EN 1) = false ∧
    undo.rtc.held = some 0 ∧ undo.mode ≠ .keep ∧ undo.ns < 0 + 30517 ∧ c.rtc.held = none ∧ disc.rtc.held = none ∧
    HostMay c Reg.RTC_CMD 2 ∧ c.rtc.cmpAt = some 9 ∧ c.inRunQuiet = true ∧ HostMay r0 (Reg.RTC_ATIME 1) 0x07235959 ∧
    alarmBad 0 0x07235959 = false ∧ alarmBad 0 0x07235960 = true ∧ HostMay r0 (Reg.RTC_ATIME 1) 0x07235960 := by unfold HostMay; decide +kernel

theorem witness_CalendarSecond :
    let at_ (l : Nat) (p : Option (Bool × Nat)) := let s := r0.setCal l; { s with rtc := { s.rtc with leap := p } }
    let e := calSeconds - 1
    let al := (at_ 0 none).put (F.RTC_ACTL_EN 0) 1
    calRead ((at_ e none).rd Reg.RTC_TIME) ((at_ e none).rd Reg.RTC_DATE) = some e ∧ e + 1 = calSeconds ∧ (at_ e none).rtc.leap = none ∧
    (at_ e none).mode = .run ∧ (at_ e none).flag F.RTC_STAT_RANGEEND = false ∧ (at_ e none).flag (F.RTC_ACTL_EN 1) = false ∧
    calRead ((at_ (e - 1) none).rd Reg.RTC_TIME) ((at_ (e - 1) none).rd Reg.RTC_DATE) = some (e - 1) ∧ (at_ 0 none).flag (F.RTC_ACTL_EN 0) = false ∧
    al.flag (F.RTC_ACTL_EN 0) = true ∧ (al.put (F.RTC_ACTL_MASK 0) 0).get (F.RTC_ACTL_MASK 0) = 0 ∧
    (at_ 86398 (some (true, 0))).rtc.leap = some (true, 0) ∧ 0 ≤ (at_ 86398 (some (true, 0))).ns ∧ (86398 : Nat) + 2 < calSeconds ∧
    calRead ((at_ 86398 none).rd Reg.RTC_TIME) ((at_ 86398 none).rd Reg.RTC_DATE) = some 86398 ∧
    (at_ 86399 (some (false, 0))).rtc.leap = some (false, 0) ∧ (at_ e none).rtc.takenAt = none ∧ (at_ e none).rtc.commit = false ∧ (at_ e none).rtc.held = none ∧
    ({ r0 with rtc := { r0.rtc with commit := true } } : State).rtc.commit = true ∧
    ({ r0 with rtc := { r0.rtc with takenAt := some 0 } } : State).ns < 0 + 30517 := by decide +kernel

theorem witness_CalendarCompensation :
    let s := atNs r0 2000000000000000000
    let comp := s.put F.RTC_CTL_COMP 1
    let adj (a b : Int) := { s with rtc := { s.rtc with sched := a, slew := b } }
    let u := 2000000000 - 37 - 946684800
    let disc := ((s.put F.RTC_CTL_DISC 1).put F.TBU_STAT_VALID 1).put F.TBU_STAT_STATE 1
    let cmp (l : Nat) := let t := disc.setCal l; { t with rtc := { t.rtc with cmpAt := some 5 } }
    let d (l sub : Nat) : Int :=
      (((cmp l).calNow * 1000000000 * 32768 + sub * 1000000000 : Nat) : Int) - ((u * 1000000000 + (cmp l).ns % 1000000000) * 32768 : Nat)
    let age := ((s.put F.RTC_CTL_AGEAUTO 1).put F.RTC_CTL_DISC 1).put F.TBU_STAT_VALID 1
    let age1 := age.put F.TBU_STAT_STATE 1
    (0xFD80#16).toInt = 64 * (0 : Nat) - 640 ∧ (0x0580#16).toInt = 64 * (32 : Nat) - 640 ∧ comp.flag F.RTC_CTL_COMP = true ∧
    (adj (-1) 0).rtc.sched < 0 ∧ 0 < (adj 1 0).rtc.sched ∧ (adj 0 1).rtc.sched = 0 ∧ 0 < (adj 0 1).rtc.slew ∧
    r0.ns < r0.rtc.ageFrom + 86400000000000 ∧ (cmp u).discActive = true ∧
    (cmp u).rtc.cmpAt = some 5 ∧ 5 ≤ (cmp u).ns ∧ (cmp u).utcCal = some u ∧ (cmp u).rtc.leap = none ∧ (cmp u).rtc.skipTo ≤ (cmp u).ns ∧
    (d u 1).natAbs < 61000 * 32768 ∧ 61000 * 32768 ≤ (d u 2).natAbs ∧ (d (u + 2) 0).natAbs ≤ 2000000000 * 32768 ∧ 61000 * 32768 ≤ (d (u + 2) 0).natAbs ∧
    2000000000 * 32768 < (d (u + 2) 1).natAbs ∧ (cmp (u + 2)).flag (F.RTC_ACTL_EN 0) = false ∧ (cmp (u + 2)).flag (F.RTC_ACTL_EN 1) = false ∧
    age1.flag F.RTC_CTL_AGEAUTO = true ∧ age1.discActive = true ∧ age1.rtc.ageFrom + 86400000000000 ≤ age1.ns ∧
    (age1.sget F.RTC_AGE_AGE).natAbs ≤ 1000000 := by decide +kernel

/-! ## Metering -/

theorem witness_MeteringCyclesAndIntervals :
    let en := (r0.put (F.MTR_CCTL_EN 27) 1)
    let raw : List Int := List.replicate 27 0 ++ [-8388607]
    let cyc := ({ (en.put (F.MTR_KMAP_IL1 7) 27) with mtr := { r0.mtr with n := 1 } }).put (F.MTR_KMAP_EN 7) 1
    let bd := atNs { r0 with mtr := { r0.mtr with start := 1 } } 937000000000
    en.inRunQuiet = true ∧ en.flag (F.MTR_CCTL_EN 27) = true ∧ (raw.getD 27 0).natAbs ≤ 8388607 ∧ (en.mch 27).want = none ∧
    en.flag (F.MTR_CCTL_FIXED 27) = false ∧ en.flag (F.MTR_CCTL_INTEG 27) = false ∧ en.calAux 27 % 65536 = 0 ∧ cyc.mtr.n ≠ 0 ∧
    cyc.isStandby = false ∧ cyc.circMapped 7 = true ∧ cyc.circChans 7 = [27, 0, 0] ∧ bd.isBoundary 937000000000 bd.mtr.intv = true ∧ bd.mtr.start < 937000000000 ∧ 937000000000 = bd.ns / 1000000000 * 1000000000 ∧
    HostMay r0 Reg.MTR_CMD (1 + 0x4D52 * 65536) ∧ HostMay r0 Reg.MTR_INTV 3600 ∧ 3600 % 3600 = 0 ∧ HostMay r0 Reg.MTR_INTV 0 ∧ 3600 % 7 ≠ 0 := by
  unfold HostMay; decide +kernel

/-! ## Sensor radio -/

/-- The radio on at second 1000, its keys in slots 9 (HKDF input) and 10 (radio broadcasts); entry 1023 holds node 0x55 as `x` says, in state
`st`, with a wake slot at slot 40 of width 30. -/
def radio (st : Nat) (x : RNode) : State :=
  let s := ((((atNs r0 1000000000000).put F.SRU_CTL_EN 1).put F.SRU_ADDR_ADDR 0x77).put F.SRU_KEY_NODEK 9).put F.SRU_KEY_BCAST 10
  let k := (s.setKslot 9 { st := .active, type := 1, use := 2, key := List.replicate 32 7 }).setKslot 10
    { st := .active, type := 2, use := 4, key := List.replicate 16 7 }
  let e := ((((k.put (F.RT_STATE 1023) st).put (F.RT_NODEID 1023) 0x55).put (F.RT_SLOT 1023) 40).put (F.RT_W 1023) 30).put (F.RT_GMAX 1023) 60000
  e.setRnode 1023 { x with sync := 1000000000000 }

def rally (s : State) (ns : Nat) : State := { s with ns := ns, sru := { s.sru with rally := some 1000000000000 } }

theorem witness_RallyStart :
    let s := radio 2 {}
    let r := 1000000000000
    s.role = roleSolo ∧ s.radioOn = true ∧ s.sru.cfgAt = none ∧ s.rallyNow = r ∧ s.sru.rally ≠ some r ∧ s.sru.nodes.all (fun p => !s.calling p.1) = true ∧
    (s.keyFor (s.get F.SRU_KEY_BCAST) 2).isSome = true ∧ s.airOk r (s.slotChan r) (s.rcfg.frameUs 14) = true ∧ s.sru.bfc < 0xFFFFFFFF := by decide +kernel

theorem witness_WakeSlots :
    let r := 1000000000000
    let t0 := r + 40 * 2500000
    let s := rally (radio 2 {}) t0
    let e : RExch := { t0 := t0, txEnd := t0 }
    let lt := e.txEnd + (900 + s.rcfg.frameUs (s.get (F.RT_RLEN 1023))) * 1000
    let l := rally (radio 2 { ex := some e }) lt
    let m (miss : Nat) := (rally (radio 2 { ex := some { e with letSent := true } }) (t0 + 30 * 2500000)).put (F.RT_MISS 1023) miss
    s.sru.rally = some r ∧ s.radioOn = true ∧ s.get (F.RT_STATE 1023) = rsActive ∧ (s.rnode 1023).served ≠ some r ∧
    r + s.get (F.RT_SLOT 1023) * 2500000 = t0 ∧ s.ns < t0 + s.get (F.RT_W 1023) * 2500000 ∧ s.guardOver 1023 = false ∧
    s.servesSlot (s.get (F.RT_SLOT 1023)) = true ∧ s.get (F.RT_TXFC 1023) < 0xFFFFFFFF ∧ (s.nodeRootOf 1023).isSome = true ∧
    s.airOk t0 (s.slotChan t0) (s.rcfg.frameUs (8 + (s.nextCmd 1023).length)) = true ∧
    (l.rnode 1023).ex = some e ∧ e.own = true ∧ e.recover = false ∧ e.letSent = false ∧ l.radioOn = true ∧ lt ≤ l.ns ∧
    l.airOk lt (l.slotChan e.t0) (l.rcfg.frameUs e.payload.length) = true ∧ (l.nodeRootOf 1023).isSome = true ∧ l.get (F.RT_TXFC 1023) < 0xFFFFFFFF ∧
    ((m 0).rnode 1023).ex = some { e with letSent := true } ∧ t0 + (m 0).get (F.RT_W 1023) * 2500000 ≤ (m 0).ns ∧ (m 0).acts = true ∧
    (m 0).guardOver 1023 = false ∧ (m 0).get (F.RT_MISS 1023) = 0 ∧ (m 1).get (F.RT_MISS 1023) = 1 ∧ (m 1).guardOver 1023 = false := by
  decide +kernel

set_option maxRecDepth 20000 in
theorem witness_RecoveryWindow :
    let r := 1000000000000
    let s0 := rally (radio 2 {}) (r + 10000000000)
    let s1 := rally (radio 3 {}) (r + 10000000000)
    let ct := r + (s1.rcfg.slots - s1.rcfg.recov) * 2500000
    let c (calls : Nat) := (rally (radio 3 { ex := some { t0 := r, recover := true, txEnd := r } }) (r + 800000 + 1000 * s1.rcfg.shrUs + 1)).put
      (F.RT_CALLS 1023) calls
    s0.sru.rally = some r ∧ s0.radioOn = true ∧ s0.acts = true ∧ s0.sru.recovered ≠ some r ∧ ct ≤ s0.ns ∧ s0.nextCall = none ∧
    s1.nextCall = some 1023 ∧ s1.airOk ct s1.rcfg.wch (7000 * s1.get F.SRU_WAKE_WREP) = true ∧ s1.acts = true ∧ ct ≤ s1.ns ∧
    ((c 0).rnode 1023).ex = some { t0 := r, recover := true, txEnd := r } ∧ r + (800 + (c 0).rcfg.shrUs) * 1000 < (c 0).ns ∧
    (c 254).get (F.RT_CALLS 1023) < 255 ∧ (c 0).get (F.RT_CALLS 1023) + 1 < (c 0).get F.SRU_WAKE_WMAX ∧
    (c 254).get F.SRU_WAKE_WMAX ≤ (c 254).get (F.RT_CALLS 1023) + 1 := by decide +kernel

/-- The node root of node 0x55 under a key of thirty-two bytes 7, and its key of epoch 0 (R367; both computed with Python's hmac). -/
def root55 : List Nat :=
  [176, 77, 122, 104, 46, 97, 197, 48, 199, 90, 196, 217, 156, 186, 217, 172, 91, 171, 28, 255, 48, 204, 6, 217, 50, 46, 100, 47, 152, 97, 0, 221]
def key55 : List Nat := [92, 111, 45, 64, 51, 108, 11, 68, 108, 33, 213, 250, 245, 24, 149, 48]

theorem test_nodeRoot : nodeRoot (List.replicate 32 7) 0x55 = root55 := by decide +kernel

theorem test_nodeEpochKey : nodeEpochKey root55 0 = key55 := by decide +kernel

/-- A frame of node 0x55, of type `typ`, sealed under that key. -/
def nodePsdu (typ : Nat) (payload : List Nat) : List (BitVec 8) :=
  ((({ typ := typ, src := 0x55, dst := 0x77, msg := 9, fc := 3, payload := payload } : RFrame).psdu key55).map (BitVec.ofNat 8))

theorem witness_NodeRoots : (radio 2 {}).nodeRoots 0x55 = [(false, nodeRoot (List.replicate 32 7) 0x55)] := rfl

theorem witness_ReplyReceived :
    let r := 1000000000000
    let e : RExch := { t0 := r, msg := 9, txEnd := r }
    let s := rally (radio 2 { ex := some e }) r
    let at_ := r
    let psdu := nodePsdu 3 [0]
    s.radioOn = true ∧ parseFrame [] = none ∧ s.entryOf 0x55 = some 1023 ∧ s.get (F.RT_STATE 1023) = rsActive ∧ (s.rnode 1023).ex = some e ∧
    (s.rnode 1023).lastMsg ≠ some 9 ∧ (s.rnode 1023).rekey = none ∧ s.sru.img = none ∧ s.get (F.RT_EPOCH 1023) = 0 ∧
    at_ - s.rcfg.latencyUs * 1000 ≤ e.txEnd + (800 + s.rcfg.shrUs) * 1000 ∧ (s.rnode 1023).hist = false ∧
    (match parseFrame (psdu.map (·.toNat)) with
      | some f => f.typ == 3 && f.dst == s.get F.SRU_ADDR_ADDR && f.src == 0x55 && f.msg == e.msg && (f.open_ key55).isSome
      | none => false) = true := by decide +kernel

theorem witness_RadioJoin :
    let s := ((radio 2 {}).put F.SRU_CTL_JOINEN 1).put (F.RT_NODEID 1023) 0x56
    let psdu := nodePsdu 5 [0, 0, 0, 1, 10, 0, 31, 0, 0]
    s.radioOn = true ∧ s.sru.seen = [] ∧ s.acts = true ∧ s.flag F.SRU_CTL_JOINEN = true ∧ s.entryOf 0x55 = none ∧
    (List.range 1024).find? (fun j => s.get (F.RT_STATE j) == rsFree) = some 0 ∧ (s.placeNode 0 31).isSome = true ∧
    (match parseFrame (psdu.map (·.toNat)) with
      | some f => f.typ == 5 && f.dst == s.get F.SRU_ADDR_ADDR && f.src == 0x55 && f.payload.length == 9 &&
          Crypto.ofBytesLE (f.payload.take 2) == 0 && (f.open_ key55).isSome
      | none => false) = true := by decide +kernel

/-- A frame of node 0x55, of type `typ`, with a MIC of zeros. -/
def plainPsdu (typ : Nat) : List (BitVec 8) :=
  let b := [typ, 0, 0, 0] ++ ({ typ := typ, src := 0x55, dst := 0x77, msg := 9, fc := 3, payload := [] } : RFrame).ids ++ List.replicate 8 0
  (b ++ fcs b).map (BitVec.ofNat 8)

theorem witness_Flood :
    let s := radio 2 {}
    let seen := { s with sru := { s.sru with seen := [(0x55, 9, 940000000001)] } }
    let live (s : State) := s.sru.seen.filter fun p => decide (s.ns < p.2.2 + 60000000000)
    let sb := ((s.put (F.RT_STATE 1023) 4).put F.GLB_ROLE_ROLE 2)
    let fc := s.put (F.RT_RXFC 1023) 0xFFFF0000
    (match parseFrame ((plainPsdu 4).map (·.toNat)) with | some f => f.typ == 4 && f.src == 0x55 && f.msg == 9 | none => false) = true ∧
    (live s).length < 512 ∧ (live seen).any (fun p => p.1 == 0x55 && p.2.1 == 9) = true ∧ fc.radioOn = true ∧ 2 ≤ fc.get (F.RT_STATE 1023) ∧
    (fc.rnode 1023).rekey = none ∧ 0xFFFF0000 ≤ fc.get (F.RT_RXFC 1023) ∧ sb.isStandby = true ∧ sb.entryOf 0x55 = some 1023 ∧
    sb.get (F.RT_STATE 1023) = rsLost ∧ (parseFrame ((plainPsdu 3).map (·.toNat))).isSome = true := by decide +kernel

/-- A broadcast of node 0x55, sealed under `key`. -/
def castPsdu (key : List Nat) : List (BitVec 8) :=
  ((({ typ := 4, src := 0x55, dst := 0xFFFFFFFF, msg := 9, fc := 3, payload := [1] } : RFrame).psdu key).map (BitVec.ofNat 8))

theorem witness_FloodBroadcast :
    let s := radio 2 {}
    let key := List.replicate 16 7
    let opens (k : List Nat) := match parseFrame ((castPsdu k).map (·.toNat)) with
      | some f => f.typ == 4 && f.dst == 0xFFFFFFFF && f.src == 0x55 && (f.open_ key).isSome
      | none => false
    s.keyFor (s.get F.SRU_KEY_BCAST) 2 = some key ∧ s.radioOn = true ∧ s.sru.bcastRx = [] ∧ s.sru.seen = [] ∧ opens key = true ∧
    opens key55 = false ∧ (parseFrame ((castPsdu key55).map (·.toNat))).isSome = true := by decide +kernel

theorem witness_RadioHostWrites :
    let s := radio 2 {}
    let s1 := s.stage (radioCfgReg 1) (radioCfgMask 1) 600
    let c := s1.rcfgNext
    let due := { r0 with sru := { r0.sru with cfgAt := some 0 } }
    let drift := (radio 3 {}).put F.SRU_SEL_NODE 1023
    HostMay s (radioCfgReg 0) 12 ∧ (s.stage (radioCfgReg 0) (radioCfgMask 0) 12).rcfgNext.mode = 3 ∧ HostMay s (radioCfgReg 1) 600 ∧ c.mode ≠ 3 ∧
    s.chansOk c [c.mode] = true ∧ c.rally = 600 ∧ 30 ≤ c.opn ∧ 30 ≤ c.recov ∧ c.seed ≠ 0 ∧ (s1.plan c).isSome = true ∧
    s1.stagedWord (radioCfgReg 1) ≠ s.rd (radioCfgReg 1) ∧ due.sru.cfgAt = some 0 ∧ 0 ≤ due.ns ∧ HostMay r0 Reg.SRU_TXPWR 127 ∧
    (r0.put F.GLB_ID_VARIANT 0).variantE = false ∧ HostMay (r0.put F.GLB_ID_VARIANT 0) Reg.SRU_TXPWR 127 ∧ r0.variantE = true ∧
    subBandOf r0.rcfg.mode (r0.get F.SRU_CHAN_OPCH) = some 4 ∧ HostMay s Reg.SRU_CMD 1 ∧ HostMay drift Reg.SRU_CMD 2 ∧
    drift.get (F.RT_STATE (drift.get F.SRU_SEL_NODE)) = rsDrifted ∧ HostMay drift Reg.SRU_CMD 4 ∧
    (drift.rnode (drift.get F.SRU_SEL_NODE)).rekey = none ∧ HostMay r0 (radioAddr 1023 0) 5 ∧ r0.get (F.RT_STATE 1023) < 2 ∧
    HostMay s (radioAddr 1023 0) 5 ∧ 2 ≤ s.get (F.RT_STATE 1023) := by unfold HostMay; decide +kernel

theorem witness_RadioConfigChange : r0.inRunQuiet = true ∧ ({ r0 with sru := { r0.sru with cfgAt := some 0 } } : State).placed = [] := by decide +kernel

/-! ## Key store -/

/-- Slots 1 to `n` in state NEW. -/
def usedTo (n : Nat) : State := { r0 with kst := { r0.kst with slots := (List.range n).map fun i => (i + 1, { st := .new }) } }

/-- Slot 255 as `k` says, and selected. -/
def slot255 (k : KSlot) : State := (r0.setKslot 255 k).put F.KST_SEL_SLOT 255

theorem witness_KeyStoreCreate :
    let may (s : State) := HostMay s Reg.KST_CMD (2 ^ 0) ∧ s.flag F.KST_CTL_OPEN = true ∧ s.kstBusy = false
    let s := (usedTo 254).put F.KST_DEF_TYPE 5
    let used (n : Nat) (s : State) :=
      s.kst.slots.map (·.1) = (List.range n).map (· + 1) ∧ s.kst.slots.all (fun p => p.2.st != .free) = true
    may s ∧ (s.kslot 255).st = .free ∧ used 254 s ∧ (s.kslot (s.get F.KST_DEF_PARENT)).st = .active ∧
    (s.kslot (s.get F.KST_DEF_PARENT)).depth < 3 ∧ may (usedTo 255) ∧ used 255 (usedTo 255) := by unfold HostMay; decide +kernel

theorem witness_KeyStoreCommands :
    let may (s : State) (n : Nat) := HostMay s Reg.KST_CMD (2 ^ n) ∧ s.flag F.KST_CTL_OPEN = true ∧ s.kstBusy = false
    let k : KSlot := { st := .new, pend := .written, type := 1, pkey := List.replicate 32 9 }
    let a : KSlot := { st := .active, pend := .written, type := 4, pkey := List.replicate 32 9 }
    let c := slot255 a
    let good := c.put F.KST_KCVX_KCV (kcvOf 4 a.pkey)
    let v := slot255 { k with pend := .verified }
    let d (x : KState) := slot255 { st := x }
    may good 1 ∧ good.get F.KST_SEL_SLOT = 255 ∧ (good.kslot 255).st = .active ∧ (good.kslot 255).pend ≠ .empty ∧
    kcvOf 4 a.pkey = good.get F.KST_KCVX_KCV ∧ kcvOf 4 a.pkey ≠ c.get F.KST_KCVX_KCV ∧ may v 2 ∧ (v.kslot 255).pend = .verified ∧ may c 3 ∧ may c 4 ∧
    may (d .invalid) 5 ∧ may (d .orphaned) 5 ∧ ((d .orphaned).kslot 255).st = .orphaned ∧
    (List.range 255).all (fun j => ((d .invalid).kslot (j + 1)).parent != 255) = true := by unfold HostMay; decide +kernel

theorem witness_KeyStoreWrites :
    let k : KSlot := { st := .new, pend := .written, type := 1, pkey := List.replicate 32 9 }
    let full := { slot255 k with kst := { (slot255 k).kst with kptr := 7 } }
    HostMay full Reg.KST_CMD (2 ^ 6) ∧ (full.keyFor k.parent 1).isSome = true ∧ HostMay full Reg.KST_KDAT 1 ∧ 4 * full.kst.kptr < keyLen k.type ∧
    k.pkey.length = keyLen k.type ∧ full.flag F.KST_CTL_OPEN = true ∧ full.kstBusy = false ∧ HostMay r0 Reg.KST_SEL 255 ∧ HostMay r0 Reg.KST_CTL 0 ∧
    (r0.put F.KST_CTL_OPEN 0).flag F.KST_CTL_OPEN = false := by unfold HostMay; decide +kernel

theorem witness_KeyStoreCommitAndMarking :
    let s := slot255 { st := .new, pend := .verified, type := 1, pkey := List.replicate 32 9 }
    let c := { s with kst := { s.kst with commit := some ⟨255, 0, List.replicate 32 9⟩, marks := [255] } }
    let act := { r0.put F.GLB_ROLE_ROLE 1 with xlk := { r0.xlk with joined := true } }
    c.inRunQuiet = true ∧ c.kst.commit = some ⟨255, 0, List.replicate 32 9⟩ ∧ c.kst.marks = 255 :: [] ∧ (r0.put F.GLB_ROLE_ROLE 2).isStandby = true ∧
    act.activePaired = true ∧ act.kcvs = [] := by decide +kernel

/-! ## Event queue and journal -/

/-- A record of code 0x101, its CRC in place, and the queue entry that holds it. -/
def rec1 : EvRec := ({ w0 := 0x81010003, w1 := 0, w2 := 0, w3 := 0, w4 := 0, w5 := 1, w6 := 2, w7 := 3 } : EvRec).sealed
def q1 : QRec := { record := rec1, prio := 3, copy := none }

theorem witness_EventQueueReads :
    let fifo := { r0 with evq := { r0.evq with fifo := [q1] } }
    let p := r0.put F.EVQ_STAT_EMODE 0
    let drain := { p with evq := { p.evq with bank0 := [{ q1 with prio := 1 }, q1] } }
    let fill := { p with evq := { p.evq with bank1 := [q1] } }
    let change := r0.put F.EVQ_CTL_MODE 0
    fifo.inRunQuiet = true ∧ fifo.prioMode = false ∧ fifo.evq.fifo = q1 :: [] ∧ q1.readable = true ∧ drain.prioMode = true ∧
    nextRec true drain.draining = some q1 ∧ r0.readList = [] ∧ fill.draining = [] ∧ fill.filling ≠ [] ∧ drain.draining ≠ [] ∧
    HostMay fill Reg.EVQ_CMD 1 ∧ HostMay r0 Reg.EVQ_CTL 0 ∧ change.get F.EVQ_CTL_MODE ≠ change.get F.EVQ_STAT_EMODE ∧
    change.evq.bank0 = [] ∧ change.evq.bank1 = [] ∧ change.evq.fifo = [] ∧ fifo.readList ≠ [] := by unfold HostMay; decide +kernel

/-- The journal with one record, number 0xFFFFFFFF, at the cursor. -/
def jnl1 (r : EvRec) : State :=
  (((r0.put F.JNL_WPTR_NUM 0).put F.JNL_COUNT_RECS 1).put F.JNL_CUR_NUM 0xFFFFFFFF).wrs (jnlAddr 0xFFFFFFFF) r.words

theorem witness_JournalReadsAndRepairs :
    let good := jnl1 rec1
    let bad := jnl1 { rec1 with w7 := 4 }
    let pair := bad.put F.GLB_ROLE_ROLE 2
    let older := (good.put F.JNL_CUR_NUM 7)
    let farBad := ((r0.put F.JNL_WPTR_NUM 100).put F.JNL_COUNT_RECS 262144).wrs (jnlAddr 124) ({ rec1 with w7 := 4 } : EvRec).words
    let mk := r0.put F.JNL_MSTAT_VALID 128
    good.inRunQuiet = true ∧ good.get F.JNL_CUR_NUM ≠ good.get F.JNL_WPTR_NUM ∧ good.jnlHas 0xFFFFFFFF = true ∧ (good.jnlRec 0xFFFFFFFF).crcOk = true ∧
    r0.get F.JNL_CUR_NUM = r0.get F.JNL_WPTR_NUM ∧ older.jnlHas 7 = false ∧ bad.jnlHas 0xFFFFFFFF = true ∧ (bad.jnlRec 0xFFFFFFFF).crcOk = false ∧
    pair.isStandby = true ∧ rec1.crcOk = true ∧ (farBad.put F.GLB_ROLE_ROLE 2).isStandby = true ∧ farBad.jnlHas (4294967296 + 124 - 262144) = true ∧
    24 ≤ ((4294967296 + 124 - 262144) % 262144 + 262144 - 100 % 262144) % 262144 ∧ bad.activePaired = false ∧ bad.isStandby = false ∧
    bad.get F.JNL_COUNT_RECS = 1 ∧ (bad.jnlRec bad.jnlOldest).crcOk = false ∧ HostMay r0 Reg.JNL_CMD (7 + 8) ∧
    bit (mk.get F.JNL_MSTAT_VALID) 7 = true ∧ bit (mk.get F.JNL_MSTAT_LOST) 7 = false ∧ HostMay r0 (Reg.JNL_MARK 7) 5 := by
  unfold HostMay; decide +kernel

/-! ## The pair -/

/-- A module with role `r` (1 ACTIVE, 2 STANDBY, 3 JOINING) whose partner's heartbeat said role `p`. -/
def paired (r p : Nat) : State :=
  let s := (atNs r0 1000000000000).put F.GLB_ROLE_ROLE r
  { s with xlk := { s.xlk with partner := some { role := p, ready := true, permit := true, copy := 0 }, joined := true } }

theorem witness_Heartbeats :
    let act := (paired 1 2).put F.XLK_STAT_PRESENT 1
    let early := act
    let joined := { act.put F.XLK_STAT_READY 1 with xlk := { act.xlk with joined := true } }
    let silent := (act.put F.XLK_HB_MISSX 3).put F.XLK_HB_MISSL 2
    let halfX := { silent with xlk := { silent.xlk with seenL := true } }
    let halfL := { silent with xlk := { silent.xlk with seenX := true } }
    let join := paired 3 3
    let hold := { act with mode := .hold }
    act.beats = true ∧ r0.beats = false ∧ act.role = roleActive ∧ (act.put F.GLB_ROLE_HALF 1).flag F.GLB_ROLE_HALF = true ∧ join.beats = true ∧
    join.role = roleJoining ∧ join.flag F.GLB_ROLE_HALF = false ∧ join.flag F.XLK_AUTH_PERMIT = true ∧ silent.beats = true ∧
    silent.flag F.XLK_STAT_PRESENT = true ∧ early.xlk.seenX = false ∧ early.xlk.seenL = false ∧ early.get F.XLK_HB_MISSX ≤ 1 ∧
    joined.role = roleActive ∧ joined.xlk.joined = true ∧ joined.flag F.XLK_STAT_READY = true ∧ join.inRunQuiet = true ∧ silent.inRunQuiet = true ∧ silent.xlk.seenX = false ∧ silent.xlk.seenL = false ∧
    2 ≤ silent.get F.XLK_HB_MISSX ∧ silent.get F.XLK_HB_MISSL = 2 ∧ halfX.xlk.seenL = true ∧ halfX.xlk.degX = false ∧ halfL.xlk.seenX = true ∧
    halfL.xlk.degL = false ∧ hold.mode = .hold := by decide +kernel

theorem witness_TakeoverAndFence :
    let fail (s : State) := { s with xlk := { s.xlk with failedAt := some 999000000000, permit := true } }
    let sb := fail (paired 2 1)
    let act := fail (paired 1 2)
    let no := { sb with xlk := { sb.xlk with permit := false } }
    let fin := act.put F.XLK_STAT_FENCEIN 1
    let pulled := { act with mode := .hold, phu := { act.phu with unmated := true, saved := false } }
    let dec (f : Nat) := { act with xlk := { act.xlk with fenceAt := some f } }
    let up (x l : Bool) := { act with xlk := { act.xlk with degX := x, degL := l, upX := 999000000000, upL := 999000000000 } }
    sb.isStandby = true ∧ sb.xlk.failedAt.isSome = true ∧ sb.xlk.permit = true ∧ sb.inRunQuiet = true ∧ sb.flag F.XLK_STAT_FENCEIN = false ∧
    pulled.mode = .hold ∧ pulled.phu.unmated = true ∧ pulled.phu.saved = false ∧ pulled.flag F.XLK_STAT_FENCEIN = false ∧ act.mode ≠ .keep ∧
    (dec 1000000000000).xlk.fenceAt = some 1000000000000 ∧ 1000000000000 ≤ (dec 1000000000000).ns ∧ (dec 1000000000001).ns < 1000000000001 ∧
    no.xlk.permit = false ∧ act.role = roleActive ∧ act.xlk.failedAt.isSome = true ∧ act.inRunQuiet = true ∧ act.flag F.XLK_STAT_FENCEIN = false ∧
    act.mode ≠ .reset ∧ fin.flag F.XLK_STAT_FENCEIN = true ∧ ({ act with xlk := { act.xlk with lane1 := true } } : State).xlk.lane1 = true ∧
    act.role ≠ roleSolo ∧ (up true false).xlk.degX = true ∧ (up true false).get F.XLK_HB_MISSX = 0 ∧
    (up true false).xlk.upX + 1000000000 ≤ (up true false).ns ∧ (up false true).xlk.degX = false ∧ (up false true).xlk.degL = true ∧
    (up false true).get F.XLK_HB_MISSL = 0 ∧ (up false true).xlk.upL + 1000000000 ≤ (up false true).ns := by decide +kernel

theorem witness_WaitAndSwap :
    let wait (t : Nat) := let s := paired 3 1; { s with xlk := { s.xlk with partner := none, joinFrom := t } }
    let act := (paired 1 2).put F.XLK_STAT_READY 1
    let due := { act with xlk := { act.xlk with swapAt := some 1000000000000 } }
    let sb := (paired 2 1).put F.XLK_STAT_READY 1
    let told (f : Nat) := { sb with xlk := { sb.xlk with swapAt := some f } }
    (wait 999900000000).role = roleJoining ∧ (wait 999900000000).inRunQuiet = true ∧ (wait 999900000000).flag F.XLK_STAT_PRESENT = false ∧
    (wait 999900000000).xlk.joinFrom + 100000000 ≤ (wait 999900000000).ns ∧ (wait 999900000001).ns < (wait 999900000001).xlk.joinFrom + 100000000 ∧
    HostMay act Reg.XLK_CMD 1 ∧ act.swapOk = true ∧ 0 < act.framePeriod ∧ HostMay r0 Reg.XLK_CMD 1 ∧ r0.swapOk = false ∧ due.inRunQuiet = true ∧ due.flag F.XLK_STAT_READY = true ∧
    (due.put F.XLK_STAT_READY 0).flag F.XLK_STAT_READY = false ∧
    due.activePaired = true ∧ due.xlk.swapAt = some 1000000000000 ∧ 1000000000000 ≤ due.ns ∧ sb.xlk.swapAt = none ∧ sb.isStandby = true ∧
    (told 1000000000000).xlk.swapAt = some 1000000000000 ∧ (told 1000000000000).ns < 1000000000000 + 1 ∧ sb.flag F.XLK_STAT_READY = true ∧ sb.flag F.XLK_AUTH_PERMIT = true := by unfold HostMay; decide +kernel

/-- Slot 5 holds the public key of RFC 8032's first test, the firmware buffer its signature of the empty message. -/
def fwOk : State :=
  let pk := [215, 90, 152, 1, 130, 177, 10, 183, 213, 75, 254, 211, 201, 100, 7, 58, 14, 225, 114, 243, 218, 166, 35, 37, 175, 2, 26, 104, 247, 7, 81, 26]
  let sg : List Word := [0xe5564300, 0xc360ac72, 0x9086e2cc, 0x806e828a, 0x84877f1e, 0xb8e5d974, 0xd873e065, 0x22490155, 0x5fb88215, 0x90a33bac,
    0xc61e3970, 0x1cf9b46b, 0xd25bf5f0, 0x595bbe24, 0x65514143, 0x8e7a100b]
  let s := ((r0.setKslot 5 { st := .active, type := 4, use := 16, key := pk }).put F.KST_DOMAIN_UPDATE 5).wrs fwStage sg
  { s with xlk := { s.xlk with fwBusy := some 64 } }

theorem witness_Copies :
    let sb := paired 2 1
    let late := { sb with xlk := { sb.xlk with copyAt := some (999998000000, 4), resync := true } }
    let joiner := { paired 3 1 with xlk := { (paired 3 1).xlk with resync := true, applied := some 7 } }
    let act := { paired 1 2 with xlk := { (paired 1 2).xlk with copyAt := some (999998000000, 4), trans := [{ id := 5, resp := [], peer := {} }] } }
    let next := { act with hap := { act.hap with waiting := [({}, [])] } }
    let ins := { act with sme := { act.sme with install := some 4095 } }
    let f : RetField := { bytes := [], dirB := true, seq := 0, origin := 0, stamp := 0 }
    let held := sb.setNslot 4095 { fieldA := some { f with seq := 0x80000000 }, fieldB := some { f with seq := 0xFFFFFFFF } }
    next.xlk.trans.map (·.id) = [5] ∧ next.hap.waiting.length = 1 ∧ act.hap.waiting = [] ∧
    late.takesCopies = true ∧ joiner.role = roleJoining ∧ joiner.xlk.resync = true ∧ joiner.inRunQuiet = true ∧ joiner.xlk.applied = some 7 ∧
    sb.xlk.copyAt ≠ some (999998000000, 4) ∧ sb.takesCopies = true ∧ r0.takesCopies = false ∧ late.isStandby = true ∧ late.inRunQuiet = true ∧ late.xlk.copyAt = some (999998000000, 4) ∧
    999998000000 + late.framePeriod ≤ late.ns ∧ late.xlk.resync = true ∧ act.role = roleActive ∧ act.xlk.copyAt = some (999998000000, 4) ∧
    act.inRunQuiet = true ∧ (act.xlk.trans.find? (fun y => y.id == 5)).isSome = true ∧ ins.sme.install = some 4095 ∧ sb.paired = true ∧
    seqNewer 0x80000000 0 = false ∧ seqNewer 0xFFFFFFFF 0 = false ∧ (held.nslot 4095).fieldB.map (·.seq) = some 0xFFFFFFFF ∧ act.activePaired = true ∧
    HostMay act Reg.XLK_CMD 2 ∧ HostMay sb Reg.XLK_CMD 2 ∧ HostMay r0 Reg.XLK_CMD 4 ∧ r0.xlk.fwBusy = none := by unfold HostMay; decide +kernel

theorem witness_FirmwareBank :
    fwOk.inRunQuiet = true ∧ fwOk.xlk.fwBusy = some 64 ∧ fwOk.signErr fwStage 64 = 0 ∧ r0.signErr fwStage 4194304 ≠ 0 := by decide +kernel

/-- A JOINING module with the host-domain key of thirty-two bytes 9 in slot 7. -/
def joiner : State :=
  let s := paired 3 1
  (s.setKslot 7 { st := .active, type := 1, use := 1, key := List.replicate 32 9 }).put F.KST_DOMAIN_HOST 7

theorem witness_Joining :
    let s := joiner
    let jf : JoinFacts := { linkOk := true, fmt := 0, uhash := [], pid := 0 }
    let done (f : Nat) := { s.put F.XLK_STAT_READY 1 with xlk := { s.xlk with joinDone := true, readyAt := some f } }
    let act := let s := paired 1 3; { s.put F.XLK_STAT_READY 1 with xlk := { s.xlk with joined := false, resync := true } }
    let again (t : Nat) := { s with xlk := { s.xlk with retryAt := some t } }
    s.inRunQuiet = true ∧ s.role = roleJoining ∧ s.xlk.joinDone = false ∧ s.xlk.resync = false ∧ s.xlk.retryAt = none ∧ s.xlk.partner.map (·.role) = some roleActive ∧
    (s.keyFor (s.get F.KST_DOMAIN_HOST) 0).isSome = true ∧ jf.fmt = s.get F.XLK_FMT_OWN ∧ s.xlk.readyAt = none ∧
    jf.image = none ∧ ({ jf with linkOk := false } : JoinFacts).linkOk = false ∧ act.role = roleActive ∧ act.xlk.partner.map (·.role) = some roleJoining ∧
    act.flag F.XLK_CTL_JOINEN = true ∧ (act.put F.XLK_CTL_JOINEN 0).flag F.XLK_CTL_JOINEN = false ∧ (done 5).xlk.joinDone = true ∧
    (done 5).xlk.readyAt = some 5 ∧ 5 < (done 5).ns - (done 5).ns % (done 5).framePeriod ∧ (done 5).flag F.XLK_STAT_READY = true ∧
    act.xlk.joined = false ∧ act.xlk.resync = true ∧ act.flag F.XLK_STAT_READY = true ∧ (again 1000000000000).xlk.retryAt = some 1000000000000 ∧
    1000000000000 ≤ (again 1000000000000).ns ∧ (again 1000000000001).ns < 1000000000001 := by decide +kernel

/-- What `joiner` learns of a partner that answers right, whose active image is the one word 0. -/
def joinGood : JoinFacts :=
  { linkOk := true, fmt := 0, uhash := [], pid := 0, image := some [0],
    answer := challengeAnswer (List.replicate 32 9) joiner.newChallenge (Crypto.toBytes 8 0) (timeQ joiner.ns) }

theorem witness_joinAnswerAccepted : ∃ z, joiner.keyFor (joiner.get F.KST_DOMAIN_HOST) 0 = some z ∧
    answerOk z joiner.newChallenge (Crypto.toBytes 8 joinGood.pid) joinGood.answer (timeQ joiner.ns) = true :=
  ⟨List.replicate 32 9, by decide +kernel, by simp [answerOk, joinGood]⟩

theorem witness_joinImageRefused :
    joinGood.ihash ≠ joiner.rds (Reg.PEN_IHASH_A 0) 8 ∧ joinGood.image = some [0] ∧ (joiner.joinMeet joinGood).joinImage [0] = none := by
  have h : joiner.joinErr joinGood = 0 := by
    obtain ⟨z, hz, ha⟩ := witness_joinAnswerAccepted
    have hf : joinGood.fmt = joiner.get F.XLK_FMT_OWN := by decide +kernel
    have hl : joinGood.linkOk = true := rfl
    simp [State.joinErr, State.pairKey, hz, ha, hl, hf]
  have hm : joiner.joinMeet joinGood = (joiner.joinAnswer joinGood).learn joinGood := by simp [State.joinMeet, h]
  refine ⟨by decide +kernel, rfl, ?_⟩
  rw [hm]
  exact Option.isNone_iff_eq_none.mp (by decide +kernel)


/-! ## Power, hold-up and restarts -/

theorem witness_FeedsAndHold :
    let w := r0.get F.PHU_WARN_V
    let lost := { r0 with phu := { r0.phu with feedLost := 2 } }
    let warn := r0.put F.PHU_STAT_WARN 1
    let test := (r0.put (F.LOP_STAT_CODE 7) 8).put (F.LOP_STAT_STATE 7) 1
    (let b := r0.setSeam 31 { busyTo := 20001 }; b.ns + 20000 < (b.seam 31).busyTo) ∧
    (let b := { r0 with sru := { r0.sru with air := [{ at_ := 0, us := 21, chan := 0, band := none }] } }; ∃ p ∈ b.sru.air, b.ns + 20000 < p.at_ + p.us * 1000) ∧
    r0.inRunQuiet = true ∧ w = 3200 ∧ bit r0.phu.feedLost 1 = false ∧ r0.rateOk 0x003 0 1000000000 = true ∧ bit lost.phu.feedLost 1 = true ∧
    r0.get F.PHU_RESUME_V < 3401 ∧ r0.rateOk 0x001 0 1000000000 = true ∧ test.get (F.LOP_STAT_CODE 7) = 8 ∧ test.lopState 7 = 1 ∧
    (test.lslot 7).fin = none ∧ warn.flag F.PHU_STAT_WARN = true ∧ 2799 < r0.get F.PHU_SAVE_V ∧ r0.get F.PHU_SAVE_V ≤ 2800 ∧
    ({ r0 with mode := .reset } : State).mode = .reset ∧ r0.flag F.GLB_RSTCTL_WDTEN = true ∧ ({ r0 with mode := .hold } : State).inRunQuiet = false := by
  decide +kernel

theorem witness_SavesAndReturn :
    let hold (b : Bool) := { atNs r0 600000000000 with mode := .hold, phu := { r0.phu with saved := b, holdAt := some 599999000000 } }
    let x := (hold false).makeSave 1 5
    let two := { hold false with phu := { (hold false).phu with bank1 := some x } }
    let at_ := { atNs r0 600000000000 with phu := { r0.phu with psAt := 1 } }
    let wr := { r0 with phu := { r0.phu with writing := some x } }
    let due := { (atNs r0 60000000000).put F.PHU_CTL_HTAUTO 1 with phu := { r0.phu with htDone := false } }
    let busy := (due.put (F.LOP_STAT_STATE 0) 2)
    (hold false).mode = .hold ∧ (hold false).phu.saved = false ∧ two.newest = some x ∧ two.saveBank = 0 ∧ two.phu.bank1 = some x ∧
    (hold true).phu.saved = true ∧ at_.inRunQuiet = true ∧ at_.phu.writing = none ∧ at_.phu.psAt ≠ at_.gridAt at_.ns ∧
    at_.gridAt at_.ns % (at_.get F.PHU_PSAVE_SEC * 1000000000) = 0 ∧ wr.inRunQuiet = true ∧ wr.phu.writing = some x ∧ due.inRunQuiet = true ∧
    due.holdtestDue = true ∧ due.phu.tr + 60000000000 ≤ due.ns ∧ due.lopRunning 8 = false ∧ due.lopState 0 = 0 ∧ busy.lopState 0 ≠ 0 ∧ busy.lopState 1 = 0 ∧ r0.holdtestDue = false := by
  decide +kernel

theorem witness_StatesAndPersistence :
    let quiet := { r0 with mode := .quiet }
    let q (b : Bool) (t : Nat) := { atNs r0 1000000000 with phu := { r0.phu with qreq := some (b, t) } }
    let pw := { r0.put F.GLB_PSTAT_PBUSY 1 with phu := { r0.phu with pwrite := some { words := [], gain := [], aux := [] } } }
    let go := { r0 with hap := { r0.hap with restart := true } }
    r0.disagree (Reg.PHU_WARN + 4 * 2) = [] ∧
    ({ r0 with phu := { r0.phu with odd := [(Reg.PHU_WARN + 4 * 2, 1)] } } : State).disagree (Reg.PHU_WARN + 4 * 2) ≠ [] ∧
    HostMay r0 (Reg.PHU_WARN + 4 * 2) 3200 ∧ HostMay r0 (Reg.PHU_WARN + 4 * 2) 3199 ∧ HostMay r0 Reg.GLB_CMD 1 ∧ r0.isStandby = false ∧ r0.mode = .run ∧
    HostMay quiet Reg.GLB_CMD 2 ∧ quiet.mode = .quiet ∧ HostMay quiet Reg.GLB_CMD 1 ∧ (q true 1000000000).inRunQuiet = true ∧
    (q true 999999999).inRunQuiet = true ∧ 999999999 < (q true 999999999).gridAt 1000000000 ∧ (q true 1000000000).gridAt 1000000000 ≤ 1000000000 ∧ (q true 0).gridAt 1000000000 % 100000000 = 0 ∧ ({ slot := 0, mated := false } : RestartFacts).mated = false ∧ ({ slot := 0 } : RestartFacts).mated = true ∧
    HostMay r0 Reg.GLB_CMD 4 ∧ r0.flag F.GLB_PSTAT_PBUSY = false ∧ pw.flag F.GLB_PSTAT_PBUSY = true ∧ pw.phu.pwrite.isSome = true ∧ pw.inRunQuiet = true ∧
    r0.phu.pwrite = none ∧ HostMay r0 Reg.GLB_CMD (0x5253 * 65536 + 8) ∧ HostMay r0 Reg.GLB_CMD (0x5253 * 65536 + 16) ∧
    ({ r0 with mode := .reset } : State).mode = .reset ∧ go.inRunQuiet = true ∧ go.hap.restart = true ∧ go.xlk.trans = [] ∧ r0.hap.restart = false := by
  unfold HostMay; decide +kernel

/-! ## Host access -/

/-- Slot 7 holds the host-domain key of thirty-two bytes 9. -/
def host : State :=
  let s := (r0.setKslot 7 { st := .active, type := 1, use := 3, key := List.replicate 32 9 }).put F.KST_DOMAIN_HOST 7
  { s with hap := { s.hap with lastSid := 9 } }

/-- Session 9 in entry 7, and a set-up with session ID 9 pending. -/
def sess9 : HSess := { id := 9, ch := List.replicate 16 0, cm := List.replicate 16 0, slot := 7 }
def open9 : State := host.setSess 7 (some sess9)
def pend9 : HPend := { id := 9, ch := List.replicate 16 0, cm := List.replicate 16 0, tq := 0, at_ := 0, peer := {}, slot := 7 }
def wait9 : State := { host with hap := { host.hap with pend := [pend9] } }

/-- The session key of session 9, and the host's answer (R367, R444; both computed with Python's hmac). -/
def skey9 : List Nat :=
  [212, 43, 162, 74, 176, 224, 225, 19, 248, 223, 84, 188, 253, 78, 86, 109, 166, 66, 24, 231, 14, 186, 6, 156, 20, 193, 142, 220, 191, 109, 33, 101]
def answer9 : List Nat := [81, 54, 110, 233, 5, 194, 15, 131, 72, 113, 116, 227, 139, 26, 147, 42]

theorem test_sessionKey : open9.sessKey sess9 = some skey9 := by decide +kernel

theorem test_hostAnswer : (Crypto.hmac (List.replicate 32 9) (pend9.cm ++ pend9.ch ++ wait9.moduleId ++ Crypto.toBytes 8 pend9.tq)).take 16 = answer9 := by
  decide +kernel

def helloBytes : List Nat := headBytes 1 0 0 0 5 16 ++ List.replicate 16 3
def proveBytes : List Nat := headBytes 3 0 0 9 0 48 ++ List.replicate 32 0 ++ answer9
def closeBytes : List Nat :=
  let h := headBytes 0x20 1 0 9 6 0
  let c := Crypto.gcmSeal skey9 (gcmNonce 9 0 6) h []
  h ++ c.1 ++ c.2

theorem witness_SessionSetUp :
    let h := headOf helloBytes
    let p := headOf proveBytes
    let full := { host with hap := { host.hap with sess := (List.range 8).map fun n => (n, some { sess9 with id := n + 1 }) } }
    host.inRunQuiet = true ∧ 16 ≤ helloBytes.length ∧ h.typ = 1 ∧ h.ok helloBytes.length = true ∧ h.ok (helloBytes.length + 1) = false ∧ h.nops = 0 ∧
    h.prot = false ∧ h.len = 16 ∧ h.sid = 0 ∧ host.settle.hostKey.isSome = true ∧ host.settle.sessOpen = 0 ∧ host.settle.pendLive = [] ∧
    full.settle.sessOpen = 8 ∧ p.typ = 3 ∧ p.ok proveBytes.length = true ∧ p.nops = 0 ∧ p.prot = false ∧ p.len = 48 ∧
    wait9.settle.pendLive.find? (fun q => q.id == p.sid) = some pend9 ∧
    (wait9.settle.setupKey pend9.slot).isSome = true ∧ (proveBytes.drop 16).take 16 = pend9.ch ∧ ((proveBytes.drop 16).drop 16).take 16 = pend9.cm ∧
    (proveBytes.drop 16).drop 32 = answer9 ∧ wait9.settle.sess 0 = none := by decide +kernel

theorem witness_SessionClose :
    let h := headOf closeBytes
    host.inRunQuiet = true ∧ h.typ = 0x20 ∧ h.ok closeBytes.length = true ∧ h.nops = 0 ∧ h.prot = true ∧ h.sid = 9 ∧ open9.settle.sessIdx 9 = some 7 ∧
    open9.settle.sess 7 = some sess9 ∧ host.settle.sessIdx 9 = none ∧
    (Crypto.gcmOpen skey9 (gcmNonce h.sid 0 h.xid) (closeBytes.take 16) ((closeBytes.drop 16).take h.len) ((closeBytes.drop (16 + h.len)).take 16)).isSome
      = true := by decide +kernel

theorem witness_PortsAndCommands :
    let arp := (r0.put F.HAP_CTL_IPV4EN 1).wr Reg.HAP_IP4 0xC0A80001
    let net (p : Nat) := { r0.put F.HAP_IP4NET_PREFIX p with hap := { r0.hap with netcommit := true } }
    let sel := open9.put F.HAP_SSEL_INDEX 7
    let posted := { r0 with hap := { r0.hap with newPosted := some true } }
    r0.portsOn = true ∧ ({ r0 with mode := .keep } : State).mode = .keep ∧ r0.ownMac = 0 ∧ r0.vlanOk (List.replicate 14 0) = true ∧
    (List.replicate 1518 0).length ≤ 1518 ∧ ((List.replicate 20 0).drop 12).take 2 ≠ [0x81, 0x00] ∧
    (let d := List.replicate 12 0 ++ [0x81, 0, 0, 1, 0x81, 0, 0, 2]; (d.drop 12).take 2 = [0x81, 0x00] ∧ (d.drop 16).take 2 = [0x81, 0x00]) ∧
    r0.flag F.HAP_CTL_CHAIN = true ∧ (r0.put F.HAP_CTL_CHAIN 0).flag F.HAP_CTL_CHAIN = false ∧ arp.hasAddr false 0xC0A80001 = true ∧
    arp.hasAddr false 1 = false ∧ HostMay sel Reg.HAP_CMD 2 ∧ sel.sess (sel.get F.HAP_SSEL_INDEX) = some sess9 ∧ HostMay r0 Reg.HAP_CMD 4 ∧
    HostMay r0 Reg.HAP_CMD 1 ∧ (net 30).netDue = true ∧ (net 30).netOk = true ∧ ((net 31).put F.HAP_CTL_IPV4EN 1).netDue = true ∧
    ((net 31).put F.HAP_CTL_IPV4EN 1).netOk = false ∧ r0.netDue = false ∧ posted.hap.newPosted = some true ∧ posted.xlk.trans = [] := by
  unfold HostMay; decide +kernel

/-- A REQUEST of session 0 with the body `ops`. -/
def reqBytes (n xid : Nat) (ops : List Nat) : List Nat := headBytes 0x10 0 n 0 xid ops.length ++ ops

theorem witness_Requests :
    let read := [1, 0, 0, 0, 0, 0, 0, 0]
    let b := reqBytes 1 0xFFFFFFFF read
    let h := headOf b
    let s := { r0 with hap := { r0.hap with sess0 := { r0.hap.sess0 with cache := [(0xFFFFFFFF, [7])] } } }
    let old := { r0 with hap := { r0.hap with sess0 := { r0.hap.sess0 with cache := (List.range 64).map fun i => (i + 10, []) } } }
    r0.inRunQuiet = true ∧ h.typ = 0x10 ∧ h.ok b.length = true ∧ h.sid = 0 ∧ h.prot = false ∧ r0.settle.flag F.KST_CTL_OPEN = true ∧
    (r0.put F.KST_CTL_OPEN 0).settle.flag F.KST_CTL_OPEN = false ∧ s.settle.hap.sess0.cache.find? (fun e => e.1 == h.xid) = some (0xFFFFFFFF, [7]) ∧
    s.xlk.trans = [] ∧ s.hap.waiting = [] ∧ old.settle.hap.sess0.cache.find? (fun e => e.1 == 9) = none ∧ cacheStale old.settle.hap.sess0.cache 9 = true ∧
    r0.settle.hap.sess0.cache = [] ∧ h.nops = 1 ∧ (parseOps 1 (b.drop 16)).isSome = true ∧ parseOps 2 (b.drop 16) = none ∧
    ((parseOps 1 (b.drop 16)).map fun l => decide (respSize false l ≤ 1440)) = some true ∧
    ((parseOps 2 [5, 255, 1, 0, 0, 4, 0, 0, 5, 255, 1, 0, 0, 4, 0, 0]).map fun l => respSize false l) = some (16 + 2 * (4 + 4 * 255)) := by decide +kernel

theorem witness_RegisterWrites :
    let sb := r0.put F.GLB_ROLE_ROLE 2
    let s1 := { r0 with hap := { r0.hap with posted := [(31, [(Reg.SME_PCAP, 5)], true, 0)] } }
    let odd := { r0 with phu := { r0.phu with odd := [(Reg.SME_PCAP, 1)] } }
    let busy (n : Nat) := { r0 with xlk := { r0.xlk with trans := [{ id := 5, resp := [], peer := {} }] }
                                    hap := { r0.hap with waiting := List.replicate n ({}, []) } }
    (busy 31).xlk.trans ≠ [] ∧ (busy 31).hap.waiting.length < 32 ∧ 32 ≤ (busy 32).hap.waiting.length ∧ (busy 1).inRunQuiet = true ∧
    r0.disagree Reg.SME_PCAP = [] ∧ odd.disagree Reg.SME_PCAP ≠ [] ∧ HostMay odd Reg.SME_PCAP 5 ∧ r0.disagree Reg.GLB_ROLE = [] ∧
    Reg.SME_PCAP ≠ Reg.TBU_CMD ∧ placeAt 0x100 = none ∧ 2 ≤ sb.get F.GLB_ROLE_ROLE ∧ placeAt Reg.SME_PCAP ≠ none ∧ standbyWritable Reg.SME_PCAP 5 = false ∧
    HostMay r0 progBase 5 ∧ placeAt progBase = some (.window .prog) ∧ HostMay r0 0xC00BC 5 ∧ regRow 0xC00BC = none ∧ HostMay r0 Reg.SME_PCAP 5 ∧
    HostMay r0 Reg.XLK_STAT 5 ∧ HostMay r0 Reg.GLB_ROLE 2 ∧ s1.inRunQuiet = true ∧
    s1.hap.posted.find? (fun q => q.1 == 31) = some (31, [(Reg.SME_PCAP, 5)], true, 0) ∧ r0.hap.posted.find? (fun q => q.1 == 31) = none := by
  unfold HostMay; decide +kernel

/-! ## The module as a whole -/

theorem witness_StepTakesTheFrontCommand :
    let s := { r0 with pending := [.presentOpen, .phuWarnEnd 0] }
    let ready := { r0 with hap := { r0.hap with waiting := [({}, [])] } }
    r0.rtc.held = none ∧ r0.xlk.fenceAt = none ∧ ready.hostReady = true ∧ r0.hostReady = false ∧ ready.pending = [] ∧ ready.inRunQuiet = true ∧ s.pending = .presentOpen :: [.phuWarnEnd 0] ∧ r0.pending = [] ∧ ({ r0 with mode := .keep } : State).inRunQuiet = false ∧ r0.pen.cur = none ∧
    (withBob (run1 7)).pen.cur = some 3 := by decide +kernel

theorem witness_BobbinWordsReadBack :
    (Instr.sense 31 14 15 255).bobbin? = some 31 ∧ (Instr.sense 31 14 15 255).legal = true ∧ (Instr.br 3 8 (-1)).legal = true := by decide +kernel

theorem witness_EveryCommandCompletes :
    let s := atNs r0 600000000000
    let a := progAddr 0 0
    let p := { r0 with badPar := [a], bobs := [(3, { st := .runnable, parked := some a })] }
    let own := r0.put (F.ZON_CTL_OWNER 510) 1
    s.inRunQuiet = true ∧ s.isTick s.gridNow = true ∧ s.pen.lastCommit ≠ some s.gridNow ∧ s.pen.tickAt ≠ some s.gridNow ∧
    s.lastFrame ≠ some s.gridNow ∧ (p.bob 3).parked = some a ∧ p.parBad a = true ∧ isEngineMem a = true ∧
    s.phu.tr + (s.phu.scrubP + 1) * 600000000000 ≤ s.ns ∧ HostMay r0 (nodeAddr 4095 0) 511 ∧ HostMay own (Reg.ZON_TGT 510 3) 7 ∧
    own.get (F.ZON_CTL_OWNER 510) = 1 ∧ HostMay r0 (Reg.ZON_CTL 511) 0xF := by unfold HostMay; decide +kernel

theorem witness_StepKeepsTheStoreCanonical : r0.memOk = true ∧ (r0.put F.SME_PCAP_PCAP 5).memOk = true := by decide +kernel

/-! ## Datagrams that wait, QUIET over a sag, changes beyond 4,096 -/

/-- R443: while one datagram waits for the standby the next 32 wait, and the one after them is dropped and counted. -/
theorem test_33rd_datagram_is_dropped :
    let busy := { r0 with xlk := { r0.xlk with trans := [{ id := 5, resp := [7], peer := {} }] } }
    let b := List.replicate 4 (1 : BitVec 8) ++ List.replicate 12 0
    let hello := (1 : BitVec 8) :: 1 :: b.drop 2
    let n (k : Nat) := (List.range k).foldl (fun s _ => after (.hello {} hello) s) busy
    (n 32).hap.waiting.length = 32 ∧ (n 32).get F.HAP_ERR1_QDROP = 0 ∧ (n 33).hap.waiting.length = 32 ∧ (n 33).get F.HAP_ERR1_QDROP = 1 ∧
    (after (.transactionAck 5) (n 2)).hap.waiting = [] := by decide +kernel

/-- R470: a module that entered HOLD from QUIET saves that state. -/
theorem test_quiet_is_saved :
    let s := after (.holdEntry 2700) { r0 with mode := .quiet }
    s.mode = .hold ∧ s.phu.wasQuiet = true ∧ (({ r0 with mode := .hold, phu := { r0.phu with wasQuiet := true } } : State).makeSave 2 5).quiet = true := by
  decide +kernel

/-- R418: with a standby a latch takes T_used of slot 0 first; with one change left the ageing factor waits. -/
theorem test_latch_defers_changes :
    let l : Lum := { tRep := some 800, age := Vector.replicate 8 5 }
    let x := latchLums 4 1 [(0, l), (1, l)]
    x.map (fun p => (p.2.tUsed, p.2.ageUsed.toList.headD 0)) = [(800, 65536), (400, 65536)] ∧
    (latchLums 4 99 x).map (fun p => (p.2.tUsed, p.2.ageUsed.toList.headD 0)) = [(800, 5), (800, 5)] := by decide +kernel

end Sys2Proof.Tests
end

/-!
# The word store stays in its canonical form (O59)

One lemma for each function of the model that makes a state: it keeps the form.  Words enter the store through `State.wr` alone (and
through `spSet` and a filter where a restart builds the store), so the lemmas follow the functions' own composition up to `exec`, `idle`
and `step`, in the order of the model's files.  The rules of the first part stand for the shapes that the functions are written in.
-/

namespace Sys2Proof.Machine

/-- The word store of a state is in its canonical form (assumption log 2). -/
def Canonical (s : State) : Prop := s.memOk = true

namespace Canonical

variable {s : State}

/-! ## Rules for the shapes that the model's definitions are built of -/

/-- An update that leaves the store alone. -/
theorem of_mem {t : State} (h : Canonical s) (e : t.mem = s.mem) : Canonical t := by
  unfold Canonical State.memOk at *
  rw [e]
  exact h

/-- `of_mem` for new event queues: about a variable, so that no proof has to unfold what the queues are added to. -/
theorem withEvq {e : Evq} (h : Canonical s) : Canonical { s with evq := e } := .of_mem h rfl

theorem ite {c : Prop} {_ : Decidable c} {a b : State} (ha : Canonical a) (hb : Canonical b) :
    Canonical (if c then a else b) := by
  split
  · exact ha
  · exact hb

/-- A conditional that adds to a state's changes. -/
theorem when {c : Prop} {_ : Decidable c} {t : State} (h : Canonical s) (ht : Canonical s → Canonical t) :
    Canonical (if c then t else s) := .ite (ht h) h

theorem whenNot {c : Prop} {_ : Decidable c} {t : State} (h : Canonical s) (ht : Canonical s → Canonical t) :
    Canonical (if c then s else t) := .ite h (ht h)

theorem foldl {α : Type} {f : State → α → State} {l : List α} (hf : ∀ t x, Canonical t → Canonical (f t x)) (h : Canonical s) :
    Canonical (l.foldl f s) := by
  induction l generalizing s with
  | nil => exact h
  | cons x l ih => exact ih (hf s x h)

/-- A pass that carries a state and a value with it. -/
theorem foldl_fst {α β : Type} {f : State × β → α → State × β} {l : List α} (hf : ∀ x a, Canonical x.1 → Canonical (f x a).1)
    {x : State × β} (h : Canonical x.1) : Canonical (l.foldl f x).1 := by
  induction l generalizing x with
  | nil => exact h
  | cons a l ih => exact ih (hf x a h)

theorem forEach {α : Type} {f : α → State → State} {l : List α} (hf : ∀ x t, Canonical t → Canonical (f x t)) (h : Canonical s) :
    Canonical (forEach f l s) := foldl (fun t x => hf x t) h

theorem forUp {f : Nat → State → State} {n : Nat} (hf : ∀ i t, Canonical t → Canonical (f i t)) (h : Canonical s) :
    Canonical (forUp f n s) := foldl (fun t i => hf i t) h

/-! ## Writes of the store -/

theorem wr {a : Nat} {w : Word} (h : Canonical s) : Canonical (s.wr a w) := spWf_spSet _ _ _ _ h

theorem wrs {ws : List Word} {a : Nat} (h : Canonical s) : Canonical (s.wrs a ws) := by
  induction ws generalizing s a with
  | nil => exact h
  | cons w ws ih => exact ih h.wr

/-! ## Machine/Ops.lean -/

theorem put {f : Fld} {v : Nat} (h : Canonical s) : Canonical (s.put f v) := h.wr

theorem sput {f : Fld} {v : Int} (h : Canonical s) : Canonical (s.sput f v) := h.put

theorem setFlag {f : Fld} {b : Bool} (h : Canonical s) : Canonical (s.setFlag f b) := h.put

theorem inc {f : Fld} (h : Canonical s) : Canonical (s.inc f) := h.put

theorem incSat {f : Fld} {n : Nat} (h : Canonical s) : Canonical (s.incSat f n) := h.put

theorem stage {a mask v : Nat} (h : Canonical s) : Canonical (s.stage a mask v) := .of_mem h rfl

theorem commitWord {a : Nat} (h : Canonical s) : Canonical (s.commitWord a) := .of_mem h.wr rfl

theorem unstage {a : Nat} (h : Canonical s) : Canonical (s.unstage a) := .of_mem h rfl

theorem parFix {a : Nat} (h : Canonical s) : Canonical (s.parFix a) := .of_mem h rfl

theorem wrTime {a t : Nat} (h : Canonical s) : Canonical (s.wrTime a t) := h.wr.wr.wr

theorem setBob {n : Nat} {b : Bobbin} (h : Canonical s) : Canonical (s.setBob n b) := .of_mem h rfl

theorem emit {m : OutMsg} (h : Canonical s) : Canonical (s.emit m) := .of_mem h rfl

theorem answer {c : Nat} (h : Canonical s) : Canonical (s.answer c) := .of_mem h rfl

theorem takeFree (h : Canonical s) : Canonical s.takeFree := .of_mem h rfl

/-! ## Machine/Events.lean -/

theorem badDone {n : Nat} (h : Canonical s) : Canonical (s.badDone n) := (s.badDone_records n).wf h

theorem journal {r : EvRec} (h : Canonical s) : Canonical (s.journal r).1 := (s.journal_records r).wf h

theorem setDraining {l : List QRec} (h : Canonical s) : Canonical (s.setDraining l) := .ite (.of_mem h rfl) (.of_mem h rfl)

theorem setFull (h : Canonical s) : Canonical s.setFull := s.setFull_records.wf h

theorem watermark {n : Nat} (h : Canonical s) : Canonical (s.watermark n).1 := (s.watermark_records n).wf h

theorem rateMark {code unit : Nat} (h : Canonical s) : Canonical (s.rateMark code unit) := .of_mem h rfl

theorem enqueue {q : QRec} (h : Canonical s) : Canonical (s.enqueue q).1 := (s.enqueue_records q).wf h

theorem relay {r : EvRec} (h : Canonical s) : Canonical (s.relay r) := .of_mem h rfl

theorem raiseAll {n : Nat} {es : List Ev} (h : Canonical s) : Canonical (raiseAll n es s) := (raiseAll_records n es s).wf h

theorem raiseEv {e : Ev} (h : Canonical s) : Canonical (s.raiseEv e) := (s.raiseEv_records e).wf h

theorem raise {c u : Nat} {p : List Nat} (h : Canonical s) : Canonical (s.raise c u p) := (s.raise_records c u p).wf h

theorem raiseSkip {c u k : Nat} {p : List Nat} (h : Canonical s) : Canonical (s.raiseSkip c u k p) :=
  (s.raiseSkip_records c u k p).wf h

theorem raiseRated {g c u k : Nat} {p : List Nat} (h : Canonical s) : Canonical (s.raiseRated g c u p k) :=
  (s.raiseRated_records g c u p k).wf h

/-! ## Machine/Gate.lean -/

theorem vote {a : Nat} (h : Canonical s) : Canonical (s.vote a) := .forEach (fun _ _ k => k.incSat) (.of_mem h rfl)

theorem voteAll (h : Canonical s) : Canonical s.voteAll := .forEach (fun _ _ k => k.vote) h

theorem roleAnswer {a v : Nat} (h : Canonical s) : Canonical (s.roleAnswer a v) := .answer (.ite h.setFlag.raiseRated h)

theorem hostWr {a v : Nat} {op : State → State} (hop : ∀ t, Canonical t → Canonical (op t)) (h : Canonical s) :
    Canonical (s.hostWr a v op) :=
  .ite h (.ite h.roleAnswer (hop s h))

theorem stagePtr {f : Fld} {limit v : Nat} (h : Canonical s) : Canonical (s.stagePtr f limit v) := .answer (.ite h h.put)

theorem stageDat {f : Fld} {base limit : Nat} {busy : Bool} {v : Word} (h : Canonical s) :
    Canonical (s.stageDat f base limit busy v) :=
  .ite h.answer h.wr.put.answer

/-! ## Machine/Dia.lean -/

theorem setChan {i k : Nat} {c : Chan} (h : Canonical s) : Canonical (s.setChan i k c) := .of_mem h rfl

theorem setLum {i : Nat} {l : Lum} (h : Canonical s) : Canonical (s.setLum i l) := .of_mem h rfl

theorem unfit {i : Nat} (h : Canonical s) : Canonical (s.unfit i) := .forUp (fun _ _ k => .ite k k.setChan) h

theorem lampEvent {code slot : Nat} {pay : List Nat} (h : Canonical s) : Canonical (s.lampEvent code slot pay) :=
  .ite (.raise (.of_mem h rfl)) (.of_mem h.incSat.setFlag rfl)

theorem recordState {i k frame : Nat} {new : ChState} (h : Canonical s) : Canonical (s.recordState i k frame new) := by
  unfold State.recordState
  dsimp only
  split
  · exact h.setChan
  · split
    · exact h.setChan.wrTime.lampEvent
    · exact h.setChan.wrTime.lampEvent
    · exact h.setChan.wrTime.lampEvent
    · exact .when h.setChan.wrTime (·.lampEvent)

theorem stateReport {i k v frame : Nat} (h : Canonical s) : Canonical (s.stateReport i k v frame) := by
  unfold State.stateReport
  split
  · exact h
  · exact .ite h (.whenNot h.setChan (fun k => .ite (.ite k.setChan.setChan.setFlag.raise k.setChan.recordState) k.recordState))

theorem faultCheck {i bits : Nat} (h : Canonical s) : Canonical (s.faultCheck i bits) :=
  .forUp (fun _ _ k => .ite (.when k.setChan (fun k' => k')) k) h

theorem diaClr (h : Canonical s) : Canonical s.diaClr := h.setChan.answer

theorem diaClrAll (h : Canonical s) : Canonical s.diaClrAll := .answer (.forEach (fun _ _ k => k.setChan) h)

theorem unvAged {i k : Nat} (h : Canonical s) : Canonical (s.unvAged i k) := .ite h.setChan.setFlag.raise h

/-! ## Machine/Sense.lean -/

theorem noteSense {src q v t : Nat} (h : Canonical s) : Canonical (s.noteSense src q v t) := .of_mem h rfl

theorem forgetSource {src : Nat} (h : Canonical s) : Canonical (s.forgetSource src) := .of_mem h rfl

/-! ## Machine/Zones.lean -/

theorem setZstage {z : Nat} {x : ZStage} (h : Canonical s) : Canonical (s.setZstage z x) := .of_mem h rfl

theorem setZtarget {z : Nat} {v : VReg} (h : Canonical s) : Canonical (s.setZtarget z v) := .forUp (fun _ _ k => k.wr) h

theorem stageBands {z : Nat} {v : VReg} (h : Canonical s) : Canonical (s.stageBands z v) := h.setZstage

theorem stageMode {z : Nat} {m : Bool} (h : Canonical s) : Canonical (s.stageMode z m) := h.setZstage

theorem ownerEvent {z : Nat} (h : Canonical s) : Canonical (s.ownerEvent z) := h.raiseRated

theorem zset {z : Nat} {v : VReg} (h : Canonical s) : Canonical (s.zset z v) := .ite h (.ite h.ownerEvent h.stageBands)

theorem zmode {z : Nat} {m : Bool} (h : Canonical s) : Canonical (s.zmode z m) := .ite h (.ite h.ownerEvent h.stageMode)

theorem commitZone {z : Nat} (h : Canonical s) : Canonical (s.commitZone z) := by
  unfold State.commitZone
  refine .setZstage ?_
  split
  · exact .setFlag (.ite h h.setZtarget)
  · exact .ite h h.setZtarget

theorem notePrev (h : Canonical s) : Canonical s.notePrev := .of_mem h rfl

theorem commitSlot {i z : Nat} (h : Canonical s) : Canonical (s.commitSlot i z) := .ite h h.put.put.inc

theorem commitAll {c : Nat} (h : Canonical s) : Canonical (s.commitAll c) := by
  unfold State.commitAll
  refine .of_mem ?_ rfl
  refine .forEach (fun _ _ k => ?_) (.forEach (fun _ _ k => k.commitZone) h.notePrev)
  split
  · exact k.commitSlot
  · exact k

theorem zonTgtWrite {z k v : Nat} (h : Canonical s) : Canonical (s.zonTgtWrite z k v) :=
  .whenNot h.answer (fun k => .ite k h.setZstage.answer)

theorem zonCtlWrite {z v : Nat} (h : Canonical s) : Canonical (s.zonCtlWrite z v) :=
  .answer (.put (.whenNot (.when (.when h.setFlag (·.setZstage)) (·.stageMode)) (·.put)))

theorem nodeZoneWrite {i v : Nat} (h : Canonical s) : Canonical (s.nodeZoneWrite i v) := .ite h.raise.answer (.answer (.of_mem h rfl))

/-! ## Machine/Bobbin.lean -/

theorem endGroup {n : Nat} (h : Canonical s) : Canonical (s.endGroup n) := .ite (.of_mem h rfl) h.setBob

theorem exhaust {n : Nat} (h : Canonical s) : Canonical (s.exhaust n) := h.setBob.incSat.raiseRated

theorem groupStep {n : Nat} (h : Canonical s) : Canonical (s.groupStep n) :=
  .whenNot h.endGroup (fun k => .when k (fun k => .ite k (.of_mem h rfl)))

theorem retire {n cost : Nat} (h : Canonical s) : Canonical (s.retire n cost) :=
  .groupStep (.ite (.exhaust (.of_mem h rfl)) (.of_mem h rfl))

theorem faultBob {n code : Nat} {w : Word} (h : Canonical s) : Canonical (s.faultBob n code w) := h.setBob.raise.endGroup

theorem park {n a : Nat} (h : Canonical s) : Canonical (s.park n a) := h.setBob.endGroup

theorem wakeSig {n : Nat} (h : Canonical s) : Canonical (s.wakeSig n) := .ite (.when h.setBob (·.exhaust)) h

theorem bobControls {n : Nat} (h : Canonical s) : Canonical (s.bobControls n) := h.setBob

theorem endService (h : Canonical s) : Canonical s.endService := by
  unfold State.endService
  split
  · exact h.endGroup
  · exact h

theorem nextGroup (h : Canonical s) : Canonical s.nextGroup := by
  unfold State.nextGroup
  extract_lets s1 s2 s3
  have h2 : Canonical s2 := .forUp (fun _ _ k => k.bobControls) h.endService
  clear_value s2
  have h3 : Canonical s3 := .forUp (fun _ _ k => k.wakeSig) h2
  clear_value s3
  refine .ite ?_ h2
  split
  · exact .of_mem h3 rfl
  · exact h3

theorem groupBoundary (h : Canonical s) : Canonical s.groupBoundary := .ite h.nextGroup h

theorem latchInputs {t : Nat} (h : Canonical s) : Canonical (s.latchInputs t) :=
  .forUp (fun _ _ k => k.setBob) (.takeFree (.of_mem h rfl))

theorem releaseWaitK {n t : Nat} (h : Canonical s) : Canonical (s.releaseWaitK n t) := .ite (.when h.setBob (fun k => k)) h

theorem releaseWaitT {n t : Nat} (h : Canonical s) : Canonical (s.releaseWaitT n t) := .ite h.setBob h

theorem tickUsed {n : Nat} (h : Canonical s) : Canonical (s.tickUsed n) := h.put.setBob

theorem tickEnd {n : Nat} (h : Canonical s) : Canonical (s.tickEnd n) := .when h.tickUsed (·.incSat.raiseRated)

theorem refill {n : Nat} (h : Canonical s) : Canonical (s.refill n) := h.setBob

theorem tickStart {t : Nat} (h : Canonical s) : Canonical (s.tickStart t) := by
  unfold State.tickStart
  extract_lets s0 s1 _ _ s2 s3 _ s3r s4 s5
  have h0 : Canonical s0 := h.endService
  clear_value s0
  have h1 : Canonical s1 := .ite h0 (.forUp (fun _ _ k => k.tickEnd) h0)
  clear_value s1
  have h2 : Canonical s2 := .of_mem h1.put rfl
  clear_value s2
  have h3 : Canonical s3 := h2.latchInputs
  clear_value s3
  have h3r : Canonical s3r := .of_mem h3 rfl
  clear_value s3r
  have h4 : Canonical s4 := .forUp (fun _ _ k => k.releaseWaitK) h3r
  clear_value s4
  have h5 : Canonical s5 := .forUp (fun _ _ k => k.releaseWaitT) h4
  clear_value s5
  exact .ite h (.ite (.forUp (fun _ _ k => k.refill) h5) h3)

theorem tickChange {t : Nat} (h : Canonical s) : Canonical (s.tickChange t) := .ite (.of_mem h rfl) h

theorem loadBobbin {a n : Nat} (h : Canonical s) : Canonical (s.loadBobbin a n) := h.put.put.put.put.put.setBob

theorem applyInit {a k d : Nat} (h : Canonical s) : Canonical (s.applyInit a k d) := by
  induction d generalizing s k with
  | zero => exact h
  | succ d ih => exact ih (.forUp (fun _ _ k => k.wr.parFix) h)

theorem startImage (h : Canonical s) : Canonical s.startImage := .applyInit (.forUp (fun _ _ k => k.loadBobbin) h)

theorem swapIds (h : Canonical s) : Canonical s.swapIds := .forUp (fun _ _ k => k.wr.wr) h.wr.wr

theorem swapNow {t : Nat} (h : Canonical s) : Canonical (s.swapNow t) := by
  unfold State.swapNow
  extract_lets old se s0 s1 _ s2 s3 s4
  have h0 : Canonical s0 := .ite h.endService (.forUp (fun _ _ k => k.tickUsed) h.endService)
  clear_value s0
  have h1 : Canonical s1 := h0.swapIds.put.put
  clear_value s1
  have h2 : Canonical s2 := .of_mem h1 rfl
  clear_value s2
  have h4 : Canonical s4 := h2.startImage.setFlag.setFlag
  clear_value s4
  exact h4.tickStart.raise

theorem penSwap (h : Canonical s) : Canonical s.penSwap :=
  .ite h.answer (.ite h.setFlag.raise.answer (.ite h.setFlag.raise.answer (.ite h.setFlag.raise.answer (.answer (.of_mem h.setFlag
    rfl)))))

theorem penDisarm (h : Canonical s) : Canonical s.penDisarm := .answer (.ite h.setFlag.setFlag h)

/-! ## Machine/Mix.lean -/

theorem copyRec {src dst : Nat} (h : Canonical s) : Canonical (s.copyRec src dst) := .forUp (fun _ _ k => k.wr.parFix) h

theorem installRec {i : Nat} (h : Canonical s) : Canonical (s.installRec i) := .unfit (.when h.copyRec.setLum (·.put))

theorem reloadRec {i : Nat} (h : Canonical s) : Canonical (s.reloadRec i) := h.copyRec.setLum.unfit

theorem installPending (h : Canonical s) : Canonical s.installPending := by
  unfold State.installPending
  split
  · exact .of_mem h.installRec rfl
  · exact h

theorem invalidate {i : Nat} (h : Canonical s) : Canonical (s.invalidate i) := .raise (.setFlag (.of_mem h rfl))

theorem repairRec {i : Nat} (h : Canonical s) : Canonical (s.repairRec i) := .ite h.copyRec.incSat.raise h.invalidate

theorem scrubRec {p : Nat × Lum} (h : Canonical s) : Canonical (s.scrubRec p) := .ite h.incSat.repairRec h

theorem calScrub (h : Canonical s) : Canonical s.calScrub := .ite (.forEach (fun _ _ k => k.scrubRec) (.of_mem h rfl)) h

theorem countStale (h : Canonical s) : Canonical s.countStale := .when h.put (·.raise)

theorem ageUpdate {i k code meas t : Nat} (h : Canonical s) : Canonical (s.ageUpdate i k code meas t) :=
  .ite h (.when h.setLum (·.setLum.inc.raise))

theorem ageingSave (h : Canonical s) : Canonical s.ageingSave := .ite (.of_mem h rfl) (.of_mem h rfl)

theorem ageRestore (h : Canonical s) : Canonical s.ageRestore := by
  unfold State.ageRestore
  dsimp only
  split
  · exact .forEach (fun _ _ k => k.setLum) h.put
  · exact h.put.raise

theorem latchSolve {o : Nat} (h : Canonical s) : Canonical (s.latchSolve o) := by
  unfold State.latchSolve
  exact .of_mem h rfl

theorem frameLum {lt : Latched} {faults : List SolveFault} {li : LumIn} (h : Canonical s) :
    Canonical (s.frameLum lt faults li).1 := by
  unfold State.frameLum
  dsimp only
  split
  · exact h.setLum
  · split
    · exact h.setLum
    · split
      · exact h.setLum.incSat.raiseRated
      · exact h.setLum

theorem frameLums {lt : Latched} {faults : List SolveFault} {l : List LumIn} (h : Canonical s) :
    Canonical (s.frameLums lt faults l).1 := by
  induction l generalizing s with
  | nil => exact h
  | cons li l ih => exact ih h.frameLum

theorem zoneReport {ls : List CapLum} {cz : CapZone} {sm : Nat} (h : Canonical s) : Canonical (s.zoneReport ls cz sm) :=
  .of_mem h.setFlag.setFlag.setFlag.setFlag.setFlag.setFlag.setFlag.put rfl

theorem zoneClear {z : Nat} (h : Canonical s) : Canonical (s.zoneClear z) := .of_mem h.put rfl

theorem mcap {pm sm : Nat} (h : Canonical s) : Canonical (s.mcap pm sm) := .when h.setFlag (·.raise)

theorem noteMismatch {lane : Nat} (h : Canonical s) : Canonical (s.noteMismatch lane) := .of_mem h.incSat rfl

theorem noteFault {lt : Latched} {f : SolveFault} (h : Canonical s) : Canonical (s.noteFault lt f) := by
  unfold State.noteFault
  split
  · exact .when h.noteMismatch (·.noteMismatch)
  · exact h

theorem keepGood {old : State} (h : Canonical s) : Canonical (s.keepGood old) := .of_mem h rfl

theorem repairLatched {lt : Latched} (h : Canonical s) : Canonical (s.repairLatched lt) :=
  .forEach (fun _ _ k => .ite k.repairRec k) h

theorem solveLatched {faults : List SolveFault} {capFails cycles : Nat} (h : Canonical s) :
    Canonical (s.solveLatched faults capFails cycles) := by
  unfold State.solveLatched
  split
  · exact h
  · exact .ite (.of_mem (.raise (.keepGood (.frameLums (.forEach (fun _ _ k => k.noteFault) h)))) rfl) (.of_mem (.mcap (.put (.put
      (.put (.put (.forEach (fun _ _ k => k.zoneReport) (.forEach (fun _ _ k => k.zoneClear) (.frameLums (.forEach (fun _ _ k =>
      k.noteFault) h))))))))) rfl)

theorem solveComplete {faults : List SolveFault} {capFails cycles : Nat} (h : Canonical s) :
    Canonical (s.solveComplete faults capFails cycles) := by
  unfold State.solveComplete
  split
  · exact h
  · split
    · exact h
    · exact h.repairLatched.solveLatched

theorem laneOut {k : Nat} (h : Canonical s) : Canonical (s.laneOut k) := .ite (.ite (.raise (.put (.of_mem h rfl))) (.of_mem h rfl)) h

theorem lanesAtFrame (h : Canonical s) : Canonical s.lanesAtFrame :=
  .when (.forUp (fun _ _ k => k.laneOut) h) (fun k => .of_mem k.put rfl)

/-! ## Machine/Cce.lean -/

theorem setLoop {z : Nat} {l : Loop} (h : Canonical s) : Canonical (s.setLoop z l) := .of_mem h rfl

theorem latchLoops (h : Canonical s) : Canonical s.latchLoops := .of_mem h rfl

theorem loopEvent {code z : Nat} {outer : Bool} {cause : Nat} (h : Canonical s) : Canonical (s.loopEvent code z outer cause) :=
  h.raiseRated

theorem loopOpen {z t : Nat} (h : Canonical s) : Canonical (s.loopOpen z t) := .whenNot h.put (·.setFlag.setLoop)

theorem fallback {z t cause : Nat} {outer : Bool} (h : Canonical s) : Canonical (s.fallback z t cause outer) :=
  h.put.loopOpen.setFlag.loopEvent

theorem staleTrip {z t : Nat} (h : Canonical s) : Canonical (s.staleTrip z t) := h.setFlag.incSat.setFlag.loopEvent.fallback

theorem rampStep {z t : Nat} (h : Canonical s) : Canonical (s.rampStep z t) := .ite (.when h.put (·.setFlag)) h

theorem feRelease {z : Nat} {outer : Bool} (h : Canonical s) : Canonical (s.feRelease z outer) := .whenNot h.setLoop (·.loopEvent)

theorem feReleaseAll {z : Nat} (h : Canonical s) : Canonical (s.feReleaseAll z) := .when (.ite h.feRelease h) (·.feRelease)

theorem feTrip {z t : Nat} {outer : Bool} (h : Canonical s) : Canonical (s.feTrip z t outer) :=
  .when h.setLoop.incSat.setFlag.loopEvent (·.fallback)

theorem feStep {z t dt : Nat} {e : Int} {outer : Bool} (h : Canonical s) : Canonical (s.feStep z t dt e outer) :=
  .ite (.when h.setLoop (·.feRelease)) (.when h.setLoop (·.feTrip))

theorem enterMode {z t : Nat} (h : Canonical s) : Canonical (s.enterMode z t) := .ite h (.ite h.loopOpen h.setLoop.put.setFlag)

theorem measureStep {z t : Nat} (h : Canonical s) : Canonical (s.measureStep z t) := by
  unfold State.measureStep
  dsimp only
  split
  · exact h
  · exact h.setLoop

theorem takeSample {z t : Nat} (h : Canonical s) : Canonical (s.takeSample z t) := h.setLoop

theorem staleCheck {z t : Nat} {isNew : Bool} (h : Canonical s) : Canonical (s.staleCheck z t isNew) :=
  .ite (.ite h.setFlag (.ite h.staleTrip h)) (.ite h.setFlag h)

theorem prepLoop {z t : Nat} (h : Canonical s) : Canonical (s.prepLoop z t) :=
  .ite h (.when (.when (.when h.takeSample.staleCheck (·.enterMode)) (·.setLoop)) (·.measureStep))

theorem outerRun {z t : Nat} (h : Canonical s) : Canonical (s.outerRun z t) := .ite h (.feStep (.whenNot h.setLoop (·.put.setFlag)))

theorem innerRun {z t : Nat} (h : Canonical s) : Canonical (s.innerRun z t) := by
  unfold State.innerRun
  dsimp only
  split
  · exact h
  · split
    · exact h.setLoop
    · split
      · exact h.setLoop.put.setLoop.put
      · exact .feStep (.whenNot (.when h.setLoop.put.setLoop (·.put)) (·.put.setFlag.put))

theorem runLoops {t : Nat} (h : Canonical s) : Canonical (s.runLoops t) :=
  .when (.latchLoops (.ite (.forUp (fun _ _ k => k.rampStep) h) h)) (fun k => .forUp (fun _ _ k => k.innerRun) (.forUp (fun _ _ k =>
    k.outerRun) (.forUp (fun _ _ k => k.prepLoop) k)))

theorem lctlWrite {z v : Nat} (h : Canonical s) : Canonical (s.lctlWrite z v) :=
  .ite h.answer (.answer (.put (.ite h h.put.feReleaseAll)))

theorem cceCommit (h : Canonical s) : Canonical s.cceCommit := by
  unfold State.cceCommit
  refine .answer ?_
  refine .of_mem ?_ rfl
  refine .forEach (fun _ _ k => ?_) h
  split
  · exact k.wr
  · exact k

theorem dliReset (h : Canonical s) : Canonical s.dliReset := h.setLoop.answer

theorem zonSrcWrite {z v : Nat} (h : Canonical s) : Canonical (s.zonSrcWrite z v) := h.put.setLoop.answer

/-! ## Machine/Evq.lean -/

theorem raiseMore {p : State × List Ev} (h : Canonical p.1) : Canonical (State.raiseMore p) := h.raiseAll

theorem setReadList {l : List QRec} (h : Canonical s) : Canonical (s.setReadList l) := .ite h.setDraining (.of_mem h rfl)

theorem popLatch {ws : List Word} (h : Canonical s) : Canonical (s.popLatch ws) := h.wrs

theorem pop0 (h : Canonical s) : Canonical s.pop0.1 := by
  unfold State.pop0
  split
  · exact h.setReadList.setFull.popLatch
  · exact h.popLatch

theorem swapBanks (h : Canonical s) : Canonical s.swapBanks := .raiseMore h.put.setFull.watermark

theorem bankSwap (h : Canonical s) : Canonical s.bankSwap := .ite h.swapBanks h

theorem evqSwap (h : Canonical s) : Canonical s.evqSwap := .answer (.ite h.swapBanks h)

theorem modeChange (h : Canonical s) : Canonical s.modeChange := .ite h.put.setFull h

theorem wmRead (h : Canonical s) : Canonical s.wmRead.1 := by
  unfold State.wmRead
  dsimp only
  split
  · exact h.setFlag.put
  · exact h

theorem pmapWrite {v : Nat} (h : Canonical s) : Canonical (s.pmapWrite v) := .answer (.of_mem h rfl)

theorem jnlRead (h : Canonical s) : Canonical s.jnlRead.1 := by
  unfold State.jnlRead
  dsimp only
  split
  · exact h
  · split
    · exact h.setFlag
    · split
      · exact h.inc.wrs
      · exact h.setFlag

theorem jnlFix {n : Nat} {partner : Option EvRec} (h : Canonical s) : Canonical (s.jnlFix n partner) := by
  unfold State.jnlFix
  split
  · exact h.badDone
  · split
    · exact h.wrs.badDone.incSat.raise
    · exact h.raise.setFlag.wrs.badDone

theorem jnlPass {partner : List (Nat × EvRec)} (h : Canonical s) : Canonical (s.jnlPass partner) := by
  unfold State.jnlPass
  refine .forUp (fun k t ht => ?_) h
  dsimp only
  generalize (s.jnlOldest + k) % 4294967296 = n
  exact ht.jnlFix

theorem jnlScrub {partner : List (Nat × EvRec)} (h : Canonical s) : Canonical (s.jnlScrub partner) :=
  .ite (.jnlPass (.of_mem h rfl)) h

theorem rewind {m : Nat} {oldest : Bool} (h : Canonical s) : Canonical (s.rewind m oldest) :=
  .answer (.ite h.put (.ite h.put h.setFlag))

theorem markWrite {m v : Nat} (h : Canonical s) : Canonical (s.markWrite m v) := h.put.put.put.answer

/-! ## Machine/Keys.lean -/

theorem setKslot {n : Nat} {k : KSlot} (h : Canonical s) : Canonical (s.setKslot n k) := .ite h (.of_mem h rfl)

theorem keyRefused {n : Nat} {node : Option Nat} (h : Canonical s) : Canonical (s.keyRefused n node) := .ite h.incSat.raiseRated h

theorem sendResp {peer : Peer} {resp : List Nat} (h : Canonical s) : Canonical (s.sendResp peer resp) := h.emit.put.takeFree

/-! ## Machine/Sess.lean -/

theorem setSess {n : Nat} {x : Option HSess} (h : Canonical s) : Canonical (s.setSess n x) := .of_mem h rfl

theorem endSess {n cause : Nat} (h : Canonical s) : Canonical (s.endSess n cause) := by
  unfold State.endSess
  split
  · exact h.setSess.raise
  · exact h

theorem endSessIf {p : HSess → Bool} {cause : Nat} (h : Canonical s) : Canonical (s.endSessIf p cause) := by
  unfold State.endSessIf
  refine .forUp (fun _ _ k => ?_) h
  split
  · exact .ite k.endSess k
  · exact k

/-! ## Machine/SeamFrames.lean -/

theorem setSeam {n : Nat} {x : Seam} (h : Canonical s) : Canonical (s.setSeam n x) := .of_mem h rfl

theorem setNslot {i : Nat} {x : NSlot} (h : Canonical s) : Canonical (s.setNslot i x) := .of_mem h rfl

theorem countNode {n a b : Nat} (h : Canonical s) : Canonical (s.countNode n a b) := h.put.put

theorem setNodeState {i x : Nat} (h : Canonical s) : Canonical (s.setNodeState i x) := h.countNode.put

theorem seamEvent {code n p : Nat} {pay : List Nat} (h : Canonical s) : Canonical (s.seamEvent code n p pay) := h.raise

theorem cutSeams {t : Nat} (h : Canonical s) : Canonical (s.cutSeams t) := .forUp (fun _ _ k => .ite k.setSeam.emit k) h

theorem putFrame {n o : Nat} {bytes : List Nat} (h : Canonical s) : Canonical (s.putFrame n o bytes) := .ite h.emit h

theorem sendFrame {n o : Nat} {bytes : List Nat} (h : Canonical s) : Canonical (s.sendFrame n o bytes) := h.putFrame.inc.setSeam

theorem driveOne {f i : Nat} {codes : Sp (List Nat)} (h : Canonical s) : Canonical (s.driveOne f i codes).1 := by
  unfold State.driveOne
  dsimp only
  split
  · refine .inc ?_
    split
    · exact h.setChan
    · exact h
  · split
    · exact h.setChan
    · exact h

theorem driveSlots {f : Nat} {codes : Sp (List Nat)} {l : List Nat} (h : Canonical s) : Canonical (s.driveSlots f codes l).1 := by
  induction l generalizing s with
  | nil => exact h
  | cons i l ih => exact ih h.driveOne

theorem sendDrive {n f : Nat} {codes : Sp (List Nat)} (h : Canonical s) : Canonical (s.sendDrive n f codes) :=
  h.driveSlots.sendFrame.setSeam

theorem ageUnverified (h : Canonical s) : Canonical s.ageUnverified := .forEach (fun _ _ k => .ite k.setChan.unvAged k) h

theorem sendIdle {n f : Nat} (h : Canonical s) : Canonical (s.sendIdle n f) := h.sendFrame

theorem seamNoKey {n k : Nat} (h : Canonical s) : Canonical (s.seamNoKey n k) := h.setFlag.keyRefused.raiseRated

theorem updLeadMin (h : Canonical s) : Canonical s.updLeadMin := h.put

theorem showTransit {n : Nat} (h : Canonical s) : Canonical (s.showTransit n) := by
  unfold State.showTransit
  split
  · exact h
  · exact .when h.put.setFlag.updLeadMin (·.setFlag.seamEvent)

theorem measureTransit {n t : Nat} (h : Canonical s) : Canonical (s.measureTransit n t) := h.setSeam.showTransit

/-! ## Machine/Seams.lean -/

theorem ctlEnd {n : Nat} {ok : Bool} (h : Canonical s) : Canonical (s.ctlEnd n ok) := by
  unfold State.ctlEnd
  split
  · exact h
  · exact .when h.setSeam.setFlag (·.setFlag.setFlag.setFlag)

theorem ctlFail {n : Nat} (h : Canonical s) : Canonical (s.ctlFail n) := by
  unfold State.ctlFail
  split
  · exact h
  · exact h.ctlEnd.raise

theorem ackFrom {n p q : Nat} {nack : Bool} (h : Canonical s) : Canonical (s.ackFrom n p q nack) := by
  unfold State.ackFrom
  split
  · exact h
  · exact .ite h (.ite h.ctlFail (.when h.setSeam (·.ctlEnd)))

theorem residence {i v : Nat} (h : Canonical s) : Canonical (s.residence i v) :=
  .ite (.when (.setFlag (.setNslot (.when (.ite h.put h) (·.put.put)))) (·.setNodeState.seamEvent)) (.when (.when (.ite h.put h)
    (·.put.put)) (·.setNslot))

theorem slowClear {i : Nat} (h : Canonical s) : Canonical (s.slowClear i) := by
  unfold State.slowClear
  split
  · exact .ite h.setNodeState h
  · exact h

theorem queueOwn {n : Nat} {rs : List CtlReq} (h : Canonical s) : Canonical (s.queueOwn n rs) := h.setSeam

theorem dropAnswer {i : Nat} (h : Canonical s) : Canonical (s.dropAnswer i) := .setSeam (.ite h.ctlEnd h)

theorem challengeWord {i w v : Nat} (h : Canonical s) : Canonical (s.challengeWord i w v) := by
  unfold State.challengeWord
  dsimp only
  split
  · split
    · exact h.setNslot.dropAnswer.keyRefused
    · exact h.setNslot.dropAnswer.queueOwn
  · exact h.setNslot

theorem takeTemp {i : Nat} {f : RetField} (h : Canonical s) : Canonical (s.takeTemp i f) := .ite (.of_mem h rfl) h.setLum.noteSense

theorem latchField {i : Nat} {f : RetField} (h : Canonical s) : Canonical (s.latchField i f) := by
  unfold State.latchField
  dsimp only
  refine .faultCheck ?_
  split
  · exact h.takeTemp.noteSense.noteSense.stateReport
  · split
    · split
      · exact .ageUpdate (.when h.takeTemp.noteSense.noteSense (·.noteSense))
      · exact .when h.takeTemp.noteSense.noteSense (·.noteSense)
    · exact .ite h.takeTemp.noteSense.noteSense.noteSense (.when h.takeTemp.noteSense.noteSense (·.noteSense))

theorem noteField {i : Nat} {f : RetField} (h : Canonical s) : Canonical (s.noteField i f) := by
  unfold State.noteField
  extract_lets n s1 _ s2 s3 s4 m v
  have h2 : Canonical s2 := h.wr.wr.setNslot
  clear_value s2
  have h3 : Canonical s3 := .when h2 (·.setNodeState)
  clear_value s3
  have h4 : Canonical s4 := .when h3 (·.incSat.incSat.raiseRated)
  clear_value s4
  exact .ite h4.residence (.ite h4.put (.ite h4.put.unfit (.ite h4.ackFrom (.ite h4.ackFrom (.ite h4.incSat (.ite h4.setNslot
    (.ite h4.challengeWord h4)))))))

theorem takeField {i : Nat} {f : RetField} {here : Bool} (h : Canonical s) : Canonical (s.takeField i f here) :=
  .ite (.when h.noteField.setNslot (·.emit)) h.noteField.latchField

theorem latchFields (h : Canonical s) : Canonical s.latchFields.1 := by
  unfold State.latchFields
  refine foldl_fst (fun x p k => ?_) h
  dsimp only
  split
  · exact .latchField k
  · exact k

theorem shelveFields (h : Canonical s) : Canonical s.shelveFields := .of_mem h rfl

theorem scrcFail {i : Nat} (h : Canonical s) : Canonical (s.scrcFail i) := h.incSat.incSat.raiseRated

theorem takeSlot {n : Nat} {r : Rcvd} {sof p : Nat} {sl : List Nat} (h : Canonical s) : Canonical (s.takeSlot n r sof p sl) :=
  .ite h.scrcFail (.ite h h.takeField)

theorem takeSlots {n sof p : Nat} {r : Rcvd} {l : List (List Nat)} (h : Canonical s) : Canonical (s.takeSlots n r sof p l) := by
  induction l generalizing s p with
  | nil => exact h
  | cons sl l ih => exact ih h.takeSlot

theorem wrapCheck {n : Nat} {r : Rcvd} (h : Canonical s) : Canonical (s.wrapCheck n r) :=
  .ite h.setFlag (.ite h (.ite h.setFlag.put.seamEvent h.setFlag.put))

theorem delayCheck {n sof : Nat} {r : Rcvd} (h : Canonical s) : Canonical (s.delayCheck n sof r) := by
  unfold State.delayCheck
  dsimp only
  refine .ite (.ite h ?_) h
  split
  · exact h
  · exact .ite h.setFlag.seamEvent h

theorem assignSlot {n cnt p : Nat} {x : Option EnumRec} (h : Canonical s) : Canonical (s.assignSlot n cnt p x) := by
  unfold State.assignSlot
  split
  · exact .setNslot (.unfit (.when h.put.put.put.put.put (·.setNodeState.forgetSource)))
  · exact h.put.put.put.setNodeState.forgetSource.setNslot

theorem enumCount {n cnt : Nat} (h : Canonical s) : Canonical (s.enumCount n cnt) := .when h.setSeam.setFlag.put.setFlag (·.seamEvent)

theorem enumDone {n : Nat} {l : List EnumRec} {cnt : Nat} (h : Canonical s) : Canonical (s.enumDone n l cnt) := by
  unfold State.enumDone
  refine .seamEvent ?_
  split
  · exact .queueOwn (.forUp (fun _ _ k => k.assignSlot) h.enumCount.put)
  · split
    · exact h.enumCount.setFlag.seamEvent
    · exact h.enumCount

theorem enumPair {n : Nat} (h : Canonical s) : Canonical (s.enumPair n) := by
  unfold State.enumPair
  split
  · exact .ite h.enumDone h.enumCount.setFlag.seamEvent
  · exact h

theorem enumArrives {n : Nat} {r : Rcvd} (h : Canonical s) : Canonical (s.enumArrives n r) := by
  unfold State.enumArrives
  split
  · exact h
  · split
    · exact h.incSat.setFlag
    · exact .ite h.setSeam.enumPair h.enumDone

theorem peerTold (h : Canonical s) : Canonical s.peerTold := .forUp (fun _ _ k => .ite k.setSeam k) (.of_mem h rfl)

theorem hearPeer {s' : State} {p : SeamPeer} (h : Canonical s') : Canonical (s'.hearPeer p) :=
  .forEach (fun _ _ k => .ite k.setSeam.enumPair k) (.forEach (fun _ _ k => k.setSeam.showTransit) (.of_mem h rfl))

theorem seamReceive {n t : Nat} {bs : List Nat} (h : Canonical s) : Canonical (s.seamReceive n t bs) := by
  unfold State.seamReceive
  extract_lets sof s0
  have h0 : Canonical s0 := h.wrTime
  clear_value s0
  refine .ite h ?_
  split
  · exact h0.incSat
  · extract_lets s1 s2 s3 s4
    have h2 : Canonical s2 := .delayCheck (.whenNot h0 fun k => k.incSat)
    clear_value s2
    exact .ite h0.incSat (.ite (.when h2.takeSlots.wrapCheck fun k => k.measureTransit) (.ite h2.enumArrives h2))

theorem nodeLost {i : Nat} (h : Canonical s) : Canonical (s.nodeLost i) := .ite h.setNslot.setNodeState.seamEvent h

/-! ## Machine/Sru.lean -/

theorem setRnode {i : Nat} {x : RNode} (h : Canonical s) : Canonical (s.setRnode i x) := .of_mem h rfl

theorem radioSave (h : Canonical s) : Canonical s.radioSave := .of_mem h rfl

theorem nodeEvent {code i : Nat} (h : Canonical s) : Canonical (s.nodeEvent code i) := h.raise

theorem drift {i : Nat} (h : Canonical s) : Canonical (s.drift i) := h.put.put.setRnode.radioSave.nodeEvent

theorem dwellMove {i : Option Nat} (h : Canonical s) : Canonical (s.dwellMove i) := by
  unfold State.dwellMove
  split
  · exact h.incSat.setFlag.incSat.raiseRated
  · exact h.incSat.setFlag.raiseRated

theorem noteAir {t c us : Nat} (h : Canonical s) : Canonical (s.noteAir t c us) := .of_mem h rfl

theorem micFail {i : Option Nat} {src : Nat} (h : Canonical s) : Canonical (s.micFail i src) :=
  .when h.incSat.setFlag (·.rateMark.raiseEv)

theorem fcsFail (h : Canonical s) : Canonical s.fcsFail := h.incSat

theorem bumpTx {i : Nat} (h : Canonical s) : Canonical (s.bumpTx i) := .when h.put.setRnode (·.radioSave)

theorem startRekey {i : Nat} (h : Canonical s) : Canonical (s.startRekey i) := by
  unfold State.startRekey
  split
  · exact h
  · exact h.setRnode

theorem rekeyCheck {i : Nat} (h : Canonical s) : Canonical (s.rekeyCheck i) := .ite h.startRekey h

theorem sendNode {i typ ttl msg t c : Nat} {payload : List Nat} (h : Canonical s) :
    Canonical (s.sendNode i typ ttl msg t c payload) := by
  unfold State.sendNode
  dsimp only
  split
  · exact h
  · split
    · exact h.keyRefused
    · exact h.emit.noteAir.bumpTx.rekeyCheck

theorem sendAll {typ ttl t c : Nat} {payload : List Nat} (h : Canonical s) : Canonical (s.sendAll typ ttl t c payload) := by
  unfold State.sendAll
  dsimp only
  split
  · exact h
  · split
    · exact h.keyRefused
    · exact .of_mem h rfl

/-! ## Machine/SruRx.lean -/

theorem radioCount {a : RadioAct} (h : Canonical s) : Canonical (s.radioCount a) := by
  unfold State.radioCount
  split
  · exact h.inc
  · exact h.incSat.incSat
  · exact h.incSat.setFlag.incSat

theorem radioNote {a : RadioAct} (h : Canonical s) : Canonical (s.radioNote a) := .when h.radioCount (fun k => .of_mem k rfl)

theorem moveNode {i : Nat} (h : Canonical s) : Canonical (s.moveNode i) := h.radioNote.raiseRated

theorem hearRadio {l : List RadioAct} (h : Canonical s) : Canonical (s.hearRadio l) := by
  unfold State.hearRadio
  refine .forEach (fun _ _ k => ?_) h
  split
  · exact .when k.moveNode (·.setRnode)
  · exact k.radioCount

theorem hearPartner {p : SeamPeer} (h : Canonical s) : Canonical (s.hearPartner p) := h.hearPeer.hearRadio

theorem serve {i t0 : Nat} (h : Canonical s) : Canonical (s.serve i t0) :=
  .ite h.drift (.ite h.setRnode (.ite h.moveNode (.ite h.keyRefused h.takeFree.sendNode.radioNote.setRnode)))

theorem wakeSlot {i : Nat} (h : Canonical s) : Canonical (s.wakeSlot i) := by
  unfold State.wakeSlot
  split
  · exact h
  · exact .ite (.ite (.when h.setRnode (·.drift)) h.setRnode.serve) h

theorem letTimeout {i : Nat} (h : Canonical s) : Canonical (s.letTimeout i) := by
  unfold State.letTimeout
  split
  · exact h
  · exact .ite h (.ite h.setRnode.moveNode (.ite h.keyRefused h.sendNode.radioNote.setRnode))

theorem slotMissed {i : Nat} (h : Canonical s) : Canonical (s.slotMissed i) := by
  unfold State.slotMissed
  split
  · exact h
  · exact .ite h (.whenNot h.setRnode (fun k => .when k.put.incSat.incSat.radioSave (·.drift)))

theorem forgetUndeclared {i : Nat} (h : Canonical s) : Canonical (s.forgetUndeclared i) := .of_mem h rfl

theorem takeValues {i t : Nat} {l : List (List Nat)} (h : Canonical s) : Canonical (s.takeValues i t l) := by
  induction l generalizing s with
  | nil => exact h
  | cons r l ih => exact ih (.ite h.noteSense h)

theorem finishRekey {i e : Nat} (h : Canonical s) : Canonical (s.finishRekey i e) := h.put.put.put.setRnode.nodeEvent

theorem imageProgress (h : Canonical s) : Canonical s.imageProgress := by
  unfold State.imageProgress
  split
  · exact h
  · exact .ite h (.of_mem (.forEach (fun _ _ k => k.setRnode) h.takeFree) rfl)

theorem replyStatus {i st : Nat} {e : Option RExch} (h : Canonical s) : Canonical (s.replyStatus i st e) := by
  unfold State.replyStatus
  refine .imageProgress ?_
  split
  · refine .radioSave ?_
    split
    · exact .when h.put.setRnode (·.finishRekey)
    · exact h.put.setRnode
  · split
    · exact .when h.put.setRnode (·.finishRekey)
    · exact h.put.setRnode

theorem acceptReply {i t rssi : Nat} {f : RFrame} {copy : Bool} {e : Option RExch} (h : Canonical s) :
    Canonical (s.acceptReply i t rssi f copy e) :=
  .rekeyCheck (.replyStatus (.when (.takeValues (.when (.when h.put.put.put.put.put.put.put.put.setRnode (·.radioSave))
    (·.nodeEvent))) (·.noteSense)))

theorem reply {i t rssi : Nat} {f : RFrame} {relayed : Bool} (h : Canonical s) : Canonical (s.reply i t rssi f relayed) := by
  unfold State.reply
  split
  · exact h.keyRefused
  · split
    · exact h.micFail
    · exact .ite h (.ite h.micFail (.ite h.acceptReply h))

theorem passRadio {t rssi tx : Nat} {psdu : List Nat} {partners : Bool} (h : Canonical s) :
    Canonical (s.passRadio t rssi tx psdu partners) :=
  .ite h.emit h

theorem replyReceived {t rssi : Nat} {psdu : List Nat} {relayed : Bool} (h : Canonical s) :
    Canonical (s.replyReceived t rssi psdu relayed) := by
  unfold State.replyReceived
  split
  · exact h.fcsFail
  · split
    · exact h
    · split
      · exact h
      · exact .when h.passRadio (·.reply)

theorem seenExpire (h : Canonical s) : Canonical s.seenExpire := .of_mem h rfl

theorem seenAdd {src msg : Nat} (h : Canonical s) : Canonical (s.seenAdd src msg) :=
  .ite (.of_mem h rfl) (.setFlag (.incSat (.of_mem h rfl)))

theorem sendAdmit {i t : Nat} (h : Canonical s) : Canonical (s.sendAdmit i t) := by
  unfold State.sendAdmit
  split
  · exact h.keyRefused
  · exact .ite (.of_mem h.dwellMove rfl) h.takeFree.sendNode.setRnode

theorem schedFull {node : Option (Nat × Nat)} (h : Canonical s) : Canonical (s.schedFull node) := h.setFlag.raise

theorem joinPlan {i rlen : Nat} (h : Canonical s) : Canonical (s.joinPlan i rlen) := by
  unfold State.joinPlan
  split
  · exact h
  · split
    · exact .of_mem h rfl
    · exact h

theorem admitNode {i a : Nat} {f : RFrame} {copy : Bool} (h : Canonical s) : Canonical (s.admitNode i a f copy) :=
  h.put.put.setFlag.put.put.put.put.put.put.put.put.put.put.put.joinPlan.forgetUndeclared.setRnode.radioSave.sendAdmit.nodeEvent

theorem joinOk {f : RFrame} {copy : Bool} (h : Canonical s) : Canonical (s.joinOk f copy) := by
  unfold State.joinOk
  dsimp only
  split
  · exact h
  · split
    · exact h.setFlag.incSat.raiseEv
    · split
      · exact h.incSat.schedFull
      · exact h.admitNode

theorem joinFrame {f : RFrame} (h : Canonical s) : Canonical (s.joinFrame f) := by
  unfold State.joinFrame
  extract_lets ep e stale old again
  refine .ite h ?_
  clear_value stale old again
  split
  · exact h.keyRefused
  · split
    · exact h.micFail
    · cases again with
      | none => exact .ite h.micFail h.joinOk
      | some i => exact .ite h.sendAdmit h

theorem broadcastFrame {f : RFrame} (h : Canonical s) : Canonical (s.broadcastFrame f) := by
  unfold State.broadcastFrame
  split
  · exact h
  · split
    · exact h.keyRefused
    · exact .ite h.micFail (.of_mem h rfl)

theorem floodReceived {t : Nat} {psdu : List Nat} {join relayed : Bool} (h : Canonical s) :
    Canonical (s.floodReceived t psdu join relayed) := by
  unfold State.floodReceived
  split
  · exact h.fcsFail
  · exact .ite h (.ite h.seenExpire.incSat (.ite h.seenExpire.seenAdd.passRadio.joinFrame
      h.seenExpire.seenAdd.passRadio.broadcastFrame))

theorem radioRelayed {t rssi tx : Nat} {psdu : List Nat} (h : Canonical s) : Canonical (s.radioRelayed t rssi tx psdu) := by
  unfold State.radioRelayed
  split
  · exact h
  · split
    · exact h
    · split
      · refine .replyReceived ?_
        split
        · exact h.put
        · exact h
      · exact h.floodReceived

theorem callFailed {i : Nat} (h : Canonical s) : Canonical (s.callFailed i) := .radioSave (.when h.put.setRnode (·.put.nodeEvent))

theorem beacon {r : Nat} (h : Canonical s) : Canonical (s.beacon r) := .ite h.dwellMove h.sendAll

theorem floodImage {stop n t : Nat} (h : Canonical s) : Canonical (s.floodImage stop n t) := by
  induction n generalizing s t with
  | zero => exact h
  | succ n ih =>
    unfold State.floodImage
    split
    · exact h
    · exact .ite h (.ite h.dwellMove (ih h.sendAll))

theorem radioChange {c : Nat} (h : Canonical s) : Canonical (s.radioChange c) :=
  .when (.radioSave (.of_mem (.forEach (fun _ _ k => k.put.put.setRnode) (.forEach (fun _ _ k => k.commitWord) h)) rfl)) (fun k =>
    .forEach (fun _ _ k => k.drift) k)

theorem radioChangeDue (h : Canonical s) : Canonical s.radioChangeDue := by
  unfold State.radioChangeDue
  split
  · exact .ite h.radioChange h
  · exact h

theorem rallyStart (h : Canonical s) : Canonical s.rallyStart := by
  unfold State.rallyStart
  extract_lets s0 r pair s1 _ s2 s3 c s5 t1 due _ s6
  have h0 : Canonical s0 := h.radioChangeDue
  clear_value s0
  have h1 : Canonical s1 := .forEach (fun _ _ k => .ite k.callFailed k) h0
  clear_value s1
  have h2 : Canonical s2 := .wrTime (.seenExpire (.of_mem h1 rfl))
  clear_value s2
  have h3 : Canonical s3 := .ite h2.setFlag h2
  clear_value s3
  have h5 : Canonical s5 := h3.beacon
  clear_value s5
  have h6 : Canonical s6.1 := foldl_fst (fun _ _ k => k.sendAdmit) (.of_mem h5 rfl)
  exact .ite h0 (.ite h3 h6.floodImage)

theorem callNode {i t : Nat} (h : Canonical s) : Canonical (s.callNode i t) :=
  .ite (.of_mem h.dwellMove rfl) (.ite (.of_mem h.emit.noteAir.dwellMove rfl) (.ite (.setRnode (.when h.emit.noteAir (·.keyRefused)))
    h.emit.noteAir.takeFree.sendNode.inc.setRnode))

theorem recoveryWindow (h : Canonical s) : Canonical s.recoveryWindow := by
  unfold State.recoveryWindow
  dsimp only
  split
  · exact h
  · split
    · exact h
    · split
      · exact .of_mem h rfl
      · exact .callNode (.of_mem h rfl)

theorem chanRefused (h : Canonical s) : Canonical s.chanRefused := h.setFlag.raise

theorem radioConfig {k v : Nat} (h : Canonical s) : Canonical (s.radioConfig k v) := by
  unfold State.radioConfig
  dsimp only
  refine .answer (.ite h.chanRefused (.ite h ?_))
  split
  · exact h.schedFull
  · refine .ite (.put (.put (.put ?_))) ?_
    · exact .ite h h
    · exact .ite h h

theorem sruTxpwr {v : Nat} (h : Canonical s) : Canonical (s.sruTxpwr v) := h.sput.answer

theorem sruSblim {j v : Nat} (h : Canonical s) : Canonical (s.sruSblim j v) := h.put.answer

theorem sruDwell {i v : Nat} (h : Canonical s) : Canonical (s.sruDwell i v) :=
  .ite h.answer (.ite (.answer (.ite h.setFlag h.chanRefused)) (.answer (.ite h.chanRefused h.setFlag)))

theorem radioFree {i : Nat} (h : Canonical s) : Canonical (s.radioFree i) := by
  unfold State.radioFree
  extract_lets s1
  have h1 : Canonical s1 := .forgetSource (.setRnode (.forUp (fun _ _ k => k.wr) h))
  clear_value s1
  exact .radioSave (.of_mem h1 rfl)

theorem sruCall (h : Canonical s) : Canonical s.sruCall := .ite (.of_mem h rfl) h

theorem sruRekey (h : Canonical s) : Canonical s.sruRekey := .ite h.startRekey h

theorem radioNode {i w v : Nat} (h : Canonical s) : Canonical (s.radioNode i w v) := by
  unfold State.radioNode
  split
  · exact .ite h.answer (.ite h.radioFree.answer h.put.put.forgetSource.radioSave.answer)
  · exact .ite h.answer h.put.radioSave.answer
  · exact h.wr.answer
  · exact h.put.answer
  · exact h.answer

theorem radioTakeover (h : Canonical s) : Canonical s.radioTakeover := by
  unfold State.radioTakeover
  extract_lets s1
  have h1 : Canonical s1 := .forEach (fun _ _ k => k.put.setRnode) h
  clear_value s1
  exact .of_mem h1.setFlag rfl

/-! ## Machine/Kst.lean -/

theorem kres {done : Bool} {code slot cmd : Nat} (h : Canonical s) : Canonical (s.kres done code slot cmd) := h.setFlag.put.put.put

theorem kstCmd {auth live : Bool} {cmd : Nat} {op : Nat → State → State} (hop : ∀ n t, Canonical t → Canonical (op n t))
    (h : Canonical s) :
    Canonical (s.kstCmd auth live cmd op) :=
  .hostWr (fun _ k => .ite k.answer (.answer (.ite k.kres (.ite k.kres (.ite k.kres (.ite k.kres (hop _ _ k))))))) h

theorem kstCreate (h : Canonical s) : Canonical s.kstCreate := by
  unfold State.kstCreate
  split
  · exact h.setFlag.raise.kres
  · exact .ite h.kres (.ite h.kres (.ite h.kres h.setKslot.kres))

theorem kdat {v : Word} (h : Canonical s) : Canonical (s.kdat v) :=
  .whenNot h.answer (fun k => .ite h.put.put.answer (.ite k (.ite h.setFlag.answer (.answer (.of_mem h.setKslot rfl)))))

theorem kstSel {v : Nat} (h : Canonical s) : Canonical (s.kstSel v) := .answer (.of_mem h.put rfl)

theorem kstDerive {n : Nat} (h : Canonical s) : Canonical (s.kstDerive n) := by
  unfold State.kstDerive
  dsimp only
  split
  · exact h.kres
  · split
    · exact h.keyRefused.kres
    · split
      · exact h.keyRefused.kres
      · split
        · exact h.kres
        · exact h.setKslot.kres

theorem kstVerify {n : Nat} (h : Canonical s) : Canonical (s.kstVerify n) := .ite h.kres (.ite h.setKslot.kres h.setKslot.raise.kres)

theorem kstDiscard {n : Nat} (h : Canonical s) : Canonical (s.kstDiscard n) := h.setKslot.kres

theorem kstCommitCmd {n : Nat} (h : Canonical s) : Canonical (s.kstCommitCmd n) := .ite h.kres (.kres (.setFlag (.of_mem h rfl)))

theorem kstCommit (h : Canonical s) : Canonical s.kstCommit := by
  unfold State.kstCommit
  split
  · exact h
  · extract_lets k s1 _ s2 s3 s4 s5 s6' s6 _
    have h2 : Canonical s2 := .of_mem h.setKslot rfl
    clear_value s2
    have h4 : Canonical s4 := h2.inc.setFlag.kres.raise
    clear_value s4
    have h5 : Canonical s5 := .ite h4.setFlag h4
    clear_value s5
    have h6' : Canonical s6' := h5.endSessIf
    clear_value s6'
    have h6 : Canonical s6 := .ite (.of_mem h6' rfl) h6'
    clear_value s6
    exact .ite (.of_mem h6 rfl) h6

theorem keyLog {w : Word} (h : Canonical s) : Canonical (s.keyLog w) := .of_mem h rfl

theorem kstInvalidate {n : Nat} (h : Canonical s) : Canonical (s.kstInvalidate n) := by
  unfold State.kstInvalidate
  extract_lets k d s1 s2 s3
  have h2 : Canonical s2 := h.setKslot.keyLog.inc.raise.endSessIf
  clear_value s2
  exact .kres (.setFlag h2)

theorem orphanMark (h : Canonical s) : Canonical s.orphanMark := by
  unfold State.orphanMark
  split
  · exact h
  · extract_lets _ s1 _ s2
    have h1 : Canonical s1 := h.setKslot.endSessIf
    clear_value s1
    have h2 : Canonical s2 := .of_mem h1 rfl
    clear_value s2
    exact .ite h2.setFlag.setFlag h2

theorem kstDelete {n : Nat} (h : Canonical s) : Canonical (s.kstDelete n) := .ite h.kres (.ite h.kres h.setKslot.keyLog.inc.kres)

theorem kstMany {v : Nat} (h : Canonical s) : Canonical (s.kstMany v) := h.kres.answer

theorem kstCtl {v : Nat} (h : Canonical s) : Canonical (s.kstCtl v) := .answer (.ite h.setFlag h)

theorem kcvCompare {l : List (Nat × Nat)} (h : Canonical s) : Canonical (s.kcvCompare l) := by
  unfold State.kcvCompare
  dsimp only
  split
  · exact h.emit
  · split
    · split
      · exact h.setFlag.raise
      · exact h
    · exact h

theorem kstRestart (h : Canonical s) : Canonical s.kstRestart := .forEach (fun _ _ k => k.setFlag.raise) (.of_mem h rfl)

/-! ## Machine/Pattern.lean -/

theorem tickSteps {f : Nat} (h : Canonical s) : Canonical (s.tickSteps f) :=
  .ite (.ite (.swapNow (.when h.tickChange (·.commitAll))) (.tickStart (.when h.tickChange (·.commitAll)))) h

theorem releaseK {n : Nat} (h : Canonical s) : Canonical (s.releaseK n) := .ite h.releaseWaitK h

theorem releaseT {n : Nat} (h : Canonical s) : Canonical (s.releaseT n) := .ite h.releaseWaitT h

theorem patternSwap (h : Canonical s) : Canonical s.patternSwap := .ite h.tickSteps h

theorem parRepair {a : Nat} (h : Canonical s) : Canonical (s.parRepair a) := h.wr.parFix.incSat.raise

theorem penPfix {n : Nat} {ok : Bool} (h : Canonical s) : Canonical (s.penPfix n ok) := by
  unfold State.penPfix
  split
  · exact h
  · exact .ite (.when h.setBob (·.parRepair)) h.setBob.faultBob

theorem programScrub (h : Canonical s) : Canonical s.programScrub := .ite (.forEach (fun _ _ k => k.parRepair) (.of_mem h rfl)) h

theorem penTick {v : Nat} (h : Canonical s) : Canonical (s.penTick v) := .ite h.put.answer h.setFlag.raise.answer

theorem penHsig {v : Nat} (h : Canonical s) : Canonical (s.penHsig v) := h.setBob.answer

theorem penDataWrite {a : Nat} {v : Word} (h : Canonical s) : Canonical (s.penDataWrite a v) := .ite h.answer h.wr.parFix.answer

theorem penDataRead {a : Nat} (h : Canonical s) : Canonical (s.penDataRead a) :=
  .ite (.of_mem h rfl) (.of_mem (.ite h.setFlag.raise h) rfl)

theorem bobCommand {n : Nat} {start stop : Bool} (h : Canonical s) : Canonical (s.bobCommand n start stop) :=
  .ite (.when h.setBob (fun k => k)) (.ite (.whenNot h.setBob (·.bobControls)) h)

theorem penBctl {n v : Nat} (h : Canonical s) : Canonical (s.penBctl n v) := h.put.put.bobCommand.answer

theorem penBbudget {n v : Nat} (h : Canonical s) : Canonical (s.penBbudget n v) := .ite h.answer h.put.answer

theorem penBwin {n v : Nat} (h : Canonical s) : Canonical (s.penBwin n v) := .answer (.ite h h.put.put)

/-! ## Machine/SeamCtl.lean -/

theorem auxSync {n : Nat} (h : Canonical s) : Canonical (s.auxSync n) := by
  unfold State.auxSync
  dsimp only
  split
  · split
    · exact h.sendFrame.setSeam
    · exact h.seamNoKey
  · exact h

theorem enumLost {n : Nat} (h : Canonical s) : Canonical (s.enumLost n) := .ite h.setFlag h

theorem auxEnum {n : Nat} (h : Canonical s) : Canonical (s.auxEnum n) := by
  unfold State.auxEnum
  split
  · exact h
  · exact .ite h h.sendFrame.setSeam.setFlag

theorem sendCtl {n o : Nat} {kind : CtlKind} {bytes waiting : List Nat} (h : Canonical s) :
    Canonical (s.sendCtl n o kind bytes waiting) :=
  .when h.sendFrame.setSeam.setFlag (·.ctlEnd)

theorem auxConfig {n : Nat} (h : Canonical s) : Canonical (s.auxConfig n) := by
  unfold State.auxConfig
  dsimp only
  split
  · split
    · exact h
    · split
      · exact h
      · split
        · exact h.setSeam.sendCtl
        · exact h.seamNoKey
  · exact h

theorem auxImage {n : Nat} (h : Canonical s) : Canonical (s.auxImage n) := by
  unfold State.auxImage
  dsimp only
  split
  · exact h
  · split
    · exact h
    · split
      · exact h.setSeam.sendCtl
      · exact h.seamNoKey

theorem auxWindow {n : Nat} (h : Canonical s) : Canonical (s.auxWindow n) := .ite h.enumLost.auxSync.auxEnum.auxConfig.auxImage h

theorem resend {n : Nat} (h : Canonical s) : Canonical (s.resend n) := by
  unfold State.resend
  split
  · exact .ite (.ite h.putFrame.setSeam h.seamNoKey) h
  · exact h

theorem resendFail {n : Nat} (h : Canonical s) : Canonical (s.resendFail n) := by
  unfold State.resendFail
  split
  · exact .ite h.ctlFail h
  · exact h

theorem askEnum {n : Nat} {assign : Bool} (h : Canonical s) : Canonical (s.askEnum n assign) := h.setSeam

theorem census (h : Canonical s) : Canonical s.census := .ite (.forUp (fun _ _ k => .ite k.askEnum k) (.of_mem h rfl)) h

theorem seaCtl {n v : Nat} (h : Canonical s) : Canonical (s.seaCtl n v) :=
  .answer (.updLeadMin (.when (.whenNot (.when h.put.put.put (·.askEnum)) (·.setFlag)) (fun k => .forUp (fun _ _ k => .ite k
    k.setNslot) k)))

theorem seaFper {v : Nat} (h : Canonical s) : Canonical (s.seaFper v) := .answer (.ite (.of_mem h.put rfl) h.seamEvent)

theorem fperChange (h : Canonical s) : Canonical s.fperChange := .ite (.of_mem h rfl) h

theorem seaLead {v : Nat} (h : Canonical s) : Canonical (s.seaLead v) := .answer (.ite (.of_mem h.put rfl) h.seamEvent)

theorem leadChange (h : Canonical s) : Canonical s.leadChange := .ite (.of_mem h rfl) h

theorem cfgGo {n : Nat} (h : Canonical s) : Canonical (s.cfgGo n) := .answer (.ite h h.setSeam.setFlag)

theorem cfgCmd {n v : Nat} (h : Canonical s) : Canonical (s.cfgCmd n v) := .ite h.cfgGo h.answer

theorem seaCfg {n a v : Nat} (h : Canonical s) : Canonical (s.seaCfg n a v) := by
  unfold State.seaCfg
  split
  · exact .ite h.cfgCmd h.answer
  · exact .ite h.answer h.wr.answer

theorem nodeAccept {i : Nat} (h : Canonical s) : Canonical (s.nodeAccept i) := .answer (.when (.ite h.setNodeState h) (·.setNslot))

theorem delayChanged {n p : Nat} (h : Canonical s) : Canonical (s.delayChanged n p) := h.queueOwn

theorem nodeCounts {i v : Nat} (h : Canonical s) : Canonical (s.nodeCounts i v) := h.put.put.answer

theorem nodeLdly {i v : Nat} (h : Canonical s) : Canonical (s.nodeLdly i v) := h.put.updLeadMin.delayChanged.answer

theorem tailDly {n v : Nat} (h : Canonical s) : Canonical (s.tailDly n v) := h.put.updLeadMin.delayChanged.answer

theorem seaHold {v : Nat} (h : Canonical s) : Canonical (s.seaHold v) :=
  .ite h.answer (.answer (.forUp (fun _ _ k => .ite k.queueOwn k) h.put))

theorem seaResend {v : Nat} (h : Canonical s) : Canonical (s.seaResend v) := .answer (.whenNot h.put (·.put))

/-! ## Machine/Tbu.lean -/

theorem timeCycle (h : Canonical s) : Canonical s.timeCycle := .of_mem h rfl

theorem discTrack (h : Canonical s) : Canonical s.discTrack := .ite h (.of_mem h.setFlag rfl)

theorem tbEnter {x : Nat} (h : Canonical s) : Canonical (s.tbEnter x) :=
  .discTrack (.of_mem (.when (.when h.put (·.raiseRated)) (·.raiseRated)) rfl)

theorem slewOn {v : Int} (h : Canonical s) : Canonical (s.slewOn v) := by
  unfold State.slewOn
  split
  · exact .of_mem h rfl
  · exact h

theorem setFreq {v : Int} (h : Canonical s) : Canonical (s.setFreq v) := .when h.slewOn.sput (fun k => .of_mem k rfl)

theorem enterHold (h : Canonical s) : Canonical s.enterHold := .tbEnter (.ite h.setFreq h)

theorem askStep {r : StepReq} (h : Canonical s) : Canonical (s.askStep r) := by
  unfold State.askStep
  split
  · exact .of_mem h.setFlag rfl
  · exact .of_mem h.setFlag rfl

theorem servo {o : Int} {cause : Nat} (h : Canonical s) : Canonical (s.servo o cause) :=
  .ite (.ite h h.askStep) (.of_mem h.setFreq rfl)

theorem lockCount {o : Int} (h : Canonical s) : Canonical (s.lockCount o) :=
  .ite (.tbEnter (.of_mem h rfl)) (.ite (.tbEnter (.of_mem h rfl)) (.of_mem h rfl))

theorem takeSync {x : PtpSync} (h : Canonical s) : Canonical (s.takeSync x) := by
  unfold State.takeSync
  split
  · exact .of_mem h.inc rfl
  · exact .lockCount (.when (.sput (.of_mem h.inc rfl)) (·.servo))

theorem ptpBad (h : Canonical s) : Canonical s.ptpBad := h.incSat

theorem syncReceived {x1 : PtpHdr} {two : Bool} {t1 t2 : Nat} {logInt : Int} (h : Canonical s) :
    Canonical (s.syncReceived x1 two t1 t2 logInt) := by
  unfold State.syncReceived
  extract_lets _ _ s1 s2 x _
  have h1 : Canonical s1 := .of_mem h.sput rfl
  clear_value s1
  have h2 : Canonical s2 := .ite h1.tbEnter h1
  clear_value s2
  exact .ite h.ptpBad (.ite h (.ite (.of_mem h2 rfl) h2.takeSync))

theorem measureDelay {x : PtpSync} {t3 t4 : Nat} {corr : Int} (h : Canonical s) : Canonical (s.measureDelay x t3 t4 corr) :=
  .ite h.incSat (.sput (.of_mem h rfl))

theorem completeSync {q : Nat} {x : PtpSync} (h : Canonical s) : Canonical (s.completeSync q x) := by
  unfold State.completeSync
  split
  · split
    · exact h
    · split
      · exact .measureDelay (.of_mem h rfl)
      · exact .of_mem h rfl
  · exact h

theorem followUp {hd : PtpHdr} {t1 : Nat} (h : Canonical s) : Canonical (s.followUp hd t1) := by
  unfold State.followUp
  split
  · exact h.ptpBad
  · split
    · exact h
    · split
      · exact .ite (.completeSync (.takeSync (.of_mem h rfl))) h
      · exact h

theorem delayReq {seq t3 : Nat} (h : Canonical s) : Canonical (s.delayReq seq t3) := by
  unfold State.delayReq
  split
  · exact .ite h (.of_mem (.ite h.incSat h) rfl)
  · exact h

theorem delayResp {hd : PtpHdr} {t4 : Nat} {logMin : Int} (h : Canonical s) : Canonical (s.delayResp hd t4 logMin) := by
  unfold State.delayResp
  split
  · exact h.ptpBad
  · split
    · exact h
    · split
      · exact .ite h (.ite (.of_mem h.sput rfl) (.measureDelay (.of_mem h.sput rfl)))
      · exact h

theorem reportMaster {m : PtpMaster} (h : Canonical s) : Canonical (s.reportMaster m) :=
  .whenNot h.put.put.put.sput.setFlag.setFlag.setFlag.setFlag (fun k => .when k.put.put.setFlag.raiseSkip (·.tbEnter))

theorem selectMaster (h : Canonical s) : Canonical s.selectMaster := by
  unfold State.selectMaster
  split
  · exact .of_mem h rfl
  · exact .reportMaster (.ite h (.of_mem h rfl))

theorem announce {hd : PtpHdr} {a : AnnData} (h : Canonical s) : Canonical (s.announce hd a) :=
  .ite h.ptpBad (.ite h (.selectMaster (.of_mem h.inc rfl)))

theorem announceTimeout (h : Canonical s) : Canonical s.announceTimeout := by
  unfold State.announceTimeout
  split
  · exact .ite (.selectMaster (.ite (.enterHold (.of_mem h rfl)) (.of_mem h rfl))) h
  · exact h

theorem syncTimeout (h : Canonical s) : Canonical s.syncTimeout := by
  unfold State.syncTimeout
  split
  · exact .ite h.enterHold h
  · exact h

theorem ptpTransit {corr : Int} {event fromEth2 : Bool} {i e sum : Nat} (h : Canonical s) :
    Canonical (s.ptpTransit corr event fromEth2 i e sum) :=
  .ite h (.ite h.inc.emit h.emit)

theorem tbRefuse (h : Canonical s) : Canonical s.tbRefuse := h.setFlag.raiseRated.answer

theorem tbCap (h : Canonical s) : Canonical s.tbCap := h.wrTime.answer

theorem tbSet (h : Canonical s) : Canonical s.tbSet := .ite h.tbRefuse h.askStep.answer

theorem slewBegin (h : Canonical s) : Canonical s.slewBegin := .ite h (.setFreq (.of_mem h.setFlag rfl))

theorem tbSlew (h : Canonical s) : Canonical s.tbSlew := .ite h.tbRefuse h.slewBegin.answer

theorem slewDone (h : Canonical s) : Canonical s.slewDone := .ite (.setFreq (.of_mem h.setFlag rfl)) h

theorem leapNotice (h : Canonical s) : Canonical s.leapNotice := by
  unfold State.leapNotice
  split
  · exact .ite (.of_mem h rfl) h
  · exact h

theorem armUtc (h : Canonical s) : Canonical s.armUtc := .answer (.leapNotice (.of_mem h.setFlag rfl))

theorem utcArmCmd (h : Canonical s) : Canonical s.utcArmCmd := by
  unfold State.utcArmCmd
  split
  · exact .ite h.tbRefuse h.armUtc
  · exact h.armUtc

theorem utcChange (h : Canonical s) : Canonical s.utcChange := by
  unfold State.utcChange
  split
  · exact .ite (.whenNot (.of_mem h.setFlag rfl) (·.sput.raiseSkip)) h
  · exact h

theorem tbuCopied {v : Nat} (h : Canonical s) : Canonical (s.tbuCopied v) :=
  .whenNot (.ite (.setFlag (.ite h.tbCap h)) (.when (.ite h.tbCap h) (·.slewBegin))) (fun k => .ite k.setFlag k.armUtc)

theorem tbCtl {v : Nat} (h : Canonical s) : Canonical (s.tbCtl v) := .answer (.whenNot h.wr (fun k => .whenNot k.setFreq (·.tbEnter)))

theorem tbRate {v : Nat} (h : Canonical s) : Canonical (s.tbRate v) := .answer (.whenNot h.sput (·.setFreq))

theorem timeMark {mark stamp : Nat} (h : Canonical s) : Canonical (s.timeMark mark stamp) := by
  unfold State.timeMark
  dsimp only
  split
  · exact h
  · split
    · exact .of_mem (.when h.sput.setFlag.discTrack (·.servo)) rfl
    · split
      · exact .of_mem (.when h.sput.setFlag.discTrack (·.servo)) rfl
      · exact .when (.when h.sput.setFlag.discTrack (·.servo)) (·.raiseSkip)

/-! ## Machine/Rtc.lean -/

theorem setCal {l : Nat} (h : Canonical s) : Canonical (s.setCal l) := h.wr.wr

theorem alarmSignal {n : Nat} (h : Canonical s) : Canonical (s.alarmSignal n) := .ite h.setBob h

theorem alarmFlags {n : Nat} {late : Bool} (h : Canonical s) : Canonical (s.alarmFlags n late) := .when h.put (·.put)

theorem alarmFire {n l : Nat} {late : Bool} (h : Canonical s) : Canonical (s.alarmFire n l late) :=
  .whenNot h.alarmFlags (·.raise.alarmSignal)

theorem alarmKeep {n l : Nat} {late : Bool} (h : Canonical s) : Canonical (s.alarmKeep n l late) :=
  .whenNot h.alarmFlags (fun k => .of_mem k rfl)

theorem alarms {a b : Nat} (h : Canonical s) : Canonical (s.alarms a b) := by
  unfold State.alarms
  refine .forUp (fun _ _ k => ?_) h
  split
  · exact k
  · split
    · exact k
    · exact .ite k.alarmKeep k.alarmFire

theorem keepAlarms (h : Canonical s) : Canonical s.keepAlarms := by
  unfold State.keepAlarms
  refine .of_mem ?_ rfl
  refine .forUp (fun _ _ k => ?_) h
  split
  · exact k
  · exact k.raise.alarmSignal

theorem alarmWrite {n k v : Nat} (h : Canonical s) : Canonical (s.alarmWrite n k v) := by
  unfold State.alarmWrite
  split
  · exact h.setFlag.answer
  · split
    · exact h.wr.answer
    · exact h.wr.answer
    · exact h.wr.answer
    · exact h.answer

theorem rtcStage {date : Bool} {v : Nat} (h : Canonical s) : Canonical (s.rtcStage date v) :=
  .answer (.ite h.put.setFlag h.put.setFlag)

theorem rtcCommitCmd (h : Canonical s) : Canonical s.rtcCommitCmd := .answer (.of_mem h rfl)

theorem rtcUnstage (h : Canonical s) : Canonical s.rtcUnstage := h.wr.wr

theorem setSub {sub : Nat} (h : Canonical s) : Canonical (s.setSub sub) := .of_mem h.put rfl

theorem calTake {b sub : Nat} (h : Canonical s) : Canonical (s.calTake b sub) := h.setCal.setSub.setFlag.setFlag.wrTime.alarms

theorem leapApply {neg : Bool} (h : Canonical s) : Canonical (s.leapApply neg) := .whenNot (.of_mem h.setFlag rfl) (·.raise)

theorem calAdvance {k : Nat} (h : Canonical s) : Canonical (s.calAdvance k) := .ite (.whenNot h.setFlag (·.raise)) h.setCal.alarms

theorem secondNow (h : Canonical s) : Canonical s.secondNow := by
  unfold State.secondNow
  split
  · exact h
  · split
    · exact .ite (.ite h.leapApply.calAdvance h.leapApply.setFlag) h.setFlag.calAdvance
    · exact h.setFlag.calAdvance

theorem heldSecond (h : Canonical s) : Canonical s.heldSecond := by
  unfold State.heldSecond
  split
  · exact .secondNow (.of_mem h rfl)
  · exact h

theorem rtcSettle (h : Canonical s) : Canonical s.rtcSettle := .ite h.heldSecond h

theorem rtcSecond (h : Canonical s) : Canonical s.rtcSecond :=
  .ite (.of_mem h rfl) (.ite (.of_mem h.heldSecond.setSub rfl) h.heldSecond.setSub.secondNow)

theorem rtcCommit {u : State} (h : Canonical u) : Canonical u.rtcCommit := by
  unfold State.rtcCommit
  extract_lets s _ s0 t d
  have h0 : Canonical s0 := .of_mem h.rtcSettle rfl
  clear_value s0
  refine .ite h (.ite h0.rtcUnstage.setFlag.setFlag.raise.heldSecond ?_)
  split
  · exact h0.rtcUnstage.setFlag.setFlag.raiseEv.heldSecond
  · exact .of_mem h0.rtcUnstage.setFlag.setFlag.calTake rfl

theorem rtcTemp {r : Option Int} (h : Canonical s) : Canonical (s.rtcTemp r) := by
  unfold State.rtcTemp
  extract_lets ok s1 _ _ s2 c x
  clear_value ok
  have h1 : Canonical s1 := by
    unfold s1
    split
    · exact h.sput
    · exact h
  clear_value s1
  have h2 : Canonical s2 := by
    unfold s2
    split
    · exact .of_mem h1.setFlag.setFlag rfl
    · exact h1.setFlag.setFlag.raiseRated
  clear_value s2
  exact .ite (.of_mem h2.sput rfl) h2.sput

theorem adjCycle {ins : Bool} (h : Canonical s) : Canonical (s.adjCycle ins) := .ite h.inc.inc h.inc

theorem rollAge (h : Canonical s) : Canonical s.rollAge := .ite h (.of_mem h rfl)

theorem rtcAdjust (h : Canonical s) : Canonical s.rtcAdjust :=
  .ite (.of_mem h.rollAge.adjCycle rfl) (.when h.rollAge (fun k => .of_mem k.adjCycle.setFlag rfl))

theorem discNow (h : Canonical s) : Canonical s.discNow := .answer (.ite (.of_mem h rfl) h)

theorem discipline {d : Int} {utc : Nat} (h : Canonical s) : Canonical (s.discipline d utc) :=
  .ite (.of_mem h.sput.setFlag rfl) (.ite (.of_mem h.sput.setFlag rfl) (.raiseEv (.setFlag (.calTake (.of_mem h.sput.setFlag rfl)))))

theorem nextCompare {inRange : Bool} (h : Canonical s) : Canonical (s.nextCompare inRange) := .of_mem h rfl

theorem rtcCompare {sub : Nat} (h : Canonical s) : Canonical (s.rtcCompare sub) := by
  unfold State.rtcCompare
  split
  · exact h
  · split
    · exact h.nextCompare
    · exact .whenNot h.setSub.nextCompare (·.discipline)

theorem rtcAge (h : Canonical s) : Canonical s.rtcAge := by
  unfold State.rtcAge
  dsimp only
  split
  · exact .of_mem h.rollAge.sput rfl
  · exact h.rollAge

theorem rtcCval {v : Nat} (h : Canonical s) : Canonical (s.rtcCval v) := .answer (.of_mem h rfl)

theorem rtcCsel {v : Nat} (h : Canonical s) : Canonical (s.rtcCsel v) := .ite h.answer h.put.answer

/-! ## Machine/Mtr.lean -/

theorem setMch {c : Nat} {x : MChan} (h : Canonical s) : Canonical (s.setMch c x) := .of_mem h rfl

theorem setMcirc {k : Nat} {x : MCirc} (h : Canonical s) : Canonical (s.setMcirc k x) := .of_mem h rfl

theorem pickSample {c : Nat} {raw alt : Int} (h : Canonical s) : Canonical (s.pickSample c raw alt).1 := by
  unfold State.pickSample
  dsimp only
  split
  · exact h
  · split
    · exact h
    · exact h.setFlag.setFlag.incSat.raiseRated

theorem condition {c : Nat} {code : Int} (h : Canonical s) : Canonical (s.condition c code).1 := h.setMch

theorem setGain {c g : Nat} (h : Canonical s) : Canonical (s.setGain c g) := h.put.setMch

theorem fixGains (h : Canonical s) : Canonical s.fixGains := .forUp (fun _ _ k => .ite k k.setGain) h

theorem noteSample {c : Nat} {v : Int} {t : Nat} (h : Canonical s) : Canonical (s.noteSample c v t) := by
  unfold State.noteSample
  dsimp only
  split
  · exact .when h.setMch (·.setGain)
  · exact h.setMch

theorem takeSamples {raw alt : List Int} (h : Canonical s) : Canonical (s.takeSamples raw alt).1 := by
  unfold State.takeSamples
  refine foldl_fst (fun x c k => ?_) h
  split
  · exact k.pickSample.condition
  · exact k

theorem accAdd {key n : Nat} (h : Canonical s) : Canonical (s.accAdd key n) := .ite (.of_mem h rfl) (.of_mem h rfl)

theorem accSign {key : Nat} {e : Int} (h : Canonical s) : Canonical (s.accSign key e) := .ite h.accAdd h.accAdd

theorem gainStep {c : Nat} (h : Canonical s) : Canonical (s.gainStep c) := by
  unfold State.gainStep
  split
  · exact h
  · split
    · exact h.setMch
    · refine .setMch ?_
      split
      · exact h.setGain
      · exact h

theorem ocStep {c from_ : Nat} (h : Canonical s) : Canonical (s.ocStep c from_) :=
  .ite (.when h.setMch (·.setFlag.setFlag.incSat.raise)) (.when h.setMch (·.setFlag.raise))

theorem peakStep {c from_ : Nat} (h : Canonical s) : Canonical (s.peakStep c from_) := .ite (.when h.incSat (·.rateMark.raiseEv)) h

theorem chanCycle {c n from_ end_ : Nat} {f : Int × Int} (h : Canonical s) : Canonical (s.chanCycle c n from_ end_ f) :=
  h.setMch.put.put.put.noteSense.noteSense.ocStep.peakStep.gainStep

theorem chanEnergy {ph c t : Nat} (h : Canonical s) : Canonical (s.chanEnergy ph c t) := .ite h h.accSign.accSign

theorem showOver {k : Nat} (h : Canonical s) : Canonical (s.showOver k) := h.setFlag

theorem showCirc {k t : Nat} {a : PhaseSum} {free : Word} (h : Canonical s) : Canonical (s.showCirc k t a free) := h.wr.wr.put.put

theorem circCount {k t : Nat} {a : PhaseSum} {free : Word} (h : Canonical s) : Canonical (s.circCount k t a free) :=
  .setMcirc (.forUp (fun _ _ k => k.chanEnergy) h.accSign.accSign.accAdd.accAdd)

theorem circCycle {k t : Nat} (h : Canonical s) : Canonical (s.circCycle k t) :=
  .takeFree (.showOver (.showCirc (.ite h.circCount h)))

theorem showChan {c : Nat} (h : Canonical s) : Canonical (s.showChan c) := .ite h h.wr.wr.wr.wr.wr.wr.wr.wr

theorem cycleEnd {end_ : Nat} {settled : Bool} {hz : List Nat} (h : Canonical s) : Canonical (s.cycleEnd end_ settled hz) := by
  unfold State.cycleEnd
  extract_lets n t line locked nom s1 _ _ s2 s3 s4 s5 s6 _
  have h1 : Canonical s1 := h.setFlag.put
  clear_value s1
  have h2 : Canonical s2 := .ite h1 (.of_mem h1.raiseRated rfl)
  clear_value s2
  have h3 : Canonical s3 := .forUp (fun _ _ k => k.noteSense) h2
  clear_value s3
  have h4 : Canonical s4 := .forUp (fun _ _ k => k.chanCycle) h3
  clear_value s4
  have h5 : Canonical s5 := .forUp (fun _ _ k => k.circCycle) h4
  clear_value s5
  have h6 : Canonical s6 := .forUp (fun _ _ k => k.setMch) h5
  clear_value s6
  exact .ite h (.forUp (fun _ _ k => k.showChan) (.of_mem h6 rfl))

theorem photonFlush {t : Nat} (h : Canonical s) : Canonical (s.photonFlush t) := .forEach (fun _ _ k => k.accAdd) (.of_mem h rfl)

theorem photonAccount {f : Nat} (h : Canonical s) : Canonical (s.photonAccount f) :=
  .forUp (fun _ _ k => .ite k (.of_mem k rfl)) h.photonFlush

theorem circRecords {k b : Nat} (h : Canonical s) : Canonical (s.circRecords k b) :=
  .ite h h.raiseEv.raiseEv.raiseEv.raiseEv.raiseEv.raiseEv.put.setFlag.setFlag.setMcirc.takeFree

theorem mapCommit (h : Canonical s) : Canonical s.mapCommit :=
  .ite (.forUp (fun _ _ k => k.showOver) (.forUp (fun _ _ k => k.commitWord.commitWord) h)) (.raise (.setFlag (.forUp (fun _ _ k =>
    k.unstage.unstage) h)))

theorem accReset (h : Canonical s) : Canonical s.accReset := .raise (.forUp (fun _ _ k => k.showChan) (.of_mem h rfl))

theorem pairCheck (h : Canonical s) : Canonical s.pairCheck := by
  unfold State.pairCheck
  dsimp only
  split
  · exact h
  · split
    · exact h.setFlag.raise
    · exact h

theorem closeInterval {b next : Nat} {step commit : Bool} (h : Canonical s) : Canonical (s.closeInterval b next step commit) := by
  unfold State.closeInterval
  extract_lets s0 _ s1 s2 _ s3 s4 s5 new _ s6 _
  have h1 : Canonical s1 := .forUp (fun _ _ k => k.circRecords) (.of_mem h.photonFlush rfl)
  clear_value s1
  have h3 : Canonical s3 := .of_mem h1.pairCheck rfl
  clear_value s3
  have h4 : Canonical s4 := .ite h3.accReset h3
  clear_value s4
  have h5 : Canonical s5 := .ite h4.mapCommit h4
  clear_value s5
  have h6 : Canonical s6 := .ite (.of_mem h5 rfl) h5
  clear_value s6
  exact .wrTime (.of_mem h6 rfl)

theorem boundaryNow (h : Canonical s) : Canonical s.boundaryNow := .ite h.closeInterval h

theorem gapRecord {k kind w6 w7 : Nat} {stamp : Option Nat} (h : Canonical s) : Canonical (s.gapRecord k kind w6 w7 stamp) :=
  h.setFlag.incSat.raiseEv

theorem gapEnd {from_ kind t : Nat} (h : Canonical s) : Canonical (s.gapEnd from_ kind t) :=
  .closeInterval (.forUp (fun _ _ k => .ite k.gapRecord k) h)

theorem circSample {k t : Nat} {v : Nat → Int} (h : Canonical s) : Canonical (s.circSample k t v) :=
  .ite (.forUp (fun _ _ k => .ite k k.setMch.setMcirc) h) h

theorem mtrSample {m : Nat} {raw alt : List Int} (h : Canonical s) : Canonical (s.mtrSample m raw alt) :=
  .ite h (.of_mem (.forUp (fun _ _ k => k.circSample) (.forUp (fun _ _ k => k.noteSample) h.fixGains.takeSamples)) rfl)

theorem accrstCmd {confirm : Nat} (h : Canonical s) : Canonical (s.accrstCmd confirm) := .answer (.ite (.of_mem h rfl) h)

theorem mtrIntv {v : Nat} (h : Canonical s) : Canonical (s.mtrIntv v) := .answer (.ite h.put h.setFlag.raise)

theorem mtrCalgain {v : Nat} (h : Canonical s) : Canonical (s.mtrCalgain v) := .answer (.of_mem h rfl)

theorem mtrCalaux {v : Nat} (h : Canonical s) : Canonical (s.mtrCalaux v) := .answer (.of_mem h rfl)

theorem mtrCctl {c v : Nat} (h : Canonical s) : Canonical (s.mtrCctl c v) := .answer (.whenNot h.wr (·.put.put.put.setMch))

theorem mtrCalsel {v : Nat} (h : Canonical s) : Canonical (s.mtrCalsel v) := .ite h.answer h.put.answer

/-! ## Machine/Lop.lean -/

theorem setLslot {n : Nat} {x : LopSlot} (h : Canonical s) : Canonical (s.setLslot n x) := .of_mem h rfl

theorem lopFin {n st err : Nat} (h : Canonical s) : Canonical (s.lopFin n st err) := h.setLslot

theorem lopFail {n err : Nat} (h : Canonical s) : Canonical (s.lopFail n err) := h.lopFin

theorem lopPct {n p : Nat} (h : Canonical s) : Canonical (s.lopPct n p) := h.put

theorem lopGood {n note : Nat} (h : Canonical s) : Canonical (s.lopGood n note) := h.lopPct.lopFin

theorem lopPush {n : Nat} {w : Word} (h : Canonical s) : Canonical (s.lopPush n w) := .when h.wr.put (·.put)

theorem lopWords {n : Nat} {ws : List Word} (h : Canonical s) : Canonical (s.lopWords n ws) := h.wrs.put

theorem calRehash (h : Canonical s) : Canonical s.calRehash := h.wrs

theorem lopEnd {n st err : Nat} (h : Canonical s) : Canonical (s.lopEnd n st err) :=
  .raise (.whenNot (.of_mem h.put.put rfl) (fun k => .ite (.of_mem h.put.put.setLslot.calRehash rfl) (.ite k h.put.put.setLslot)))

theorem lopDone {n : Nat} (h : Canonical s) : Canonical (s.lopDone n) := by
  unfold State.lopDone
  split
  · exact .ite h.lopEnd h
  · exact h

theorem lopAbort {n : Nat} (h : Canonical s) : Canonical (s.lopAbort n) := .answer (.ite h.lopFin (.ite h.lopEnd h))

theorem lopClear {n : Nat} (h : Canonical s) : Canonical (s.lopClear n) :=
  .answer (.ite (.put (.put (.put (.wr (.forUp (fun _ _ k => k.wr) h))))) h)

theorem lopRack {n v : Nat} (h : Canonical s) : Canonical (s.lopRack n v) := .answer (.when h.put (·.put))

theorem lopBegin {n c : Nat} (h : Canonical s) : Canonical (s.lopBegin n c) := h.put.put.put.setLslot

theorem lopUnknown {n c : Nat} (h : Canonical s) : Canonical (s.lopUnknown n c) := h.lopBegin.lopEnd

theorem signUse {e : Nat} (h : Canonical s) : Canonical (s.signUse e) := .ite h.keyRefused h

theorem calStart {n : Nat} (h : Canonical s) : Canonical (s.calStart n) :=
  .whenNot h.lopFail (fun k => .whenNot k (fun k => .whenNot k (fun k => .ite k h.setLslot)))

theorem calRecorded {n r : Nat} (h : Canonical s) : Canonical (s.calRecorded n r) :=
  .when h.setLslot.lopPush.lopPct (fun k => .ite k.lopFail k.lopGood)

theorem calStep {n : Nat} {flashOk : Bool} (h : Canonical s) : Canonical (s.calStep n flashOk) := by
  unfold State.calStep
  extract_lets x i a r s1 _ s2
  have h1 : Canonical s1 := h.copyRec
  clear_value s1
  have h2 : Canonical s2 := .of_mem h1 rfl
  clear_value s2
  exact .ite h (.ite h.calRecorded (.ite h.calRecorded (.ite h2.emit h2)))

theorem installStep (h : Canonical s) : Canonical s.installStep := by
  unfold State.installStep
  dsimp only
  split
  · split
    · exact h.installPending.calRecorded
    · exact h.installPending
  · exact h

theorem loadBank {k : Nat} (h : Canonical s) : Canonical (s.loadBank k) :=
  .forUp (fun _ _ k => k.wr.parFix) (.forUp (fun _ _ k => k.wr.parFix) h)

theorem storeImage {k len : Nat} (h : Canonical s) : Canonical (s.storeImage k len) := .loadBank (.forUp (fun _ _ k => k.wr) h)

theorem patStep {n : Nat} {flashOk : Bool} (h : Canonical s) : Canonical (s.patStep n flashOk) := by
  unfold State.patStep
  dsimp only
  split
  · exact .ite h.lopFail h.setLslot.put.lopPct
  · split
    · exact h.lopFail
    · split
      · exact h.setLslot.setLslot.put.lopPct
      · exact h.lopFail
  · exact .ite h.lopFail h.setLslot.put.lopPct
  · exact .ite h.signUse.lopFail h.setLslot.put.lopPct
  · exact .ite h.put.storeImage.setLslot.put.lopPct h.put.put.lopFail
  · exact h.wrs.wr.put.setLslot.put.lopPct.lopGood

theorem takeImage {g : Option NodeImg} (h : Canonical s) : Canonical (s.takeImage g) := by
  unfold State.takeImage
  extract_lets _ s0 s1 _
  have h0 : Canonical s0 := .of_mem h rfl
  clear_value s0
  have h1 : Canonical s1 := .forUp (fun _ _ k => k.setSeam) h0
  clear_value s1
  exact .of_mem h1 rfl

theorem nodeImgStart {n : Nat} (h : Canonical s) : Canonical (s.nodeImgStart n) :=
  .ite h.lopFail (.ite h.signUse.lopFail h.takeFree.takeImage)

theorem activateAll {g : NodeImg} (h : Canonical s) : Canonical (s.activateAll g) := .forEach (fun _ _ k => .ite k k.queueOwn) h

theorem imageCopied {go : Bool} (h : Canonical s) : Canonical (s.imageCopied go) := by
  unfold State.imageCopied
  dsimp only
  split
  · exact .ite (.activateAll (.of_mem h rfl)) (.of_mem h rfl)
  · exact .of_mem h rfl

theorem nodeImgStep {n : Nat} (h : Canonical s) : Canonical (s.nodeImgStep n) := by
  unfold State.nodeImgStep
  split
  · exact h
  · exact .ite h.lopPct.lopGood (.when h.lopPct (fun k => .ite (.of_mem k rfl) k.activateAll))

theorem radioImgStart {n : Nat} (h : Canonical s) : Canonical (s.radioImgStart n) := by
  unfold State.radioImgStart
  extract_lets len e nodes g s1
  have h1 : Canonical s1 := .forEach (fun _ _ k => k.setRnode) h.takeFree
  clear_value s1
  exact .ite h.lopFail (.ite h.signUse.lopFail h1)

theorem radioImgStep {n : Nat} (h : Canonical s) : Canonical (s.radioImgStep n) := by
  unfold State.radioImgStep
  split
  · exact h
  · exact .when h.lopPct.imageProgress (·.lopGood)

theorem keygenRun {n : Nat} (h : Canonical s) : Canonical (s.keygenRun n) :=
  .whenNot h.lopFail (fun k => .ite k h.setKslot.lopWords.lopGood)

theorem attestRun {n : Nat} (h : Canonical s) : Canonical (s.attestRun n) := by
  unfold State.attestRun
  dsimp only
  split
  · exact h.lopFail
  · split
    · exact h.keyRefused.lopFail
    · exact .ite h.lopFail h.lopWords.raiseEv.lopGood

theorem searchStart {n : Nat} (h : Canonical s) : Canonical (s.searchStart n) := h.setLslot

theorem searchRun {n fuel : Nat} (h : Canonical s) : Canonical (s.searchRun n fuel) := by
  induction fuel generalizing s with
  | zero => exact h
  | succ fuel ih => exact .ite h (.ite h.lopGood (.ite (ih h.setLslot) (.ite h (ih (.ite h.setLslot.lopPct.lopPush h.setLslot.lopPct)))))

theorem testStep {n hw : Nat} (h : Canonical s) : Canonical (s.testStep n hw) := .when h.setLslot.lopPush.lopPct (·.lopGood)

theorem capResult {c : Nat} (h : Canonical s) : Canonical (s.capResult c) :=
  .when (.when (.of_mem h.put.wrTime.setFlag rfl) (·.raise)) (·.raise)

theorem holdStep {n us : Nat} {dip : Bool} (h : Canonical s) : Canonical (s.holdStep n us dip) :=
  .ite h.lopFail h.lopWords.capResult.lopGood

theorem dumpRun {n fuel : Nat} (h : Canonical s) : Canonical (s.dumpRun n fuel) := by
  induction fuel generalizing s with
  | zero => exact h
  | succ fuel ih =>
    unfold State.dumpRun
    split
    · exact .ite h (ih h.setLslot.lopPush.lopPct)
    · exact h.lopGood
    · exact h

theorem lopStartOp {n c : Nat} {t : State} (h : Canonical s) (e : s.lopStartOp n c = some t) : Canonical t := by
  unfold State.lopStartOp at e
  split at e <;> cases e
  · exact h.calStart
  · exact h
  · exact h.nodeImgStart
  · exact h.radioImgStart
  · exact h.attestRun
  · exact h.searchStart
  · exact h
  · exact .ite h.lopFail h
  · exact h.keygenRun
  · exact h

theorem lopCmd {n c : Nat} (h : Canonical s) : Canonical (s.lopCmd n c) := by
  unfold State.lopCmd
  refine .ite h.lopAbort (.ite h.lopClear (.ite h.answer (.answer ?_)))
  split
  · next e => exact h.lopBegin.lopStartOp e
  · exact h.lopUnknown

theorem lopRow {n c : Nat} {next : State → State} (hn : ∀ t, Canonical t → Canonical (next t)) (h : Canonical s) :
    Canonical (s.lopRow n c next) :=
  .ite (.ite (hn s h) h) (.hostWr (fun _ k => k.lopCmd) h)

/-! ## Machine/TimeStep.lean -/

theorem commitSet {r : StepReq} (h : Canonical s) : Canonical (s.commitSet r) := .ite h.commitWord.commitWord.commitWord h

theorem stepNow {r : StepReq} {f : Nat} (h : Canonical s) : Canonical (s.stepNow r f) := by
  unfold State.stepNow
  extract_lets d new d64 s1 s2 s3 s4 s5 s6 _
  have h1 : Canonical s1 := .of_mem h.closeInterval rfl
  clear_value s1
  have h2 : Canonical s2 := .of_mem h1 rfl
  clear_value s2
  have h4 : Canonical s4 := h2.commitSet.setFlag.setFlag.wrTime.put.put
  clear_value s4
  have h5 : Canonical s5 := .ite (.raiseEv (.rateMark h4)) h4
  clear_value s5
  have h6 : Canonical s6 := .ite h5.tbEnter h5
  clear_value s6
  exact .discTrack (.of_mem h6 rfl)

/-! ## Machine/Copy.lean -/

theorem mergeAt {a : Nat} {w : Word} (h : Canonical s) : Canonical (s.mergeAt a w) := .ite h.commitSlot h.wr

theorem mergeMem {m : Sp Word} {held : List Nat} (h : Canonical s) : Canonical (s.mergeMem m held) :=
  .forEach (fun _ _ k => .ite k.wr k.mergeAt) h

theorem keepSources {old : State} (h : Canonical s) : Canonical (s.keepSources old) := .of_mem h rfl

theorem saveHeads {old : State} (h : Canonical s) : Canonical (s.saveHeads old) := .ite h h.radioSave

theorem sameImage {g : Option NodeImg} (h : Canonical s) : Canonical (s.sameImage g) := .ite h h.takeImage

theorem applyCopied {c : Copied} (h : Canonical s) : Canonical (s.applyCopied c) :=
  .forEach (fun _ _ k => k.radioCount) (.of_mem (.forUp (fun _ _ k => k.put) h.mergeMem.saveHeads.keepSources.sameImage) rfl)

theorem jnlMove {n : Nat} (h : Canonical s) : Canonical (s.jnlMove n) := .ite h h.put.put.setFlag

theorem takeTail {tail : List (Nat × EvRec)} {p : Nat × EvRec} (h : Canonical s) : Canonical (s.takeTail tail p) := by
  unfold State.takeTail
  extract_lets _ s0 j s1 x
  have h0 : Canonical s0 := .of_mem h rfl
  clear_value s0
  have h1 : Canonical s1 := h0.jnlMove.journal.raiseAll
  clear_value s1
  exact .ite h0 (.ite h1 h1.enqueue.raiseAll)

theorem putWords {l : List (Nat × Word)} (h : Canonical s) : Canonical (s.putWords l) := .forEach (fun _ _ k => k.wr) h

theorem latchWith {held : List (Nat × Word)} {o : Nat} (h : Canonical s) : Canonical (s.latchWith held o) :=
  h.putWords.latchSolve.putWords

theorem tellState {c : Copied} (h : Canonical s) : Canonical (s.tellState c) := .of_mem h rfl

theorem fillDumps {c : CopyMsg} (h : Canonical s) : Canonical (s.fillDumps c) := .forUp (fun _ _ k => .ite k.setLslot k) h

/-! ## Machine/Pair.lean -/

theorem setRole {r : Nat} (h : Canonical s) : Canonical (s.setRole r) := h.put.setFlag.setFlag

theorem startJoining (h : Canonical s) : Canonical s.startJoining := .of_mem h.setRole.setFlag rfl

theorem release {p : Nat → Bool} (h : Canonical s) : Canonical (s.release p) := .of_mem h rfl

theorem journalRelayed (h : Canonical s) : Canonical s.journalRelayed := .forEach (fun _ _ k => k.journal.raiseAll) (.of_mem h rfl)

theorem copyFrom (h : Canonical s) : Canonical s.copyFrom := .of_mem h rfl

theorem becomeActive (h : Canonical s) : Canonical s.becomeActive :=
  .keepAlarms (.journalRelayed (.release (.of_mem h.setRole.setFlag rfl)))

theorem fence {s' : State} {on : Bool} (h : Canonical s') : Canonical (s'.fence on) :=
  .ite (.of_mem h rfl) (.ite (.of_mem h rfl) (.emit (.setFlag (.of_mem h rfl))))

theorem decideFence (h : Canonical s) : Canonical s.decideFence := .of_mem h rfl

theorem fenceSettle (h : Canonical s) : Canonical s.fenceSettle := .ite h.fence h

theorem beginRestart (h : Canonical s) : Canonical s.beginRestart := .of_mem h rfl

theorem setFenced {on : Bool} (h : Canonical s) : Canonical (s.setFenced on) := .forUp (fun _ _ k => k.setFlag) h

theorem driversOff (h : Canonical s) : Canonical s.driversOff := h.setFlag.setFenced.fence.cutSeams

theorem fenceIn (h : Canonical s) : Canonical s.fenceIn := by
  unfold State.fenceIn
  extract_lets s1 s2
  have h1 : Canonical s1 := h.driversOff
  clear_value s1
  have h2 : Canonical s2 := h1.setFlag
  exact .ite h1 (.ite h2 h2.beginRestart)

theorem sendWaiting (h : Canonical s) : Canonical s.sendWaiting := .of_mem (.forEach (fun _ _ k => .ite k k.sendResp) h) rfl

theorem sendWhole (h : Canonical s) : Canonical s.sendWhole := .of_mem h rfl

theorem heedRole {b : Beat} (h : Canonical s) : Canonical (s.heedRole b) := .ite (.ite h.becomeActive h) (.ite (.of_mem h rfl) h)

theorem pathBeat {line : Bool} (h : Canonical s) : Canonical (s.pathBeat line) :=
  .ite (.of_mem h.setFlag.setFlag rfl) (.of_mem h.setFlag rfl)

theorem heedBeat {b : Beat} (h : Canonical s) : Canonical (s.heedBeat b) := by
  unfold State.heedBeat
  extract_lets was _ s1 s2 s3 _ s4
  have h1 : Canonical s1 := .of_mem h rfl
  clear_value s1
  have h2 : Canonical s2 := .ite h1.setFlag h1
  clear_value s2
  have h3 : Canonical s3 := .ite h2.sendWaiting.sendWhole h2
  clear_value s3
  have h4 : Canonical s4 := .ite (.of_mem h3 rfl) h3
  clear_value s4
  exact .ite h4.heedRole h4

theorem heartbeat {line : Bool} {b : Beat} (h : Canonical s) : Canonical (s.heartbeat line b) :=
  .ite h (.ite h.pathBeat h.pathBeat.heedBeat)

theorem pathLost {cause : Nat} (h : Canonical s) : Canonical (s.pathLost cause) := h.setFlag.incSat.raise

theorem declareFailed (h : Canonical s) : Canonical s.declareFailed := by
  unfold State.declareFailed
  extract_lets s1 s2 s3 _ s4 s5 _ _ s6
  have h2 : Canonical s2 := h.raise.setFlag.setFlag
  clear_value s2
  have h3 : Canonical s3 := .ite h2.setFlag h2
  clear_value s3
  have h4 : Canonical s4 := .of_mem h3 rfl
  clear_value s4
  have h5 : Canonical s5 := h4.setFlag.sendWaiting.release
  clear_value s5
  have h6 : Canonical s6 := .of_mem h5 rfl
  clear_value s6
  exact .ite (.ite h6.radioTakeover h6) h4

theorem beatInterval (h : Canonical s) : Canonical s.beatInterval := by
  unfold State.beatInterval
  extract_lets mx ml _ _ s1 s2 _ _
  have h1 : Canonical s1 := .of_mem h.put.put rfl
  clear_value s1
  have h2 : Canonical s2 := .ite h1.setFlag h1
  clear_value s2
  exact .ite h (.ite h2 (.ite (.ite h2.declareFailed h2) (.ite (.of_mem h2.pathLost rfl) (.ite (.of_mem h2.pathLost rfl) h2))))

theorem pathRestored (h : Canonical s) : Canonical s.pathRestored := .when (.ite (.raise (.of_mem h rfl)) (.of_mem h rfl)) (·.raise)

theorem setLane {k : Nat} {on : Bool} (h : Canonical s) : Canonical (s.setLane k on) := .setFlag (.of_mem h rfl)

theorem laneErrors (h : Canonical s) : Canonical s.laneErrors := h.put.takeFree

theorem laneLoss {k : Nat} (h : Canonical s) : Canonical (s.laneLoss k) := .when h.setLane (·.laneErrors.pathLost)

theorem takePtp (h : Canonical s) : Canonical s.takePtp := .tbEnter (.of_mem h.setFlag rfl)

theorem takeAuthority (h : Canonical s) : Canonical s.takeAuthority :=
  .takePtp (.takeImage (.journalRelayed (.of_mem h.setRole.wrTime.put rfl)))

theorem takeover (h : Canonical s) : Canonical s.takeover := by
  unfold State.takeover
  extract_lets _ s1 _ s2
  have h1 : Canonical s1 := h.takeAuthority.radioTakeover.setFlag.setFlag.incSat
  clear_value s1
  have h2 : Canonical s2 := .of_mem h1 rfl
  clear_value s2
  exact .ite h2.decideFence.raiseEv h

theorem copyLost (h : Canonical s) : Canonical s.copyLost := .raiseRated (.of_mem h.setFlag.setFlag.incSat rfl)

theorem latchNamed {p : Nat × Bool} (h : Canonical s) : Canonical (s.latchNamed p) := by
  unfold State.latchNamed
  dsimp only
  split
  · exact h.setNslot.latchField
  · split
    · exact h.setNslot.latchField
    · exact h.incSat

theorem refresh {num : Nat} {diff : Option Nat} (h : Canonical s) : Canonical (s.refresh num diff) := by
  unfold State.refresh
  split
  · exact h.put
  · exact h.put.incSat.setFlag.raiseRated

theorem applyCopy {c : CopyMsg} {diff : Option Nat} (h : Canonical s) : Canonical (s.applyCopy c diff) := by
  unfold State.applyCopy
  extract_lets s1 d s2 s3 s4 s5' s5 s6 _ s7 s8' s8
  have h1 : Canonical s1 := .forEach (fun _ _ k => k.latchNamed) h
  clear_value s1
  have h2 : Canonical s2 := h1.applyCopied.imageCopied.refresh
  clear_value s2
  have h3 : Canonical s3 := .forEach (fun _ _ k => k.takeTail) h2
  clear_value s3
  have h4 : Canonical s4 := h3.put.jnlMove
  clear_value s4
  have h5' : Canonical s5' := by
    unfold s5'
    split
    · exact h4.installRec
    · exact h4
  clear_value s5'
  have h5 : Canonical s5 := .ite h5'.calRehash h5'
  clear_value s5
  have h7 : Canonical s7 := .of_mem h5.put rfl
  clear_value s7
  have h8 : Canonical s8 := h7.hearPartner.emit.emit.peerTold
  clear_value s8
  exact .ite h8.latchWith h8

theorem copyReceived {c : CopyMsg} {diff : Option Nat} (h : Canonical s) : Canonical (s.copyReceived c diff) :=
  .ite h (.ite h.laneErrors.copyLost (.ite h h.applyCopy))

theorem copyAcked {num : Nat} {peer : SeamPeer} (h : Canonical s) : Canonical (s.copyAcked num peer) := by
  unfold State.copyAcked
  split
  · exact .ite (.hearPartner (.of_mem h.put rfl)) h
  · exact h

theorem wholeState {w : Copied} (h : Canonical s) : Canonical (s.wholeState w) := .of_mem (.ite h h.applyCopied) rfl

theorem xlkSwapCmd (h : Canonical s) : Canonical s.xlkSwapCmd := .ite (.answer (.of_mem h rfl)) h.setFlag.raise.answer

theorem giveTail (h : Canonical s) : Canonical s.giveTail := by
  unfold State.giveTail
  dsimp only
  exact .forEach (fun _ _ k => k.relay) (.setFull (.withEvq h.jnlMove))

theorem swapOut (h : Canonical s) : Canonical s.swapOut := .raise (.of_mem h.setRole.setFlag.giveTail.setFlag.wrTime rfl)

theorem swapIn (h : Canonical s) : Canonical s.swapIn := by
  unfold State.swapIn
  extract_lets split s1 _ _
  have h1 : Canonical s1 := h.takeAuthority.radioTakeover.setFlag.setFlag
  clear_value s1
  exact .of_mem h1 rfl

theorem swapOff (h : Canonical s) : Canonical s.swapOff := .of_mem h.setFlag rfl

theorem swapRoles (h : Canonical s) : Canonical s.swapRoles := by
  unfold State.swapRoles
  split
  · exact h
  · exact .ite h (.ite (.ite h.swapOut h.swapOff.raise) (.ite h.swapIn h.swapOff))

theorem resyncCmd (h : Canonical s) : Canonical s.resyncCmd := .answer (.ite h.sendWhole (.ite (.of_mem h.setFlag rfl) h))

theorem fwCommit (h : Canonical s) : Canonical s.fwCommit := .answer (.ite h (.of_mem h.put.put rfl))

theorem fwVerified {flashOk : Bool} (h : Canonical s) : Canonical (s.fwVerified flashOk) := by
  unfold State.fwVerified
  split
  · exact h
  · extract_lets e err k _ s0 s1 _
    have h0 : Canonical s0 := .of_mem h rfl
    clear_value s0
    have h1 : Canonical s1 := .forUp (fun _ _ k => k.wr) h0
    clear_value s1
    exact .ite (.of_mem h1.put rfl) h0.signUse.put.put

theorem joinFail {k : Nat} (h : Canonical s) : Canonical (s.joinFail k) := .of_mem h.setFlag.raise rfl

theorem joinImage {ws : List Word} {t : State} (h : Canonical s) (e : s.joinImage ws = some t) : Canonical t := by
  unfold State.joinImage at e
  dsimp only at e
  split at e
  · cases e
    exact h.wrs.put.storeImage.wrs.wr.swapIds.put.startImage.wrs.put
  · cases e

theorem joinCal {l : List (Nat × List Word)} (h : Canonical s) : Canonical (s.joinCal l) :=
  .ite h (.calRehash (.forEach (fun _ _ k => k.wrs.installRec) h))

theorem joinTime {x : JoinFacts} (h : Canonical s) : Canonical (s.joinTime x) := .whenNot h.put (fun k => .of_mem k.stepNow rfl)

theorem joinAnswer {x : JoinFacts} (h : Canonical s) : Canonical (s.joinAnswer x) := by
  unfold State.joinAnswer
  split
  · exact h.keyRefused
  · exact .of_mem h rfl

theorem learn {x : JoinFacts} (h : Canonical s) : Canonical (s.learn x) := h.put.setFlag.put.put

theorem joinMeet {x : JoinFacts} (h : Canonical s) : Canonical (s.joinMeet x) :=
  .whenNot (.when (.ite h h.joinAnswer) (·.learn)) (·.joinFail)

theorem joinTake {x : JoinFacts} (h : Canonical s) : Canonical (s.joinTake x) := by
  unfold State.joinTake
  dsimp only
  split
  · exact h.joinFail
  · next t e =>
    have ht : Canonical t := by
      split at e
      · exact h.joinImage e
      · cases e
        exact h
    exact ht.joinCal.joinTime.applyCopied.setFlag

theorem joinSteps {x : JoinFacts} (h : Canonical s) : Canonical (s.joinSteps x) := .when h.joinMeet (·.joinTake)

theorem bulkImage {x : JoinFacts} (h : Canonical s) : Canonical (s.bulkImage x) := .ite h h.emit

theorem bulkCal {x : JoinFacts} (h : Canonical s) : Canonical (s.bulkCal x) := .ite h (.forEach (fun _ _ k => .ite k.emit k) h)

theorem joinGive {x : JoinFacts} (h : Canonical s) : Canonical (s.joinGive x) :=
  .when h.joinMeet (·.put.bulkImage.bulkCal.copyFrom.sendWhole)

theorem pairJoin {x : JoinFacts} (h : Canonical s) : Canonical (s.pairJoin x) :=
  .ite h (.ite (.joinSteps (.of_mem h rfl)) (.ite h.joinGive h))

theorem joinReady (h : Canonical s) : Canonical s.joinReady := .ite (.of_mem h.setFlag rfl) h

theorem joinEnd (h : Canonical s) : Canonical s.joinEnd :=
  .ite (.of_mem h.setRole.setFlag.raise rfl) (.ite (.raise (.fence (.of_mem h rfl))) h)

/-! ## Machine/Frame.lean -/

theorem reach {f : Nat} (h : Canonical s) : Canonical (s.reach f) := .ite (.of_mem h.voteAll rfl) h

theorem changeState {f : Nat} (h : Canonical s) : Canonical (s.changeState f) := by
  unfold State.changeState
  split
  · exact .raise (.setFlag (.of_mem h rfl))
  · exact h

theorem stateStep {f : Nat} (h : Canonical s) : Canonical (s.stateStep f) := .ite h.changeState h

theorem latchGains {f : Nat} (h : Canonical s) : Canonical (s.latchGains f) := .ite (.of_mem h rfl) h

theorem wholeAgain (h : Canonical s) : Canonical s.wholeAgain := .ite h.sendWhole h

theorem unacked (h : Canonical s) : Canonical s.unacked := .ite (.of_mem h rfl) h

theorem sendCopy {s' : State} {f : Nat} {latch : List (Nat × Bool)} (h : Canonical s') : Canonical (s'.sendCopy f latch) :=
  .emit (.emit (.imageCopied (.peerTold (.of_mem h.unacked.wholeAgain.tellState.put rfl))))

theorem copyStep {f : Nat} {latch : List (Nat × Bool)} (h : Canonical s) : Canonical (s.copyStep f latch) :=
  .ite (.when h.fillDumps (·.sendCopy)) (.of_mem h.fillDumps rfl)

theorem takeCodes {due : Bool} (h : Canonical s) : Canonical (s.takeCodes due) := by
  unfold State.takeCodes
  split
  · exact .of_mem h rfl
  · extract_lets sent _ t s2 _
    have ht : Canonical t := .of_mem h rfl
    clear_value t
    exact .ite (.of_mem ht.incSat.setFlag.raiseRated rfl) ht

theorem dropCodes (h : Canonical s) : Canonical s.dropCodes := .of_mem h rfl

theorem sendDrives {f : Nat} (h : Canonical s) : Canonical (s.sendDrives f) :=
  .of_mem (.forUp (fun _ _ k => .ite k.sendDrive k) h) rfl

theorem sendIdles {f : Nat} (h : Canonical s) : Canonical (s.sendIdles f) := .of_mem (.forUp (fun _ _ k => .ite k.sendIdle k) h) rfl

theorem newCycle (h : Canonical s) : Canonical s.newCycle := .forUp (fun _ _ k => .whenNot k.enumLost (·.setSeam)) h

theorem sendStep {f : Nat} {drive due : Bool} (h : Canonical s) : Canonical (s.sendStep f drive due) :=
  .ite (.ageUnverified (.photonAccount (.when h.takeCodes (·.sendDrives)))) (.photonAccount (.when h.dropCodes (·.sendIdles)))

theorem stepCourse {f : Nat} (h : Canonical s) : Canonical (s.stepCourse f) := by
  unfold State.stepCourse
  split
  · exact h
  · split
    · exact .of_mem h rfl
    · split
      · exact .of_mem h rfl
      · exact .of_mem h.setFlag rfl

theorem pairStep (h : Canonical s) : Canonical s.pairStep :=
  .joinEnd (.joinReady (.when (.when (.when (.ite h.startJoining h) (·.copyLost)) (·.swapRoles)) (fun k => .of_mem k.setFlag rfl)))

theorem expectCopy {f : Nat} (h : Canonical s) : Canonical (s.expectCopy f) := .ite (.of_mem h rfl) h

theorem inputSteps {f : Nat} (h : Canonical s) : Canonical (s.inputSteps f).1 := by
  unfold State.inputSteps
  extract_lets x s3
  have hx : Canonical x.1 := by
    unfold x
    split
    · exact h.latchFields
    · exact h.shelveFields
  clear_value x
  have h3 : Canonical s3 := hx.lanesAtFrame.tickSteps.installStep.runLoops
  clear_value s3
  exact .ite h3.latchWith.latchGains h3

theorem frameTail (h : Canonical s) : Canonical s.frameTail := h.countStale.discTrack.bankSwap.modeChange

theorem frameSteps {f : Nat} (h : Canonical s) : Canonical (s.frameSteps f) :=
  h.stateStep.stepCourse.inputSteps.copyStep.expectCopy.newCycle.sendStep.frameTail

theorem frameStart (h : Canonical s) : Canonical s.frameStart := by
  unfold State.frameStart
  dsimp only
  split
  · exact h
  · split
    · exact h.reach.rtcSettle.fenceSettle.fperChange.leadChange.pairStep.stateStep.inputSteps.frameTail.stepNow
    · exact .of_mem h.reach.rtcSettle.fenceSettle.fperChange.leadChange.pairStep.frameSteps rfl

/-! ## Machine/View.lean -/

theorem setHsess {k : Nat} {x : HSess} (h : Canonical s) : Canonical (s.setHsess k x) := .ite (.ite h.setSess h) (.of_mem h rfl)

theorem snapPartners {k a : Nat} (h : Canonical s) : Canonical (s.snapPartners k a) := h.setHsess

theorem pairRead {k a : Nat} (h : Canonical s) : Canonical (s.pairRead k a) := .ite h h.snapPartners

theorem subPhase (h : Canonical s) : Canonical s.subPhase.1 := by
  unfold State.subPhase
  split
  · exact h
  · exact h

theorem rtcRead {a : Nat} (h : Canonical s) : Canonical (s.rtcRead a).1 := by
  unfold State.rtcRead
  split
  · exact .of_mem h.subPhase rfl
  · split
    · exact .of_mem h rfl
    · split
      · exact .of_mem h rfl
      · exact h.subPhase

theorem readReg {k a : Nat} (h : Canonical s) : Canonical (s.readReg k a).1 := by
  unfold State.readReg
  split
  · exact h.pop0
  · split
    · exact h.wmRead
    · split
      · exact h.jnlRead
      · split
        · exact h.rtcRead
        · split
          · exact h.takeFree
          · split
            · exact h
            · exact h.pairRead

theorem readWord {k a : Nat} (h : Canonical s) : Canonical (s.readWord k a).1 := by
  unfold State.readWord
  have hd := h.penDataRead (a := a - dataBase)
  extract_lets t
  replace hd : Canonical t := hd
  clear_value t
  split
  · exact h.readReg
  · exact hd
  · exact h
  · exact h

/-! ## Machine/Power.lean -/

theorem setRail {v : Nat} (h : Canonical s) : Canonical (s.setRail v) := h.put.put

theorem setFeed {k v : Nat} (h : Canonical s) : Canonical (s.setFeed k v) := .ite h.put.setFlag h.put.setFlag

theorem feedLoss {k v rail : Nat} (h : Canonical s) : Canonical (s.feedLoss k v rail) :=
  .when h.setFeed.setRail (fun k => .raiseRated (.of_mem k rfl))

theorem feedBack {k v : Nat} (h : Canonical s) : Canonical (s.feedBack k v) := .when h.setFeed (fun k => .raise (.of_mem k rfl))

theorem failHoldtest (h : Canonical s) : Canonical s.failHoldtest := .forUp (fun _ _ k => .ite k.lopFail k) h

theorem railWarn {rail : Nat} (h : Canonical s) : Canonical (s.railWarn rail) := .when h.setRail (·.setFlag.raiseRated.failHoldtest)

theorem railGood {rail : Nat} (h : Canonical s) : Canonical (s.railGood rail) := .when h.setRail (·.setFlag.raise)

theorem setMuted {on : Bool} (h : Canonical s) : Canonical (s.setMuted on) := .forUp (fun _ _ k => k.setFlag) h

theorem persistFail (h : Canonical s) : Canonical s.persistFail := .ite (.raise (.setFlag (.setFlag (.of_mem h rfl)))) h

theorem stopWork (h : Canonical s) : Canonical s.stopWork := .of_mem h.persistFail.setFlag.setFlag rfl

theorem cutRadio {t : Nat} (h : Canonical s) : Canonical (s.cutRadio t) := .ite h.emit h

theorem holdBegin (h : Canonical s) : Canonical s.holdBegin := by
  unfold State.holdBegin
  extract_lets s1 _
  have h1 : Canonical s1 := h.raise.stopWork.cutSeams.cutRadio.setMuted
  clear_value s1
  exact .of_mem h1 rfl

theorem holdAgain (h : Canonical s) : Canonical s.holdAgain := .of_mem h rfl

theorem toHold (h : Canonical s) : Canonical s.toHold := .ite h.holdBegin (.ite h.holdAgain h)

theorem holdEntry {rail : Nat} (h : Canonical s) : Canonical (s.holdEntry rail) := .when h.setRail (·.toHold)

theorem presentOpen (h : Canonical s) : Canonical s.presentOpen := .when (.cutSeams (.of_mem h rfl)) (·.holdBegin)

theorem setBank {k : Nat} {x : Option Save} (h : Canonical s) : Canonical (s.setBank k x) := .ite (.of_mem h rfl) (.of_mem h rfl)

theorem showSave (h : Canonical s) : Canonical s.showSave := by
  unfold State.showSave
  split
  · exact h.put.wrTime.put
  · exact h

theorem saveCommit (h : Canonical s) : Canonical s.saveCommit := by
  unfold State.saveCommit
  split
  · exact h
  · exact .when (.inc (.of_mem h.setKslot rfl)) (·.setFlag)

theorem criticalSave {t us : Nat} (h : Canonical s) : Canonical (s.criticalSave t us) :=
  h.saveCommit.setBank.showSave.put.put.put.incSat

theorem toKeep (h : Canonical s) : Canonical s.toKeep := .of_mem (.ite h h.setBank) rfl

theorem periodicSave (h : Canonical s) : Canonical s.periodicSave := .ite (.of_mem h.setFlag rfl) h

theorem periodicDone {ok : Bool} (h : Canonical s) : Canonical (s.periodicDone ok) := by
  unfold State.periodicDone
  split
  · exact h
  · exact .ite (.put (.put (.showSave (.setBank (.setFlag (.of_mem h rfl)))))) (.raise (.incSat (.setFlag (.setBank (.setFlag (.of_mem
      h rfl))))))

theorem holdtestAuto (h : Canonical s) : Canonical s.holdtestAuto := by
  unfold State.holdtestAuto
  split
  · exact .ite (.of_mem h.lopCmd rfl) h
  · exact h

theorem phuThreshold {k v : Nat} (h : Canonical s) : Canonical (s.phuThreshold k v) :=
  .ite h.put.put.put.setFlag.setFlag.answer h.setFlag.raise.answer

theorem stateCmd {quiet : Bool} (h : Canonical s) : Canonical (s.stateCmd quiet) := .ite h (.of_mem h.setFlag rfl)

theorem persist (h : Canonical s) : Canonical s.persist := .ite h (.of_mem h.setFlag rfl)

theorem persistDone {ok : Bool} (h : Canonical s) : Canonical (s.persistDone ok) := by
  unfold State.persistDone
  split
  · exact h
  · exact .ite (.raise (.setFlag (.setFlag (.of_mem h rfl)))) h.persistFail

theorem pclr {confirm : Nat} (h : Canonical s) : Canonical (s.pclr confirm) := .ite (.of_mem h.setFlag rfl) h

theorem restartCmd {confirm : Nat} (h : Canonical s) : Canonical (s.restartCmd confirm) := .ite (.of_mem h rfl) h

theorem glbCmd {v : Nat} (h : Canonical s) : Canonical (s.glbCmd v) :=
  .answer (.when (.when (.when (.ite h.stateCmd (.ite h.stateCmd h)) (·.persist)) (·.pclr)) (·.restartCmd))

/-! ## Machine/HostW.lean -/

theorem plainWrite {a v : Nat} (h : Canonical s) : Canonical (s.plainWrite a v) := by
  unfold State.plainWrite
  split
  · exact h.answer
  · exact .ite h.answer (.answer (.whenNot h.wr (·.stage)))

theorem writeIf {ok : Bool} {a v : Nat} (h : Canonical s) : Canonical (s.writeIf ok a v) := .ite h.plainWrite h.answer

theorem eachBit {v : Nat} {l : List (Nat × (State → State))} (hl : l.Forall fun c => ∀ t, Canonical t → Canonical (c.2 t))
    (h : Canonical s) :
    Canonical (s.eachBit v l) := by
  unfold State.eachBit
  refine .answer ?_
  replace h : Canonical (s.answer stOk) := h
  generalize s.answer stOk = u at h
  induction l generalizing u with
  | nil => exact h
  | cons c l ih =>
    obtain ⟨hc, hl⟩ := (List.forall_cons _ _ _).1 hl
    exact ih hl _ (.ite (hc _ h) h)

theorem writeGlb {a v : Nat} (h : Canonical s) : Canonical (s.writeGlb a v) := by
  unfold State.writeGlb
  split
  · exact h.glbCmd
  · split
    · exact h.writeIf
    · split
      · exact h.writeIf
      · split
        · exact h.lopCmd
        · exact h.lopRack
        · exact h.plainWrite

theorem hapCtl {v : Nat} (h : Canonical s) : Canonical (s.hapCtl v) := .answer (.of_mem h.setFlag rfl)

theorem closeSel (h : Canonical s) : Canonical s.closeSel := h.endSess

theorem closeAll (h : Canonical s) : Canonical s.closeAll := h.endSessIf

theorem netCommit (h : Canonical s) : Canonical s.netCommit := .of_mem h rfl

theorem writeHap {a v : Nat} (h : Canonical s) : Canonical (s.writeHap a v) := by
  refine .ite h.hapCtl (.ite (.eachBit ?_ h) (.ite h.writeIf h.plainWrite))
  simp only [List.Forall]
  exact ⟨fun _ k => k.netCommit, fun _ k => k.closeSel, fun _ k => k.closeAll⟩

theorem writeTbu {a v : Nat} (h : Canonical s) : Canonical (s.writeTbu a v) :=
  .ite h.tbCtl (.ite (.eachBit ⟨fun _ k => k.tbCap, fun _ k => k.tbSet, fun _ k => k.tbSlew, fun _ k => k.utcArmCmd⟩ h) (.ite h.tbRate
    (.ite h.writeIf (.ite h.writeIf (.ite h.writeIf (.ite h.writeIf (.ite h.writeIf h.plainWrite)))))))

theorem writeRtc {a v : Nat} (h : Canonical s) : Canonical (s.writeRtc a v) :=
  .ite h.plainWrite.discTrack (.ite h.rtcStage (.ite h.rtcStage (.ite (.eachBit ⟨fun _ k => k.rtcCommitCmd, fun _ k => k.discNow⟩ h)
    (.ite h.rtcCval (.ite h.rtcCsel (.ite h.alarmWrite h.plainWrite))))))

theorem writePen {a v : Nat} (h : Canonical s) : Canonical (s.writePen a v) :=
  .ite h.put.answer (.ite h.penTick (.ite (.ite h.penDisarm (.ite h.penSwap h.answer)) (.ite h.stagePtr (.ite h.stageDat (.ite
    h.penHsig (.whenNot h.plainWrite (fun k => .ite h.penBctl (.ite h.penBbudget (.ite h.penBwin k)))))))))

theorem writeZon {a v : Nat} (h : Canonical s) : Canonical (s.writeZon a v) :=
  .ite h.zonTgtWrite (.ite h.zonCtlWrite (.ite h.zonSrcWrite h.plainWrite))

theorem writeSme {a v : Nat} (h : Canonical s) : Canonical (s.writeSme a v) :=
  .ite (.eachBit (fun _ k => k) h) (.ite h.stagePtr (.ite h.stageDat (.ite h.writeIf h.plainWrite)))

theorem writeSea {a v : Nat} (h : Canonical s) : Canonical (s.writeSea a v) := by
  unfold State.writeSea
  exact .ite h.seaFper (.ite h.seaLead (.ite h.seaHold (.ite h.seaResend (.ite h.stagePtr (.ite h.stageDat (.ite h.plainWrite
    (.ite h.seaCtl (.ite (.eachBit ⟨fun _ k => k.askEnum, fun _ k => k.askEnum⟩ h) (.ite h.tailDly (.ite h.cfgCmd (.ite h.seaCfg
    h.plainWrite)))))))))))

theorem writeDia {a v : Nat} (h : Canonical s) : Canonical (s.writeDia a v) :=
  .ite (.eachBit ⟨fun _ k => k.diaClr, fun _ k => k.diaClrAll⟩ h) (.ite (.ite h.plainWrite h.answer) h.plainWrite)

theorem coefWrite {a v : Nat} (h : Canonical s) : Canonical (s.coefWrite a v) := by
  unfold State.coefWrite
  split
  · exact h.answer
  · exact .answer (.of_mem h rfl)

theorem writeCce {a v : Nat} (h : Canonical s) : Canonical (s.writeCce a v) := by
  unfold State.writeCce
  exact .ite (.eachBit ⟨fun _ k => k.cceCommit, fun _ k => k.feReleaseAll, fun _ k => k.dliReset⟩ h) (.ite h.writeIf (.ite h.writeIf
    (.ite h.writeIf (.ite h.plainWrite (.ite h.coefWrite (.ite h.lctlWrite h.writeIf))))))

theorem writeMtr {a v : Nat} (h : Canonical s) : Canonical (s.writeMtr a v) := by
  unfold State.writeMtr
  split
  · exact .ite h.accrstCmd h.answer
  · split
    · exact h.mtrIntv
    · split
      · exact h.mtrCalsel
      · split
        · exact h.mtrCalgain
        · split
          · exact h.mtrCalaux
          · split
            · exact h.mtrCctl
            · exact h.plainWrite

theorem sruWake {v : Nat} (h : Canonical s) : Canonical (s.sruWake v) := .answer (.whenNot (.ite h h.put) (·.put))

theorem sruKey {a v : Nat} (h : Canonical s) : Canonical (s.sruKey a v) := .whenNot h.plainWrite (fun k => .of_mem k rfl)

theorem writeSru {a v : Nat} (h : Canonical s) : Canonical (s.writeSru a v) := by
  unfold State.writeSru
  split
  · exact h.radioConfig
  · refine .ite (.eachBit ⟨fun _ k => k.radioFree, fun _ k => k.sruCall, fun _ k => k.sruRekey⟩ h) (.ite h.sruWake (.ite h.sruKey
      (.ite h.sruTxpwr (.ite h.stagePtr (.ite h.stageDat ?_)))))
    split
    · exact h.sruSblim
    · exact h.sruDwell
    · exact h.plainWrite

theorem kstOne {v : Nat} (h : Canonical s) : Canonical (s.kstOne v) := by
  unfold State.kstOne
  split
  · exact h.answer
  · exact .kstCmd (fun _ _ k => k.kstCreate) h
  · exact .kstCmd (fun _ _ k => k.kstVerify) h
  · exact .kstCmd (fun _ _ k => k.kstCommitCmd) h
  · exact .kstCmd (fun _ _ k => k.kstDiscard) h
  · exact .kstCmd (fun _ _ k => k.kstInvalidate) h
  · exact .kstCmd (fun _ _ k => k.kstDelete) h
  · exact .kstCmd (fun _ _ k => k.kstDerive) h

theorem writeKst {auth : Bool} {a v : Nat} (h : Canonical s) : Canonical (s.writeKst auth a v) :=
  .ite h.answer (.ite (.ite h.kstMany h.kstOne) (.ite h.kstCtl (.ite h.kstSel (.ite h.kdat h.plainWrite))))

theorem writeEvq {a v : Nat} (h : Canonical s) : Canonical (s.writeEvq a v) :=
  .ite (.ite h.evqSwap h.answer) (.ite h.pmapWrite h.plainWrite)

theorem writeJnl {a v : Nat} (h : Canonical s) : Canonical (s.writeJnl a v) := by
  unfold State.writeJnl
  split
  · exact .ite h.rewind h.answer
  · split
    · exact h.markWrite
    · exact h.plainWrite

theorem writeXlk {a v : Nat} (h : Canonical s) : Canonical (s.writeXlk a v) :=
  .ite (.eachBit ⟨fun _ k => k.xlkSwapCmd, fun _ k => k.resyncCmd, fun _ k => k.fwCommit⟩ h) (.ite h.stagePtr (.ite h.stageDat
    h.plainWrite))

theorem writePhu {a v : Nat} (h : Canonical s) : Canonical (s.writePhu a v) := by
  unfold State.writePhu
  split
  · exact h.phuThreshold
  · exact .ite h.writeIf h.plainWrite

theorem writeBlock {auth : Bool} {b a v : Nat} (h : Canonical s) : Canonical (s.writeBlock auth b a v) := by
  unfold State.writeBlock
  split
  · exact h.writeGlb
  · exact h.writeHap
  · exact h.writeTbu
  · exact h.writeRtc
  · exact h.writePen
  · exact h.writeZon
  · exact h.writeSme
  · exact h.writeSea
  · exact h.writeDia
  · exact h.writeCce
  · exact h.writeMtr
  · exact h.writeSru
  · exact h.writeKst
  · exact h.writeEvq
  · exact h.writeJnl
  · exact h.writeXlk
  · exact h.writePhu

theorem nodeWord {i w v : Nat} (h : Canonical s) : Canonical (s.nodeWord i w v) := by
  unfold State.nodeWord
  split
  · exact h.nodeZoneWrite
  · exact h.nodeLdly
  · exact .ite h.nodeAccept h.answer
  · exact h.nodeCounts
  · exact h.answer

theorem writeWin {w : Win} {a v : Nat} (h : Canonical s) : Canonical (s.writeWin w a v) := by
  unfold State.writeWin
  split
  · exact h.penDataWrite
  · exact h.nodeWord
  · exact h.radioNode
  · exact h.answer

theorem writeWord {auth : Bool} {a v : Nat} (h : Canonical s) : Canonical (s.writeWord auth a v) := by
  unfold State.writeWord
  split
  · exact h.answer
  · split
    · exact h.roleAnswer
    · split
      · exact h.vote.writeBlock
      · exact h.writeWin

theorem hostWrite {auth : Bool} {a v : Nat} (h : Canonical s) : Canonical (s.hostWrite auth a v) := .ite h (.ite h.answer h.writeWord)

/-! ## Machine/Host.lean -/

theorem linkChange {k : Nat} {up gbe : Bool} (h : Canonical s) : Canonical (s.linkChange k up gbe) :=
  .ite h (.ite h.setFlag.setFlag h.setFlag.setFlag)

theorem learnMac {mac k : Nat} (h : Canonical s) : Canonical (s.learnMac mac k) := .of_mem h rfl

theorem ethFrame {k : Nat} {bad : Bool} {b : List Nat} (h : Canonical s) : Canonical (s.ethFrame k bad b) :=
  .ite h (.ite (.ite h.incSat h.incSat) (.ite h (.forEach (fun _ _ k => k.emit) h.learnMac)))

theorem netChange (h : Canonical s) : Canonical s.netChange :=
  .ite (.raise (.forEach (fun _ _ k => k.commitWord) (.of_mem h rfl))) (.raise (.setFlag (.forEach (fun _ _ k => k.unstage) (.of_mem h
    rfl))))

theorem postedChange (h : Canonical s) : Canonical s.postedChange := by
  unfold State.postedChange
  split
  · exact .ite (.of_mem h.setFlag rfl) h
  · exact h

theorem settle (h : Canonical s) : Canonical s.settle := .when h.postedChange (·.netChange)

theorem reject {peer : Peer} {hd : HHead} {reason : Nat} (h : Canonical s) : Canonical (s.reject peer hd reason) := h.incSat.emit

theorem authFail {sid : Nat} (h : Canonical s) : Canonical (s.authFail sid) := .when h.incSat.setFlag (·.rateMark.raiseEv)

theorem unknownSession {peer : Peer} {hd : HHead} (h : Canonical s) : Canonical (s.unknownSession peer hd) := h.authFail.reject

theorem hello {peer : Peer} {b : List Nat} {hd : HHead} (h : Canonical s) : Canonical (s.hello peer b hd) := by
  unfold State.hello
  split
  · exact h.reject
  · split
    · exact h.authFail
    · split
      · exact h.keyRefused
      · exact .ite h.reject.setFlag.raise (.ite h (.emit (.of_mem h rfl)))

theorem acceptSess {peer : Peer} {p : HPend} {k : Nat} (h : Canonical s) : Canonical (s.acceptSess peer p k) :=
  .raise (.emit (.setSess (.of_mem h rfl)))

theorem prove {peer : Peer} {b : List Nat} {hd : HHead} (h : Canonical s) : Canonical (s.prove peer b hd) := by
  unfold State.prove
  dsimp only
  split
  · exact h.reject
  · split
    · exact h.authFail
    · split
      · exact h
      · split
        · exact h.keyRefused
        · split
          · exact h
          · split
            · exact h.acceptSess
            · exact h.reject.setFlag.raise

theorem closeDatagram {peer : Peer} {b : List Nat} {hd : HHead} (h : Canonical s) : Canonical (s.closeDatagram peer b hd) := by
  unfold State.closeDatagram
  split
  · exact h.reject
  · split
    · exact h.authFail
    · split
      · exact h.unknownSession
      · exact .ite h.endSess h.authFail

theorem postedStep {b : Nat} (h : Canonical s) : Canonical (s.postedStep b).1 := by
  unfold State.postedStep
  split
  · exact h
  · extract_lets _ s1 s2
    have h1 : Canonical s1 := .of_mem h rfl
    clear_value s1
    have h2 : Canonical s2 := .forEach (fun _ _ k => k.writeWord) h1
    clear_value s2
    exact .of_mem h2 rfl

theorem noteOld {id : Nat} {was : List (Nat × Word)} (h : Canonical s) : Canonical (s.noteOld id was) := .of_mem h rfl

theorem applyPosted {b : Nat} (h : Canonical s) : Canonical (s.applyPosted b) := h.postedStep.noteOld

theorem noteDone {k xid : Nat} {resp : List Nat} (h : Canonical s) : Canonical (s.noteDone k xid resp) := .when h.setHsess (·.endSess)

theorem respond {peer : Peer} {k xid : Nat} {r : HRun} {resp : List Nat} (h : Canonical s) :
    Canonical (s.respond peer k xid r resp) :=
  .ite h.sendResp (.ite (.of_mem h rfl) h.emit.sendResp)

theorem runRead {r : HRun} {k a : Nat} (h : Canonical r.s) : Canonical (r.read k a).1.s := by
  unfold HRun.read
  dsimp only
  split
  · exact h.readWord
  · split
    · exact h.readWord
    · exact h.readWord

theorem runReads {r : HRun} {k a n : Nat} (h : Canonical r.s) : Canonical (r.reads k a n).1.s := by
  induction n generalizing r a with
  | zero => exact h
  | succ n ih => exact ih h.runRead

theorem runWrite {r : HRun} {auth : Bool} {a v : Nat} (h : Canonical r.s) : Canonical (r.write auth a v).s := by
  unfold HRun.write
  dsimp only
  split
  · exact h.writeWord
  · exact h.writeWord

theorem runWrites2 {r : HRun} {auth : Bool} {l : List (Nat × Nat)} (h : Canonical r.s) : Canonical (r.writes2 auth l).1.s :=
  List.foldlRecOn (motive := fun x : HRun × Nat => Canonical x.1.s) l _ h fun _ k _ _ => runWrite k

theorem awaitBlock {r : HRun} {a : Nat} (h : Canonical r.s) : Canonical (r.awaitBlock a).s := by
  unfold HRun.awaitBlock
  split
  · dsimp only
    split
    · exact h.postedStep
    · exact h.postedStep.noteOld
  · exact h

/-- One operation of a request (R450 to R456). -/
theorem runExec {r : HRun} {k : Nat} {o : HOp} (h : Canonical r.s) : Canonical (r.exec k o).s := by
  unfold HRun.exec
  dsimp only
  split
  · exact h
  · split
    · split
      · exact .ite h.roleAnswer h
      · exact .of_mem h rfl
    · split
      · exact h.awaitBlock.runWrites2
      · split
        · exact h.awaitBlock.runWrite
        · exact h.awaitBlock.runReads

theorem runOps {peer : Peer} {hd : HHead} {k : Nat} {key : Option (List Nat)} {ops : List HOp} (h : Canonical s) :
    Canonical (s.runOps peer hd k key ops) := by
  have hr (l : List HOp) {r : HRun} (h : Canonical r.s) : Canonical (l.foldl (fun (r : HRun) o => r.exec k o) r).s :=
    List.foldlRecOn (motive := fun r : HRun => Canonical r.s) l _ h fun _ k _ _ => runExec k
  exact .respond (.inc (.noteDone (hr ops h)))

theorem request {peer : Peer} {hd : HHead} {k : Nat} {key : Option (List Nat)} {body : List Nat} (h : Canonical s) :
    Canonical (s.request peer hd k key body) := by
  unfold State.request
  dsimp only
  split
  · exact h.setHsess.incSat.sendResp
  · split
    · exact h.setHsess.incSat.setFlag
    · split
      · exact h.setHsess.reject
      · split
        · exact h.setHsess.reject
        · exact .ite h.setHsess.reject h.setHsess.runOps

theorem requestDatagram {peer : Peer} {b : List Nat} {hd : HHead} (h : Canonical s) : Canonical (s.requestDatagram peer b hd) := by
  unfold State.requestDatagram
  split
  · exact h.reject
  · split
    · exact .ite h.authFail (.ite h.request h.incSat)
    · split
      · exact h.unknownSession
      · split
        · exact h.authFail
        · split
          · exact h.request
          · exact h.authFail

theorem runDatagram {peer : Peer} {b : List Nat} (h : Canonical s) : Canonical (s.runDatagram peer b) :=
  .ite h.settle.hello (.ite h.settle.prove (.ite h.settle.requestDatagram h.settle.closeDatagram))

theorem serveUpTo {n : Nat} (h : Canonical s) : Canonical (State.serveUpTo n s) := by
  induction n generalizing s with
  | zero => exact h
  | succ n ih =>
    unfold State.serveUpTo
    split
    · exact ih (.runDatagram h)
    · exact h

theorem serveHost (h : Canonical s) : Canonical s.serveHost := h.serveUpTo

theorem hold {peer : Peer} {b : List Nat} (h : Canonical s) : Canonical (s.hold peer b) := .ite h.incSat.setFlag (.of_mem h rfl)

theorem datagram {typ : Nat} {peer : Peer} {b : List Nat} (h : Canonical s) : Canonical (s.datagram typ peer b) :=
  .ite h (.ite h.settle.incSat (.ite h (.ite h.serveHost.runDatagram h.serveHost.hold)))

theorem writeCopied {a v : Nat} (h : Canonical s) : Canonical (s.writeCopied a v) := by
  unfold State.writeCopied
  split
  · exact h
  · split
    · exact h.tbuCopied
    · split
      · exact h.vote.writeBlock
      · exact h.writeWin
      · exact h

theorem removeRec {p : Bool × Word} (h : Canonical s) : Canonical (s.removeRec p) := .of_mem h rfl

theorem takeTrans {t : TransMsg} (h : Canonical s) : Canonical (s.takeTrans t) := by
  unfold State.takeTrans
  refine .of_mem ?_ rfl
  refine .noteDone ?_
  split
  · exact .wr (.setFull (.forEach (fun _ _ k => k.removeRec) (.forEach (fun _ _ k => k.writeCopied) h)))
  · exact .setFull (.forEach (fun _ _ k => k.removeRec) (.forEach (fun _ _ k => k.writeCopied) h))

theorem transAcked {id : Nat} (h : Canonical s) : Canonical (s.transAcked id) := by
  unfold State.transAcked
  split
  · exact .ite (.of_mem h rfl) h
  · split
    · exact h
    · exact .serveHost (.of_mem h.sendResp rfl)

/-! ## Machine/Restart.lean -/

theorem foldl_spSet {α : Type} {k : α → Nat} {v : Sp Word → α → Word} {l : List α} {m : Sp Word} (h : spWf resetWord m = true) :
    spWf resetWord (l.foldl (fun m x => spSet resetWord m (k x) (v m x)) m) = true := by
  induction l generalizing m with
  | nil => exact h
  | cons x l ih => exact ih (spWf_spSet _ _ _ _ h)

/-- What a restart keeps is written word by word into an empty store. -/
theorem restartMem {k : Nat} : spWf resetWord (s.restartMem k) = true := by
  unfold State.restartMem
  refine foldl_spSet (foldl_spSet (foldl_spSet ?_))
  split
  · rfl
  · exact spWf_spSet _ _ _ _ rfl

theorem restartParts {k : Nat} {x : RestartFacts} : Canonical (s.restartParts k x) := .put (.put restartMem)

theorem nodesBack {o : State} (h : Canonical s) : Canonical (s.nodesBack o) :=
  .forUp (fun _ _ k => k.put) (.forUp (fun _ _ k => k.put.put) (.forUp (fun _ _ k => .ite k.put k) h))

theorem rtcLost {lost : Bool} (h : Canonical s) : Canonical (s.rtcLost lost) := .ite h (.setFlag (.setFlag (spWf_filter _ _ _ h)))

theorem timeBack {k : Nat} {x : RestartFacts} {clock : Option (Word × Word)} (h : Canonical s) :
    Canonical (s.timeBack k x clock) := by
  unfold State.timeBack
  extract_lets s0 s1 _ s2 _
  have h0 : Canonical s0 := by
    unfold s0
    split
    · exact h.wr.wr
    · exact h
  clear_value s0
  have h1 : Canonical s1 := .ite h0 h0.setFreq
  clear_value s1
  have h2 : Canonical s2 := .ite h1 (.of_mem h1.setFlag rfl)
  clear_value s2
  exact .of_mem h2 rfl

theorem inForce (h : Canonical s) : Canonical s.inForce := .forUp (fun _ _ k => k.setBob) (.of_mem h rfl)

theorem zonesBack {g : Option (Sp Word × Zon × Cce)} (h : Canonical s) : Canonical (s.zonesBack g) := by
  unfold State.zonesBack
  split
  · exact h
  · exact .of_mem (.forEach (fun _ _ k => k.wr) h) rfl

theorem mtrBack {m : Option Mtr} (h : Canonical s) : Canonical (s.mtrBack m) := by
  unfold State.mtrBack
  split
  · exact h
  · exact .forUp (fun _ _ k => k.showChan) (.of_mem h rfl)

theorem jnlBack {ws : Sp Word} (h : Canonical s) : Canonical (s.jnlBack ws) := .forEach (fun _ _ k => k.wr) h

theorem jnlTrim (h : Canonical s) : Canonical s.jnlTrim := h.put

theorem jnlFlags (h : Canonical s) : Canonical s.jnlFlags := h.setFlag

theorem evqBack {g : Option (List QRec × Nat × Nat)} (h : Canonical s) : Canonical (s.evqBack g) := by
  unfold State.evqBack
  split
  · exact h
  · exact .setFull (.put (.put (.of_mem h rfl)))

theorem groupsBack {o : State} {k : Nat} (h : Canonical s) : Canonical (s.groupsBack o k) := by
  unfold State.groupsBack
  split
  · exact h.jnlFlags
  · refine .jnlFlags ?_
    split
    · refine .evqBack ?_
      split
      · split
        · exact h.zonesBack.mtrBack.jnlBack.jnlTrim
        · exact h.zonesBack.mtrBack
      · exact h.zonesBack.mtrBack
    · split
      · split
        · exact h.zonesBack.mtrBack.jnlBack.jnlTrim
        · exact h.zonesBack.mtrBack
      · exact h.zonesBack.mtrBack

theorem idleBack (h : Canonical s) : Canonical s.idleBack := .ite h.put (.ite h.loadBank.put h.put)

theorem activeBack (h : Canonical s) : Canonical s.activeBack := .ite h (.ite h.loadBank.startImage h.setFlag)

theorem calBack (h : Canonical s) : Canonical s.calBack := .calRehash (.forUp (fun _ _ k => .ite (.ite k.reloadRec k.invalidate) k) h)

theorem radioBack {o : State} {k : Nat} (h : Canonical s) : Canonical (s.radioBack o k) := by
  unfold State.radioBack
  extract_lets s1 used s2 s3 b _
  have h1 : Canonical s1 := .forEach (fun _ _ k => k.wr) h
  clear_value s1
  have h2 : Canonical s2 := .forEach (fun _ _ k => k.put) h1
  clear_value s2
  have h3 : Canonical s3 := .forEach (fun _ _ k => k.setRnode) h2
  clear_value s3
  exact .radioSave (.of_mem h3 rfl)

theorem boot {ok : Bool} (h : Canonical s) : Canonical (s.boot ok) := by
  unfold State.boot
  refine .wrs ?_
  split
  · exact .of_mem h rfl
  · exact h

theorem restartRecord {k : Nat} {sv : Option Save} (h : Canonical s) : Canonical (s.restartRecord k sv) := h.raise

theorem lostRecords {o : State} {x : RestartFacts} (h : Canonical s) : Canonical (s.lostRecords o x) := by
  unfold State.lostRecords
  refine .forUp (fun _ _ k => .ite k.raise k) ?_
  refine .forUp (fun _ _ k => ?_) (.ite h.setFlag.raise h)
  split
  · exact .ite k k.raise
  · exact k

theorem gapRecords {k : Nat} {sv : Option Save} (h : Canonical s) : Canonical (s.gapRecords k sv) := by
  unfold State.gapRecords
  split
  · exact h.gapEnd
  · exact .ite (.forUp (fun _ _ k => .ite k.gapRecord k) h) h

theorem restartStat {o : State} {k : Nat} {sv : Option Save} (h : Canonical s) : Canonical (s.restartStat o k sv) :=
  h.put.put.put.wrTime.put

theorem roleBack (h : Canonical s) : Canonical s.roleBack := .ite h.startJoining h.setRole

theorem phuBack {k : Nat} (h : Canonical s) : Canonical (s.phuBack k) :=
  .showSave (.setFlag (.setFeed (.setFeed (.ite h h.put.setFlag))))

theorem restored {k : Nat} {x : RestartFacts} : Canonical (s.restored k x) :=
  restartParts.rtcLost.timeBack.nodesBack.inForce.groupsBack.idleBack.activeBack.radioBack.boot.phuBack.restartStat

theorem restart {k : Nat} {x : RestartFacts} : Canonical (s.restart k x) := by
  unfold State.restart
  extract_lets sv s0 s1 s2 s3 s4 s5 s6 s7 s8 quiet
  have h0 : Canonical s0 := restored
  have h1 : Canonical s1 := .ite h0.roleBack h0.gapRecords
  have h3 : Canonical s3 := h1.restartRecord.lostRecords.kstRestart.calBack.ageRestore
  have h4 : Canonical s4 := .ite h3.raise h3
  have h5 : Canonical s5 := .ite h4.raise h4
  have h6 : Canonical s6 := .ite h5.raise h5
  have h7 : Canonical s7 := .ite h6 h6.roleBack
  have h8 : Canonical s8 := .ite h7.keepAlarms h7
  exact .ite h8.emit h8

theorem glbRestart {u : State} {x : RestartFacts} (h : Canonical u) : Canonical (u.glbRestart x) := by
  unfold State.glbRestart
  extract_lets _ s1
  refine .ite h ?_
  split
  · exact h
  · exact .ite restart restart

end Canonical

/-- The state that an instruction's own effect ends in, if it ends in one, has its store in canonical form. -/
def CanonicalBody : Body → Prop
  | .ok t => Canonical t
  | .error _ => True

namespace Canonical

variable {s : State}

/-! ## Machine/Isa.lean -/

theorem bodyOn {n : Nat} {f : Bobbin → Bobbin} (h : Canonical s) : CanonicalBody (bodyOn n f s) := h.setBob

theorem bodyFault {c : Nat} (_ : Canonical s) : CanonicalBody (bodyFault c s) := trivial

theorem issueNow {n : Nat} {w : Word} {cost : Nat} {body : State → Body} (hb : ∀ t, Canonical t → CanonicalBody (body t))
    (h : Canonical s) : Canonical (s.issueNow n w cost body) := by
  refine .ite h.park ?_
  have hs := hb s h
  cases hbs : body s with
  | ok t =>
    rw [hbs] at hs
    exact Canonical.retire hs
  | error e =>
    cases e with
    | fault c => exact h.faultBob
    | park a => exact h.park

theorem issue {n : Nat} {w : Word} {cost : Nat} {body : State → Body} (hb : ∀ t, Canonical t → CanonicalBody (body t))
    (h : Canonical s) : Canonical (s.issue n w cost body) :=
  .ite (h.issueNow hb) (.ite (h.groupBoundary.issueNow hb) h)

theorem bodyLoad {n width : Nat} {a : BitVec 4} {off : BitVec 18} {f : Bobbin → List Word → Bobbin} (h : Canonical s) :
    CanonicalBody (bodyLoad n a off width f s) := by
  unfold Machine.bodyLoad
  split
  · trivial
  · split
    · trivial
    · exact h.bodyOn

theorem bodyStore {n width : Nat} {a : BitVec 4} {off : BitVec 18} {f : Bobbin → List Word} (h : Canonical s) :
    CanonicalBody (bodyStore n a off width f s) := by
  unfold Machine.bodyStore
  split
  · trivial
  · exact bodyOn (.forUp (fun _ _ k => k.parFix) h.wrs)

theorem bodyJump {n : Nat} {f : Bobbin → Bobbin} (h : Canonical s) : CanonicalBody (bodyJump n f s) := h.setBob

theorem bodyBranch {n : Nat} {c : BitVec 4} {off : BitVec 22} (h : Canonical s) : CanonicalBody (bodyBranch n c off s) := by
  unfold Machine.bodyBranch
  split
  · trivial
  · exact h.bodyJump

theorem bodyCurve {n : Nat} {d a : BitVec 4} {c : BitVec 8} (h : Canonical s) : CanonicalBody (bodyCurve n d a c s) := by
  unfold Machine.bodyCurve
  dsimp only
  split
  · trivial
  · exact h.bodyOn

/-- An instruction that faults on one condition and else has its effect. -/
theorem bodyUnless {c : Prop} {_ : Decidable c} {e : NoRetire} {b : Body} (h : CanonicalBody b) :
    CanonicalBody (if c then .error e else b) := by
  split
  · trivial
  · exact h

theorem bodyLoop {n : Nat} {d : BitVec 4} {off : BitVec 18} (h : Canonical s) : CanonicalBody (bodyLoop n d off s) :=
  bodyUnless h.bodyJump

theorem bodyTime {n : Nat} {d : BitVec 4} {c : BitVec 18} (h : Canonical s) : CanonicalBody (bodyTime n d c s) :=
  bodyUnless h.bodyOn

theorem bodyCivil {n : Nat} {d : BitVec 4} {c : BitVec 18} (h : Canonical s) : CanonicalBody (bodyCivil n d c s) :=
  bodyUnless h.bodyOn

theorem bodyZset {n : Nat} {a : BitVec 3} {g : BitVec 4} (h : Canonical s) : CanonicalBody (bodyZset n a g s) :=
  bodyUnless h.zset.bodyOn

theorem bodyZget {n : Nat} {d : BitVec 3} {g : BitVec 4} (h : Canonical s) : CanonicalBody (bodyZget n d g s) :=
  bodyUnless h.bodyOn

theorem bodyZgain {n : Nat} {d a : BitVec 4} (h : Canonical s) : CanonicalBody (bodyZgain n d a s) :=
  bodyUnless h.bodyOn

theorem bodyZmode {n : Nat} {a : BitVec 4} {m : BitVec 1} (h : Canonical s) : CanonicalBody (bodyZmode n a m s) :=
  bodyUnless h.zmode.bodyOn

theorem bodySense {n : Nat} {d a : BitVec 4} {q : BitVec 8} (h : Canonical s) : CanonicalBody (bodySense n d a q s) :=
  bodyUnless h.bodyOn

theorem bodyMeter {n : Nat} {d a : BitVec 4} {c : BitVec 8} (h : Canonical s) : CanonicalBody (bodyMeter n d a c s) :=
  bodyUnless h.bodyOn

theorem bodyEmit {n : Nat} {p : BitVec 2} {a b : BitVec 4} {c : BitVec 7} (h : Canonical s) :
    CanonicalBody (bodyEmit n p a b c s) := h.raiseEv.setBob

theorem bodySig {n : Nat} {a : BitVec 4} {b : BitVec 16} (h : Canonical s) : CanonicalBody (bodySig n a b s) := h.setBob.setBob

theorem bodyWaits {n : Nat} {m : BitVec 16} (h : Canonical s) : CanonicalBody (bodyWaits n m s) := bodyUnless h.bodyOn

theorem bodyCsr {n : Nat} {d : BitVec 4} {c : BitVec 8} (h : Canonical s) : CanonicalBody (bodyCsr n d c s) := bodyUnless h.bodyOn

end Canonical

/-- The state that a command leads to, if it leads to one, has its store in canonical form. -/
def CanonicalNext : Host.Outcome State Fault Refusal → Prop
  | .next t => Canonical t
  | _ => True

namespace Canonical

variable {s : State}

/-! ## Machine/Dispatch.lean and Machine/Step.lean -/

theorem sruLost {i : BitVec 10} (h : Canonical s) : CanonicalNext (execSruLost i s) := by
  unfold execSruLost
  split
  · exact .ite h.callFailed h
  · exact h

theorem exec {i : Instr} (h : Canonical s) : CanonicalNext (exec i s) := by
  cases i with
  | solveComplete => exact h.solveComplete
  | smeLaneOut => exact .ite h.laneOut h
  | waitkRelease => exact h.releaseK
  | waittRelease => exact h.releaseT
  | nop => exact h.issue fun _ k => k.bodyOn
  | add => exact h.issue fun _ k => k.bodyOn
  | sub => exact h.issue fun _ k => k.bodyOn
  | mul => exact h.issue fun _ k => k.bodyOn
  | and => exact h.issue fun _ k => k.bodyOn
  | or => exact h.issue fun _ k => k.bodyOn
  | xor => exact h.issue fun _ k => k.bodyOn
  | shl => exact h.issue fun _ k => k.bodyOn
  | shr => exact h.issue fun _ k => k.bodyOn
  | sar => exact h.issue fun _ k => k.bodyOn
  | addi => exact h.issue fun _ k => k.bodyOn
  | ldi => exact h.issue fun _ k => k.bodyOn
  | ldh => exact h.issue fun _ k => k.bodyOn
  | cmp => exact h.issue fun _ k => k.bodyOn
  | cmpi => exact h.issue fun _ k => k.bodyOn
  | min => exact h.issue fun _ k => k.bodyOn
  | minu => exact h.issue fun _ k => k.bodyOn
  | max => exact h.issue fun _ k => k.bodyOn
  | maxu => exact h.issue fun _ k => k.bodyOn
  | mulq => exact h.issue fun _ k => k.bodyOn
  | ld => exact h.issue fun _ k => k.bodyLoad
  | st => exact h.issue fun _ k => k.bodyStore
  | ldv => exact h.issue fun _ k => k.bodyLoad
  | stv => exact h.issue fun _ k => k.bodyStore
  | br => exact h.issue fun _ k => k.bodyBranch
  | jmp => exact h.issue fun _ k => k.bodyJump
  | call => exact h.issue fun _ k => k.bodyJump
  | ret => exact h.issue fun _ k => k.bodyJump
  | loop => exact h.issue fun _ k => k.bodyLoop
  | vadd => exact h.issue fun _ k => k.bodyOn
  | vsub => exact h.issue fun _ k => k.bodyOn
  | vscl => exact h.issue fun _ k => k.bodyOn
  | vmix => exact h.issue fun _ k => k.bodyOn
  | vdot => exact h.issue fun _ k => k.bodyOn
  | vsum => exact h.issue fun _ k => k.bodyOn
  | vext => exact h.issue fun _ k => k.bodyOn
  | vins => exact h.issue fun _ k => k.bodyOn
  | curve => exact h.issue fun _ k => k.bodyCurve
  | time => exact h.issue fun _ k => k.bodyTime
  | civil => exact h.issue fun _ k => k.bodyCivil
  | waitt => exact h.issue fun _ k => k.bodyOn
  | waitk => exact h.issue fun _ k => k.bodyOn
  | zset => exact h.issue fun _ k => k.bodyZset
  | zget => exact h.issue fun _ k => k.bodyZget
  | zgain => exact .ite (h.issue fun _ k => k.bodyZgain) h
  | zmode => exact h.issue fun _ k => k.bodyZmode
  | sense => exact h.issue fun _ k => k.bodySense
  | meter => exact h.issue fun _ k => k.bodyMeter
  | emit => exact h.issue fun _ k => k.bodyEmit
  | sig => exact h.issue fun _ k => k.bodySig
  | waits => exact h.issue fun _ k => k.bodyWaits
  | csr => exact h.issue fun _ k => k.bodyCsr
  | halt => exact h.issue fun _ k => k.bodyOn
  | penBudget => exact .ite h.exhaust h
  | penPfix => exact h.penPfix
  | penCtlWrite => exact .hostWr (fun _ k => k.put.answer) h
  | penTickWrite => exact .hostWr (fun _ k => k.penTick) h
  | penImgptrWrite => exact .hostWr (fun _ k => k.stagePtr) h
  | penImgdatWrite => exact .hostWr (fun _ k => k.stageDat) h
  | penHsigWrite => exact .hostWr (fun _ k => k.penHsig) h
  | penDataWrite => exact .hostWr (fun _ k => k.penDataWrite) h
  | penDataRead => exact .ite h.penDataRead h
  | penBctlStart => exact .hostWr (fun _ k => k.penBctl) h
  | penBctlStop => exact .hostWr (fun _ k => k.penBctl) h
  | penBbudgetWrite => exact .hostWr (fun _ k => k.penBbudget) h
  | penBwinWrite => exact .hostWr (fun _ k => k.penBwin) h
  | patload => exact .lopRow (fun _ k => k.patStep) h
  | nodeZoneWrite => exact .hostWr (fun _ k => k.nodeZoneWrite) h
  | zonTgtWrite => exact .hostWr (fun _ k => k.zonTgtWrite) h
  | zonCtlWrite => exact .hostWr (fun _ k => k.zonCtlWrite) h
  | smeCalptrWrite => exact .hostWr (fun _ k => k.stagePtr) h
  | smeCaldatWrite => exact .hostWr (fun _ k => k.stageDat) h
  | calload => exact .lopRow (fun _ k => k.calStep) h
  | smeCalfix => exact .ite h.repairRec h
  | seamFrameReceived => exact h.seamReceive
  | controlFrameResend => exact h.resend
  | seaResendFail => exact h.resendFail
  | seamSignalLost => exact .ite h.setFlag.seamEvent h
  | seaNodeLost => exact h.nodeLost
  | slowClear => exact h.slowClear
  | auxWindow => exact h.auxWindow
  | seaCmdEnum => exact .hostWr (fun _ k => k.askEnum.answer) h
  | seaCmdCensus => exact .hostWr (fun _ k => k.askEnum.answer) h
  | seaCtlWrite => exact .hostWr (fun _ k => k.vote.seaCtl) h
  | seaFperWrite => exact .hostWr (fun _ k => k.seaFper) h
  | seaLeadWrite => exact .hostWr (fun _ k => k.seaLead) h
  | seaCfgWrite => exact .hostWr (fun _ k => k.seaCfg) h
  | seaCfgcmdGo => exact .hostWr (fun _ k => k.cfgGo) h
  | nodeAccept => exact .hostWr (fun _ k => k.nodeAccept) h
  | nodeLdlyWrite => exact .hostWr (fun _ k => k.nodeLdly) h
  | seaImgptrWrite => exact .hostWr (fun _ k => k.stagePtr) h
  | seaImgdatWrite => exact .hostWr (fun _ k => k.stageDat) h
  | nodeimg => exact .lopRow (fun _ k => k.nodeImgStep) h
  | lampUnverifiedAged => exact h.unvAged
  | innerLoopRun => exact .ite h.prepLoop.outerRun.innerRun h
  | outerLoopRun => exact .ite h.prepLoop.outerRun h
  | cceFetrip => exact .ite h.feTrip h
  | cceFeclear => exact .ite h.feRelease h
  | cceStale => exact .ite h.staleTrip h
  | cceLctlWrite => exact .hostWr (fun _ k => k.lctlWrite) h
  | ptpSyncReceived => exact h.syncReceived
  | followUpReceived => exact h.followUp
  | delayReqSend => exact h.delayReq
  | delayRespReceived => exact h.delayResp
  | announceReceived => exact h.announce
  | ptpTransit => exact h.ptpTransit
  | timeMarkReceived => exact h.timeMark
  | pairFirstWordRead => exact .ite (.of_mem h.snapPartners rfl) h
  | rtcStageWrite => exact .hostWr (fun _ k => k.rtcStage) h
  | rtcTimeRead => exact .ite (.of_mem h rfl) h
  | rtcAlarmWrite => exact .hostWr (fun _ k => k.alarmWrite) h
  | rtcTempRead => exact h.rtcTemp
  | rtcDisciplineCompare => exact h.rtcCompare
  | mtrCycleEnd => exact h.cycleEnd
  | mtrCmdAccrst => exact .hostWr (fun _ k => k.accrstCmd) h
  | mtrIntvWrite => exact .hostWr (fun _ k => k.mtrIntv) h
  | wakeSlot => exact h.wakeSlot
  | letTimeout => exact h.letTimeout
  | wakeSlotMissed => exact h.slotMissed
  | replyReceived => exact .ite h.replyReceived h
  | sruLost => exact h.sruLost
  | joinReceived => exact .ite h.floodReceived h
  | floodReceived => exact .ite h.floodReceived h
  | sruRekey => exact .ite h.rekeyCheck h
  | radioConfigWrite => exact .hostWr (fun _ k => k.radioConfig) h
  | sruTxpwrWrite => exact .hostWr (fun _ k => k.sruTxpwr) h
  | radioNodeWrite => exact .hostWr (fun _ k => k.radioNode) h
  | sruImgptrWrite => exact .hostWr (fun _ k => k.stagePtr) h
  | sruImgdatWrite => exact .hostWr (fun _ k => k.stageDat) h
  | radioimg => exact .lopRow (fun _ k => k.radioImgStep) h
  | radioRelayReceived => exact h.radioRelayed
  | kstCmdCreate => exact .kstCmd (fun _ _ k => k.kstCreate) h
  | kstCmdVerify => exact .kstCmd (fun _ _ k => k.kstVerify) h
  | kstCmdCommit => exact .kstCmd (fun _ _ k => k.kstCommitCmd) h
  | kstCmdDiscard => exact .kstCmd (fun _ _ k => k.kstDiscard) h
  | kstCmdInvalidate => exact .kstCmd (fun _ _ k => k.kstInvalidate) h
  | kstCmdDelete => exact .kstCmd (fun _ _ k => k.kstDelete) h
  | kstCmdDerive => exact .kstCmd (fun _ _ k => k.kstDerive) h
  | kstKdatWrite => exact .hostWr (fun _ k => .ite k.kdat k.answer) h
  | kstSelWrite => exact .hostWr (fun _ k => k.kstSel) h
  | kstCtlWrite => exact .hostWr (fun _ k => k.vote.kstCtl) h
  | kcvCompare => exact h.kcvCompare
  | keygen => exact .lopRow (fun _ k => k) h
  | attest => exact .lopRow (fun _ k => k) h
  | evqCtlWrite => exact .hostWr (fun _ k => k.put.answer) h
  | jnlRepair => exact h.jnlFix
  | jnlCmdRewind => exact .hostWr (fun _ k => k.rewind) h
  | jnlMarkWrite => exact .hostWr (fun _ k => k.markWrite) h
  | jnlScrubPass => exact h.jnlScrub
  | lopAbort => exact .hostWr (fun _ k => k.lopAbort) h
  | lopClear => exact .hostWr (fun _ k => k.lopClear) h
  | lopUnknownCode => exact .hostWr (fun _ k => k.lopCmd) h
  | jsearch => exact .lopRow (fun _ k => k.searchRun) h
  | selftest => exact .lopRow (fun _ k => k.testStep) h
  | holdtest => exact .lopRow (fun _ k => k.holdStep) h
  | statedump => exact .lopRow (fun _ k => k.dumpRun) h
  | lopRackWrite => exact .hostWr (fun _ k => k.lopRack) h
  | lopDone => exact h.lopDone
  | heartbeatReceived => exact h.heartbeat
  | xlkLaneLoss => exact h.laneLoss
  | stateCopyReceived => exact h.copyReceived
  | stateCopyAck => exact h.copyAcked
  | readyRegain => exact .ite h.wholeState h
  | transactionRecordReceived => exact .ite h.takeTrans h
  | transactionAck => exact .ite h.transAcked h
  | returnFieldRelay => exact .ite h.takeField h
  | localRecordRelay => exact .ite h.journal.raiseAll h
  | calRecordReceived => exact .ite h.wrs.emit h
  | xlkFwptrWrite => exact .hostWr (fun _ k => k.stagePtr) h
  | xlkFwdatWrite => exact .hostWr (fun _ k => k.stageDat) h
  | pairJoin => exact h.pairJoin
  | ethFrameForward => exact h.ethFrame
  | arpRequest => exact .ite h.emit h
  | icmpEcho => exact .ite h.emit h
  | hello => exact h.datagram
  | prove => exact h.datagram
  | request => exact h.datagram
  | close => exact h.datagram
  | postedWriteApply => exact .ite h.applyPosted h
  | phuFeedLost => exact h.feedLoss
  | phuFeedRestored => exact h.feedBack
  | phuWarn => exact h.railWarn
  | phuWarnEnd => exact h.railGood
  | holdEntry => exact h.holdEntry
  | criticalSaveComplete => exact .ite (.of_mem h.criticalSave rfl) h
  | keepEntry => exact .ite h.setRail.toKeep h.setRail
  | sagRestart => exact .ite h.setRail.beginRestart h.setRail
  | periodicSaveDone => exact .ite h.periodicDone h
  | phuThresholdWrite => exact .ite h (.hostWr (fun _ k => k.vote.phuThreshold) h)
  | glbPersist => exact .ite h.persistDone h
  | glbCmdPclr => exact .hostWr (fun _ k => k.pclr.answer) h
  | glbCmdRestart => exact .hostWr (fun _ k => k.restartCmd.answer) h
  | glbRestart => exact h.glbRestart
  | registerWrite => exact h.hostWrite
  | illegalInstruction => exact .ite (h.issue fun _ k => k.bodyFault) h
  | seamLinkLock => exact .ite h.setFlag h
  | ethLinkChange => exact h.linkChange
  | xlkLaneLock => exact h.setLane
  | firmwareBankVerified => exact .ite h.fwVerified h
  | mtrSample => exact h.mtrSample
  | tbuCtlWrite => exact .hostWr (fun _ k => k.tbCtl) h
  | frameStart => exact h.frameStart
  | tickCommit => exact .ite h.tickSteps h
  | tickChange => exact .ite h.tickChange h
  | patternSwap => exact h.patternSwap
  | groupBoundary => exact h.groupBoundary
  | programScrubPass => exact h.programScrub
  | penCmdSwap => exact .hostWr (fun _ k => k.penSwap) h
  | penCmdDisarm => exact .hostWr (fun _ k => k.penDisarm) h
  | calloadRecordInstall => exact .ite h.installStep h
  | smeCmdLanerst => exact .hostWr (fun _ k => .answer (.of_mem k rfl)) h
  | calScrubPass => exact h.calScrub
  | ageingSave => exact .ite (.of_mem h.ageingSave rfl) h
  | smeTstale => exact .ite h.countStale h
  | census => exact .ite h.census h
  | framePeriodChange => exact h.fperChange
  | leadChange => exact h.leadChange
  | diaCmdClr => exact .hostWr (fun _ k => k.diaClr) h
  | diaCmdClrall => exact .hostWr (fun _ k => k.diaClrAll) h
  | cceCmdCommit => exact .hostWr (fun _ k => k.cceCommit) h
  | cceCmdFeclr => exact .hostWr (fun _ k => k.feReleaseAll.answer) h
  | cceCmdDlirst => exact .hostWr (fun _ k => k.dliReset) h
  | announceTimeout => exact h.announceTimeout
  | syncTimeout => exact h.syncTimeout
  | tbuHoldend => exact .ite h.tbEnter.raiseRated h
  | stepBegin => exact .ite h.frameStart h
  | timeStep => exact .ite h.frameStart h
  | tbuCmdCap => exact .hostWr (fun _ k => k.tbCap) h
  | tbuCmdSet => exact .hostWr (fun _ k => k.tbSet) h
  | tbuCmdSlew => exact .hostWr (fun _ k => k.tbSlew) h
  | slewComplete => exact h.slewDone
  | tbuCmdUtcarm => exact .hostWr (fun _ k => k.utcArmCmd) h
  | utcOffsetChange => exact h.utcChange
  | leapNotice => exact h.leapNotice
  | rtcCmdCommit => exact .hostWr (fun _ k => k.rtcCommitCmd) h
  | rtcCommitApply => exact h.rtcCommit
  | rtcCmdDiscnow => exact .hostWr (fun _ k => k.discNow) h
  | rtcSecond => exact h.rtcSecond
  | rtcCycleAdjust => exact h.rtcAdjust
  | rtcAgeUpdate => exact h.rtcAge
  | intervalBoundary => exact h.boundaryNow
  | rallyStart => exact h.rallyStart
  | recoveryWindow => exact h.recoveryWindow
  | seenCacheExpiry => exact h.seenExpire
  | radioConfigChange => exact .ite h.radioChangeDue h
  | sruCmdDrop => exact .hostWr (fun _ k => k.radioFree.answer) h
  | sruCmdCall => exact .hostWr (fun _ k => k.sruCall.answer) h
  | sruCmdRekey => exact .hostWr (fun _ k => k.sruRekey.answer) h
  | kstCommit => exact .ite h.kstCommit h
  | orphanMark => exact .ite h.orphanMark h
  | evqPop0Read => exact .ite (.of_mem h.pop0 rfl) h
  | evqBankSwap => exact h.bankSwap
  | evqCmdSwap => exact .hostWr (fun _ k => k.evqSwap) h
  | evqModeChange => exact h.modeChange
  | evqWmstatRead => exact .ite (.of_mem h.wmRead rfl) h
  | jnlRd0Read => exact .ite (.of_mem h.jnlRead rfl) h
  | heartbeatSend => exact .ite h.emit h
  | heartbeatInterval => exact h.beatInterval
  | xlkTakeover => exact h.takeover
  | activeFenceAssert => exact .ite h.decideFence h
  | xlkPathRestored => exact .ite h.pathRestored h
  | fenceInAssert => exact h.fenceIn
  | xlkCopylost => exact .ite h.copyLost h
  | xlkCmdSwap => exact .hostWr (fun _ k => k.xlkSwapCmd) h
  | xlkSwap => exact .ite h.swapRoles h
  | xlkCmdResync => exact .hostWr (fun _ k => k.resyncCmd) h
  | xlkCmdFwcommit => exact .hostWr (fun _ k => k.fwCommit) h
  | xlkJoin => exact .ite h.joinEnd h
  | joinRetry => exact .ite (.of_mem h rfl) h
  | partnerWaitExpiry => exact .ite h.becomeActive h
  | setupExpiry => exact .ite (.of_mem h rfl) h
  | sessionTimeout => exact .ite h.endSessIf h
  | hapCmdNetcommit => exact .hostWr (fun _ k => k.netCommit.answer) h
  | hapNetchg => exact .ite h.netChange h
  | hapCmdClose => exact .hostWr (fun _ k => k.closeSel.answer) h
  | hapCmdCloseall => exact .hostWr (fun _ k => k.closeAll.answer) h
  | postedModeChange => exact h.postedChange
  | periodicSave => exact h.periodicSave
  | holdtestAuto => exact .ite (.of_mem h.holdtestAuto rfl) h
  | glbCmdQuiet => exact .hostWr (fun _ k => k.stateCmd.answer) h
  | glbCmdWake => exact .hostWr (fun _ k => k.stateCmd.answer) h
  | glbStatechg => exact h.stateStep
  | glbCmdPersist => exact .hostWr (fun _ k => k.persist.answer) h
  | watchdogExpiry => exact .ite (.of_mem h rfl) h
  | presentOpen => exact h.presentOpen
  | insertionDetect => exact .of_mem h rfl
  | fenceInDeassert => exact h.setFlag.setFenced

theorem idle (h : Canonical s) : CanonicalNext (idle s) := by
  unfold Machine.idle
  dsimp only
  have ht := h.voteAll.timeCycle.rtcSettle.fenceSettle
  split
  · split
    · exact ht.serveHost
    · split
      · exact ht.groupBoundary
      · exact ht.exec
  · exact h

theorem step (h : Canonical s) : CanonicalNext (step s) := by
  unfold Machine.step
  split
  · exact exec (.of_mem h rfl)
  · exact h.idle

end Canonical

/-- Settles O59: every write of the store goes through `spSet`, whose result is canonical, a filter of it or an empty start. -/
theorem stepKeepsTheStoreCanonical : Obligations.StepKeepsTheStoreCanonical := by
  intro s t h e
  have ht := Canonical.step h
  rw [e] at ht
  exact ht

end Sys2Proof.Machine

/-!
# The state after reset (O57)

Nothing is listed in the word store after reset, so a field reads as its word's reset value.  The registers that exist once for each
bobbin, seam, zone or loop stand in blocks of one stride: every index reads as index 0 does.
-/

namespace Sys2Proof.Machine

/-! ## Blocks of registers -/

/-- The row's words lie within one stride of a block of `n` entries of `st` bytes at `base`, at every entry alike. -/
def RegRow.inBlock (base n st : Nat) (r : RegRow) : Bool :=
  decide (1 < r.n1) && r.n1 == n && r.st1 == st && decide (base ≤ r.base) && decide (r.base - base + max 1 (r.n2 * r.st2) ≤ st)

/-- A row of a block names word `o` of entry `i` just when it names word `o` of entry 0. -/
theorem RegRow.holds_block {base n st : Nat} {r : RegRow} (hr : r.inBlock base n st = true) {o i : Nat} (ho : o < st) (hi : i < n) :
    r.holds (base + o + i * st) = r.holds (base + o) := by
  simp only [inBlock, Bool.and_eq_true, decide_eq_true_eq, beq_iff_eq] at hr
  obtain ⟨⟨⟨⟨h1, rfl⟩, rfl⟩, hb⟩, hfit⟩ := hr
  have hn : ¬ r.n1 ≤ 1 := by omega
  simp only [holds, hn, if_false, Nat.max_eq_left h1.le]
  by_cases hle : r.base ≤ base + o
  · have e : base + o + i * r.st1 - r.base = base + o - r.base + i * r.st1 := by omega
    have hlt : base + o - r.base < r.st1 := by omega
    have hpos : 0 < r.st1 := by omega
    have hle' : r.base ≤ base + o + i * r.st1 := by omega
    have h0 : 0 < r.n1 := by omega
    simp [e, hle, hle', Nat.add_mul_div_right _ _ hpos, Nat.div_eq_of_lt hlt, Nat.mod_eq_of_lt hlt, hi, h0]
  · cases i with
    | zero => simp
    | succ i =>
      have e : base + o + (i + 1) * r.st1 - r.base = r.st1 - (r.base - (base + o)) + i * r.st1 := by
        rw [Nat.succ_mul]
        omega
      have hlt : r.st1 - (r.base - (base + o)) < r.st1 := by omega
      simp only [e, Nat.add_mul_mod_self_right, Nat.mod_eq_of_lt hlt, hle, decide_false, Bool.false_and]
      by_cases h2 : r.n2 ≤ 1
      · have hne : r.st1 - (r.base - (base + o)) ≠ 0 := by omega
        simp [h2, hne]
      · have hmul : r.n2 * r.st2 ≤ r.st1 - (r.base - (base + o)) := by omega
        rcases Nat.eq_zero_or_pos r.st2 with h0 | hpos
        · have hne : r.st1 - (r.base - (base + o)) ≠ 0 := by omega
          simp [h2, h0, hne]
        · simp [h2, Nat.not_lt.2 ((Nat.le_div_iff_mul_le hpos).2 hmul)]

theorem regRow_block {base n st : Nat} {rows : List RegRow} (hrows : rows.all (·.inBlock base n st) = true)
    (hsel : ∀ a, base ≤ a → a < base + n * st → regRows a = rows) {o i : Nat} (ho : o < st) (hi : i < n) :
    regRow (base + o + i * st) = regRow (base + o) := by
  have hlast : i * st + st ≤ n * st := by
    rw [← Nat.succ_mul]
    exact Nat.mul_le_mul_right _ hi
  rw [regRow, regRow, hsel _ (by omega) (by omega), hsel _ (by omega) (by omega)]
  exact List.find?_congr fun r hr => RegRow.holds_block (List.all_eq_true.1 hrows r hr) ho hi

/-- Outside the radio's sub-band words, a register's reset value is its row's. -/
theorem regReset_eq {a : Nat} (h : a < 0x80000) (ha : a ≠ Reg.ZON_STAT 511) : regReset a = ((regRow a).map (·.reset)).getD 0 := by
  unfold regReset
  rw [if_neg ha, if_neg (by omega), if_neg (by omega)]
  cases regRow a with
  | none => rfl
  | some r => rfl

/-! ## Reads after reset -/

theorem reset_get (f : Fld) : State.reset.get f = getBits (resetWord f.addr) f.lo f.width := rfl

theorem reset_get_block {base n st : Nat} {rows : List RegRow} (hrows : rows.all (·.inBlock base n st) = true)
    (hsel : ∀ a, base ≤ a → a < base + n * st → regRows a = rows) (hend : base + n * st ≤ 0x80000) {o i : Nat} (ho : o < st)
    (hi : i < n) (hne : ∀ j, j < n → base + o + j * st ≠ Reg.ZON_STAT 511) (lo width : Nat) :
    State.reset.get ⟨base + o + i * st, lo, width⟩ = State.reset.get ⟨base + o, lo, width⟩ := by
  have hlast : i * st + st ≤ n * st := by
    rw [← Nat.succ_mul]
    exact Nat.mul_le_mul_right _ hi
  have hne0 : base + o ≠ Reg.ZON_STAT 511 := by simpa using hne 0 (by omega)
  have hp : base + o + i * st < progBase := by unfold progBase; omega
  have hp0 : base + o < progBase := by unfold progBase; omega
  have e : regReset (base + o + i * st) = regReset (base + o) := by
    rw [regReset_eq (by omega) (hne i hi), regReset_eq (by omega) hne0, regRow_block hrows hsel ho hi]
  simp only [reset_get, resetWord, hp, hp0, if_true, e]

theorem reset_get_bob {n o : Nat} (hn : n < 32) (ho : o < 64) (lo width : Nat) :
    State.reset.get ⟨0x11000 + o + n * 64, lo, width⟩ = State.reset.get ⟨0x11000 + o, lo, width⟩ := by
  refine reset_get_block (rows := regRowsBob) (n := 32) (by decide) (fun a _ _ => ?_) (by decide) ho hn (fun j _ => ?_) lo width
  · simp (disch := omega) only [regRows, if_neg, if_pos]
  · simp only [Reg.ZON_STAT]
    omega

theorem reset_get_seam {n o : Nat} (hn : n < 32) (ho : o < 256) (lo width : Nat) :
    State.reset.get ⟨0x41000 + o + n * 256, lo, width⟩ = State.reset.get ⟨0x41000 + o, lo, width⟩ := by
  refine reset_get_block (rows := regRowsSeam) (n := 32) (by decide) (fun a _ _ => ?_) (by decide) ho hn (fun j _ => ?_) lo width
  · simp (disch := omega) only [regRows, if_neg, if_pos]
  · simp only [Reg.ZON_STAT]
    omega

theorem reset_get_loop {z o : Nat} (hz : z < 512) (ho : o < 16) (lo width : Nat) :
    State.reset.get ⟨0x61000 + o + z * 16, lo, width⟩ = State.reset.get ⟨0x61000 + o, lo, width⟩ := by
  refine reset_get_block (rows := regRowsLoop) (n := 512) (by decide) (fun a _ _ => ?_) (by decide) ho hz (fun j _ => ?_) lo width
  · simp (disch := omega) only [regRows, if_neg, if_pos]
  · simp only [Reg.ZON_STAT]
    omega

/-- All words of a zone but ZON_STAT, of which zone 511 has its own. -/
theorem reset_get_zon {z o : Nat} (hz : z < 512) (ho : o < 28) (lo width : Nat) :
    State.reset.get ⟨0x20000 + o + z * 32, lo, width⟩ = State.reset.get ⟨0x20000 + o, lo, width⟩ := by
  refine reset_get_block (rows := regRowsZon) (n := 512) (by decide) (fun a _ _ => ?_) (by decide) (by omega) hz (fun j _ => ?_) lo width
  · simp (disch := omega) only [regRows, if_neg, if_pos]
  · simp only [Reg.ZON_STAT]
    omega

/-- R37: all nodes start in zone 511. -/
theorem reset_zonMembers {z : Nat} (hz : z < 512) : State.reset.get (F.ZON_STAT_MEMBERS z) = if z = 511 then 4096 else 0 := by
  split
  case isTrue h =>
    subst h
    decide
  case isFalse h =>
    have hrow : regRow (Reg.ZON_STAT z) = regRow (Reg.ZON_STAT 0) :=
      regRow_block (base := 0x20000) (n := 512) (st := 32) (rows := regRowsZon) (o := 28) (by decide)
        (fun a _ _ => by simp (disch := omega) only [regRows, if_neg, if_pos]) (by decide) hz
    have hne : Reg.ZON_STAT z ≠ Reg.ZON_STAT 511 := by simp only [Reg.ZON_STAT]; omega
    have hlt : Reg.ZON_STAT z < 0x80000 := by simp only [Reg.ZON_STAT]; omega
    have hp : Reg.ZON_STAT z < progBase := by unfold progBase; omega
    have e : regReset (Reg.ZON_STAT z) = 0 := by
      rw [regReset_eq hlt hne, hrow]
      decide
    simp only [reset_get, F.ZON_STAT_MEMBERS, resetWord, hp, if_true, e]
    decide

theorem resetWord_node {i w : Nat} (hi : i < 4096) (hw : w < 8) : resetWord (nodeAddr i w) = BitVec.ofNat 32 (nodeReset w) := by
  have e : (nodeAddr i w - nodeBase) % 32 / 4 = w := by unfold nodeAddr; omega
  unfold resetWord
  rw [e, if_neg, if_neg, if_pos]
  all_goals
    simp only [nodeAddr, nodeBase, dataBase, progBase]
    omega

theorem resetWord_radio {i w : Nat} (hi : i < 1024) (hw : w < 16) : resetWord (radioAddr i w) = BitVec.ofNat 32 (radioReset w) := by
  have e : (radioAddr i w - radioBase) % 64 / 4 = w := by unfold radioAddr; omega
  unfold resetWord
  rw [e, if_neg, if_neg, if_neg, if_pos]
  all_goals
    simp only [radioAddr, radioBase, nodeBase, dataBase, progBase]
    omega

/-! ## The registers of R14 and the Reset columns -/

theorem reset_bobbin {n : Nat} (hn : n < 32) : (State.reset.bob n).pc = 0 ∧ (∀ r, (State.reset.bob n).rg r = 0) ∧
    State.reset.get (F.PEN_BBUDGET_BUDGET n) = 1 ∧ State.reset.get (F.PEN_BWIN_SIZE n) = 512 :=
  ⟨rfl, fun r => by simp [State.bob, State.reset, Bobbin.rg], (reset_get_bob (o := 0xC) hn (by decide) 0 24).trans (by decide),
    (reset_get_bob (o := 0x18) hn (by decide) 16 10).trans (by decide)⟩

theorem reset_seam {n : Nat} (hn : n < 32) : State.reset.get (F.SEA_TAILDLY_NS n) = 15 ∧
    State.reset.get (F.SEA_CFGTGT_TARGET n) = 0xFF ∧ State.reset.flag (F.SEA_CTL_ENABLE n) = false :=
  ⟨(reset_get_seam (o := 0x1C) hn (by decide) 0 10).trans (by decide), (reset_get_seam (o := 0x28) hn (by decide) 0 8).trans (by decide),
    congrArg (· == 1) ((reset_get_seam (o := 0) hn (by decide) 0 1).trans (by decide : _ = 0))⟩

theorem reset_zone {z : Nat} (hz : z < 512) : State.reset.get (F.ZON_CTL_REACT z) = 1 ∧ State.reset.get (F.ZON_CTL_FCAP z) = 0xFFFF ∧
    State.reset.get (F.ZON_PCAP_PCAP z) = 0xFFFFFF ∧ State.reset.get (F.ZON_SRC_SOURCE z) = 0xFFFF ∧
    State.reset.get (F.CCE_LOUT_GAIN z) = 0x4000 ∧ State.reset.flag (F.CCE_LCTL_FEOPEN z) = true :=
  ⟨(reset_get_zon (o := 0x10) hz (by decide) 2 2).trans (by decide), (reset_get_zon (o := 0x10) hz (by decide) 16 16).trans (by decide),
    (reset_get_zon (o := 0x14) hz (by decide) 0 24).trans (by decide), (reset_get_zon (o := 0x18) hz (by decide) 0 16).trans (by decide),
    (reset_get_loop (o := 8) hz (by decide) 0 16).trans (by decide),
    congrArg (· == 1) ((reset_get_loop (o := 0) hz (by decide) 2 1).trans (by decide : _ = 1))⟩

theorem reset_node {i : Nat} (hi : i < 4096) : State.reset.get (F.NT_ZONE i) = 511 ∧ State.reset.get (F.NT_LDLY i) = 15 ∧
    State.reset.get (F.NT_STATE i) = 0 := by
  simp only [reset_get, F.NT_ZONE, F.NT_LDLY, F.NT_STATE, resetWord_node hi (by decide : 0 < 8), resetWord_node hi (by decide : 2 < 8),
    resetWord_node hi (by decide : 3 < 8)]
  decide

theorem reset_radioNode {i : Nat} (hi : i < 1024) : State.reset.get (F.RT_STATE i) = 0 := by
  simp only [reset_get, F.RT_STATE, resetWord_radio hi (by decide : 1 < 16)]
  decide

/-- Settles O57: the indexed registers through their blocks, the others by evaluation. -/
theorem resetState : Obligations.ResetState := by
  refine ⟨rfl, rfl, rfl, rfl, rfl, rfl, fun n hn => ?_, fun z hz => ?_, fun i hi => reset_node hi, fun i hi => reset_radioNode hi, ?_⟩
  · obtain ⟨hpc, hrg, hbudget, hwin⟩ := reset_bobbin hn
    exact ⟨hpc, hrg, hbudget, hwin, reset_seam hn⟩
  · obtain ⟨hreact, hfcap, hpcap, hsrc, hgain, hopen⟩ := reset_zone hz
    exact ⟨hreact, hfcap, hpcap, hsrc, hgain, hopen, reset_zonMembers hz⟩
  · decide +kernel

end Sys2Proof.Machine

/-!
# Frame starts and the time step (O38)

Two relations carry the proof.  `SameGrid`: nothing that a frame start does up to Fs changes the frame grid, the requested step, the role
or the time staged for SET; one lemma for each function of the model on the way, in the order of the model's files.  `StepShown`: what the
move of the time base shows is kept by what follows it.
-/

namespace Sys2Proof.Machine

/-- The words that the steps of a frame start leave alone and that the course of a time step reads: the role, and the time staged for SET. -/
def watched (a : Nat) : Bool := a == Reg.GLB_ROLE || a == Reg.TBU_SET_S_LO || a == Reg.TBU_SET_S_HI || a == Reg.TBU_SET_NS

/-- What decides, outside the word store, where the frame starts lie and when a time step takes place. -/
structure GridPart where
  ns : Nat
  step : Option StepReq
  fperUs : Nat
  leadUs : Nat
  fperAt : Nat
  leadAt : Nat
  swapAt : Option Nat

def State.gridPart (s : State) : GridPart :=
  { ns := s.ns, step := s.tbu.step, fperUs := s.sea.fperUs, leadUs := s.sea.leadUs, fperAt := s.sea.fperAt, leadAt := s.sea.leadAt,
    swapAt := s.xlk.swapAt }

/-- State `t` has the frame grid, the requested step, the role and the staged time of state `s`. -/
structure SameGrid (s t : State) : Prop where
  part : t.gridPart = s.gridPart
  word : ∀ a, watched a = true → t.rd a = s.rd a
  staged : ∀ a, watched a = true → spGet (fun _ => none) t.basted a = spGet (fun _ => none) s.basted a

namespace SameGrid

variable {old s : State}

/-! ## Rules for the shapes that the model's definitions are built of -/

theorem refl (s : State) : SameGrid s s := ⟨rfl, fun _ _ => rfl, fun _ _ => rfl⟩

theorem of_eq {t : State} (h : SameGrid old s) (ep : t.gridPart = s.gridPart) (em : t.mem = s.mem) (eb : t.basted = s.basted) :
    SameGrid old t :=
  ⟨ep.trans h.part, fun a ha => by rw [State.rd, em]; exact h.word a ha, fun a ha => by rw [eb]; exact h.staged a ha⟩

theorem withPen {x : Pen} (h : SameGrid old s) : SameGrid old { s with pen := x } := h.of_eq rfl rfl rfl

theorem withDia {x : Dia} (h : SameGrid old s) : SameGrid old { s with dia := x } := h.of_eq rfl rfl rfl

theorem withMtr {x : Mtr} (h : SameGrid old s) : SameGrid old { s with mtr := x } := h.of_eq rfl rfl rfl

theorem ite {c : Prop} {_ : Decidable c} {a b : State} (ha : SameGrid old a) (hb : SameGrid old b) :
    SameGrid old (if c then a else b) := by
  split
  · exact ha
  · exact hb

/-- A conditional that adds to a state's changes. -/
theorem when {c : Prop} {_ : Decidable c} {t : State} (h : SameGrid old s) (ht : SameGrid old s → SameGrid old t) :
    SameGrid old (if c then t else s) := .ite (ht h) h

theorem whenNot {c : Prop} {_ : Decidable c} {t : State} (h : SameGrid old s) (ht : SameGrid old s → SameGrid old t) :
    SameGrid old (if c then s else t) := .ite h (ht h)

theorem foldl {α : Type} {f : State → α → State} {l : List α} (hf : ∀ t x, SameGrid old t → SameGrid old (f t x))
    (h : SameGrid old s) : SameGrid old (l.foldl f s) := by
  induction l generalizing s with
  | nil => exact h
  | cons x l ih => exact ih (hf s x h)

/-- A pass that carries a state and a value with it. -/
theorem foldl_fst {α β : Type} {f : State × β → α → State × β} {l : List α}
    (hf : ∀ x a, SameGrid old x.1 → SameGrid old (f x a).1) {x : State × β} (h : SameGrid old x.1) :
    SameGrid old (l.foldl f x).1 := by
  induction l generalizing x with
  | nil => exact h
  | cons a l ih => exact ih (hf x a h)

theorem forEach {α : Type} {f : α → State → State} {l : List α} (hf : ∀ x t, SameGrid old t → SameGrid old (f x t))
    (h : SameGrid old s) : SameGrid old (forEach f l s) := foldl (fun t x => hf x t) h

theorem forUp {f : Nat → State → State} {n : Nat} (hf : ∀ i t, SameGrid old t → SameGrid old (f i t)) (h : SameGrid old s) :
    SameGrid old (forUp f n s) := foldl (fun t i => hf i t) h

/-! ## Writes of the store: none is to a watched word -/

theorem unwatched {a : Nat} (h : 0x2100 ≤ a) : watched a = false := by
  simp only [watched, Reg.GLB_ROLE, Reg.TBU_SET_S_LO, Reg.TBU_SET_S_HI, Reg.TBU_SET_NS, Bool.or_eq_false_iff, beq_eq_false_iff_ne]
  omega

theorem ge {b k : Nat} (h : 0x2100 ≤ b) : watched (b + k) = false := unwatched (by omega)

theorem wr {a : Nat} {w : Word} (h : SameGrid old s) (ha : watched a = false := by decide) : SameGrid old (s.wr a w) :=
  ⟨h.part, fun x hx => (s.rd_wr_ne w (by rintro rfl; rw [ha] at hx; cases hx)).trans (h.word x hx), h.staged⟩

theorem put {f : Fld} {v : Nat} (h : SameGrid old s) (hf : watched f.addr = false := by decide) : SameGrid old (s.put f v) := h.wr hf

theorem setFlag {f : Fld} {b : Bool} (h : SameGrid old s) (hf : watched f.addr = false := by decide) :
    SameGrid old (s.setFlag f b) := h.wr hf

theorem inc {f : Fld} (h : SameGrid old s) (hf : watched f.addr = false := by decide) : SameGrid old (s.inc f) := h.wr hf

theorem incSat {f : Fld} {n : Nat} (h : SameGrid old s) (hf : watched f.addr = false := by decide) : SameGrid old (s.incSat f n) :=
  h.wr hf

/-- The LOP registers of the eight slots lie below the time base's. -/
theorem low_lop {b n : Nat} (hb : 0x80 ≤ b ∧ b < 0x200) (hn : n < 8) : watched (b + n * 4) = false := by
  simp only [watched, Reg.GLB_ROLE, Reg.TBU_SET_S_LO, Reg.TBU_SET_S_HI, Reg.TBU_SET_NS, Bool.or_eq_false_iff, beq_eq_false_iff_ne]
  omega

theorem wrTime {a t : Nat} (h : SameGrid old s) (h0 : watched a = false := by decide) (h4 : watched (a + 4) = false := by decide)
    (h8 : watched (a + 8) = false := by decide) : SameGrid old (s.wrTime a t) := ((h.wr h0).wr h4).wr h8

/-- Raising events writes records and the registers of the event queues and the journal. -/
theorem of_records {t : State} (h : SameGrid old s) (k : State.Records s t) : SameGrid old t := by
  have hne (a : Nat) (ha : watched a = true) : recordAddr a = false := by
    simp only [watched, Bool.or_eq_true, beq_iff_eq] at ha
    obtain ((rfl | rfl) | rfl) | rfl := ha <;> decide
  refine ⟨?_, fun a ha => (k.rd a (hne a ha)).trans (h.word a ha), fun a ha => ?_⟩
  · rw [k.only]
    exact h.part
  · rw [k.only]
    exact h.staged a ha

theorem of_recRegs {t : State} (h : SameGrid old s) (k : State.Recs recReg s t) : SameGrid old t :=
  h.of_records (k.mono recordAddr_of_recReg)

/-! ## Machine/Ops.lean -/

theorem parFix {a : Nat} (h : SameGrid old s) : SameGrid old (s.parFix a) := .of_eq h rfl rfl rfl

theorem setBob {n : Nat} {b : Bobbin} (h : SameGrid old s) : SameGrid old (s.setBob n b) := .of_eq h rfl rfl rfl

theorem emit {m : OutMsg} (h : SameGrid old s) : SameGrid old (s.emit m) := .of_eq h rfl rfl rfl

theorem takeFree (h : SameGrid old s) : SameGrid old s.takeFree := .of_eq h rfl rfl rfl

/-! ## Machine/Events.lean -/

theorem setFull (h : SameGrid old s) : SameGrid old s.setFull := h.of_recRegs s.setFull_records

theorem watermark {n : Nat} (h : SameGrid old s) : SameGrid old (s.watermark n).1 := h.of_recRegs (s.watermark_records n)

theorem raiseAll {n : Nat} {es : List Ev} (h : SameGrid old s) : SameGrid old (raiseAll n es s) :=
  h.of_records (raiseAll_records n es s)

theorem raiseEv {e : Ev} (h : SameGrid old s) : SameGrid old (s.raiseEv e) := h.of_records (s.raiseEv_records e)

theorem raise {c u : Nat} {p : List Nat} (h : SameGrid old s) : SameGrid old (s.raise c u p) := h.of_records (s.raise_records c u p)

theorem raiseRated {g c u k : Nat} {p : List Nat} (h : SameGrid old s) : SameGrid old (s.raiseRated g c u p k) :=
  h.of_records (s.raiseRated_records g c u p k)

/-! ## Machine/Gate.lean -/

theorem vote {a : Nat} (h : SameGrid old s) : SameGrid old (s.vote a) := .forEach (fun _ _ k => k.incSat) (.of_eq h rfl rfl rfl)

theorem voteAll (h : SameGrid old s) : SameGrid old s.voteAll := .forEach (fun _ _ k => k.vote) h

/-! ## Machine/Dia.lean -/

theorem setChan {i k : Nat} {c : Chan} (h : SameGrid old s) : SameGrid old (s.setChan i k c) := .of_eq h rfl rfl rfl

theorem setLum {i : Nat} {l : Lum} (h : SameGrid old s) : SameGrid old (s.setLum i l) := .of_eq h rfl rfl rfl

theorem unfit {i : Nat} (h : SameGrid old s) : SameGrid old (s.unfit i) := .forUp (fun _ _ k => .ite k k.setChan) h

theorem lampEvent {code slot : Nat} {pay : List Nat} (h : SameGrid old s) : SameGrid old (s.lampEvent code slot pay) :=
  .ite (.raise (.withDia h)) (.withDia h.incSat.setFlag)

theorem recordState {i k frame : Nat} {new : ChState} (h : SameGrid old s) : SameGrid old (s.recordState i k frame new) := by
  unfold State.recordState
  dsimp only
  split
  · exact h.setChan
  · split
    · exact h.setChan.wrTime.lampEvent
    · exact h.setChan.wrTime.lampEvent
    · exact h.setChan.wrTime.lampEvent
    · exact .when h.setChan.wrTime (·.lampEvent)

theorem stateReport {i k v frame : Nat} (h : SameGrid old s) : SameGrid old (s.stateReport i k v frame) := by
  unfold State.stateReport
  split
  · exact h
  · exact .ite h (.whenNot h.setChan (fun k => .ite (.ite k.setChan.setChan.setFlag.raise k.setChan.recordState) k.recordState))

theorem faultCheck {i bits : Nat} (h : SameGrid old s) : SameGrid old (s.faultCheck i bits) :=
  .forUp (fun _ _ k => .ite (.ite k.setChan k.setChan) k) h

/-! ## Machine/Sense.lean -/

theorem noteSense {src q v t : Nat} (h : SameGrid old s) : SameGrid old (s.noteSense src q v t) := .of_eq h rfl rfl rfl

/-! ## Machine/Zones.lean -/

theorem setZstage {z : Nat} {x : ZStage} (h : SameGrid old s) : SameGrid old (s.setZstage z x) := .of_eq h rfl rfl rfl

theorem setZtarget {z : Nat} {v : VReg} (h : SameGrid old s) : SameGrid old (s.setZtarget z v) :=
  .forUp (fun _ _ k => k.wr (unwatched (by unfold Reg.ZON_TGT; omega))) h

theorem commitZone {z : Nat} (h : SameGrid old s) : SameGrid old (s.commitZone z) := by
  unfold State.commitZone
  refine .setZstage ?_
  split
  · exact .setFlag (.ite h h.setZtarget) (ge (by decide))
  · exact .ite h h.setZtarget

theorem notePrev (h : SameGrid old s) : SameGrid old s.notePrev := .of_eq h rfl rfl rfl

theorem commitSlot {i z : Nat} (h : SameGrid old s) : SameGrid old (s.commitSlot i z) := by
  have hn : watched (nodeAddr i 0) = false := unwatched (by unfold nodeAddr nodeBase; omega)
  exact .ite h (((h.put hn).put (ge (by decide))).inc (ge (by decide)))

theorem commitAll {c : Nat} (h : SameGrid old s) : SameGrid old (s.commitAll c) := by
  unfold State.commitAll
  extract_lets s0 s1 s2 _ _
  have h1 : SameGrid old s1 := .forEach (fun _ _ k => k.commitZone) h.notePrev
  clear_value s1
  have h2 : SameGrid old s2 := by
    refine .forEach (fun _ _ k => ?_) h1
    split
    · exact k.commitSlot
    · exact k
  clear_value s2
  exact .of_eq h2 rfl rfl rfl

/-! ## Machine/Bobbin.lean -/

theorem endGroup {n : Nat} (h : SameGrid old s) : SameGrid old (s.endGroup n) := .ite (.of_eq h rfl rfl rfl) h.setBob

theorem endService (h : SameGrid old s) : SameGrid old s.endService := by
  unfold State.endService
  split
  · exact h.endGroup
  · exact h

theorem latchInputs {t : Nat} (h : SameGrid old s) : SameGrid old (s.latchInputs t) :=
  .forUp (fun _ _ k => k.setBob) (.takeFree (.of_eq h rfl rfl rfl))

theorem releaseWaitK {n t : Nat} (h : SameGrid old s) : SameGrid old (s.releaseWaitK n t) := .ite (.ite h.setBob h.setBob) h

theorem releaseWaitT {n t : Nat} (h : SameGrid old s) : SameGrid old (s.releaseWaitT n t) := .ite h.setBob h

theorem tickUsed {n : Nat} (h : SameGrid old s) : SameGrid old (s.tickUsed n) := (h.put (ge (by decide))).setBob

theorem tickEnd {n : Nat} (h : SameGrid old s) : SameGrid old (s.tickEnd n) :=
  .when h.tickUsed (fun k => (k.incSat (ge (by decide))).raiseRated)

theorem refill {n : Nat} (h : SameGrid old s) : SameGrid old (s.refill n) := h.setBob

theorem tickStart {t : Nat} (h : SameGrid old s) : SameGrid old (s.tickStart t) := by
  unfold State.tickStart
  extract_lets s0 s1 _ _ s2 s3 _ s3r s4 s5
  have h0 : SameGrid old s0 := h.endService
  clear_value s0
  have h1 : SameGrid old s1 := .ite h0 (.forUp (fun _ _ k => k.tickEnd) h0)
  clear_value s1
  have h2 : SameGrid old s2 := .withPen h1.put
  clear_value s2
  have h3 : SameGrid old s3 := h2.latchInputs
  clear_value s3
  have h3r : SameGrid old s3r := .withPen h3
  clear_value s3r
  have h4 : SameGrid old s4 := .forUp (fun _ _ k => k.releaseWaitK) h3r
  clear_value s4
  have h5 : SameGrid old s5 := .forUp (fun _ _ k => k.releaseWaitT) h4
  clear_value s5
  exact .ite h (.ite (.forUp (fun _ _ k => k.refill) h5) h3)

theorem tickChange {t : Nat} (h : SameGrid old s) : SameGrid old (s.tickChange t) := .ite (.of_eq h rfl rfl rfl) h

theorem loadBobbin {a n : Nat} (h : SameGrid old s) : SameGrid old (s.loadBobbin a n) :=
  (((((h.put (ge (by decide))).put (ge (by decide))).put (ge (by decide))).put (ge (by decide))).put (ge (by decide))).setBob

theorem applyInit {a k d : Nat} (h : SameGrid old s) : SameGrid old (s.applyInit a k d) := by
  induction d generalizing s k with
  | zero => exact h
  | succ d ih => exact ih (.forUp (fun _ _ k => (k.wr (unwatched (by unfold dataBase; omega))).parFix) h)

theorem startImage (h : SameGrid old s) : SameGrid old s.startImage := .applyInit (.forUp (fun _ _ k => k.loadBobbin) h)

theorem swapIds (h : SameGrid old s) : SameGrid old s.swapIds :=
  .forUp (fun _ _ k => (k.wr (ge (by decide))).wr (ge (by decide))) h.wr.wr

theorem swapNow {t : Nat} (h : SameGrid old s) : SameGrid old (s.swapNow t) := by
  unfold State.swapNow
  extract_lets was se s0 s1 _ s2 s3 s4
  have h0 : SameGrid old s0 := .ite h.endService (.forUp (fun _ _ k => k.tickUsed) h.endService)
  clear_value s0
  have h1 : SameGrid old s1 := h0.swapIds.put.put
  clear_value s1
  have h2 : SameGrid old s2 := .withPen h1
  clear_value s2
  have h4 : SameGrid old s4 := h2.startImage.setFlag.setFlag
  clear_value s4
  exact h4.tickStart.raise

/-! ## Machine/Mix.lean -/

theorem copyRec {src dst : Nat} (h : SameGrid old s) (hd : 0x2100 ≤ dst) : SameGrid old (s.copyRec src dst) :=
  .forUp (fun _ _ k => (k.wr (ge hd)).parFix) h

theorem installRec {i : Nat} (h : SameGrid old s) : SameGrid old (s.installRec i) := by
  have hd : 0x2100 ≤ calAddr i := by unfold calAddr calBase; omega
  exact .unfit (.ite (h.copyRec hd).setLum.put (h.copyRec hd).setLum)

theorem installPending (h : SameGrid old s) : SameGrid old s.installPending := by
  unfold State.installPending
  split
  · exact .of_eq h.installRec rfl rfl rfl
  · exact h

theorem countStale (h : SameGrid old s) : SameGrid old s.countStale := .when h.put (·.raise)

theorem ageUpdate {i k code meas t : Nat} (h : SameGrid old s) : SameGrid old (s.ageUpdate i k code meas t) :=
  .ite h (.when h.setLum (·.setLum.inc.raise))

theorem laneOut {k : Nat} (h : SameGrid old s) : SameGrid old (s.laneOut k) :=
  .ite (.ite (.raise (.put (.of_eq h rfl rfl rfl))) (.of_eq h rfl rfl rfl)) h

theorem lanesAtFrame (h : SameGrid old s) : SameGrid old s.lanesAtFrame :=
  .when (.forUp (fun _ _ k => k.laneOut) h) (fun k => .of_eq k.put rfl rfl rfl)

/-! ## Machine/Cce.lean -/

theorem setLoop {z : Nat} {l : Loop} (h : SameGrid old s) : SameGrid old (s.setLoop z l) := .of_eq h rfl rfl rfl

theorem latchLoops (h : SameGrid old s) : SameGrid old s.latchLoops := .of_eq h rfl rfl rfl

theorem loopEvent {code z : Nat} {outer : Bool} {cause : Nat} (h : SameGrid old s) : SameGrid old (s.loopEvent code z outer cause) :=
  h.raiseRated

theorem loopOpen {z t : Nat} (h : SameGrid old s) : SameGrid old (s.loopOpen z t) :=
  .whenNot (h.put (ge (by decide))) (fun k => (k.setFlag (ge (by decide))).setLoop)

theorem fallback {z t cause : Nat} {outer : Bool} (h : SameGrid old s) : SameGrid old (s.fallback z t cause outer) :=
  (h.put (ge (by decide))).loopOpen.setFlag.loopEvent

theorem staleTrip {z t : Nat} (h : SameGrid old s) : SameGrid old (s.staleTrip z t) :=
  (h.setFlag (ge (by decide))).incSat.setFlag.loopEvent.fallback

theorem rampStep {z t : Nat} (h : SameGrid old s) : SameGrid old (s.rampStep z t) :=
  .ite (.when (h.put (ge (by decide))) (fun k => k.setFlag (ge (by decide)))) h

theorem feRelease {z : Nat} {outer : Bool} (h : SameGrid old s) : SameGrid old (s.feRelease z outer) :=
  .whenNot h.setLoop (·.loopEvent)

theorem feTrip {z t : Nat} {outer : Bool} (h : SameGrid old s) : SameGrid old (s.feTrip z t outer) :=
  .when h.setLoop.incSat.setFlag.loopEvent (·.fallback)

theorem feStep {z t dt : Nat} {e : Int} {outer : Bool} (h : SameGrid old s) : SameGrid old (s.feStep z t dt e outer) :=
  .ite (.when h.setLoop (·.feRelease)) (.when h.setLoop (·.feTrip))

theorem enterMode {z t : Nat} (h : SameGrid old s) : SameGrid old (s.enterMode z t) :=
  .ite h (.ite h.loopOpen ((h.setLoop.put (ge (by decide))).setFlag (ge (by decide))))

theorem measureStep {z t : Nat} (h : SameGrid old s) : SameGrid old (s.measureStep z t) := by
  unfold State.measureStep
  dsimp only
  split
  · exact h
  · exact h.setLoop

theorem takeSample {z t : Nat} (h : SameGrid old s) : SameGrid old (s.takeSample z t) := h.setLoop

theorem staleCheck {z t : Nat} {isNew : Bool} (h : SameGrid old s) : SameGrid old (s.staleCheck z t isNew) :=
  .ite (.ite (h.setFlag (ge (by decide))) (.ite h.staleTrip h)) (.ite (h.setFlag (ge (by decide))) h)

theorem prepLoop {z t : Nat} (h : SameGrid old s) : SameGrid old (s.prepLoop z t) :=
  .ite h (.when (.when (.when h.takeSample.staleCheck (·.enterMode)) (·.setLoop)) (·.measureStep))

theorem outerRun {z t : Nat} (h : SameGrid old s) : SameGrid old (s.outerRun z t) :=
  .ite h (.feStep (.whenNot h.setLoop (fun k => (k.put (ge (by decide))).setFlag (ge (by decide)))))

theorem innerRun {z t : Nat} (h : SameGrid old s) : SameGrid old (s.innerRun z t) := by
  unfold State.innerRun
  dsimp only
  split
  · exact h
  · split
    · exact h.setLoop
    · split
      · exact (h.setLoop.put (ge (by decide))).setLoop.put (ge (by decide))
      · exact .feStep (.whenNot (.when (h.setLoop.put (ge (by decide))).setLoop (fun k => k.put (ge (by decide)))) (fun k => ((k.put
          (ge (by decide))).setFlag (ge (by decide))).put (ge (by decide))))

theorem runLoops {t : Nat} (h : SameGrid old s) : SameGrid old (s.runLoops t) :=
  .when (.latchLoops (.ite (.forUp (fun _ _ k => k.rampStep) h) h)) (fun k => .forUp (fun _ _ k => k.innerRun) (.forUp (fun _ _ k =>
    k.outerRun) (.forUp (fun _ _ k => k.prepLoop) k)))

/-! ## Machine/Evq.lean -/

theorem raiseMore {p : State × List Ev} (h : SameGrid old p.1) : SameGrid old (State.raiseMore p) := h.raiseAll

theorem swapBanks (h : SameGrid old s) : SameGrid old s.swapBanks := .raiseMore h.put.setFull.watermark

theorem bankSwap (h : SameGrid old s) : SameGrid old s.bankSwap := .ite h.swapBanks h

theorem modeChange (h : SameGrid old s) : SameGrid old s.modeChange := .ite h.put.setFull h

/-! ## Machine/SeamFrames.lean -/

theorem setNslot {i : Nat} {x : NSlot} (h : SameGrid old s) : SameGrid old (s.setNslot i x) := .of_eq h rfl rfl rfl

/-! ## Machine/Seams.lean -/

theorem takeTemp {i : Nat} {f : RetField} (h : SameGrid old s) : SameGrid old (s.takeTemp i f) :=
  .ite (.of_eq h rfl rfl rfl) h.setLum.noteSense

theorem latchField {i : Nat} {f : RetField} (h : SameGrid old s) : SameGrid old (s.latchField i f) := by
  unfold State.latchField
  dsimp only
  refine .faultCheck ?_
  split
  · exact h.takeTemp.noteSense.noteSense.stateReport
  · split
    · split
      · exact .ageUpdate (.when h.takeTemp.noteSense.noteSense (·.noteSense))
      · exact .when h.takeTemp.noteSense.noteSense (·.noteSense)
    · exact .ite h.takeTemp.noteSense.noteSense.noteSense (.when h.takeTemp.noteSense.noteSense (·.noteSense))

theorem latchFields (h : SameGrid old s) : SameGrid old s.latchFields.1 := by
  unfold State.latchFields
  refine foldl_fst (fun x p k => ?_) h
  dsimp only
  split
  · exact .latchField (.setNslot k)
  · exact k

theorem shelveFields (h : SameGrid old s) : SameGrid old s.shelveFields := .of_eq h rfl rfl rfl

/-! ## Machine/Pattern.lean -/

theorem tickSteps {f : Nat} (h : SameGrid old s) : SameGrid old (s.tickSteps f) :=
  .ite (.ite (.swapNow (.when h.tickChange (·.commitAll))) (.tickStart (.when h.tickChange (·.commitAll)))) h

/-! ## Machine/Tbu.lean -/

theorem discTrack (h : SameGrid old s) : SameGrid old s.discTrack := .ite h (.of_eq h.setFlag rfl rfl rfl)

/-! ## Machine/Rtc.lean -/

theorem setCal {l : Nat} (h : SameGrid old s) : SameGrid old (s.setCal l) := h.wr.wr

theorem alarmSignal {n : Nat} (h : SameGrid old s) : SameGrid old (s.alarmSignal n) := .ite h.setBob h

theorem alarmFlags {n : Nat} {late : Bool} (h : SameGrid old s) : SameGrid old (s.alarmFlags n late) := .when h.put (·.put)

theorem alarmFire {n l : Nat} {late : Bool} (h : SameGrid old s) : SameGrid old (s.alarmFire n l late) :=
  .whenNot h.alarmFlags (·.raise.alarmSignal)

theorem alarmKeep {n l : Nat} {late : Bool} (h : SameGrid old s) : SameGrid old (s.alarmKeep n l late) :=
  .whenNot h.alarmFlags (fun k => .of_eq k rfl rfl rfl)

theorem alarms {a b : Nat} (h : SameGrid old s) : SameGrid old (s.alarms a b) := by
  unfold State.alarms
  refine .forUp (fun _ _ k => ?_) h
  split
  · exact k
  · split
    · exact k
    · exact .ite k.alarmKeep k.alarmFire

theorem leapApply {neg : Bool} (h : SameGrid old s) : SameGrid old (s.leapApply neg) :=
  .whenNot (.of_eq h.setFlag rfl rfl rfl) (·.raise)

theorem calAdvance {k : Nat} (h : SameGrid old s) : SameGrid old (s.calAdvance k) :=
  .ite (.whenNot h.setFlag (·.raise)) h.setCal.alarms

theorem secondNow (h : SameGrid old s) : SameGrid old s.secondNow := by
  unfold State.secondNow
  split
  · exact h
  · split
    · exact .ite (.ite h.leapApply.calAdvance h.leapApply.setFlag) h.setFlag.calAdvance
    · exact h.setFlag.calAdvance

theorem heldSecond (h : SameGrid old s) : SameGrid old s.heldSecond := by
  unfold State.heldSecond
  split
  · exact .secondNow (.of_eq h rfl rfl rfl)
  · exact h

theorem rtcSettle (h : SameGrid old s) : SameGrid old s.rtcSettle := .ite h.heldSecond h

/-! ## Machine/Mtr.lean -/

theorem setMcirc {k : Nat} {x : MCirc} (h : SameGrid old s) : SameGrid old (s.setMcirc k x) := .of_eq h rfl rfl rfl

theorem accAdd {key n : Nat} (h : SameGrid old s) : SameGrid old (s.accAdd key n) :=
  .ite (.of_eq h rfl rfl rfl) (.of_eq h rfl rfl rfl)

theorem photonFlush {t : Nat} (h : SameGrid old s) : SameGrid old (s.photonFlush t) :=
  .forEach (fun _ _ k => k.accAdd) (.of_eq h rfl rfl rfl)

theorem circRecords {k b : Nat} (h : SameGrid old s) : SameGrid old (s.circRecords k b) :=
  .ite h (((h.raiseEv.raiseEv.raiseEv.raiseEv.raiseEv.raiseEv.put (ge (by decide))).setFlag (ge (by decide))).setFlag (ge (by
    decide))).setMcirc.takeFree

theorem pairCheck (h : SameGrid old s) : SameGrid old s.pairCheck := by
  unfold State.pairCheck
  dsimp only
  split
  · exact h
  · split
    · exact h.setFlag.raise
    · exact h

/-- The meter's interval that a time step ends (R318). -/
theorem closeInterval {b next : Nat} {step : Bool} (h : SameGrid old s) : SameGrid old (s.closeInterval b next step false) := by
  unfold State.closeInterval
  extract_lets s0 _ s1 s2 _ s3 s4 s5 new _ s6 _
  have h1 : SameGrid old s1 := .forUp (fun _ _ k => k.circRecords) (.withMtr h.photonFlush)
  clear_value s1
  have h3 : SameGrid old s3 := .withMtr h1.pairCheck
  clear_value s3
  have h6 : SameGrid old s6 := by simpa [s6, s5, s4] using h3
  clear_value s6
  exact .wrTime (.withMtr h6)

/-! ## Machine/Lop.lean -/

theorem setLslot {n : Nat} {x : LopSlot} (h : SameGrid old s) : SameGrid old (s.setLslot n x) := .of_eq h rfl rfl rfl

theorem lopFin {n st err : Nat} (h : SameGrid old s) : SameGrid old (s.lopFin n st err) := h.setLslot

theorem lopFail {n err : Nat} (h : SameGrid old s) : SameGrid old (s.lopFail n err) := h.lopFin

theorem lopPct {n p : Nat} (h : SameGrid old s) (hn : n < 8) : SameGrid old (s.lopPct n p) := h.put (low_lop (by decide) hn)

theorem lopGood {n note : Nat} (h : SameGrid old s) (hn : n < 8) : SameGrid old (s.lopGood n note) := (h.lopPct hn).lopFin

theorem lopPush {n : Nat} {w : Word} (h : SameGrid old s) (hn : n < 8) : SameGrid old (s.lopPush n w) := by
  have hw (j : Nat) : watched (lopWord n j) = false := unwatched (by unfold lopWord lopBase; omega)
  exact .when ((h.wr (hw _)).put (low_lop (by decide) hn)) fun k => k.put (low_lop (by decide) hn)

theorem calRecorded {n x : Nat} (h : SameGrid old s) (hn : n < 8) : SameGrid old (s.calRecorded n x) := by
  unfold State.calRecorded
  extract_lets y c s1 s2
  have h2 : SameGrid old s2 := (h.setLslot.lopPush hn).lopPct hn
  clear_value s2
  exact .when h2 fun k => .ite k.lopFail (k.lopGood hn)

theorem installStep (h : SameGrid old s) : SameGrid old s.installStep := by
  unfold State.installStep
  refine .ite ?_ h
  dsimp only
  split
  · next n e => exact h.installPending.calRecorded (List.mem_range.1 (List.mem_of_find?_eq_some e))
  · exact h.installPending

/-! ## Machine/Copy.lean -/

theorem putWords_eq {l : List (Nat × Word)} : s.putWords l = { s with mem :=
  (s.putWords l).mem } := by induction l generalizing s with | nil => rfl | cons p l ih => exact ih (s := s.wr p.1 p.2)

/-- Writing at each of the listed addresses the word of one map leaves that map there, and every other word as it was. -/
theorem rd_putWords_map {β : Type} {l : List (Nat × β)} {w : Nat → Word} {a : Nat} :
    (s.putWords (l.map fun p => (p.1, w p.1))).rd a = if a ∈ l.map (·.1) then w a else s.rd a := by
  induction l generalizing s with
  | nil => rfl
  | cons p l ih =>
    refine (ih (s := s.wr p.1 (w p.1))).trans ?_
    rcases eq_or_ne a p.1 with rfl | hne
    · simp
    · simp only [List.map_cons, List.mem_cons, hne, false_or, s.rd_wr_ne _ hne]

theorem rd_putWords_of_not_mem {l : List (Nat × Word)} {a : Nat} (ha : a ∉ l.map (·.1)) : (s.putWords l).rd a = s.rd a := by
  induction l generalizing s with
  | nil => rfl
  | cons p l ih =>
    simp only [List.map_cons, List.mem_cons, not_or] at ha
    exact (ih (s := s.wr p.1 p.2) ha.2).trans (s.rd_wr_ne _ ha.1)

theorem rd_latchSolve {o a : Nat} : (s.latchSolve o).rd a = s.rd a := by
  have e : (s.latchSolve o).mem = s.mem := by
    unfold State.latchSolve
    dsimp only
  rw [State.rd, e, State.rd]

/-- The words that are held back during the latch are put back after it. -/
theorem rd_latchWith {held : List (Nat × Word)} {o a : Nat} : (s.latchWith held o).rd a = s.rd a := by
  unfold State.latchWith
  extract_lets was now
  refine rd_putWords_map.trans ?_
  split
  · rfl
  next ha =>
    have hw : a ∉ was.map (·.1) := by simpa [was, Function.comp_def] using ha
    exact rd_latchSolve.trans (rd_putWords_of_not_mem hw)

theorem latchWith {held : List (Nat × Word)} {o : Nat} (h : SameGrid old s) : SameGrid old (s.latchWith held o) := by
  have e : (s.latchWith held o).gridPart = s.gridPart ∧ (s.latchWith held o).basted = s.basted := by
    unfold State.latchWith
    extract_lets was now
    rw [putWords_eq, putWords_eq (l := was)]
    exact ⟨rfl, rfl⟩
  exact ⟨e.1.trans h.part, fun a ha => rd_latchWith.trans (h.word a ha), fun a ha => by rw [e.2]; exact h.staged a ha⟩

/-! ## Machine/Pair.lean -/

theorem fence {s' : State} {on : Bool} (h : SameGrid old s') : SameGrid old (s'.fence on) :=
  .ite (.of_eq h rfl rfl rfl) (.ite (.of_eq h rfl rfl rfl) (.emit (.setFlag (.of_eq h rfl rfl rfl))))

/-! ## Machine/Frame.lean -/

theorem changeState {f : Nat} (h : SameGrid old s) : SameGrid old (s.changeState f) := by
  unfold State.changeState
  split
  · exact .raise (.setFlag (.of_eq h rfl rfl rfl))
  · exact h

theorem stateStep {f : Nat} (h : SameGrid old s) : SameGrid old (s.stateStep f) := .ite h.changeState h

theorem latchGains {f : Nat} (h : SameGrid old s) : SameGrid old (s.latchGains f) := .ite (.of_eq h rfl rfl rfl) h

theorem inputSteps {f : Nat} (h : SameGrid old s) : SameGrid old (s.inputSteps f).1 := by
  unfold State.inputSteps
  extract_lets x s3
  have hx : SameGrid old x.1 := by
    unfold x
    split
    · exact h.latchFields
    · exact h.shelveFields
  clear_value x
  have h3 : SameGrid old s3 := hx.lanesAtFrame.tickSteps.installStep.runLoops
  clear_value s3
  exact .ite h3.latchWith.latchGains h3

theorem frameTail (h : SameGrid old s) : SameGrid old s.frameTail := h.countStale.discTrack.bankSwap.modeChange

end SameGrid

/-! ## The frame grid (R19) -/

/-- R19: the next frame start lies on the grid, has not been done, and is at most one period away. -/
theorem State.nextFrame_grid (s : State) (hp : 0 < s.framePeriod) : s.lastFrame ≠ some s.nextFrame ∧ s.nextFrame % s.framePeriod = 0 ∧
    s.nextFrame ≤ s.ns + s.framePeriod ∧ s.ns < s.nextFrame + s.framePeriod := by
  have hmod : s.gridAt s.ns % s.framePeriod = 0 := by
    unfold State.gridAt
    exact Nat.mod_eq_zero_of_dvd (Nat.dvd_sub_mod s.ns)
  have hle : s.gridAt s.ns ≤ s.ns := Nat.sub_le _ _
  have hlt : s.ns < s.gridAt s.ns + s.framePeriod := by
    have := Nat.mod_lt s.ns hp
    have := Nat.mod_le s.ns s.framePeriod
    unfold State.gridAt
    omega
  have hmod' : (s.gridAt s.ns + s.framePeriod) % s.framePeriod = 0 := by rw [Nat.add_mod_right, hmod]
  unfold State.nextFrame
  dsimp only
  split
  · next l hl =>
    split
    · next e => exact ⟨by rw [hl]; simp; omega, hmod', by omega, by omega⟩
    · next e => exact ⟨by rw [hl]; simpa using e, hmod, by omega, hlt⟩
  · next hl =>
    split
    · exact ⟨by rw [hl]; simp, hmod, by omega, hlt⟩
    · exact ⟨by rw [hl]; simp, hmod', by omega, by omega⟩

/-! ## What a frame start does before the steps of R25 -/

/-- A SOLO module has no pair to attend to. -/
theorem State.pairStep_solo {s : State} (hr : s.role = roleSolo) (hs : s.xlk.swapAt = none) : s.pairStep = s := by
  have h1 : s.role ≠ roleActive := by rw [hr]; decide
  have h2 : s.role ≠ roleJoining := by rw [hr]; decide
  have h3 : s.isStandby = false := by
    have : s.get F.GLB_ROLE_ROLE = 0 := hr
    simp [State.isStandby, this]
  simp [State.pairStep, State.copyOverdue, State.joinReady, State.joinEnd, h1, h2, h3, hs]

theorem State.fperChange_keeps (s : State) : s.fperChange.tbu = s.tbu ∧ s.fperChange.xlk = s.xlk ∧ s.fperChange.mem = s.mem := by
  unfold State.fperChange
  split <;> exact ⟨rfl, rfl, rfl⟩

theorem State.leadChange_keeps (s : State) : s.leadChange.tbu = s.tbu ∧ s.leadChange.xlk = s.xlk ∧ s.leadChange.mem = s.mem := by
  unfold State.leadChange
  split <;> exact ⟨rfl, rfl, rfl⟩

theorem State.fperChange_of_same {s : State} (h : s.sea.fperAt / nsPerSec = s.ns / nsPerSec) : s.fperChange = s :=
  if_neg fun k => absurd k.1 (by omega)

theorem State.leadChange_of_same {s : State} (h : s.sea.leadAt / nsPerSec = s.ns / nsPerSec) : s.leadChange = s :=
  if_neg (by omega)

theorem State.reach_part (s : State) (f : Nat) : (s.reach f).gridPart = { s.gridPart with ns := max s.ns f } := by
  have h : s.voteAll.gridPart = s.gridPart := (SameGrid.refl s).voteAll.part
  unfold State.reach
  split
  · next hlt =>
    rw [Nat.max_eq_right (by omega)]
    exact congrArg (fun g : GridPart => { g with ns := f }) h
  · rw [Nat.max_eq_left (by omega)]
    rfl

theorem State.reach_word (s : State) (f : Nat) {a : Nat} (ha : watched a = true) : (s.reach f).rd a = s.rd a := by
  unfold State.reach
  split
  · exact (SameGrid.refl s).voteAll.word a ha
  · rfl

theorem State.reach_staged (s : State) (f : Nat) {a : Nat} (ha : watched a = true) :
    spGet (fun _ => none) (s.reach f).basted a = spGet (fun _ => none) s.basted a := by
  unfold State.reach
  split
  · exact (SameGrid.refl s).voteAll.staged a ha
  · rfl

/-- What is due at the instant reached: the calendar's second and the decision to fence. -/
theorem SameGrid.settled {old s : State} (h : SameGrid old s) : SameGrid old s.rtcSettle.fenceSettle := .when h.rtcSettle (·.fence)

theorem SameGrid.step {s t : State} (h : SameGrid s t) : t.tbu.step = s.tbu.step := congrArg GridPart.step h.part

theorem SameGrid.role {s t : State} (h : SameGrid s t) : t.role = s.role := by
  have e : t.rd Reg.GLB_ROLE = s.rd Reg.GLB_ROLE := h.word _ (by decide)
  show getBits (t.rd Reg.GLB_ROLE) _ _ = getBits (s.rd Reg.GLB_ROLE) _ _
  rw [e]

/-- The state at the frame start `f` when its steps begin. -/
def State.atFrame (s : State) (f : Nat) : State := ((((s.reach f).rtcSettle.fenceSettle).fperChange).leadChange).pairStep

theorem State.frameStart_eq {s : State} (h : s.inRunQuiet = true) : s.frameStart = match (s.atFrame s.nextFrame).stepDue s.nextFrame with
    | some r => ((((s.atFrame s.nextFrame).stateStep s.nextFrame).inputSteps s.nextFrame).1.frameTail).stepNow r s.nextFrame
    | none => { (s.atFrame s.nextFrame).frameSteps s.nextFrame with lastFrame := some s.nextFrame } := by
  unfold State.frameStart
  rw [h]
  rfl

/-- A SOLO module with no swap of the pair's roles in progress. -/
def State.solo (s : State) : Prop := s.role = roleSolo ∧ s.xlk.swapAt = none

theorem State.reach_solo {s : State} (f : Nat) (h : s.solo) : (s.reach f).solo := by
  refine ⟨?_, (congrArg GridPart.swapAt (s.reach_part f)).trans h.2⟩
  have e : (s.reach f).rd Reg.GLB_ROLE = s.rd Reg.GLB_ROLE := s.reach_word f (by decide)
  exact (congrArg (getBits · _ _) e).trans h.1

theorem SameGrid.solo {s t : State} (h : SameGrid s t) (hs : s.solo) : t.solo :=
  ⟨h.role.trans hs.1, (congrArg GridPart.swapAt h.part).trans hs.2⟩

theorem State.atFrame_solo {s : State} {f : Nat} (h : s.solo) :
    s.atFrame f = ((s.reach f).rtcSettle.fenceSettle).fperChange.leadChange := by
  have h1 := (SameGrid.refl (s.reach f)).settled.solo (s.reach_solo f h)
  obtain ⟨-, hx, hm⟩ := ((s.reach f).rtcSettle.fenceSettle).fperChange_keeps
  obtain ⟨-, hx', hm'⟩ := ((s.reach f).rtcSettle.fenceSettle).fperChange.leadChange_keeps
  refine State.pairStep_solo ?_ ?_
  · rw [State.role, State.get, State.rd, hm', hm]
    exact h1.1
  · rw [hx', hx]
    exact h1.2

theorem State.atFrame_step {s : State} {f : Nat} (h : s.solo) : (s.atFrame f).tbu.step = s.tbu.step := by
  rw [State.atFrame_solo h, (State.leadChange_keeps _).1, (State.fperChange_keeps _).1, (SameGrid.refl (s.reach f)).settled.step]
  exact congrArg GridPart.step (s.reach_part f)

/-- Where neither the frame period nor the lead changes, a SOLO module's grid and staged time are those before. -/
theorem State.atFrame_sameGrid {s : State} {f : Nat} (h : s.solo) (hf : s.ns ≤ f) (hper : s.sea.fperAt / nsPerSec = f / nsPerSec)
    (hlead : s.sea.leadAt / nsPerSec = f / nsPerSec) : SameGrid (s.reach f) (s.atFrame f) := by
  have h1 := (SameGrid.refl (s.reach f)).settled
  have hpart := h1.part.trans (s.reach_part f)
  rw [Nat.max_eq_right hf] at hpart
  have hns : ((s.reach f).rtcSettle.fenceSettle).ns = f := congrArg GridPart.ns hpart
  have hfa : ((s.reach f).rtcSettle.fenceSettle).sea.fperAt = s.sea.fperAt := congrArg GridPart.fperAt hpart
  have hla : ((s.reach f).rtcSettle.fenceSettle).sea.leadAt = s.sea.leadAt := congrArg GridPart.leadAt hpart
  rw [State.atFrame_solo h, State.fperChange_of_same (by rw [hfa, hns, hper]), State.leadChange_of_same (by rw [hla, hns, hlead])]
  exact h1

/-! ## A frame start that is no step's Fs -/

theorem State.stepDue_of_step {s t : State} {f : Nat} (hs : t.tbu.step = s.tbu.step) (hl : t.sea.leadUs = s.sea.leadUs) :
    t.stepDue f = s.stepDue f := by
  unfold State.stepDue
  rw [hs, hl]

/-- R25: the steps of a frame start are done once. -/
theorem State.frameStart_lastFrame {s : State} (h : s.inRunQuiet = true) (hd : (s.atFrame s.nextFrame).stepDue s.nextFrame = none) :
    s.frameStart.lastFrame = some s.nextFrame := by
  rw [State.frameStart_eq h, hd]

/-- A step that has not begun is not due. -/
theorem State.stepDue_none {s : State} {f : Nat} (h : ∀ r, s.tbu.step = some r → r.fr = none) : s.stepDue f = none := by
  unfold State.stepDue
  split
  · next r hr =>
    rw [h r hr]
    split <;> rfl
  · rfl

/-! ## The step at Fs (R260) -/

theorem State.rdTime_wrTime (s : State) (a t : Nat) : (s.wrTime a t).rdTime a = t % (2 ^ 48 * 1000000000) := by
  have h0 : (s.wrTime a t).rd a = BitVec.ofNat 32 (t / nsPerSec) := by
    rw [State.wrTime, State.rd_wr_ne _ _ (by omega), State.rd_wr_ne _ _ (by omega), State.rd_wr_same]
  have h4 : (s.wrTime a t).rd (a + 4) = BitVec.ofNat 32 (t / nsPerSec / 4294967296 % 65536) := by
    rw [State.wrTime, State.rd_wr_ne _ _ (by omega), State.rd_wr_same]
  have h8 : (s.wrTime a t).rd (a + 8) = BitVec.ofNat 32 (t % nsPerSec) := State.rd_wr_same _ _ _
  rw [State.rdTime, h0, h4, h8]
  simp only [BitVec.toNat_ofNat, nsPerSec]
  omega

theorem State.flag_wrTime_ne {s : State} {a t : Nat} {f : Fld} (h : ∀ k ∈ [0, 4, 8], f.addr ≠ a + k) :
    (s.wrTime a t).flag f = s.flag f := by
  have h0 : f.addr ≠ a := h 0 (by decide)
  have e : (s.wrTime a t).rd f.addr = s.rd f.addr := by
    rw [State.wrTime, State.rd_wr_ne _ _ (h 8 (by decide)), State.rd_wr_ne _ _ (h 4 (by decide)), State.rd_wr_ne _ _ h0]
  rw [State.flag, State.flag, State.get, State.get, e]

/-- What the step to the instant `new` shows, with `p` the frame period in µs: kept by all that follows the move of the time base. -/
structure StepShown (new p : Nat) (t : State) : Prop where
  ns : t.ns = new
  frac : t.frac = 0
  fperUs : t.sea.fperUs = p
  stepped : t.flag F.TBU_STAT_STEPPED = true
  valid : t.flag F.TBU_STAT_VALID = true
  stepAt : t.rdTime Reg.TBU_STEPAT_S_LO = new % (2 ^ 48 * 1000000000)

namespace StepShown

variable {new p : Nat} {s : State}

theorem of_words {t : State} (h : StepShown new p s) (hns : t.ns = s.ns) (hfr : t.frac = s.frac) (hsea : t.sea.fperUs = s.sea.fperUs)
    (hs : t.flag F.TBU_STAT_STEPPED = s.flag F.TBU_STAT_STEPPED) (hv : t.flag F.TBU_STAT_VALID = s.flag F.TBU_STAT_VALID)
    (ha : ∀ k ∈ [0, 4, 8], t.rd (Reg.TBU_STEPAT_S_LO + k) = s.rd (Reg.TBU_STEPAT_S_LO + k)) : StepShown new p t := by
  refine ⟨hns.trans h.ns, hfr.trans h.frac, hsea.trans h.fperUs, hs.trans h.stepped, hv.trans h.valid, ?_⟩
  have h0 := ha 0 (by decide)
  have h4 := ha 4 (by decide)
  have h8 := ha 8 (by decide)
  rw [← h.stepAt, State.rdTime, State.rdTime, h4, h8]
  rw [Nat.add_zero] at h0
  rw [h0]

/-- A change outside the store and the time base's instant. -/
theorem of_mem {t : State} (h : StepShown new p s) (hns : t.ns = s.ns) (hfr : t.frac = s.frac) (hsea : t.sea.fperUs = s.sea.fperUs)
    (hm : t.mem = s.mem) : StepShown new p t := by
  have hrd (a : Nat) : t.rd a = s.rd a := by rw [State.rd, hm, State.rd]
  exact h.of_words hns hfr hsea (by simp only [State.flag, State.get, hrd]) (by simp only [State.flag, State.get, hrd])
    fun k _ => hrd _

theorem of_records {t : State} (h : StepShown new p s) (k : State.Records s t) : StepShown new p t := by
  have hrd (a : Nat) (ha : recordAddr a = false) : t.rd a = s.rd a := k.rd a ha
  have hst : t.rd Reg.TBU_STAT = s.rd Reg.TBU_STAT := hrd _ (by decide)
  have hat (x : Nat) (hx : x ∈ [0, 4, 8]) : recordAddr (Reg.TBU_STEPAT_S_LO + x) = false := by
    simp only [List.mem_cons, List.not_mem_nil, or_false] at hx
    obtain rfl | rfl | rfl := hx <;> decide
  have hflag (f : Fld) (hf : f.addr = Reg.TBU_STAT) : t.flag f = s.flag f := by rw [State.flag, State.flag, State.get, State.get, hf, hst]
  refine h.of_words ?_ ?_ ?_ (hflag _ rfl) (hflag _ rfl) fun x hx => hrd _ (hat x hx)
  all_goals rw [k.only]

theorem put {f : Fld} {v : Nat} (h : StepShown new p s) (hs : f.disj F.TBU_STAT_STEPPED = true := by decide)
    (hv : f.disj F.TBU_STAT_VALID = true := by decide)
    (ha : ∀ k ∈ [0, 4, 8], Reg.TBU_STEPAT_S_LO + k ≠ f.addr := by decide) : StepShown new p (s.put f v) :=
  h.of_words rfl rfl rfl (s.flag_put_disj v hs) (s.flag_put_disj v hv) fun k hk => s.rd_wr_ne _ (ha k hk)

theorem ite {c : Prop} {_ : Decidable c} {a b : State} (ha : StepShown new p a) (hb : StepShown new p b) :
    StepShown new p (if c then a else b) := by
  split
  · exact ha
  · exact hb

theorem discTrack (h : StepShown new p s) : StepShown new p s.discTrack := by
  unfold State.discTrack
  have h1 : StepShown new p (s.setFlag F.RTC_STAT_DISCACT s.discActive) := h.put
  exact .ite h (h1.of_mem rfl rfl rfl rfl)

theorem tbEnter {x : Nat} (h : StepShown new p s) : StepShown new p (s.tbEnter x) := by
  unfold State.tbEnter
  extract_lets was s1 s2 s3 _
  have h1 : StepShown new p s1 := h.put
  clear_value s1
  have h2 : StepShown new p s2 := .ite (h1.of_records (s1.raiseRated_records ..)) h1
  clear_value s2
  have h3 : StepShown new p s3 := .ite (h2.of_records (s2.raiseRated_records ..)) h2
  clear_value s3
  exact .discTrack (h3.of_mem rfl rfl rfl rfl)

end StepShown

theorem State.discTrack_eq (s : State) : s.discTrack = { s with mem := s.discTrack.mem, rtc := s.discTrack.rtc } := by
  unfold State.discTrack
  split <;> rfl

/-- R260: a step requested by `r` takes the time base from the frame start `f` to `f` + Δ; `p` is the frame period in µs. -/
theorem State.stepNow_shown {s : State} {r : StepReq} {f p : Nat} (hp : s.sea.fperUs = p) :
    StepShown (shiftT (s.stepDelta r f) f) p (s.stepNow r f) := by
  unfold State.stepNow
  extract_lets d new d64 s1 s2 s3 s4 s5 s6 _
  have hp2 : s2.sea.fperUs = p := by
    have h : (s.closeInterval f new true false).sea.fperUs = s.sea.fperUs :=
      congrArg GridPart.fperUs (SameGrid.refl s).closeInterval.part
    exact h.trans hp
  have hns2 : s2.ns = new := rfl
  have hfr2 : s2.frac = 0 := rfl
  clear_value s2
  have hc : (s2.commitSet r).ns = new ∧ (s2.commitSet r).frac = 0 ∧ (s2.commitSet r).sea.fperUs = p := by
    unfold State.commitSet
    split <;> exact ⟨hns2, hfr2, hp2⟩
  obtain ⟨hcn, hcf, hcp⟩ := hc
  have h3 : StepShown new p s3 := by
    refine ⟨hcn, hcf, hcp, ?_, ?_, State.rdTime_wrTime _ _ _⟩
    · rw [State.flag_wrTime_ne (by decide), State.flag_setFlag_disj _ _ (by decide), State.flag_setFlag_same _ _ _ (by decide) rfl]
    · rw [State.flag_wrTime_ne (by decide), State.flag_setFlag_same _ _ _ (by decide) rfl]
  clear_value s3
  have h4 : StepShown new p s4 := h3.put.put
  clear_value s4
  have h5 : StepShown new p s5 := .ite ((h4.of_mem (t := s4.rateMark 0x903 0) rfl rfl rfl rfl).of_records (State.raiseEv_records _ _)) h4
  clear_value s5
  have h6 : StepShown new p s6 := .ite h5.tbEnter h5
  clear_value s6
  exact .discTrack (h6.of_mem rfl rfl rfl rfl)

/-- What the step leaves of the solve in progress, of the frames sent and of its own request. -/
theorem State.stepNow_course (s : State) (r : StepReq) (f : Nat) : (s.stepNow r f).sme.latch = none ∧ (s.stepNow r f).sea.sentAt = none ∧
    ((s.stepNow r f).tbu.step.map fun x => x.done) = some true ∧
    (s.stepNow r f).lastFrame = some ((s.stepNow r f).ns - (s.stepNow r f).ns % (s.stepNow r f).framePeriod) := by
  have h := State.stepNow_shown (s := s) (r := r) (f := f) rfl
  rw [h.ns]
  unfold State.stepNow
  extract_lets d new d64 s1 s2 s3 s4 s5 s6 _
  rw [State.discTrack_eq]
  clear_value s6
  exact ⟨rfl, rfl, rfl, rfl⟩

theorem SameGrid.stagedTime {s t : State} (h : SameGrid s t) : t.stagedTime Reg.TBU_SET_S_LO = s.stagedTime Reg.TBU_SET_S_LO := by
  have hw (a : Nat) (ha : watched a = true) : t.stagedWord a = s.stagedWord a := by
    rw [State.stagedWord, State.stagedWord, h.word a ha, h.staged a ha]
  rw [State.stagedTime, State.stagedTime, hw _ (by decide), hw _ (by decide), hw _ (by decide)]

theorem State.reach_stagedTime (s : State) (f : Nat) : (s.reach f).stagedTime Reg.TBU_SET_S_LO = s.stagedTime Reg.TBU_SET_S_LO := by
  have hw (a : Nat) (ha : watched a = true) : (s.reach f).stagedWord a = s.stagedWord a := by
    rw [State.stagedWord, State.stagedWord, s.reach_word f ha, s.reach_staged f ha]
  rw [State.stagedTime, State.stagedTime, hw _ (by decide), hw _ (by decide), hw _ (by decide)]

/-- The state in which a step takes place: what R25's steps 1 to 3 at Fs leave. -/
def State.atStep (s : State) (f : Nat) : State := (((s.atFrame f).stateStep f).inputSteps f).1.frameTail

theorem State.timeStep_eq {s : State} {r : StepReq} (h : s.inRunQuiet = true) (hd : (s.atFrame s.nextFrame).stepDue s.nextFrame = some r) :
    s.frameStart = (s.atStep s.nextFrame).stepNow r s.nextFrame := by
  rw [State.frameStart_eq h, hd]
  rfl

/-- R19, R25: a frame start at which no step takes place is done once. -/
theorem State.frameStart_started {s : State} (h : s.inRunQuiet = true) (hs : s.solo) (hp : 0 < s.sea.fperUs)
    (hr : ∀ r, s.tbu.step = some r → r.fr = none) : ∃ f, s.frameStart.lastFrame = some f ∧ s.lastFrame ≠ some f ∧
      f % (s.sea.fperUs * 1000) = 0 ∧ f ≤ s.ns + s.sea.fperUs * 1000 ∧ s.ns < f + s.sea.fperUs * 1000 :=
  ⟨s.nextFrame, State.frameStart_lastFrame h (State.stepDue_none (by rwa [State.atFrame_step hs])),
    s.nextFrame_grid (Nat.mul_pos hp (by decide))⟩

/-- R260: at Fs of a step a SOLO module's time base takes Fs + Δ. -/
theorem State.frameStart_step {s : State} {r : StepReq} (h : s.inRunQuiet = true) (hs : s.solo) (hr : s.stepDue s.nextFrame = some r)
    (hns : s.ns ≤ s.nextFrame) (hper : s.sea.fperAt / nsPerSec = s.nextFrame / nsPerSec)
    (hlead : s.sea.leadAt / nsPerSec = s.nextFrame / nsPerSec) :
    StepShown (shiftT (s.stepDelta r s.nextFrame) s.nextFrame) s.sea.fperUs s.frameStart ∧
      s.frameStart = (s.atStep s.nextFrame).stepNow r s.nextFrame := by
  have hg := State.atFrame_sameGrid hs hns hper hlead
  have hu : SameGrid (s.reach s.nextFrame) (s.atStep s.nextFrame) := hg.stateStep.inputSteps.frameTail
  have hl : (s.atFrame s.nextFrame).sea.leadUs = s.sea.leadUs := congrArg GridPart.leadUs (hg.part.trans (s.reach_part _))
  have hp : (s.atStep s.nextFrame).sea.fperUs = s.sea.fperUs := congrArg GridPart.fperUs (hu.part.trans (s.reach_part _))
  have hd : (s.atStep s.nextFrame).stepDelta r s.nextFrame = s.stepDelta r s.nextFrame := by
    rw [State.stepDelta, State.stepDelta, hu.stagedTime, s.reach_stagedTime]
  have e := State.timeStep_eq h ((State.stepDue_of_step (State.atFrame_step hs) hl).trans hr)
  refine ⟨?_, e⟩
  rw [e, ← hd]
  exact State.stepNow_shown hp

/-- Settles O38: what a frame start does before its steps leaves the grid and the requested step (`SameGrid`), so that the frame start
is the next one of the grid; what follows the move of the time base at Fs leaves what it shows (`StepShown`). -/
theorem frameStartsAndTimeStep : Obligations.FrameStartsAndTimeStep := by
  intro s r hper p solo started f d
  refine ⟨fun ⟨hm, hs⟩ hn => ⟨_, rfl, State.frameStart_started hm hs hper (by simp [hn])⟩, fun hm => ⟨_, rfl, ?_⟩,
    fun ⟨hm, hs⟩ hst hfr hdone => ?_, fun ⟨hm, hs⟩ hst hdone hfr hns hfa hla hd => ?_⟩
  · simp [State.frameStart, hm]
  · have e : exec .stepBegin s = .next s.frameStart := by
      show Host.Outcome.next _ = _
      simp [hst, hfr, hdone]
    exact ⟨_, e, State.frameStart_started hm hs hper (by simp [hst, hfr])⟩
  · obtain ⟨fr, hfr, hle⟩ := Option.map_eq_some_iff.1 hfr
    have hdue : s.stepDue s.nextFrame = some r := by
      unfold State.stepDue
      simpa [hst, hdone, hfr] using hle
    have e : exec .timeStep s = .next s.frameStart := by
      show Host.Outcome.next _ = _
      simp [hdue]
    obtain ⟨hshown, hstep⟩ := State.frameStart_step hm hs hdue hns hfa hla
    obtain ⟨hlatch, hsent, hreq, hlast⟩ := (s.atStep s.nextFrame).stepNow_course r s.nextFrame
    rw [← hstep] at hlatch hsent hreq hlast
    have hnew : (shiftT (s.stepDelta r s.nextFrame) s.nextFrame : Int) = f + d := Int.toNat_of_nonneg hd
    refine ⟨_, e, by rw [hshown.ns, hnew], hshown.frac, hshown.stepped, hshown.valid, hlatch, hsent, hshown.stepAt, hreq, ?_⟩
    rw [hlast, State.framePeriod, hshown.fperUs]

end Sys2Proof.Machine

/-!
# The key store's commands (O46)

Every command answers through `State.kstCmd`; a slot that is replaced reads as what was put there, KST_RES reads as the result says, and
nothing else of the store is reached.  INVALIDATE ends sessions after its event; the records of those ends are journalled behind it.
-/

namespace Sys2Proof.Machine

/-! ## Records journalled behind an event -/

/-- From `s` to `t` at most `n` records are journalled: the next number advances by at most `n`, and every other slot of the ring is as
before. -/
structure JournalsUpTo (n : Nat) (s t : State) : Prop where
  wptr : ∃ i, i ≤ n ∧ t.wptr = (s.wptr + i) % 4294967296
  slot : ∀ m k, k < 8 → (∀ i, i < n → m % jnlSize ≠ (s.wptr + i) % jnlSize) → t.rd (jnlAddr m + 4 * k) = s.rd (jnlAddr m + 4 * k)

namespace JournalsUpTo

variable {s t u : State} {m n : Nat}

/-- What leaves the store alone journals nothing. -/
theorem of_mem (h : t.mem = s.mem) : JournalsUpTo 0 s t := by
  have hrd : ∀ a, t.rd a = s.rd a := fun a => by simp only [State.rd, h]
  have hlt : s.wptr < 4294967296 := s.get_lt _
  refine ⟨⟨0, Nat.le_refl _, ?_⟩, fun _ _ _ _ => hrd _⟩
  simp only [State.wptr, State.get, hrd] at hlt ⊢
  omega

theorem trans (h : JournalsUpTo m s t) (k : JournalsUpTo n t u) : JournalsUpTo (m + n) s u := by
  obtain ⟨i, hi, hw⟩ := h.wptr
  obtain ⟨j, hj, hw'⟩ := k.wptr
  refine ⟨⟨i + j, by omega, by rw [hw', hw]; omega⟩, fun x y hy hx => ?_⟩
  refine (k.slot x y hy fun l hl => ?_).trans (h.slot x y hy fun l hl => hx l (by omega))
  have := hx (i + l) (by omega)
  rw [hw]
  unfold jnlSize at *
  omega

theorem mono (h : JournalsUpTo m s t) (hn : m ≤ n) : JournalsUpTo n s t := by
  obtain ⟨i, hi, hw⟩ := h.wptr
  exact ⟨⟨i, by omega, hw⟩, fun x y hy hx => h.slot x y hy fun l hl => hx l (by omega)⟩

theorem raise1 (s : State) (e : Ev) : JournalsUpTo 1 s (s.raise1 e).1 := by
  obtain ⟨hslot, hw⟩ := s.raise1_slots e
  have hlt : s.wptr < 4294967296 := s.get_lt _
  refine ⟨?_, fun x y hy hx => hslot x y hy (by simpa using hx 0 (by omega))⟩
  rcases hw with hw | hw
  · exact ⟨0, by omega, by omega⟩
  · exact ⟨1, by omega, hw⟩

theorem raiseAll (fuel : Nat) (es : List Ev) (s : State) : JournalsUpTo fuel s (raiseAll fuel es s) := by
  induction fuel generalizing es s with
  | zero => exact of_mem rfl
  | succ n ih =>
    cases es with
    | nil => exact (of_mem rfl).mono (Nat.zero_le _)
    | cons e es => exact ((raise1 s e).trans (ih (es ++ (s.raise1 e).2) (s.raise1 e).1)).mono (by omega)

theorem raise (s : State) (c u : Nat) (p : List Nat) : JournalsUpTo 24 s (s.raise c u p) := raiseAll _ _ _

theorem endSess (s : State) (n cause : Nat) : JournalsUpTo 24 s (s.endSess n cause) := by
  unfold State.endSess
  split
  · next x _ =>
    have h := (of_mem (s := s) (t := s.setSess n none) rfl).trans (raise (s.setSess n none) 0xB02 n [cause, x.id])
    rwa [Nat.zero_add] at h
  · exact (of_mem rfl).mono (by omega)

end JournalsUpTo

/-- R399: an event that is followed by fewer records than the ring holds stands in the journal at the number that was next. -/
theorem State.journalled_of_raise1 {s t : State} {e : Ev} {n : Nat} (hs : e.skip = 0) (hn : n < jnlSize)
    (h : JournalsUpTo n (s.raise1 e).1 t) : Journalled s t e.code e.unit e.pay := by
  intro ha
  obtain ⟨loc, seq, hr, hw⟩ := s.raise1_acts e ha
  have hrec : ∀ k, k < 8 → t.rd (jnlAddr s.wptr + 4 * k) = (mkRec s e loc seq).words.getD k 0 := fun k hk => by
    refine (h.slot s.wptr k hk fun i hi => ?_).trans (hr k hk)
    rw [hw]
    unfold jnlSize at *
    omega
  obtain ⟨hc, hu⟩ := mkRec_word0 s e loc seq
  have h0 : t.rd (jnlAddr s.wptr) = (mkRec s e loc seq).words.getD 0 0 := hrec 0 (by omega)
  refine ⟨by rw [h0]; exact hc, by rw [h0]; exact hu, fun k v hk hv => ?_⟩
  have := hrec (5 + k) (by omega)
  rw [show jnlAddr s.wptr + 4 * (5 + k) = jnlAddr s.wptr + 20 + 4 * k by omega] at this
  rw [this, mkRec_payload _ _ _ _ _ hk]
  simp only [Ev.payload, hs, Nat.not_lt_zero, if_false, Nat.sub_zero, hv]

/-- R399: an event that is raised and then followed by at most 200 records stands in the journal at the number that was next. -/
theorem State.journalled_of_raise {s t : State} {c u n : Nat} {p : List Nat} (hn : n ≤ 200) (h : JournalsUpTo n (s.raise c u p) t) :
    Journalled s t c u p :=
  State.journalled_of_raise1 (e := { code := c, unit := u, pay := p }) rfl (show 23 + n < jnlSize by unfold jnlSize; omega)
    (JournalsUpTo.trans (JournalsUpTo.raiseAll 23 _ _) h)

/-- An event stands in the journal of whatever shares the ring and, from the start, the role and the next number. -/
theorem Journalled.congr {s s' t t' : State} {c u : Nat} {p : List Nat} (h : Journalled s t c u p) (ha : s'.acts = s.acts)
    (hw : s'.wptr = s.wptr) (hr : ∀ k, k < 8 → t'.rd (jnlAddr s.wptr + 4 * k) = t.rd (jnlAddr s.wptr + 4 * k)) : Journalled s' t' c u p := by
  intro hx
  obtain ⟨hc, hu, hp⟩ := h (ha ▸ hx)
  have hw' : s'.get F.JNL_WPTR_NUM = s.get F.JNL_WPTR_NUM := hw
  have h0 := hr 0 (by omega)
  rw [Nat.mul_zero, Nat.add_zero] at h0
  simp only [hw']
  refine ⟨by rw [h0]; exact hc, by rw [h0]; exact hu, fun k v hk hv => (?_ : _ = _).trans (hp k v hk hv)⟩
  have := hr (5 + k) (by omega)
  rwa [show jnlAddr s.wptr + 4 * (5 + k) = jnlAddr s.wptr + 20 + 4 * k by omega] at this

/-! ## Sessions that end -/

/-- What ending sessions leaves: the key store, every word but those of records, and the slots of the journal but those it fills. -/
structure SessionsEnd (n : Nat) (s t : State) : Prop where
  kst : t.kst = s.kst
  status : t.status = s.status
  rd : ∀ a, recordAddr a = false → t.rd a = s.rd a
  jnl : JournalsUpTo n s t

namespace SessionsEnd

variable {s t u : State} {m n : Nat}

theorem refl (s : State) : SessionsEnd 0 s s := ⟨rfl, rfl, fun _ _ => rfl, .of_mem rfl⟩

theorem trans (h : SessionsEnd m s t) (k : SessionsEnd n t u) : SessionsEnd (m + n) s u :=
  ⟨k.kst.trans h.kst, k.status.trans h.status, fun a ha => (k.rd a ha).trans (h.rd a ha), h.jnl.trans k.jnl⟩

theorem get (h : SessionsEnd n s t) (f : Fld) (hf : recordAddr f.addr = false := by decide) : t.get f = s.get f := by
  simp only [State.get, h.rd _ hf]

theorem endSess (s : State) (n cause : Nat) : SessionsEnd 24 s (s.endSess n cause) := by
  refine ⟨?_, ?_, ?_, .endSess s n cause⟩
  all_goals unfold State.endSess; split
  · exact (State.raise_records _ _ _ _).kst_eq
  · rfl
  · exact (State.raise_records _ _ _ _).status_eq
  · rfl
  · exact fun a ha => (State.raise_records _ _ _ _).rd a ha
  · exact fun _ _ => rfl

theorem endSessIf (s : State) (p : HSess → Bool) (cause : Nat) : SessionsEnd 192 s (s.endSessIf p cause) := by
  have step : ∀ (l : List Nat) (s : State), SessionsEnd (24 * l.length) s (l.foldl (fun s n => match s.sess n with
      | some x => if p x then s.endSess n cause else s
      | none => s) s) := by
    intro l
    induction l with
    | nil => exact refl
    | cons n l ih =>
      intro s
      have h1 : SessionsEnd 24 s (match s.sess n with
          | some x => if p x then s.endSess n cause else s
          | none => s) := by
        have h0 : SessionsEnd 24 s s := ⟨rfl, rfl, fun _ _ => rfl, (JournalsUpTo.of_mem rfl).mono (by omega)⟩
        split
        · split
          · exact endSess s n cause
          · exact h0
        · exact h0
      have h2 := h1.trans (ih _)
      rwa [show 24 + 24 * l.length = 24 * (n :: l).length by simp; omega] at h2
  exact step (List.range 8) s

end SessionsEnd

/-! ## Slots, results and the write itself -/

/-- A host write that the module takes is its own rule. -/
theorem State.hostWr_of_may {s : State} {a v : Nat} {op : State → State} (h : HostMay s a v) : s.hostWr a v op = op s := by
  simp [State.hostWr, h.1, h.2]

theorem State.kslot_setKslot_same (s : State) {n : Nat} (k : KSlot) (hn : n ≠ 0) : (s.setKslot n k).kslot n = k := by
  simp [State.kslot, State.setKslot, hn]

theorem State.kslot_setKslot_ne (s : State) {n j : Nat} (k : KSlot) (h : j ≠ n) : (s.setKslot n k).kslot j = s.kslot j := by
  unfold State.setKslot
  split
  · rfl
  · unfold State.kslot
    split
    · rfl
    · exact spGet_spSet_ne _ _ _ h

/-- A slot is a matter of the key store. -/
theorem State.kslot_congr {s t : State} (h : t.kst = s.kst) (j : Nat) : t.kslot j = s.kslot j := by simp only [State.kslot, h]

@[simp] theorem State.setKslot_rd (s : State) (n : Nat) (k : KSlot) (a : Nat) : (s.setKslot n k).rd a = s.rd a := by
  unfold State.setKslot
  split <;> rfl

@[simp] theorem State.setKslot_get (s : State) (n : Nat) (k : KSlot) (f : Fld) : (s.setKslot n k).get f = s.get f := by
  simp only [State.get, State.setKslot_rd]

theorem State.setKslot_kptr (s : State) (n : Nat) (k : KSlot) : (s.setKslot n k).kst.kptr = s.kst.kptr := by
  unfold State.setKslot
  split <;> rfl

@[simp] theorem State.kres_kst (s : State) (d : Bool) (c n m : Nat) : (s.kres d c n m).kst = s.kst := rfl

@[simp] theorem State.kres_kslot (s : State) (d : Bool) (c n m j : Nat) : (s.kres d c n m).kslot j = s.kslot j := rfl

theorem State.kres_rd_ne (s : State) (d : Bool) (c n m : Nat) {a : Nat} (h : a ≠ Reg.KST_RES) : (s.kres d c n m).rd a = s.rd a := by
  unfold State.kres
  rw [State.rd_put_ne _ _ h, State.rd_put_ne _ _ h, State.rd_put_ne _ _ h]
  exact s.rd_put_ne _ h

theorem State.kres_get_ne (s : State) (d : Bool) (c n m : Nat) (f : Fld) (h : f.addr ≠ Reg.KST_RES := by decide) :
    (s.kres d c n m).get f = s.get f := by
  simp only [State.get, s.kres_rd_ne d c n m h]

theorem State.kres_flag_ne (s : State) (d : Bool) (c n m : Nat) (f : Fld) (h : f.addr ≠ Reg.KST_RES := by decide) :
    (s.kres d c n m).flag f = s.flag f := by
  simp only [State.flag, s.kres_get_ne d c n m f h]

@[simp] theorem State.kres_done (s : State) (d : Bool) (c n m : Nat) : (s.kres d c n m).flag F.KST_RES_DONE = d := by
  unfold State.kres
  rw [State.flag_put_disj _ _ (by decide), State.flag_put_disj _ _ (by decide), State.flag_put_disj _ _ (by decide)]
  exact s.flag_setFlag_same _ _ (by decide) rfl

@[simp] theorem State.kres_code (s : State) (d : Bool) (c n m : Nat) : (s.kres d c n m).get F.KST_RES_CODE = c % 16 := by
  unfold State.kres
  rw [State.get_put_disj _ _ (by decide), State.get_put_disj _ _ (by decide)]
  exact State.get_put_same _ _ _ (by decide)

@[simp] theorem State.kres_slot (s : State) (d : Bool) (c n m : Nat) : (s.kres d c n m).get F.KST_RES_SLOT = n % 256 := by
  unfold State.kres
  rw [State.get_put_disj _ _ (by decide)]
  exact State.get_put_same _ _ _ (by decide)

@[simp] theorem State.kres_cmd (s : State) (d : Bool) (c n m : Nat) : (s.kres d c n m).get F.KST_RES_CMD = m % 8 := by
  unfold State.kres
  exact State.get_put_same _ _ _ (by decide)

/-! ## The commands one by one (R369 to R378) -/

/-- R376: the write is answered OK and KST_RES holds a finished command's result. -/
def State.Resulted (t : State) (code slot cmd : Nat) : Prop :=
  t.status = 0 ∧ t.flag F.KST_RES_DONE = true ∧ t.get F.KST_RES_CODE = code ∧ t.get F.KST_RES_SLOT = slot ∧ t.get F.KST_RES_CMD = cmd

theorem State.resulted_kres (s : State) {code slot cmd : Nat} (hc : code < 16) (hs : slot < 256) (hm : cmd < 8) :
    ((s.kres true code slot cmd).answer stOk).Resulted code slot cmd := by
  refine ⟨rfl, s.kres_done .., (s.kres_code ..).trans (Nat.mod_eq_of_lt hc), (s.kres_slot ..).trans (Nat.mod_eq_of_lt hs),
    (s.kres_cmd ..).trans (Nat.mod_eq_of_lt hm)⟩

/-- A command that puts `k` into slot `n` and ends with a result: the result, the slot, and that no other slot changes. -/
theorem State.slotResult {s u : State} {n code cmd : Nat} {k : KSlot} (hu : ∀ j, u.kslot j = (s.setKslot n k).kslot j) (hn : n ≠ 0)
    (hc : code < 16) (hs : n < 256) (hm : cmd < 8) :
    let t := (u.kres true code n cmd).answer stOk
    t.Resulted code n cmd ∧ t.kslot n = k ∧ ∀ j, j ≠ n → t.kslot j = s.kslot j :=
  ⟨u.resulted_kres hc hs hm, (hu n).trans (s.kslot_setKslot_same k hn), fun j hj => (hu j).trans (s.kslot_setKslot_ne k hj)⟩

/-- R372, R376, R378: what a command meets that is performed: authority, no other command running, and a slot that the command may
have. -/
theorem State.kstCmd_of_may {s : State} {auth live : Bool} {cmd n : Nat} {op : Nat → State → State} (hsel : s.get F.KST_SEL_SLOT = n)
    (hm : HostMay s Reg.KST_CMD (2 ^ cmd)) (ha : auth = true ∨ s.flag F.KST_CTL_OPEN = true) (hb : s.kstBusy = false)
    (hn : cmd = 0 ∨ n ≠ 0) (hl : live = false ∨ (s.kslot n).st = .new ∨ (s.kslot n).st = .active) :
    s.kstCmd auth live cmd op = (op n s).answer stOk := by
  have hauth : s.kstAuth (auth || cmd == 1) = true := by
    rcases ha with ha | ha <;> simp [State.kstAuth, ha]
  have hslot : ¬ (cmd ≠ 0 ∧ n = 0) := by rintro ⟨h0, h1⟩; exact hn.elim h0 (absurd h1)
  have hlive : ¬ (live = true ∧ ((s.kslot n).st = .invalid ∨ (s.kslot n).st = .free)) := by
    rcases hl with h | h | h <;> simp [h]
  have horph : ¬ (live = true ∧ (s.kslot n).st = .orphaned) := by
    rcases hl with h | h | h <;> simp [h]
  unfold State.kstCmd
  rw [State.hostWr_of_may hm]
  simp only [hsel, hauth, hb, if_neg hslot, if_neg hlive, if_neg horph, Bool.not_true, Bool.false_eq_true, if_false]

/-- R370: the lowest FREE slot. -/
theorem find_free {s : State} {m : Nat} (h1 : 1 ≤ m) (h2 : m < 256) (hf : (s.kslot m).st = .free)
    (hlow : ∀ j, 1 ≤ j → j < m → (s.kslot j).st ≠ .free) :
    ((List.range 255).map (· + 1)).find? (fun n => (s.kslot n).st == .free) = some m := by
  have h := List.find?_range_eq_some (n := 255) (i := m - 1) (p := (fun n => (s.kslot n).st == .free) ∘ (· + 1))
  rw [List.find?_map, h.mpr ⟨by simp [Nat.sub_add_cancel h1, hf], by simp; omega, fun j hj => ?_⟩]
  · simp [Nat.sub_add_cancel h1]
  · simpa using hlow (j + 1) (by omega) (by omega)

theorem find_free_none {s : State} (h : ∀ j, 1 ≤ j → j < 256 → (s.kslot j).st ≠ .free) :
    ((List.range 255).map (· + 1)).find? (fun n => (s.kslot n).st == .free) = none := by
  simp only [List.find?_eq_none, List.mem_map, List.mem_range, beq_iff_eq]
  rintro _ ⟨j, hj, rfl⟩
  exact h (j + 1) (by omega) (by omega)

theorem State.kstCreate_free {s : State} {m : Nat} (h1 : 1 ≤ m) (h2 : m < 256) (hf : (s.kslot m).st = .free)
    (hlow : ∀ j, 1 ≤ j → j < m → (s.kslot j).st ≠ .free) (hp : (s.kslot (s.get F.KST_DEF_PARENT)).st = .active)
    (hd : (s.kslot (s.get F.KST_DEF_PARENT)).depth < 3) (ht : 1 ≤ s.get F.KST_DEF_TYPE) (ht' : s.get F.KST_DEF_TYPE ≤ 5)
    (hu : s.get F.KST_DEF_TYPE = 5 → s.get F.KST_DEF_USE = 32) :
    s.kstCreate = (s.setKslot m { st := .new, type := s.get F.KST_DEF_TYPE, use := s.get F.KST_DEF_USE, parent := s.get F.KST_DEF_PARENT,
                                  depth := (s.kslot (s.get F.KST_DEF_PARENT)).depth + 1 }).kres true krOk m kcCreate := by
  have hdef : ¬ (s.get F.KST_DEF_TYPE = 0 ∨ 5 < s.get F.KST_DEF_TYPE ∨ (s.get F.KST_DEF_TYPE = 5 ∧ s.get F.KST_DEF_USE ≠ 32)) := by
    rintro (h | h | ⟨h, h'⟩)
    · omega
    · omega
    · exact h' (hu h)
  simp only [State.kstCreate, find_free h1 h2 hf hlow, hp, ne_eq, not_true_eq_false, if_false, if_neg (Nat.not_le.mpr hd), if_neg hdef]

theorem State.kstCreate_full {s : State} (h : ∀ j, 1 ≤ j → j < 256 → (s.kslot j).st ≠ .free) :
    s.kstCreate = ((s.setFlag F.KST_STAT_FULL true).raise 0x806 0).kres true krFull 0 kcCreate := by
  simp only [State.kstCreate, find_free_none h]

theorem State.kstVerify_right {s : State} {n : Nat} (hp : (s.kslot n).pend ≠ .empty)
    (hk : kcvOf (s.kslot n).type (s.kslot n).pkey = s.get F.KST_KCVX_KCV) :
    s.kstVerify n = (s.setKslot n { s.kslot n with pend := .verified }).kres true krOk n kcVerify := by
  simp only [State.kstVerify, if_neg hp, if_pos hk]

theorem State.kstVerify_wrong {s : State} {n : Nat} (hp : (s.kslot n).pend ≠ .empty)
    (hk : kcvOf (s.kslot n).type (s.kslot n).pkey ≠ s.get F.KST_KCVX_KCV) :
    s.kstVerify n = ((s.setKslot n { s.kslot n with pend := .failed }).raise 0x802 n [n]).kres true krKcvFail n kcVerify := by
  simp only [State.kstVerify, if_neg hp, if_neg hk]

theorem State.kstDelete_childless {s : State} {n : Nat} (hst : (s.kslot n).st = .invalid ∨ (s.kslot n).st = .orphaned)
    (hc : ∀ j, 1 ≤ j → j < 256 → (s.kslot j).parent = n → (s.kslot j).st = .free) :
    s.kstDelete n = (((s.setKslot n {}).keyLog (commitWord0 n (s.kslot n).copy 2 (s.get F.KST_EPOCH_EPOCH + 1))).inc F.KST_EPOCH_EPOCH).kres
      true krOk n kcDelete := by
  have h1 : ¬ ((s.kslot n).st ≠ .invalid ∧ (s.kslot n).st ≠ .orphaned) := by
    rcases hst with h | h <;> simp [h]
  have h2 : ((List.range 256).any fun m => m != 0 && (s.kslot m).st != .free && (s.kslot m).parent == n) = false := by
    simp only [List.any_eq_false, List.mem_range, Bool.and_eq_true, bne_iff_ne, beq_iff_eq]
    rintro m hm ⟨⟨h0, hs⟩, hp⟩
    exact hs (hc m (Nat.one_le_iff_ne_zero.mpr h0) hm hp)
  simp only [State.kstDelete, if_neg h1, h2, Bool.false_eq_true, if_false]

theorem State.keyFor_active {s : State} {n u : Nat} {key : List Nat} (h : s.keyFor n u = some key) : (s.kslot n).st = .active := by
  unfold State.keyFor at h
  simp only [Option.ite_none_right_eq_some] at h
  exact h.1.1

theorem State.kstDerive_key {s : State} {n : Nat} {key : List Nat} (ht : (s.kslot n).type ≠ 5)
    (hk : s.keyFor (s.kslot n).parent 1 = some key) :
    s.kstDerive n = (s.setKslot n
      { s.kslot n with
        pend := .written, gen := false,
        pkey := Crypto.hkdf [] key ((s.rds (Reg.KST_INFO 0) 4).flatMap wordBytes) (keyLen (s.kslot n).type) }).kres true krOk n kcDerive := by
  have hp := State.keyFor_active hk
  simp [State.kstDerive, ht, hp, hk]

/-! ### COMMIT -/

/-- R373: the slot in word 0 of a commit record. -/
theorem commitWord0_slot {slot copy op epoch : Nat} (hs : slot < 256) :
    getBits (commitWord0 slot copy op epoch) 0 8 = slot := by
  simp only [commitWord0, getBits, BitVec.toNat_ofNat]
  omega

/-- R373: the epoch in word 0 of a commit record. -/
theorem commitWord0_epoch {slot copy op epoch : Nat} (hs : slot < 256) (hc : copy < 2) (ho : op < 4) :
    getBits (commitWord0 slot copy op epoch) 16 16 = epoch % 65536 := by
  simp only [commitWord0, getBits, BitVec.toNat_ofNat]
  omega

/-- R373: COMMIT of a verified PENDING copy begins to write its record; the slot stays as it is until then. -/
theorem State.kstCommitCmd_verified {s : State} {n : Nat} (hp : (s.kslot n).pend = .verified) (hn : n < 256) :
    let t := (s.kstCommitCmd n).answer stOk
    t.status = 0 ∧ t.flag F.KST_STAT_CBUSY = true ∧ t.flag F.KST_RES_DONE = false ∧ t.kslot n = s.kslot n ∧
      ∃ w, t.kst.commit = some ⟨n, w, (s.kslot n).pkey⟩ ∧ getBits w 0 8 = n ∧ getBits w 16 16 = (s.get F.KST_EPOCH_EPOCH + 1) % 65536 := by
  have hop : (if (s.kslot n).gen then 3 else 0) < 4 := by split <;> omega
  simp only [State.kstCommitCmd, hp, ne_eq, not_true_eq_false, if_false]
  refine ⟨rfl, ?_, State.kres_done .., rfl, _, rfl, commitWord0_slot hn, commitWord0_epoch hn (by omega) hop⟩
  exact (State.kres_flag_ne _ _ _ _ _ F.KST_STAT_CBUSY).trans (State.flag_setFlag_same _ _ _ (by decide) rfl)

/-! ### INVALIDATE -/

/-- R377: INVALIDATE up to its event: the slot, the key log and the epoch. -/
def State.kstInvalidated (s : State) (n : Nat) : State :=
  ((s.setKslot n { s.kslot n with st := .invalid }).keyLog
    (commitWord0 n (s.kslot n).copy 1 (s.get F.KST_EPOCH_EPOCH + 1))).inc F.KST_EPOCH_EPOCH

/-- R377: the slots that INVALIDATE of slot `n` has to mark. -/
def State.descendants (s : State) (n : Nat) : List Nat := (List.range 256).filter fun m => s.isAncestor n m

/-- R377: INVALIDATE: its event, the sessions that end, and the descendants to be marked. -/
theorem State.kstInvalidate_ends (s : State) (n : Nat) :
    ∃ u, SessionsEnd 192 ((s.kstInvalidated n).raise 0x803 n [n, (s.descendants n).length]) u ∧
    s.kstInvalidate n = (({ u with kst := { u.kst with marks := s.descendants n } } : State).setFlag F.KST_STAT_MARKING
      (s.descendants n != [])).kres (s.descendants n == []) krOk n kcInvalidate :=
  ⟨_, .endSessIf _ (fun x => x.slot == n) 4, by simp only [State.kstInvalidate, State.kstInvalidated, State.descendants]⟩

theorem State.kstInvalidated_rd (s : State) (n : Nat) {a : Nat} (h : a ≠ Reg.KST_EPOCH) : (s.kstInvalidated n).rd a = s.rd a :=
  (State.rd_put_ne _ _ h).trans (s.setKslot_rd n _ a)

theorem State.kstInvalidated_get (s : State) (n : Nat) (f : Fld) (h : f.addr ≠ Reg.KST_EPOCH := by decide) :
    (s.kstInvalidated n).get f = s.get f := by
  simp only [State.get, s.kstInvalidated_rd n h]

theorem State.kstInvalidated_kslot (s : State) (n j : Nat) :
    (s.kstInvalidated n).kslot j = (s.setKslot n { s.kslot n with st := .invalid }).kslot j := rfl

theorem State.kstInvalidated_epoch (s : State) (n : Nat) :
    (s.kstInvalidated n).get F.KST_EPOCH_EPOCH = (s.get F.KST_EPOCH_EPOCH + 1) % 2 ^ (F.KST_EPOCH_EPOCH).width := by
  refine (State.get_inc_same _ _ (by decide)).trans ?_
  rw [show ∀ w, State.get (State.keyLog (s.setKslot n { s.kslot n with st := .invalid }) w) F.KST_EPOCH_EPOCH = s.get F.KST_EPOCH_EPOCH from
    fun w => s.setKslot_get n _ F.KST_EPOCH_EPOCH]

/-- R377: INVALIDATE of slot `n`. -/
theorem State.kstInvalidate_gives (s : State) {n : Nat} (hn : n ≠ 0) (h256 : n < 256) :
    let t := (s.kstInvalidate n).answer stOk
    t.status = 0 ∧ t.kslot n = { s.kslot n with st := .invalid } ∧ (∀ j, j ≠ n → t.kslot j = s.kslot j) ∧ t.get F.KST_RES_CODE = 0 ∧
      t.get F.KST_RES_SLOT = n ∧ t.get F.KST_EPOCH_EPOCH = (s.get F.KST_EPOCH_EPOCH + 1) % 2 ^ (F.KST_EPOCH_EPOCH).width ∧
      t.kst.marks = s.descendants n ∧ (t.flag F.KST_STAT_MARKING = true ↔ t.kst.marks ≠ []) ∧
      Journalled s t 0x803 n [n, t.kst.marks.length] := by
  obtain ⟨u, hu, he⟩ := s.kstInvalidate_ends n
  have hraise := (s.kstInvalidated n).raise_records 0x803 n [n, (s.descendants n).length]
  have hkst : u.kst = (s.kstInvalidated n).kst := hu.kst.trans hraise.kst_eq
  have hslot : ∀ j, ((s.kstInvalidate n).answer stOk).kslot j = (s.setKslot n { s.kslot n with st := .invalid }).kslot j := fun j => by
    rw [he, ← s.kstInvalidated_kslot n j, ← State.kslot_congr hkst j]
    rfl
  have hmarks : ((s.kstInvalidate n).answer stOk).kst.marks = s.descendants n := by rw [he]; rfl
  have hget : ∀ f : Fld, f.addr ≠ Reg.KST_RES → (F.KST_STAT_MARKING).disj f = true →
      ((s.kstInvalidate n).answer stOk).get f = u.get f := fun f hf hd => by
    rw [he]
    exact (State.kres_get_ne _ _ _ _ _ f hf).trans (State.get_setFlag_disj _ _ hd)
  refine ⟨rfl, ?_, fun j hj => ?_, ?_, ?_, ?_, hmarks, ?_, ?_⟩
  · exact (hslot n).trans (s.kslot_setKslot_same _ hn)
  · exact (hslot j).trans (s.kslot_setKslot_ne _ hj)
  · rw [he]; exact State.kres_code ..
  · rw [he]; exact (State.kres_slot ..).trans (Nat.mod_eq_of_lt h256)
  · rw [hget _ (by decide) (by decide), hu.get F.KST_EPOCH_EPOCH, hraise.get (by decide), s.kstInvalidated_epoch]
  · rw [hmarks, he]
    have hf := (State.kres_flag_ne _ (s.descendants n == []) krOk n kcInvalidate F.KST_STAT_MARKING).trans
      (State.flag_setFlag_same { u with kst := { u.kst with marks := s.descendants n } } F.KST_STAT_MARKING
        (s.descendants n != []) (by decide) rfl)
    rw [State.answer_flag, hf, bne_iff_ne]
  · rw [hmarks]
    refine (State.journalled_of_raise (by omega) hu.jnl).congr ?_ ?_ fun k hk => ?_
    · simp only [State.acts, s.kstInvalidated_get n F.GLB_ROLE_ROLE]
    · exact (s.kstInvalidated_get n F.JNL_WPTR_NUM).symm
    · rw [he]
      refine (State.kres_rd_ne _ _ _ _ _ (jnl_ne_reg _ _ (by decide))).trans ?_
      exact State.rd_put_ne _ _ (jnl_ne_reg _ _ (by decide))

/-! ### The data port, the selection and OPEN -/

/-- R371: the bytes `b` with the word `v` at word `p`. -/
def withWord (b : List Nat) (p : Nat) (v : Word) : List Nat := b.take (4 * p) ++ wordBytes v ++ b.drop (4 * p + 4)

theorem withWord_length {b : List Nat} {p : Nat} (v : Word) (h : 4 * p + 4 ≤ b.length) : (withWord b p v).length = b.length := by
  simp only [withWord, wordBytes, List.length_append, List.length_take, List.length_drop, List.length_cons, List.length_nil]
  omega

theorem withWord_take {b : List Nat} {p : Nat} (v : Word) (h : 4 * p + 4 ≤ b.length) : (withWord b p v).take (4 * p) = b.take (4 * p) := by
  rw [withWord, List.append_assoc, List.take_append_of_le_length (by simp; omega), List.take_take, Nat.min_self]

theorem withWord_at {b : List Nat} {p : Nat} (v : Word) (h : 4 * p + 4 ≤ b.length) :
    ((withWord b p v).drop (4 * p)).take 4 = wordBytes v := by
  have hl : (b.take (4 * p)).length = 4 * p := by simp; omega
  rw [withWord, List.append_assoc, List.drop_left' hl]
  rfl

theorem keyLen_words {p type : Nat} (h : 4 * p < keyLen type) : 4 * p + 4 ≤ keyLen type := by
  unfold keyLen at h ⊢
  split at h
  · rw [if_pos ‹_›]; omega
  · rw [if_neg ‹_›]; omega

/-- R371: a word into a PENDING copy that is not empty. -/
theorem State.kdat_kst {s : State} {v : Word} {n : Nat} {k : KSlot} (hsel : s.get F.KST_SEL_SLOT = n) (hk : s.kslot n = k) (hn : n ≠ 0)
    (hst : k.st = .new ∨ k.st = .active) (ht : k.type ≠ 5) (hp : 4 * s.kst.kptr < keyLen k.type) (hpend : k.pend ≠ .empty) :
    (s.kdat v).status = stOk ∧ (s.kdat v).kst =
      { (s.setKslot n { k with pend := .written, gen := false, pkey := withWord k.pkey s.kst.kptr v }).kst with
        kptr := s.kst.kptr + 1 } := by
  have hlive : ¬ (k.st ≠ .new ∧ k.st ≠ .active) := by rcases hst with h | h <;> simp [h]
  simp only [State.kdat, hsel, hk, hn, ht, hlive, Nat.not_le.mpr hp, hpend, State.pendBytes, false_and, if_false]
  exact ⟨rfl, rfl⟩

theorem State.kdat_gives {s : State} {v : Word} {n : Nat} {k : KSlot} (hsel : s.get F.KST_SEL_SLOT = n) (hk : s.kslot n = k) (hn : n ≠ 0)
    (hst : k.st = .new ∨ k.st = .active) (ht : k.type ≠ 5) (hp : 4 * s.kst.kptr < keyLen k.type) (hpend : k.pend ≠ .empty)
    (hlen : k.pkey.length = keyLen k.type) :
    let t := s.kdat v
    t.status = 0 ∧ t.kst.kptr = s.kst.kptr + 1 ∧ (t.kslot n).pend = .written ∧ (t.kslot n).st = k.st ∧
      (∀ j, j ≠ n → t.kslot j = s.kslot j) ∧ (t.kslot n).pkey.length = keyLen k.type ∧
      ((t.kslot n).pkey.drop (4 * s.kst.kptr)).take 4 = wordBytes v ∧
      (t.kslot n).pkey.take (4 * s.kst.kptr) = k.pkey.take (4 * s.kst.kptr) := by
  obtain ⟨hstat, hkst⟩ := State.kdat_kst (v := v) hsel hk hn hst ht hp hpend
  have hslot : ∀ j, (s.kdat v).kslot j =
      (s.setKslot n { k with pend := .written, gen := false, pkey := withWord k.pkey s.kst.kptr v }).kslot j := fun j => by
    simp only [State.kslot, hkst]
  have hroom : 4 * s.kst.kptr + 4 ≤ k.pkey.length := hlen ▸ keyLen_words hp
  have hnew := (hslot n).trans (s.kslot_setKslot_same _ hn)
  refine ⟨hstat, by rw [hkst], ?_, ?_, fun j hj => (hslot j).trans (s.kslot_setKslot_ne _ hj), ?_, ?_, ?_⟩
  · rw [hnew]
  · rw [hnew]
  · rw [hnew]; exact (withWord_length v hroom).trans hlen
  · rw [hnew]; exact withWord_at v hroom
  · rw [hnew]; exact withWord_take v hroom

theorem State.kstSel_gives (s : State) (v : Nat) :
    (s.kstSel v).status = 0 ∧ (s.kstSel v).get F.KST_SEL_SLOT = v % 256 ∧ (s.kstSel v).kst = { s.kst with kptr := 0 } :=
  ⟨rfl, s.get_put_same F.KST_SEL_SLOT v (by decide), rfl⟩

/-- R15: of a word with one voted field the copies agree, or that field alone disagrees. -/
theorem State.disagree_single (s : State) {a m : Nat} (h : rwvFields a = [m]) : s.disagree a = [] ∨ s.disagree a = [m] := by
  rw [State.disagree, h, List.filter_singleton]
  generalize (spGet (fun _ => 0) s.phu.odd a &&& m != 0) = b
  cases b
  · exact .inl rfl
  · exact .inr rfl

/-- A voted word shows no disagreement. -/
theorem State.disagree_vote (s : State) (a : Nat) : (s.vote a).disagree a = [] := by
  have h : (s.vote a).phu.odd = spSet (fun _ => 0) s.phu.odd a 0 := by rw [s.vote_only a]
  simp [State.disagree, h]

/-- A vote counts what it corrects. -/
theorem State.vote_count (s : State) {a m : Nat} (hf : rwvFields a = [m]) : (s.vote a).get F.GLB_VSCRUB_COUNT =
    min (s.get F.GLB_VSCRUB_COUNT + (s.disagree a).length) (2 ^ (F.GLB_VSCRUB_COUNT).width - 1) := by
  rcases s.disagree_single hf with h | h
  · have hlt := s.get_lt F.GLB_VSCRUB_COUNT
    rw [State.vote_of_agree _ _ h, h]
    exact (Nat.min_eq_left (Nat.le_sub_one_of_lt hlt)).symm
  · rw [State.vote, h]
    exact State.get_incSat_same _ _ 1 (by decide)

/-- A vote writes no word but the count. -/
theorem State.vote_rd (s : State) {a m x : Nat} (hf : rwvFields a = [m]) (hx : x ≠ Reg.GLB_VSCRUB) : (s.vote a).rd x = s.rd x := by
  rcases s.disagree_single hf with h | h
  · rw [State.vote_of_agree _ _ h]; rfl
  · rw [State.vote, h]
    exact State.rd_put_ne _ _ hx

theorem rwvFields_kstCtl : rwvFields Reg.KST_CTL = [1] := by decide

/-- R17: of a write masked by the vote, bit 0 is that of the word. -/
theorem maskIn_bit0 (w : Word) (r : Nat) : (maskIn w 1 r).toNat % 2 = r % 2 := by
  have h : (maskIn w 1 r).toNat.testBit 0 = r.testBit 0 := by
    simp [maskIn]
  simp only [Nat.testBit_zero, decide_eq_decide] at h
  omega

/-- R372: KST_CTL: OPEN can be cleared, never set. -/
theorem State.kstCtl_open (s : State) (v : Nat) : (s.kstCtl v).flag F.KST_CTL_OPEN = (s.flag F.KST_CTL_OPEN && decide (v % 2 = 1)) := by
  unfold State.kstCtl
  split
  · next h =>
    rw [State.answer_flag, State.flag_setFlag_same _ _ _ (by decide) rfl]
    simp [h]
  · next h =>
    rw [State.answer_flag]
    simp [Nat.mod_two_ne_zero.mp h]

theorem State.kstCtl_count (s : State) (v : Nat) : (s.kstCtl v).get F.GLB_VSCRUB_COUNT = s.get F.GLB_VSCRUB_COUNT := by
  unfold State.kstCtl
  split
  · exact State.get_setFlag_disj _ _ (by decide)
  · rfl

theorem State.kstCtl_same (s : State) (v : Nat) : (s.kstCtl v).kst = s.kst ∧ (s.kstCtl v).phu = s.phu := by
  unfold State.kstCtl
  split <;> exact ⟨rfl, rfl⟩

/-- R17, R18: what a write of `v` makes of OPEN: nothing where the vote corrects it in the same cycle. -/
theorem State.voteIn_kstCtl (s : State) (v : Nat) :
    (s.flag F.KST_CTL_OPEN && decide (s.voteIn Reg.KST_CTL v % 2 = 1)) =
      if s.disagree Reg.KST_CTL = [] then s.flag F.KST_CTL_OPEN && decide (v % 2 = 1) else s.flag F.KST_CTL_OPEN := by
  rcases s.disagree_single rwvFields_kstCtl with h | h
  · rw [s.voteIn_of_agree _ _ h, if_pos h]
  · have hv : s.voteIn Reg.KST_CTL v % 2 = (s.rd Reg.KST_CTL).toNat % 2 := by
      rw [State.voteIn, h]
      exact maskIn_bit0 _ _
    have hopen : s.flag F.KST_CTL_OPEN = decide ((s.rd Reg.KST_CTL).toNat % 2 = 1) := by
      simp [State.flag, State.get, getBits, F.KST_CTL_OPEN]
      rfl
    rw [hv, hopen, h, Bool.and_self, if_neg (by decide)]

/-- R372: the write of KST_CTL as a whole: the vote, then the write as the vote leaves it. -/
theorem State.kstCtl_gives (s : State) (v : Nat) :
    let t := (s.vote Reg.KST_CTL).kstCtl (s.voteIn Reg.KST_CTL v)
    t.status = 0 ∧ t.kst = s.kst ∧
      t.flag F.KST_CTL_OPEN = (if s.disagree Reg.KST_CTL = [] then s.flag F.KST_CTL_OPEN && decide (v % 2 = 1) else s.flag F.KST_CTL_OPEN) ∧
      t.disagree Reg.KST_CTL = [] ∧
      t.get F.GLB_VSCRUB_COUNT = min (s.get F.GLB_VSCRUB_COUNT + (s.disagree Reg.KST_CTL).length) (2 ^ (F.GLB_VSCRUB_COUNT).width - 1) := by
  obtain ⟨hkst, hphu⟩ := (s.vote Reg.KST_CTL).kstCtl_same (s.voteIn Reg.KST_CTL v)
  refine ⟨rfl, hkst.trans (by rw [s.vote_only]), ?_, ?_, ?_⟩
  · have hopen : (s.vote Reg.KST_CTL).flag F.KST_CTL_OPEN = s.flag F.KST_CTL_OPEN := by
      simp only [State.flag, State.get, s.vote_rd (x := (F.KST_CTL_OPEN).addr) rwvFields_kstCtl (by decide)]
    rw [State.kstCtl_open, hopen, s.voteIn_kstCtl]
  · have h := s.disagree_vote Reg.KST_CTL
    simpa only [State.disagree, hphu] using h
  · rw [State.kstCtl_count, s.vote_count rwvFields_kstCtl]

/-- Settles O46: what each command of the key store does, command by command; all but KST_CTL through `State.kstCmd_of_may` or
`State.hostWr_of_may`. -/
theorem keyStoreCommands : Obligations.KeyStoreCommands := by
  intro s auth v m n k type use par may live res others
  have hsel : s.get F.KST_SEL_SLOT = n := rfl
  have h256 : n < 256 := s.get_lt F.KST_SEL_SLOT
  have hlive : ∀ {b : Bool}, live → b = false ∨ (s.kslot n).st = .new ∨ (s.kslot n).st = .active := fun h => .inr h.2
  refine ⟨?create, ?full, ?verified, ?failed, ?commit, ?discard, ?invalidate, ?delete, fun key => ?derive, ?kdat, ?refused, ?sel, ?ctl⟩
  case create =>
    rintro ⟨hm, ha, hb⟩ h1 h2 hf hlow hp hd ht ht' hu
    refine ⟨_, rfl, ?_⟩
    rw [State.kstCmd_of_may (cmd := kcCreate) hsel hm ha hb (.inl rfl) (.inl rfl), State.kstCreate_free h1 h2 hf hlow hp hd ht ht' hu]
    exact State.slotResult (fun _ => rfl) (by omega) (by decide) h2 (by decide)
  case full =>
    rintro ⟨hm, ha, hb⟩ hfull
    refine ⟨_, rfl, ?_⟩
    rw [State.kstCmd_of_may (cmd := kcCreate) hsel hm ha hb (.inl rfl) (.inl rfl), State.kstCreate_full hfull]
    have hr := (s.setFlag F.KST_STAT_FULL true).raise_records 0x806 0 []
    refine ⟨State.resulted_kres _ (by decide) (by decide) (by decide), ?_, hr.kst_eq, ?_⟩
    · exact (State.kres_flag_ne _ _ _ _ _ F.KST_STAT_FULL).trans ((hr.flag (by decide)).trans (s.flag_setFlag_same _ _ (by decide) rfl))
    · refine ((s.setFlag F.KST_STAT_FULL true).raise_journalled 0x806 0 []).congr ?_ ?_ fun _ _ => ?_
      · simp only [State.acts, s.get_setFlag_disj (f := F.KST_STAT_FULL) (g := F.GLB_ROLE_ROLE) true (by decide)]
      · exact (s.get_setFlag_disj (g := F.JNL_WPTR_NUM) _ (by decide)).symm
      · exact State.kres_rd_ne _ _ _ _ _ (jnl_ne_reg _ _ (by decide))
  case verified =>
    rintro ⟨hm, ha, hb⟩ hl hp hk
    refine ⟨_, rfl, ?_⟩
    rw [State.kstCmd_of_may (cmd := kcVerify) hsel hm ha hb (.inr hl.1) (hlive hl), State.kstVerify_right hp hk]
    exact State.slotResult (fun _ => rfl) hl.1 (by decide) h256 (by decide)
  case failed =>
    rintro ⟨hm, ha, hb⟩ hl hp hk
    refine ⟨_, rfl, ?_⟩
    rw [State.kstCmd_of_may (cmd := kcVerify) hsel hm ha hb (.inr hl.1) (hlive hl), State.kstVerify_wrong hp hk]
    have hr := (s.setKslot n { k with pend := .failed }).raise_records 0x802 n [n]
    obtain ⟨h1, h2, h3⟩ := State.slotResult (code := krKcvFail) (cmd := kcVerify)
      (State.kslot_congr hr.kst_eq) hl.1 (by decide) h256 (by decide)
    refine ⟨h1, h2, h3, ((s.setKslot n { k with pend := .failed }).raise_journalled 0x802 n [n]).congr ?_ ?_ fun _ _ => ?_⟩
    · simp only [State.acts, State.setKslot_get]
    · exact (State.setKslot_get _ _ _ _).symm
    · exact State.kres_rd_ne _ _ _ _ _ (jnl_ne_reg _ _ (by decide))
  case commit =>
    rintro ⟨hm, ha, hb⟩ hl hp
    refine ⟨_, rfl, ?_⟩
    rw [State.kstCmd_of_may (cmd := kcCommit) hsel hm ha hb (.inr hl.1) (hlive hl)]
    exact State.kstCommitCmd_verified hp h256
  case discard =>
    rintro ⟨hm, ha, hb⟩ hn
    refine ⟨_, rfl, ?_⟩
    rw [State.kstCmd_of_may (cmd := kcDiscard) hsel hm ha hb (.inr hn) (.inl rfl)]
    exact State.slotResult (fun _ => rfl) hn (by decide) h256 (by decide)
  case invalidate =>
    rintro ⟨hm, ha, hb⟩ hl
    refine ⟨_, rfl, ?_⟩
    rw [State.kstCmd_of_may (cmd := kcInvalidate) hsel hm ha hb (.inr hl.1) (hlive hl)]
    exact s.kstInvalidate_gives hl.1 h256
  case delete =>
    rintro ⟨hm, ha, hb⟩ hn hst hc
    refine ⟨_, rfl, ?_⟩
    rw [State.kstCmd_of_may (cmd := kcDelete) hsel hm ha hb (.inr hn) (.inl rfl), State.kstDelete_childless hst hc]
    exact State.slotResult (fun _ => rfl) hn (by decide) h256 (by decide)
  case derive =>
    rintro ⟨hm, ha, hb⟩ hl ht hk
    refine ⟨_, rfl, ?_⟩
    rw [State.kstCmd_of_may (cmd := kcDerive) hsel hm ha hb (.inr hl.1) (hlive hl), State.kstDerive_key ht hk]
    exact And.imp_right And.symm (State.slotResult (fun _ => rfl) hl.1 (by decide) h256 (by decide))
  case kdat =>
    intro hm ha hl ht hp hpend hlen
    refine ⟨_, rfl, ?_⟩
    have hauth : s.kstAuth auth = true := by rcases ha with ha | ha <;> simp [State.kstAuth, ha]
    rw [State.hostWr_of_may hm, if_pos hauth]
    exact State.kdat_gives rfl rfl hl.1 hl.2 ht hp hpend hlen
  case refused =>
    intro hm ha ho
    refine ⟨_, rfl, ?_⟩
    have hauth : ¬ s.kstAuth auth = true := by simp [State.kstAuth, ha, ho]
    rw [State.hostWr_of_may hm, if_neg hauth]
    rfl
  case sel =>
    intro hm
    refine ⟨_, rfl, ?_⟩
    rw [State.hostWr_of_may hm]
    exact s.kstSel_gives v.toNat
  case ctl =>
    intro hm
    refine ⟨_, rfl, ?_⟩
    rw [State.hostWr_of_may hm]
    exact s.kstCtl_gives v.toNat

end Sys2Proof.Machine

/-!
# Requests and register writes (O55)

A request that finds the module free goes to `State.request` of session 0 when it is unprotected and OPEN is set; what it sends ends in
`State.sendResp`, `State.reject` or `State.respond`, each with one lemma.  A register write passes the checks of R450 in
`State.writeWord` and ends in the plain rule of R16, whose word `State.plainWrite_of_row` gives.
-/

namespace Sys2Proof.Machine

/-! ## What goes out -/

/-- The VLAN tag is a matter of the word HAP_CTL. -/
theorem State.vlanTag_congr {s t : State} (h : t.rd Reg.HAP_CTL = s.rd Reg.HAP_CTL) : t.vlanTag = s.vlanTag := by
  have h1 : t.flag F.HAP_CTL_VLANEN = s.flag F.HAP_CTL_VLANEN := by simp only [State.flag, State.get, F.HAP_CTL_VLANEN, h]
  have h2 : t.get F.HAP_CTL_VID = s.get F.HAP_CTL_VID := by simp only [State.get, F.HAP_CTL_VID, h]
  have h3 : t.get F.HAP_CTL_PCP = s.get F.HAP_CTL_PCP := by simp only [State.get, F.HAP_CTL_PCP, h]
  simp only [State.vlanTag, h1, h2, h3]

/-- A counter leaves every other word. -/
theorem State.incSat_rd_ne (s : State) (f : Fld) (n : Nat) {a : Nat} (h : a ≠ f.addr) : (s.incSat f n).rd a = s.rd a := s.rd_put_ne _ h

theorem State.sendResp_out (s : State) (p : Peer) (b : List Nat) : (s.sendResp p b).out = s.out ++ [.datagram s.vlanTag p b] := rfl

@[simp] theorem State.sendResp_hap (s : State) (p : Peer) (b : List Nat) : (s.sendResp p b).hap = s.hap := rfl

@[simp] theorem State.sendResp_xlk (s : State) (p : Peer) (b : List Nat) : (s.sendResp p b).xlk = s.xlk := rfl

theorem State.sendResp_rd_ne (s : State) (p : Peer) (b : List Nat) {a : Nat} (h : a ≠ Reg.HAP_EXMAX) : (s.sendResp p b).rd a = s.rd a :=
  State.rd_put_ne (s.emit (.datagram s.vlanTag p b)) _ h

/-- R465: HAP_EXMAX keeps the largest time. -/
theorem State.sendResp_exmax (s : State) (p : Peer) (b : List Nat) : s.get F.HAP_EXMAX_US ≤ (s.sendResp p b).get F.HAP_EXMAX_US := by
  have hlt : s.get F.HAP_EXMAX_US < 65536 := s.get_lt _
  have hput : (s.sendResp p b).get F.HAP_EXMAX_US =
      max (s.get F.HAP_EXMAX_US) ((Config.freeWord s.free).toNat % 209) % 65536 :=
    State.get_put_same (s.emit (.datagram s.vlanTag p b)) F.HAP_EXMAX_US _ (by decide)
  rw [hput]
  omega

/-- R442: a REJECT is counted and goes out plain. -/
theorem State.reject_shape (s : State) (p : Peer) (h : HHead) (reason : Nat) :
    (s.reject p h reason).out =
        s.out ++ [.datagram s.vlanTag p (headBytes 0x12 0 0 h.sid h.xid 8 ++ [reason, 0, 0, 0] ++ Crypto.toBytes 4 h.xid)] ∧
      (s.reject p h reason).hap = s.hap ∧ (∀ a, a ∉ [Reg.HAP_ERR1] → (s.reject p h reason).rd a = s.rd a) ∧
      (s.reject p h reason).get F.HAP_ERR1_REJECT = min (s.get F.HAP_ERR1_REJECT + 1) 0xFFFF := by
  refine ⟨?_, rfl, fun a ha => s.incSat_rd_ne _ _ fun h => ha (List.mem_singleton.mpr h), s.get_incSat_same F.HAP_ERR1_REJECT 1 (by decide)⟩
  have hlen : ([reason, 0, 0, 0] ++ Crypto.toBytes 4 h.xid).length = 8 := by simp [Crypto.toBytes]
  rw [List.append_assoc, State.reject, sealDatagram, hlen]
  rfl

/-! ## The request on its way (R442, R443) -/

theorem HHead.length_of_ok {h : HHead} {n : Nat} (hok : h.ok n = true) : 16 ≤ n := by
  simp only [HHead.ok, Bool.and_eq_true, beq_iff_eq, decide_eq_true_eq] at hok
  omega

/-- R443: a request that finds the module free. -/
theorem State.request_runs {s : State} {peer : Peer} {bs : List Nat} (hr : s.inRunQuiet = true) (hx : s.xlk.trans = [])
    (hw : s.hap.waiting = []) (ht : (headOf bs).typ = 0x10) (hok : (headOf bs).ok bs.length = true) :
    s.datagram tRequest peer bs = s.settle.requestDatagram peer bs (headOf bs) := by
  rw [datagram_runs (typ := tRequest) s hr (HHead.length_of_ok hok) ht (by decide) hw hx]
  simp [State.runDatagram, ht, tHello, tProve, tRequest]

/-- R443: a datagram that arrives while another is in execution waits. -/
theorem State.hold_room {s : State} {peer : Peer} {bs : List Nat} (h : s.hap.waiting.length < 32) :
    s.hold peer bs = { s with hap := { s.hap with waiting := s.hap.waiting ++ [(peer, bs)] } } := if_neg (Nat.not_le.mpr h)

/-- R443: at most 32 of them. -/
theorem State.hold_full {s : State} {peer : Peer} {bs : List Nat} (h : 32 ≤ s.hap.waiting.length) :
    s.hold peer bs = (s.incSat F.HAP_ERR1_QDROP).setFlag F.HAP_STAT_QDROP true := if_pos h

/-- R372, R445: an unprotected request without a session: executed while OPEN is set, else counted as not authentic. -/
theorem State.requestDatagram_plain {u : State} {peer : Peer} {bs : List Nat} {h : HHead} (hok : h.ok bs.length = true) (hs : h.sid = 0)
    (hp : h.prot = false) : u.requestDatagram peer bs h =
      if u.flag F.KST_CTL_OPEN = true then u.request peer h 8 none (bs.drop 16) else u.incSat F.HAP_ERR0_AUTH := by
  simp [State.requestDatagram, hok, hs, hp]

/-- R446: the session without protection notes when its last datagram came. -/
def State.noted0 (u : State) : State := { u with hap := { u.hap with sess0 := { u.hap.sess0 with last := u.ns } } }

@[simp] theorem State.noted0_rd (u : State) (a : Nat) : u.noted0.rd a = u.rd a := rfl

/-- R459: a repeated XID. -/
theorem State.request_repeated {u : State} {peer : Peer} {h : HHead} {body : List Nat} {e : Nat × List Nat}
    (he : u.hap.sess0.cache.find? (fun e => e.1 == h.xid) = some e) :
    u.request peer h 8 none body = (u.noted0.incSat F.HAP_REPEATS_COUNT).sendResp peer e.2 := by
  have h0 : u.hsess 8 = u.hap.sess0 := rfl
  simp only [State.request, h0, he]
  rfl

/-- R459: a stale XID. -/
theorem State.request_stale {u : State} {peer : Peer} {h : HHead} {body : List Nat}
    (he : u.hap.sess0.cache.find? (fun e => e.1 == h.xid) = none) (hst : cacheStale u.hap.sess0.cache h.xid = true) :
    u.request peer h 8 none body = (u.noted0.incSat F.HAP_ERR0_STALE).setFlag F.HAP_STAT_STALE true := by
  have h0 : u.hsess 8 = u.hap.sess0 := rfl
  simp only [State.request, h0, he, hst, if_true]
  rfl

/-- R442: a request that is fresh and malformed. -/
theorem State.request_malformed {u : State} {peer : Peer} {h : HHead} {body : List Nat}
    (he : u.hap.sess0.cache.find? (fun e => e.1 == h.xid) = none) (hst : cacheStale u.hap.sess0.cache h.xid = false)
    (hm : h.xid = 0 ∨ h.nops = 0 ∨ 64 < h.nops ∨ parseOps h.nops body = none) :
    u.request peer h 8 none body = u.noted0.reject peer h 1 := by
  have h0 : u.hsess 8 = u.hap.sess0 := rfl
  simp only [State.request, h0, he, hst, Bool.false_eq_true, if_false]
  by_cases hhead : h.xid = 0 ∨ h.nops = 0 ∨ 64 < h.nops
  · rw [if_pos hhead]
    rfl
  · have hnone : parseOps h.nops body = none := by
      rcases hm with hm | hm | hm | hm
      · exact absurd (.inl hm) hhead
      · exact absurd (.inr (.inl hm)) hhead
      · exact absurd (.inr (.inr hm)) hhead
      · exact hm
    rw [if_neg hhead, hnone]
    rfl

/-- R442, R443: a request that is fresh and well formed: rejected whole when its response is too long, else executed. -/
theorem State.request_ops {u : State} {peer : Peer} {h : HHead} {body : List Nat} {ops : List HOp}
    (he : u.hap.sess0.cache.find? (fun e => e.1 == h.xid) = none) (hst : cacheStale u.hap.sess0.cache h.xid = false)
    (hxid : h.xid ≠ 0) (h1 : 1 ≤ h.nops) (h64 : h.nops ≤ 64) (hp : h.prot = false) (hops : parseOps h.nops body = some ops) :
    u.request peer h 8 none body =
      if 1440 < respSize false ops then u.noted0.reject peer h 2 else u.noted0.runOps peer h 8 none ops := by
  have h0 : u.hsess 8 = u.hap.sess0 := rfl
  have hhead : ¬ (h.xid = 0 ∨ h.nops = 0 ∨ 64 < h.nops) := by omega
  simp only [State.request, h0, he, hst, Bool.false_eq_true, if_false, if_neg hhead, hops, hp]
  rfl

/-- R442: a body gives as many operations as NOPS says. -/
theorem parseOps_length {n : Nat} {b : List Nat} {ops : List HOp} (h : parseOps n b = some ops) : ops.length = n := by
  induction n generalizing b ops with
  | zero =>
    simp only [parseOps, Option.ite_none_right_eq_some, Option.some.injEq] at h
    rw [← h.2]
    rfl
  | succ n ih =>
    unfold parseOps at h
    split at h
    · cases h
    · obtain ⟨l, hl, rfl⟩ := Option.map_eq_some_iff.mp h
      simpa using ih hl

/-! ## The response and the transaction record (R421, R446, R459) -/

/-- R446, R459: the session without protection has executed `xid`. -/
theorem State.noteDone_plain (s : State) (xid : Nat) (resp : List Nat) : s.noteDone 8 xid resp =
    { s with hap := { s.hap with sess0 := { s.hap.sess0 with cache := cachePut s.hap.sess0.cache xid resp, count := s.hap.sess0.count + 1 } } } :=
  rfl

/-- R436: the frame's words that a response does not touch. -/
theorem State.respond_rd_ne (s : State) (peer : Peer) (k xid : Nat) (r : HRun) (resp : List Nat) {a : Nat} (h : a ≠ Reg.HAP_EXMAX) :
    (s.respond peer k xid r resp).rd a = s.rd a := by
  unfold State.respond
  split
  · exact s.sendResp_rd_ne peer resp h
  · dsimp only
    split
    · rfl
    · exact State.sendResp_rd_ne _ peer resp h

theorem State.respond_hap (s : State) (peer : Peer) (k xid : Nat) (r : HRun) (resp : List Nat) :
    (s.respond peer k xid r resp).hap = s.hap := by
  unfold State.respond
  split
  · rfl
  · dsimp only
    split <;> rfl

theorem State.respond_exmax (s : State) (peer : Peer) (k xid : Nat) (r : HRun) (resp : List Nat) :
    s.get F.HAP_EXMAX_US ≤ (s.respond peer k xid r resp).get F.HAP_EXMAX_US := by
  unfold State.respond
  split
  · exact s.sendResp_exmax peer resp
  · dsimp only
    split
    · exact Nat.le_refl _
    · exact State.sendResp_exmax _ peer resp

/-- Alone, the module answers at once. -/
theorem State.respond_alone {s : State} {peer : Peer} {k xid : Nat} {r : HRun} {resp : List Nat} (h : s.activePaired = false) :
    (s.respond peer k xid r resp).out = s.out ++ [.datagram s.vlanTag peer resp] := by
  simp only [State.respond, h, Bool.not_false, if_true]
  rfl

/-- With a standby that is not READY, the record goes out and the response with it. -/
theorem State.respond_notReady {s : State} {peer : Peer} {k xid : Nat} {r : HRun} {resp : List Nat} (h : s.activePaired = true)
    (hr : s.flag F.XLK_STAT_READY = false) :
    (s.respond peer k xid r resp).out = s.out ++ [.transaction (r.record k xid resp), .datagram s.vlanTag peer resp] ∧
      (s.respond peer k xid r resp).xlk.trans = s.xlk.trans := by
  simp only [State.respond, h, hr, Bool.not_true, Bool.false_eq_true, if_false]
  refine ⟨?_, rfl⟩
  rw [State.sendResp_out, State.emit_out, List.append_assoc]
  rfl

/-- With a READY standby, the record goes out and the response waits. -/
theorem State.respond_ready {s : State} {peer : Peer} {k xid : Nat} {r : HRun} {resp : List Nat} (h : s.activePaired = true)
    (hr : s.flag F.XLK_STAT_READY = true) :
    (s.respond peer k xid r resp).out = s.out ++ [.transaction (r.record k xid resp)] ∧
      (s.respond peer k xid r resp).xlk.trans = s.xlk.trans ++ [{ id := transId k xid, resp := resp, peer := peer, old := r.old }] := by
  simp only [State.respond, h, hr, Bool.not_true, Bool.false_eq_true, if_false, if_true]
  exact ⟨rfl, rfl⟩

/-! ## An executed request -/

/-- R421, R446, R459: what follows the operations of a request without protection: the cache, the count, the transaction record and the
response. -/
def HRun.finish (r : HRun) (peer : Peer) (xid : Nat) (resp : List Nat) : State :=
  ((r.s.noteDone 8 xid resp).inc F.HAP_DGRAMS_COUNT).respond peer 8 xid r resp

theorem State.runOps_plain {u : State} {peer : Peer} {h : HHead} {ops : List HOp} {r : HRun} (hs : h.sid = 0)
    (hr : ops.foldl (fun (r : HRun) o => r.exec 8 o) ({ s := u, id := 8 * 2 ^ 32 + h.xid } : HRun) = r) :
    u.runOps peer h 8 none ops = r.finish peer h.xid (headBytes 0x11 0 ops.length 0 h.xid r.body.length ++ r.body) := by
  subst hr
  simp only [State.runOps, hs, sealDatagram]
  rfl

namespace HRun

variable (r : HRun) (peer : Peer) (xid : Nat) (resp : List Nat)

/-- The words that executing leaves, but the two counters of the port. -/
theorem finish_rd {a : Nat} (ha : a ∉ [Reg.HAP_DGRAMS, Reg.HAP_EXMAX]) : (r.finish peer xid resp).rd a = r.s.rd a := by
  simp only [List.mem_cons, List.not_mem_nil, or_false, not_or] at ha
  exact (State.respond_rd_ne _ _ _ _ _ _ ha.2).trans (State.rd_put_ne (r.s.noteDone 8 xid resp) _ ha.1)

theorem finish_dgrams : (r.finish peer xid resp).get F.HAP_DGRAMS_COUNT = (r.s.get F.HAP_DGRAMS_COUNT + 1) % 2 ^ 32 := by
  have h : (r.finish peer xid resp).get F.HAP_DGRAMS_COUNT = ((r.s.noteDone 8 xid resp).inc F.HAP_DGRAMS_COUNT).get F.HAP_DGRAMS_COUNT :=
    congrArg (fun w => getBits w 0 32) (State.respond_rd_ne _ _ _ _ _ _ (by decide))
  rw [h, State.get_inc_same _ _ (by decide), r.s.noteDone_plain]
  rfl

theorem finish_cache : (r.finish peer xid resp).hap.sess0.cache = cachePut r.s.hap.sess0.cache xid resp := by
  rw [finish, State.respond_hap]
  rfl

theorem finish_exmax : r.s.get F.HAP_EXMAX_US ≤ (r.finish peer xid resp).get F.HAP_EXMAX_US := by
  refine Nat.le_trans (Nat.le_of_eq ?_) (State.respond_exmax _ _ _ _ _ _)
  exact (State.get_inc_disj (r.s.noteDone 8 xid resp) (by decide)).symm

/-- Noting the request leaves what `State.respond` asks for. -/
theorem noted_same (f : Fld) (hf : f.addr ≠ Reg.HAP_DGRAMS := by decide) :
    ((r.s.noteDone 8 xid resp).inc F.HAP_DGRAMS_COUNT).get f = r.s.get f := by
  have h : ((r.s.noteDone 8 xid resp).inc F.HAP_DGRAMS_COUNT).rd f.addr = r.s.rd f.addr :=
    State.rd_put_ne (r.s.noteDone 8 xid resp) _ hf
  simp only [State.get, h]

theorem noted_activePaired : ((r.s.noteDone 8 xid resp).inc F.HAP_DGRAMS_COUNT).activePaired = r.s.activePaired := by
  simp only [State.activePaired, r.noted_same xid resp F.GLB_ROLE_ROLE]
  rfl

theorem noted_vlanTag : ((r.s.noteDone 8 xid resp).inc F.HAP_DGRAMS_COUNT).vlanTag = r.s.vlanTag :=
  State.vlanTag_congr (State.rd_put_ne (r.s.noteDone 8 xid resp) _ (by decide))

theorem finish_alone (h : r.s.activePaired = false) : (r.finish peer xid resp).out = r.s.out ++ [.datagram r.s.vlanTag peer resp] := by
  rw [finish, State.respond_alone ((r.noted_activePaired xid resp).trans h), r.noted_vlanTag]
  rfl

theorem finish_notReady (h : r.s.activePaired = true) (hr : r.s.flag F.XLK_STAT_READY = false) :
    (r.finish peer xid resp).xlk.trans = r.s.xlk.trans ∧
      (r.finish peer xid resp).out = r.s.out ++ [.transaction (r.record 8 xid resp), .datagram r.s.vlanTag peer resp] := by
  have hready : ((r.s.noteDone 8 xid resp).inc F.HAP_DGRAMS_COUNT).flag F.XLK_STAT_READY = false := by
    rw [← hr]
    simp only [State.flag, r.noted_same xid resp F.XLK_STAT_READY]
  obtain ⟨hout, htrans⟩ := State.respond_notReady (peer := peer) (k := 8) (xid := xid) (r := r) (resp := resp)
    ((r.noted_activePaired xid resp).trans h) hready
  rw [r.noted_vlanTag] at hout
  exact ⟨htrans, hout⟩

theorem finish_ready (h : r.s.activePaired = true) (hr : r.s.flag F.XLK_STAT_READY = true) :
    (r.finish peer xid resp).out = r.s.out ++ [.transaction (r.record 8 xid resp)] ∧
      (r.finish peer xid resp).xlk.trans = r.s.xlk.trans ++ [{ id := transId 8 xid, resp := resp, peer := peer, old := r.old }] := by
  have hready : ((r.s.noteDone 8 xid resp).inc F.HAP_DGRAMS_COUNT).flag F.XLK_STAT_READY = true := by
    rw [← hr]
    simp only [State.flag, r.noted_same xid resp F.XLK_STAT_READY]
  exact State.respond_ready (peer := peer) (k := 8) (xid := xid) (r := r) (resp := resp) ((r.noted_activePaired xid resp).trans h) hready

end HRun

/-! ## The plain rule of a register (R16) -/

theorem bit_eq_testBit (v i : Nat) : bit v i = v.testBit i := by
  rw [bit, Nat.testBit_eq_decide_div_mod_eq]
  rfl

/-- A one-bit field is a bit of its word. -/
theorem State.flag_eq_getLsbD (s : State) (f : Fld) (hw : f.width = 1) : s.flag f = (s.rd f.addr).getLsbD f.lo := by
  simp only [State.flag, State.get, getBits, hw, BitVec.getLsbD, Nat.testBit_eq_decide_div_mod_eq]
  rfl

/-- R16: a masked write takes the bits of the mask from the value. -/
theorem getLsbD_maskIn (w : Word) (m v i : Nat) (hi : i < 32) :
    (maskIn w m v).getLsbD i = if m.testBit i then v.testBit i else w.getLsbD i := by
  simp only [maskIn, BitVec.getLsbD_or, BitVec.getLsbD_and, BitVec.getLsbD_not, BitVec.getLsbD_ofNat, hi, decide_true, Bool.true_and]
  cases m.testBit i <;> simp

/-- A field that the mask covers takes its bits of the value. -/
theorem getBits_maskIn_low (w : Word) (v n : Nat) (hn : n ≤ 32) : getBits (maskIn w (2 ^ n - 1) v) 0 n = v % 2 ^ n := by
  apply Nat.eq_of_testBit_eq
  intro i
  rw [testBit_getBits, Nat.testBit_mod_two_pow, Nat.zero_add]
  by_cases hi : i < n
  · rw [getLsbD_maskIn _ _ _ _ (by omega), Nat.testBit_two_pow_sub_one]
    simp [hi]
  · simp [hi]

/-- A field above the mask keeps its value. -/
theorem getBits_maskIn_above (w : Word) (v n lo k : Nat) (hn : n ≤ lo) (hk : lo + k ≤ 32) :
    getBits (maskIn w (2 ^ n - 1) v) lo k = getBits w lo k := by
  apply Nat.eq_of_testBit_eq
  intro i
  rw [testBit_getBits, testBit_getBits]
  by_cases hi : i < k
  · rw [getLsbD_maskIn _ _ _ _ (by omega), Nat.testBit_two_pow_sub_one]
    simp [show ¬ lo + i < n by omega]
  · simp [hi]

/-- A masked write of what the word holds changes nothing. -/
theorem maskIn_masked (w x : Word) (m : Nat) : maskIn w m (maskIn x m w.toNat).toNat = w := by
  apply BitVec.eq_of_getLsbD_eq
  intro i hi
  rw [getLsbD_maskIn _ _ _ _ hi, ← BitVec.getLsbD, getLsbD_maskIn _ _ _ _ hi]
  split
  · rfl
  · rfl

theorem and_not_zero (w : Word) : w &&& ~~~(BitVec.ofNat 32 0) = w := BitVec.and_allOnes

/-- A write of no bit changes nothing. -/
theorem maskIn_zero (w : Word) (v : Nat) : maskIn w 0 v = w := by
  rw [maskIn, and_not_zero, BitVec.and_zero, BitVec.or_zero]

/-- R16: a register with a bit that can be written and none that is staged. -/
theorem State.plainWrite_of_row {s : State} {a v : Nat} {r : RegRow} (hr : regRow a = some r) (hw : r.rw ||| r.w1c ||| r.w1s ||| r.wo ≠ 0)
    (hb : r.rb = 0) : s.plainWrite a v =
      (s.wr a (maskIn (s.rd a) (r.rw &&& 0xFFFFFFFF) v &&& ~~~(BitVec.ofNat 32 (v &&& r.w1c)))).answer stOk := by
  simp only [State.plainWrite, hr, if_neg hw, hb, if_true]

/-- R450: a reserved address in a block takes no write. -/
theorem State.plainWrite_of_none {s : State} {a v : Nat} (hr : regRow a = none) : s.plainWrite a v = s.answer stIgnored := by
  simp only [State.plainWrite, hr]

/-- A write of RW bits alone. -/
theorem State.plainWrite_rw {s : State} {a v m : Nat} {r : RegRow} (hr : regRow a = some r) (hm : r.rw = m) (hm0 : m ≠ 0) (hm32 : m < 2 ^ 32)
    (hc : r.w1c = 0) (hb : r.rb = 0) : s.plainWrite a v = (s.wr a (maskIn (s.rd a) m v)).answer stOk := by
  have hmask : r.rw &&& 0xFFFFFFFF = m := by
    rw [hm, show 0xFFFFFFFF = 2 ^ 32 - 1 from rfl, Nat.and_two_pow_sub_one_eq_mod, Nat.mod_eq_of_lt hm32]
  have hw : r.rw ||| r.w1c ||| r.w1s ||| r.wo ≠ 0 := by
    intro h
    simp only [Nat.or_eq_zero_iff] at h
    exact hm0 (hm ▸ h.1.1.1)
  rw [State.plainWrite_of_row hr hw hb, hmask, hc, Nat.and_zero, and_not_zero]

/-! ## The checks of a register write (R450) -/

/-- A write of a word with no voted field is voted without effect. -/
theorem State.vote_of_no_fields {s : State} {a : Nat} (h : rwvFields a = []) (v : Nat) :
    s.vote a = { s with phu := { s.phu with odd := spSet (fun _ => 0) s.phu.odd a 0 } } ∧ s.voteIn a v = v := by
  have hd : s.disagree a = [] := by rw [State.disagree, h]; rfl
  exact ⟨s.vote_of_agree a hd, s.voteIn_of_agree a v hd⟩

theorem State.hostWrite_aligned {s : State} {auth : Bool} {a v : Nat} (hr : s.inRunQuiet = true) (ha : a % 4 = 0) :
    s.hostWrite auth a v = s.writeWord auth a v := by
  simp [State.hostWrite, hr, ha]

theorem State.hostWrite_unaligned {s : State} {auth : Bool} {a v : Nat} (hr : s.inRunQuiet = true) (ha : a % 4 ≠ 0) :
    s.hostWrite auth a v = s.answer stAlign := by
  simp [State.hostWrite, hr, ha]

theorem State.writeWord_nowhere {s : State} {auth : Bool} {a v : Nat} (hp : placeAt a = none) : s.writeWord auth a v = s.answer stAddr := by
  simp only [State.writeWord, hp]

theorem State.writeWord_refused {s : State} {auth : Bool} {a v : Nat} (hp : placeAt a ≠ none) (hr : s.roleRefuses a v = true) :
    s.writeWord auth a v = s.roleAnswer a v := by
  unfold State.writeWord
  split
  · next h => exact absurd h hp
  · rw [if_pos hr]

theorem State.writeWord_block {s : State} {auth : Bool} {a v b : Nat} (hp : placeAt a = some (.block b)) (hr : s.roleRefuses a v = false) :
    s.writeWord auth a v = (s.vote a).writeBlock auth b a (s.voteIn a v) := by
  simp only [State.writeWord, hp, hr, Bool.false_eq_true, if_false]

theorem State.writeWord_window {s : State} {auth : Bool} {a v : Nat} {w : Win} (hp : placeAt a = some (.window w))
    (hr : s.roleRefuses a v = false) : s.writeWord auth a v = s.writeWin w a v := by
  simp only [State.writeWord, hp, hr, Bool.false_eq_true, if_false]

/-- R523: a window that takes no writes. -/
theorem State.writeWin_locked {s : State} {w : Win} {a v : Nat} (h1 : w ≠ .data) (h2 : w ≠ .node) (h3 : w ≠ .radio) :
    s.writeWin w a v = s.answer stLocked := by
  cases w with
  | data => exact absurd rfl h1
  | node => exact absurd rfl h2
  | radio => exact absurd rfl h3
  | prog => rfl
  | curve => rfl
  | cal => rfl
  | jnl => rfl
  | lop => rfl

/-- R415: a refused write that is no step of a standby's time base. -/
theorem State.roleAnswer_noStep {s : State} {a v : Nat} (h : a = Reg.TBU_CMD → bit v 1 = false ∧ bit v 2 = false) :
    s.roleAnswer a v = s.answer stRole := by
  have hno : ¬ (a = Reg.TBU_CMD ∧ s.isStandby = true ∧ (bit v 1 = true ∨ bit v 2 = true)) := by
    rintro ⟨ha, -, hb⟩
    obtain ⟨h1, h2⟩ := h ha
    rw [h1, h2] at hb
    exact hb.elim Bool.noConfusion Bool.noConfusion
  rw [State.roleAnswer, if_neg hno]

theorem State.roleRefuses_of {s : State} {a v : Nat} (hr : 2 ≤ s.get F.GLB_ROLE_ROLE) (hw : standbyWritable a v = false) :
    s.roleRefuses a v = true := by
  simp [State.roleRefuses, hr, hw]

theorem State.roleRefuses_of_writable (s : State) {a v : Nat} (hw : standbyWritable a v = true) : s.roleRefuses a v = false := by
  simp [State.roleRefuses, hw]

/-- R521: an address in a region without gaps lies somewhere. -/
theorem placeAt_of_region {a : Nat} (r : Nat × Nat × Nat) (hr : r ∈ regions) (h1 : r.1 ≤ a) (h2 : a < r.2.1) : placeAt a ≠ none := by
  have hfind : (regions.find? fun r => decide (r.1 ≤ a) && decide (a < r.2.1)).isSome = true :=
    List.find?_isSome.mpr ⟨r, hr, by simp [h1, h2]⟩
  obtain ⟨x, hx⟩ := Option.isSome_iff_exists.mp hfind
  have hblock : ∃ b, blockAt a = some b := by
    unfold blockAt
    split
    · exact ⟨_, rfl⟩
    · split
      · exact ⟨_, rfl⟩
      · exact ⟨_, by rw [hx]; rfl⟩
  obtain ⟨b, hb⟩ := hblock
  simp [placeAt, hb]

/-- R415: TBU, ZON, CCE, MTR and PHU have no register that a standby writes. -/
theorem standbyWritable_engines {a v : Nat} (h : (0x2000 ≤ a ∧ a < 0x2100) ∨ (0x20000 ≤ a ∧ a < 0x24000) ∨ (0x60000 ≤ a ∧ a < 0x60100) ∨
    (0x70000 ≤ a ∧ a < 0x70100) ∨ (0xC0000 ≤ a ∧ a < 0xC00C0)) : standbyWritable a v = false ∧ placeAt a ≠ none := by
  constructor
  · have hregs : [Reg.GLB_ROLE, Reg.GLB_CMD, Reg.HAP_CTL, Reg.HAP_CMD, Reg.PEN_IMGPTR, Reg.PEN_IMGDAT, Reg.SEA_IMGPTR, Reg.SEA_IMGDAT,
        Reg.SRU_IMGPTR, Reg.SRU_IMGDAT].contains a = false := by
      simp [Reg.GLB_ROLE, Reg.GLB_CMD, Reg.HAP_CTL, Reg.HAP_CMD, Reg.PEN_IMGPTR, Reg.PEN_IMGDAT, Reg.SEA_IMGPTR, Reg.SEA_IMGDAT,
        Reg.SRU_IMGPTR, Reg.SRU_IMGDAT]
      omega
    have hlop : ((List.range 8).any fun n => a == Reg.LOP_CMD n) = false := by
      simp [Reg.LOP_CMD]
      omega
    unfold standbyWritable
    rw [hregs, hlop]
    have hport : Reg.HAP_PORT = 0x1010 := rfl
    have hgw : Reg.HAP_IP6GW 3 = 0x1040 := rfl
    simp only [Bool.or_eq_false_iff, Bool.and_eq_false_iff, decide_eq_false_iff_not, Bool.false_and, and_true]
    omega
  · rcases h with h | h | h | h | h
    · exact placeAt_of_region (0x2000, 0x2100, 2) (by decide) h.1 h.2
    · exact placeAt_of_region (0x20000, 0x24000, 5) (by decide) h.1 h.2
    · exact placeAt_of_region (0x60000, 0x60100, 9) (by decide) h.1 h.2
    · exact placeAt_of_region (0x70000, 0x70100, 10) (by decide) h.1 h.2
    · exact placeAt_of_region (0xC0000, 0xC00C0, 16) (by decide) h.1 h.2

/-- R372: the registers that need an authenticated session have no voted field and can be written in every role. -/
theorem kstProtected_regs : ∀ a ∈ [Reg.KST_KDAT, Reg.KST_DEF, Reg.KST_DOMAIN, Reg.KST_INFO 0, Reg.KST_VER 3],
    a % 4 = 0 ∧ placeAt a = some (.block 12) ∧ rwvFields a = [] ∧ (∀ v, standbyWritable a v = true) ∧ ∀ v, kstProtected a v = true := by
  have hwr : ∀ a v, 0x90000 ≤ a → a < 0x90180 → standbyWritable a v = true := fun a v h1 h2 => by simp [standbyWritable, h1, h2]
  have hregs : ∀ a ∈ [Reg.KST_KDAT, Reg.KST_DEF, Reg.KST_DOMAIN, Reg.KST_INFO 0, Reg.KST_VER 3],
      a % 4 = 0 ∧ placeAt a = some (.block 12) ∧ rwvFields a = [] ∧ (0x90000 ≤ a ∧ a < 0x90180) ∧
        ([Reg.KST_KDAT, Reg.KST_DEF, Reg.KST_DOMAIN].contains a || (arrayIdx a (Reg.KST_INFO 0) 4 4).isSome ||
          (arrayIdx a (Reg.KST_VER 0) 4 4).isSome) = true := by decide
  intro a ha
  obtain ⟨h1, h2, h3, h4, h5⟩ := hregs a ha
  exact ⟨h1, h2, h3, fun v => hwr a v h4.1 h4.2, fun v => by simp only [kstProtected, h5, Bool.true_or]⟩

/-- R450: a reserved word of JNL or PHU has no rule of its own and no voted field. -/
theorem reserved_jnl : ∀ i < 32, regRow (0xA1000 + 4 * i) = none →
    placeAt (0xA1000 + 4 * i) = some (.block 14) ∧ rwvFields (0xA1000 + 4 * i) = [] ∧ 0xA1000 + 4 * i ≠ Reg.JNL_CMD ∧
      arrayIdx (0xA1000 + 4 * i) (Reg.JNL_MARK 0) 4 8 = none := by decide

theorem reserved_phu : ∀ i < 48, regRow (0xC0000 + 4 * i) = none →
    placeAt (0xC0000 + 4 * i) = some (.block 16) ∧ rwvFields (0xC0000 + 4 * i) = [] ∧ 0xC0000 + 4 * i ≠ Reg.PHU_PSAVE ∧
      arrayIdx (0xC0000 + 4 * i) Reg.PHU_WARN 4 3 = none := by decide

/-! ## The registers of the statement -/

theorem regRow_pcap : ∃ r, regRow Reg.SME_PCAP = some r ∧ r.rw = 2 ^ 24 - 1 ∧ r.w1c = 0 ∧ r.rb = 0 := ⟨_, rfl, rfl, rfl, rfl⟩

theorem State.writeBlock_pcap (s : State) (auth : Bool) (v : Nat) : s.writeBlock auth 6 Reg.SME_PCAP v =
    (s.wr Reg.SME_PCAP (maskIn (s.rd Reg.SME_PCAP) (2 ^ 24 - 1) v)).answer stOk := by
  obtain ⟨r, hr, hrw, hc, hb⟩ := regRow_pcap
  exact (rfl : _ = s.plainWrite Reg.SME_PCAP v).trans (State.plainWrite_rw hr hrw (by decide) (by decide) hc hb)

/-- The write of SME_PCAP as a whole. -/
theorem State.registerWrite_pcap {s : State} {auth : Bool} {v : Nat} (hm : HostMay s Reg.SME_PCAP v) :
    s.hostWrite auth Reg.SME_PCAP v = ((s.vote Reg.SME_PCAP).wr Reg.SME_PCAP
      (maskIn (s.rd Reg.SME_PCAP) (2 ^ 24 - 1) (s.voteIn Reg.SME_PCAP v))).answer stOk := by
  have hf : rwvFields Reg.SME_PCAP = [0xFFFFFF] := by decide
  rw [State.hostWrite_aligned hm.1 (by decide), State.writeWord_block (b := 6) (by decide) hm.2, State.writeBlock_pcap,
    s.vote_rd hf (by decide)]

theorem State.writeBlock_xlkStat (s : State) (auth : Bool) (v : Nat) : s.writeBlock auth 15 Reg.XLK_STAT v =
    (s.wr Reg.XLK_STAT (s.rd Reg.XLK_STAT &&& ~~~(BitVec.ofNat 32 (v &&& 0xDC0)))).answer stOk := by
  obtain ⟨r, hr, hrw, hc, hb⟩ : ∃ r, regRow Reg.XLK_STAT = some r ∧ r.rw = 0 ∧ r.w1c = 0xDC0 ∧ r.rb = 0 := ⟨_, rfl, rfl, rfl, rfl⟩
  have hw : r.rw ||| r.w1c ||| r.w1s ||| r.wo ≠ 0 := by
    rw [hrw, hc]
    intro h
    simp only [Nat.or_eq_zero_iff] at h
    exact absurd h.1.1.2 (by decide)
  refine (rfl : _ = s.plainWrite Reg.XLK_STAT v).trans ((State.plainWrite_of_row hr hw hb).trans ?_)
  rw [hrw, hc, Nat.zero_and, maskIn_zero]

/-- The write of XLK_STAT as a whole. -/
theorem State.registerWrite_xlkStat {s : State} {auth : Bool} {v : Nat} (hm : HostMay s Reg.XLK_STAT v) :
    (s.hostWrite auth Reg.XLK_STAT v).status = 0 ∧ OnlyTouches s (s.hostWrite auth Reg.XLK_STAT v) [Reg.XLK_STAT] ∧
      (s.hostWrite auth Reg.XLK_STAT v).rd Reg.XLK_STAT = s.rd Reg.XLK_STAT &&& ~~~(BitVec.ofNat 32 (v &&& 0xDC0)) := by
  obtain ⟨hvote, hin⟩ := State.vote_of_no_fields (s := s) (a := Reg.XLK_STAT) (by decide) v
  rw [State.hostWrite_aligned hm.1 (by decide), State.writeWord_block (b := 15) (by decide) hm.2, State.writeBlock_xlkStat, hin]
  have hrd : ∀ a, (s.vote Reg.XLK_STAT).rd a = s.rd a := fun a => by rw [hvote]; rfl
  refine ⟨rfl, fun a ha => ?_, ?_⟩
  · exact (State.rd_wr_ne _ _ fun h => ha (List.mem_singleton.mpr h)).trans (hrd a)
  · rw [State.answer_rd, State.rd_wr_same, hrd]

/-- R16: a flag of XLK_STAT that is written with 1 is cleared, when it is one of those that a write clears. -/
theorem State.registerWrite_xlkStat_flag {s : State} {auth : Bool} {v : Nat} (hm : HostMay s Reg.XLK_STAT v) (f : Fld)
    (ha : f.addr = Reg.XLK_STAT) (hw : f.width = 1) (hlo : f.lo < 32) :
    (s.hostWrite auth Reg.XLK_STAT v).flag f = (s.flag f && !(bit v f.lo && bit 0xDC0 f.lo)) := by
  obtain ⟨-, -, hrd⟩ := State.registerWrite_xlkStat (auth := auth) hm
  rw [State.flag_eq_getLsbD _ f hw, State.flag_eq_getLsbD _ f hw, ha, hrd]
  rw [BitVec.getLsbD_and, BitVec.getLsbD_not, BitVec.getLsbD_ofNat, bit_eq_testBit, bit_eq_testBit, Nat.testBit_and]
  simp only [hlo, decide_true, Bool.true_and]

theorem State.writeBlock_role (s : State) (auth : Bool) (v : Nat) : s.writeBlock auth 0 Reg.GLB_ROLE v =
    if v % 4 ≤ 1 then (s.wr Reg.GLB_ROLE (maskIn (s.rd Reg.GLB_ROLE) (2 ^ 2 - 1) v)).answer stOk else s.answer stIgnored := by
  obtain ⟨r, hr, hrw, hc, hb⟩ : ∃ r, regRow Reg.GLB_ROLE = some r ∧ r.rw = 2 ^ 2 - 1 ∧ r.w1c = 0 ∧ r.rb = 0 := ⟨_, rfl, rfl, rfl, rfl⟩
  refine (rfl : _ = s.writeIf (decide (v % 4 ≤ 1)) Reg.GLB_ROLE v).trans ?_
  simp only [State.writeIf, decide_eq_true_eq, State.plainWrite_rw hr hrw (by decide) (by decide) hc hb]

/-- R412: the write of GLB_ROLE: PMODE takes 0 or 1, ROLE is not the host's. -/
theorem State.registerWrite_role {s : State} {auth : Bool} {v : Nat} (hm : HostMay s Reg.GLB_ROLE v) (hd : s.disagree Reg.GLB_ROLE = []) :
    let t := s.hostWrite auth Reg.GLB_ROLE v
    t.get F.GLB_ROLE_ROLE = s.get F.GLB_ROLE_ROLE ∧ t.get F.GLB_ROLE_PMODE = (if v % 4 ≤ 1 then v % 4 else s.get F.GLB_ROLE_PMODE) ∧
      t.status = (if v % 4 ≤ 1 then 0 else 1) ∧ OnlyTouches s t [Reg.GLB_ROLE] := by
  have hrd : ∀ a, (s.vote Reg.GLB_ROLE).rd a = s.rd a := fun a => by rw [s.vote_of_agree _ hd]; rfl
  have hget : ∀ f, (s.vote Reg.GLB_ROLE).get f = s.get f := fun f => by simp only [State.get, hrd]
  intro t
  have ht : t = if v % 4 ≤ 1 then
      ((s.vote Reg.GLB_ROLE).wr Reg.GLB_ROLE (maskIn (s.rd Reg.GLB_ROLE) (2 ^ 2 - 1) v)).answer stOk
      else (s.vote Reg.GLB_ROLE).answer stIgnored := by
    show s.hostWrite auth Reg.GLB_ROLE v = _
    rw [State.hostWrite_aligned hm.1 (by decide), State.writeWord_block (b := 0) (by decide) hm.2, State.writeBlock_role,
      s.voteIn_of_agree _ _ hd, hrd]
  clear_value t
  subst ht
  split
  · have hword : ∀ f : Fld, f.addr = Reg.GLB_ROLE →
        (((s.vote Reg.GLB_ROLE).wr Reg.GLB_ROLE (maskIn (s.rd Reg.GLB_ROLE) (2 ^ 2 - 1) v)).answer stOk).get f =
          getBits (maskIn (s.rd Reg.GLB_ROLE) (2 ^ 2 - 1) v) f.lo f.width := fun f hf => by
      rw [State.answer_get, State.get, hf, State.rd_wr_same]
    refine ⟨?_, ?_, rfl, fun a ha => ?_⟩
    · exact (hword F.GLB_ROLE_ROLE rfl).trans (getBits_maskIn_above _ v 2 4 2 (by omega) (by omega))
    · exact (hword F.GLB_ROLE_PMODE rfl).trans (getBits_maskIn_low _ v 2 (by omega))
    · exact (State.rd_wr_ne _ _ fun h => ha (List.mem_singleton.mpr h)).trans (hrd a)
  · exact ⟨hget _, hget _, rfl, fun a _ => hrd a⟩

/-- R450: a reserved address of JNL or PHU. -/
theorem State.registerWrite_reserved {s : State} {auth : Bool} {a v : Nat} (hm : HostMay s a v) (ha : a % 4 = 0)
    (hr : (0xA1000 ≤ a ∧ a < 0xA1080) ∨ (0xC0000 ≤ a ∧ a < 0xC00C0)) (hrow : regRow a = none) :
    rwvFields a = [] ∧ s.hostWrite auth a v = (s.vote a).answer stIgnored := by
  rcases hr with hr | hr
  · obtain ⟨i, hi, rfl⟩ : ∃ i, i < 32 ∧ a = 0xA1000 + 4 * i := ⟨(a - 0xA1000) / 4, by omega, by omega⟩
    obtain ⟨hp, hf, hcmd, hmark⟩ := reserved_jnl i hi hrow
    refine ⟨hf, ?_⟩
    rw [State.hostWrite_aligned hm.1 ha, State.writeWord_block hp hm.2]
    simp only [State.writeBlock, State.writeJnl, if_neg hcmd, hmark, State.plainWrite_of_none hrow]
  · obtain ⟨i, hi, rfl⟩ : ∃ i, i < 48 ∧ a = 0xC0000 + 4 * i := ⟨(a - 0xC0000) / 4, by omega, by omega⟩
    obtain ⟨hp, hf, hsave, hwarn⟩ := reserved_phu i hi hrow
    refine ⟨hf, ?_⟩
    rw [State.hostWrite_aligned hm.1 ha, State.writeWord_block hp hm.2]
    simp only [State.writeBlock, State.writePhu, if_neg hsave, hwarn, State.plainWrite_of_none hrow]

/-- R372: a protected write outside an authenticated session, once OPEN is clear. -/
theorem State.registerWrite_unauthenticated {s : State} {a v : Nat} (hr : s.inRunQuiet = true)
    (ha : a ∈ [Reg.KST_KDAT, Reg.KST_DEF, Reg.KST_DOMAIN, Reg.KST_INFO 0, Reg.KST_VER 3]) (ho : s.flag F.KST_CTL_OPEN = false) :
    rwvFields a = [] ∧ s.hostWrite false a v = (s.vote a).answer stAuth := by
  obtain ⟨h4, hp, hf, hwr, hprot⟩ := kstProtected_regs a ha
  refine ⟨hf, ?_⟩
  obtain ⟨hvote, hin⟩ := State.vote_of_no_fields (s := s) hf v
  have hauth : (s.vote a).kstAuth false = false := by rw [hvote]; exact ho
  rw [State.hostWrite_aligned hr h4, State.writeWord_block hp (s.roleRefuses_of_writable (hwr v))]
  simp only [State.writeBlock, State.writeKst, hprot, hauth, Bool.not_false, Bool.and_self, if_true]

/-! ## Posted writes (R456) -/

theorem State.postedStep_one {s : State} {b : Nat} {p : Nat × List (Nat × Word) × Bool × Nat} {w : Nat × Word}
    (hp : s.hap.posted.find? (fun q => q.1 == b) = some p) (hw : p.2.1 = [w]) : (s.postedStep b).1 =
      { ({ s with hap := { s.hap with posted := s.hap.posted.filter fun q => q.1 != b } } : State).writeWord p.2.2.1 w.1 w.2.toNat with
        status := s.status } := by
  simp only [State.postedStep, hp, hw]
  rfl

/-- Nothing waits under the bit: nothing is applied. -/
theorem State.applyPosted_none {s : State} {b : Nat} (hp : s.hap.posted.find? (fun q => q.1 == b) = none) : s.applyPosted b = s := by
  have hmap : (s.xlk.trans.map fun t => if t.id = 0 then { t with old := t.old ++ [] } else t) = s.xlk.trans := by
    refine (List.map_congr_left fun t _ => ?_).trans (List.map_id _)
    rw [List.append_nil]
    exact ite_self t
  simp only [State.applyPosted, State.postedStep, hp, State.noteOld]
  rw [hmap]

/-! ## The obligation -/

/-- Settles O55: a request by what `State.request` makes of it, a register write by the checks of R450 in their order, a posted write by
`State.postedStep`. -/
theorem requestsAndRegisterWrites : Obligations.RequestsAndRegisterWrites := by
  intro s peer b auth a v bit_ bs h u x tag u1 alone in0 fresh rejected A V ends endsVoted noStep
  have hplain : in0 → s.datagram tRequest peer bs = u.request peer h 8 none (bs.drop 16) := by
    rintro ⟨hr, ⟨hx, hw⟩, ht, hok, hs, hp, ho⟩
    rw [State.request_runs hr hx hw ht hok, State.requestDatagram_plain hok hs hp, if_pos ho]
  have hrej : ∀ reason, rejected (u.noted0.reject peer h reason) reason := fun reason => by
    obtain ⟨hout, hhap, hrd, hget⟩ := u.noted0.reject_shape peer h reason
    exact ⟨hrd, hget, hhap, hout⟩
  refine ⟨?notOpen, fun e => ?repeated, ?stale, ?held, ?malformed, fun ops => ?executed, ?unaligned, ?nowhere, ?refused, ?engines,
    ?unauthenticated, ?locked, ?reserved, ?pcap, ?pcapVoted, ?xlkCleared, ?xlkKept, ?role, fun p w => ?posted, ?notPosted⟩
  case notOpen =>
    intro hr halone ht hok hs hp ho
    refine ⟨_, rfl, ?_⟩
    rw [State.request_runs hr halone.1 halone.2 ht hok, State.requestDatagram_plain hok hs hp, if_neg (by simp [ho, u])]
    exact ⟨u.get_incSat_same F.HAP_ERR0_AUTH 1 (by decide), rfl, fun y hy => u.incSat_rd_ne _ _ fun e => hy (List.mem_singleton.mpr e)⟩
  case repeated =>
    intro hin he
    refine ⟨_, rfl, ?_⟩
    rw [hplain hin, State.request_repeated he]
    have hcount : ∀ f : Fld, (F.HAP_REPEATS_COUNT).disj f = true → (u.noted0.incSat F.HAP_REPEATS_COUNT).get f = u.get f :=
      fun f hf => State.get_incSat_disj _ _ hf
    refine ⟨?_, fun y hy => ?_, ?_, rfl, ?_⟩
    · rw [State.sendResp_out, State.vlanTag_congr (u.noted0.incSat_rd_ne F.HAP_REPEATS_COUNT 1 (by decide))]
      rfl
    · simp only [List.mem_cons, List.not_mem_nil, or_false, not_or] at hy
      exact (State.sendResp_rd_ne _ _ _ hy.2).trans (u.noted0.incSat_rd_ne _ _ hy.1)
    · exact Nat.le_trans (Nat.le_of_eq (hcount F.HAP_EXMAX_US (by decide)).symm) (State.sendResp_exmax _ peer e.2)
    · have hkeep : ((u.noted0.incSat F.HAP_REPEATS_COUNT).sendResp peer e.2).get F.HAP_REPEATS_COUNT =
          (u.noted0.incSat F.HAP_REPEATS_COUNT).get F.HAP_REPEATS_COUNT :=
        congrArg (fun w => getBits w 0 16) (State.sendResp_rd_ne _ peer e.2 (by decide))
      exact hkeep.trans (u.noted0.get_incSat_same F.HAP_REPEATS_COUNT 1 (by decide))
  case stale =>
    intro hin he hst
    refine ⟨_, rfl, ?_⟩
    rw [hplain hin, State.request_stale he hst]
    refine ⟨rfl, State.flag_setFlag_same _ _ _ (by decide) rfl, ?_, fun y hy => ?_⟩
    · exact (State.get_setFlag_disj _ _ (by decide)).trans (u.noted0.get_incSat_same F.HAP_ERR0_STALE 1 (by decide))
    · simp only [List.mem_cons, List.not_mem_nil, or_false, not_or] at hy
      exact (State.rd_put_ne _ _ hy.1).trans (u.noted0.incSat_rd_ne _ _ hy.2)
  case held =>
    intro hr hx hl ht
    have hhold : s.datagram tRequest peer bs = s.hold peer bs := datagram_held (typ := tRequest) s hr hl ht (by decide) hx
    refine ⟨fun h32 => ⟨_, rfl, ?_⟩, fun h32 => ⟨_, rfl, ?_⟩⟩
    · rw [hhold, State.hold_room h32]
    · rw [hhold, State.hold_full h32]
      refine ⟨?_, State.flag_setFlag_same _ _ _ (by decide) rfl, rfl, rfl, fun y hy => ?_⟩
      · exact (State.get_setFlag_disj _ _ (by decide)).trans (s.get_incSat_same F.HAP_ERR1_QDROP 1 (by decide))
      · simp only [List.mem_cons, List.not_mem_nil, or_false, not_or] at hy
        exact (State.rd_put_ne _ _ hy.2).trans (s.incSat_rd_ne _ _ hy.1)
  case malformed =>
    intro hin hf hm
    refine ⟨_, rfl, ?_⟩
    rw [hplain hin, State.request_malformed hf.1 hf.2 hm]
    exact hrej 1
  case executed =>
    intro hin hf hxid h1 h64 hops r resp
    have hrequest := hplain hin
    obtain ⟨-, -, -, -, hs, hp, -⟩ := hin
    have hreq := hrequest.trans (State.request_ops (peer := peer) hf.1 hf.2 hxid h1 h64 hp hops)
    refine ⟨fun hlong => ⟨_, rfl, ?_⟩, fun hshort => ⟨_, rfl, ?_⟩⟩
    · rw [hreq, if_pos hlong]
      exact hrej 2
    · have hrun : u.noted0.runOps peer h 8 none ops = r.finish peer h.xid resp := State.runOps_plain hs rfl
      rw [hreq, if_neg (Nat.not_lt.mpr hshort), hrun]
      clear_value r
      refine ⟨parseOps_length hops, r.finish_dgrams peer h.xid resp, r.finish_cache peer h.xid resp,
        fun y hy => r.finish_rd peer h.xid resp hy, r.finish_exmax peer h.xid resp, r.finish_alone peer h.xid resp, fun ha hn => ?_,
        fun ha hn => ?_⟩
      · obtain ⟨htrans, hout⟩ := r.finish_notReady peer h.xid resp ha hn
        exact ⟨htrans, _, hout, rfl⟩
      · obtain ⟨hout, htrans⟩ := r.finish_ready peer h.xid resp ha hn
        exact ⟨_, hout, rfl, rfl, rfl, _, htrans, rfl, rfl⟩
  case unaligned => exact fun hr ha => ⟨_, rfl, State.hostWrite_unaligned hr ha⟩
  case nowhere =>
    intro hr ha hp
    exact ⟨_, rfl, (State.hostWrite_aligned hr ha).trans (State.writeWord_nowhere hp)⟩
  case refused =>
    intro hr ha hrole hp hw hn
    exact ⟨_, rfl, (State.hostWrite_aligned hr ha).trans
      ((State.writeWord_refused hp (State.roleRefuses_of hrole hw)).trans (State.roleAnswer_noStep hn))⟩
  case engines =>
    intro hr hrole ha hrange hn
    obtain ⟨hw, hp⟩ := standbyWritable_engines (v := V) hrange
    exact ⟨_, rfl, (State.hostWrite_aligned hr ha).trans
      ((State.writeWord_refused hp (State.roleRefuses_of hrole hw)).trans (State.roleAnswer_noStep hn))⟩
  case unauthenticated =>
    intro hr ha ho
    obtain ⟨hf, hwrite⟩ := State.registerWrite_unauthenticated (v := V) hr ha ho
    refine ⟨_, rfl, ?_⟩
    rw [hwrite, (State.vote_of_no_fields hf V).1]
    rfl
  case locked =>
    rintro hm ha ⟨w, hp, h1, h2, h3⟩
    exact ⟨_, rfl, (State.hostWrite_aligned hm.1 ha).trans ((State.writeWord_window hp hm.2).trans (State.writeWin_locked h1 h2 h3))⟩
  case reserved =>
    intro hm ha hr hrow
    obtain ⟨hf, hwrite⟩ := State.registerWrite_reserved (auth := auth) hm ha hr hrow
    refine ⟨_, rfl, ?_⟩
    rw [hwrite, (State.vote_of_no_fields hf V).1]
    rfl
  case pcap =>
    intro hm hd
    refine ⟨_, rfl, ?_⟩
    have hwrite := State.registerWrite_pcap (auth := auth) hm
    rw [s.vote_of_agree _ hd, s.voteIn_of_agree _ _ hd] at hwrite
    rw [show s.hostWrite auth (BitVec.ofNat 32 Reg.SME_PCAP).toNat v.toNat = _ from hwrite]
    refine ⟨rfl, fun y hy => State.rd_wr_ne _ _ fun e => hy (List.mem_singleton.mpr e), ?_⟩
    rw [State.answer_get, State.get]
    refine (congrArg (fun w => getBits w 0 24) (State.rd_wr_same _ _ _)).trans (getBits_maskIn_low _ V 24 (by omega))
  case pcapVoted =>
    intro hm hd
    have hf : rwvFields Reg.SME_PCAP = [0xFFFFFF] := by decide
    have hone : s.disagree Reg.SME_PCAP = [0xFFFFFF] := (s.disagree_single hf).resolve_left hd
    have hkept : maskIn (s.rd Reg.SME_PCAP) (2 ^ 24 - 1) (s.voteIn Reg.SME_PCAP V) = s.rd Reg.SME_PCAP := by
      rw [State.voteIn, hone]
      exact maskIn_masked _ _ _
    refine ⟨_, rfl, ?_⟩
    have hwrite := State.registerWrite_pcap (auth := auth) hm
    rw [hkept] at hwrite
    rw [show s.hostWrite auth (BitVec.ofNat 32 Reg.SME_PCAP).toNat v.toNat = _ from hwrite]
    refine ⟨rfl, fun y hy => ?_, ?_⟩
    · rw [State.answer_rd, State.rd_wr]
      split
      · next e => rw [e]
      · exact s.vote_rd hf fun e => hy (List.mem_singleton.mpr e)
    · have hcount := s.vote_count hf
      rw [hone] at hcount
      rw [State.answer_get]
      exact (congrArg (fun w => getBits w 0 16) (State.rd_wr_ne _ _ (by decide))).trans hcount
  case xlkCleared =>
    intro hm
    have hw1c : ∀ f ∈ [F.XLK_STAT_DEGRADED, F.XLK_STAT_DIVERGE, F.XLK_STAT_COPYLOST, F.XLK_STAT_JOINFAIL, F.XLK_STAT_TAKEOVER],
        f.addr = Reg.XLK_STAT ∧ f.width = 1 ∧ f.lo < 32 ∧ bit 0xDC0 f.lo = true := by decide
    obtain ⟨hst, honly, -⟩ := State.registerWrite_xlkStat (auth := auth) hm
    refine ⟨_, rfl, hst, honly, fun f hf => ?_⟩
    obtain ⟨ha, hw, hlo, hbit⟩ := hw1c f hf
    refine (State.registerWrite_xlkStat_flag hm f ha hw hlo).trans ?_
    rw [hbit, Bool.and_true]
  case xlkKept =>
    intro hm
    have hro : ∀ f ∈ [F.XLK_STAT_PRESENT, F.XLK_STAT_LINKUP, F.XLK_STAT_HBLINE, F.XLK_STAT_READY, F.XLK_STAT_FENCEOUT, F.XLK_STAT_FENCEIN,
        F.XLK_STAT_SWAPDONE], f.addr = Reg.XLK_STAT ∧ f.width = 1 ∧ f.lo < 32 ∧ bit 0xDC0 f.lo = false := by decide
    refine ⟨_, rfl, fun f hf => ?_⟩
    obtain ⟨ha, hw, hlo, hbit⟩ := hro f hf
    refine (State.registerWrite_xlkStat_flag hm f ha hw hlo).trans ?_
    rw [hbit, Bool.and_false, Bool.not_false, Bool.and_true]
  case role => exact fun hm hd => ⟨_, rfl, State.registerWrite_role hm hd⟩
  case posted =>
    intro hr hp hw s1
    have hstep := State.postedStep_one hp hw
    refine ⟨_, rfl, ?_⟩
    rw [if_pos hr, State.applyPosted]
    refine ⟨?_, ?_, ?_, ?_⟩
    · exact (congrArg State.mem hstep :)
    · exact (congrArg State.basted hstep :)
    · exact (congrArg State.hap hstep :)
    · exact (congrArg State.status hstep :)
  case notPosted =>
    intro hp
    refine ⟨_, rfl, ?_⟩
    rw [State.applyPosted_none hp, ite_self]

end Sys2Proof.Machine

/-!
# Every command completes (O60)

That a command completes is read off its arm of `exec`.  The tick commit is what `State.commitAll` leaves, kept by the steps of the tick
start and of the swap that follow it (`Committed`).  A repair is told by one lemma for each thing that `State.parRepair` writes, and a
scrub is repairs one after the other.
-/

namespace Sys2Proof.Machine

/-- Every arm of `exec` answers a next state. -/
theorem exec_next (c : Instr) (s : State) : ∃ t, exec c s = .next t := by
  cases c with
  | sruLost i =>
    change ∃ t, execSruLost i s = .next t
    unfold execSruLost
    split
    · exact ⟨_, rfl⟩
    · exact ⟨_, rfl⟩
  | _ => exact ⟨_, rfl⟩

/-! ## The tick commit (R25, R46) -/

/-- The commit of the instant `c` stands: it is the last one and no node's zone is staged any more. -/
structure Committed (c : Nat) (t : State) : Prop where
  last : t.pen.lastCommit = some c
  node : t.zon.node = []

namespace Committed

variable {c : Nat} {s : State}

theorem of_eq {t : State} (h : Committed c s) (ep : t.pen.lastCommit = s.pen.lastCommit) (ez : t.zon = s.zon) : Committed c t :=
  ⟨ep.trans h.last, by rw [ez]; exact h.node⟩

theorem ite {p : Prop} {_ : Decidable p} {a b : State} (ha : Committed c a) (hb : Committed c b) : Committed c (if p then a else b) := by
  split
  · exact ha
  · exact hb

theorem forUp {f : Nat → State → State} {n : Nat} (hf : ∀ i t, Committed c t → Committed c (f i t)) (h : Committed c s) :
    Committed c (forUp f n s) :=
  List.foldlRecOn _ _ h fun t ht i _ => hf i t ht

theorem put {f : Fld} {v : Nat} (h : Committed c s) : Committed c (s.put f v) := h.of_eq rfl rfl

theorem commitAll (s : State) (c : Nat) : Committed c (s.commitAll c) := ⟨rfl, rfl⟩

theorem endService (h : Committed c s) : Committed c s.endService := by
  unfold State.endService
  split
  · exact .ite (h.of_eq rfl rfl) (h.of_eq rfl rfl)
  · exact h

theorem tickUsed {n : Nat} (h : Committed c s) : Committed c (s.tickUsed n) := h.of_eq rfl rfl

theorem raiseRated {g code u k : Nat} {p : List Nat} (h : Committed c s) : Committed c (s.raiseRated g code u p k) :=
  h.of_eq (by simp) (by simp)

theorem raise {code u : Nat} {p : List Nat} (h : Committed c s) : Committed c (s.raise code u p) := h.of_eq (by simp) (by simp)

theorem tickEnd {n : Nat} (h : Committed c s) : Committed c (s.tickEnd n) := .ite (.raiseRated (h.of_eq rfl rfl)) h.tickUsed

theorem releaseWaitK {n t : Nat} (h : Committed c s) : Committed c (s.releaseWaitK n t) :=
  .ite (.ite (h.of_eq rfl rfl) (h.of_eq rfl rfl)) h

theorem releaseWaitT {n t : Nat} (h : Committed c s) : Committed c (s.releaseWaitT n t) := .ite (h.of_eq rfl rfl) h

theorem latchInputs {t : Nat} (h : Committed c s) : Committed c (s.latchInputs t) :=
  .forUp (fun _ _ k => k.of_eq rfl rfl) (h.of_eq rfl rfl)

theorem tickStart {t : Nat} (h : Committed c s) : Committed c (s.tickStart t) := by
  unfold State.tickStart
  extract_lets s0 s1 _ _ s2 s3 _ s3r s4 s5
  have h0 : Committed c s0 := h.endService
  clear_value s0
  have h1 : Committed c s1 := .ite h0 (.forUp (fun _ _ k => k.tickEnd) h0)
  clear_value s1
  have h2 : Committed c s2 := h1.of_eq rfl rfl
  clear_value s2
  have h3 : Committed c s3 := h2.latchInputs
  clear_value s3
  have h3r : Committed c s3r := h3.of_eq rfl rfl
  clear_value s3r
  have h4 : Committed c s4 := .forUp (fun _ _ k => k.releaseWaitK) h3r
  clear_value s4
  have h5 : Committed c s5 := .forUp (fun _ _ k => k.releaseWaitT) h4
  clear_value s5
  exact .ite h (.ite (.forUp (fun _ _ k => k.of_eq rfl rfl) h5) h3)

theorem applyInit {a k d : Nat} (h : Committed c s) : Committed c (s.applyInit a k d) := by
  induction d generalizing s k with
  | zero => exact h
  | succ d ih => exact ih (.forUp (fun _ _ k => k.of_eq rfl rfl) h)

theorem startImage (h : Committed c s) : Committed c s.startImage := .applyInit (.forUp (fun _ _ k => k.of_eq rfl rfl) h)

theorem swapIds (h : Committed c s) : Committed c s.swapIds := .forUp (fun _ _ k => k.of_eq rfl rfl) (h.of_eq rfl rfl)

theorem swapNow {t : Nat} (h : Committed c s) : Committed c (s.swapNow t) := by
  unfold State.swapNow
  extract_lets _ se s0 s1 _ s2 s3 s4
  have h0 : Committed c s0 := .ite h.endService (.forUp (fun _ _ k => k.tickUsed) h.endService)
  clear_value s0
  have h1 : Committed c s1 := h0.swapIds.put.put
  clear_value s1
  have h2 : Committed c s2 := h1.of_eq rfl rfl
  clear_value s2
  have h4 : Committed c s4 := h2.startImage.put.put
  clear_value s4
  exact h4.tickStart.raise

end Committed

/-- R46: the steps of a tick start whose commit is due and whose tick start has not been done commit. -/
theorem State.tickSteps_committed {s : State} (h : s.commitDue = true) (ht : s.isTick s.gridNow = true)
    (ha : s.pen.tickAt ≠ some s.gridNow) : Committed s.gridNow (s.tickSteps s.gridNow) := by
  unfold State.tickSteps
  rw [if_pos (by simp [ht, ha])]
  dsimp only
  rw [if_pos h]
  exact .ite (Committed.commitAll _ _).swapNow (Committed.commitAll _ _).tickStart

/-! ## Repairs of program and curve memory (R78, R79) -/

/-- Program and curve memory holds no record and no register. -/
theorem isEngineMem_apart {a : Nat} (h : isEngineMem a = true) : recordAddr a = false ∧ a ≠ Reg.PEN_PFIX := by
  simp only [isEngineMem, recordAddr, Bool.or_eq_true, Bool.and_eq_true, Bool.or_eq_false_iff, Bool.and_eq_false_iff, decide_eq_true_eq,
    decide_eq_false_iff_not] at h ⊢
  unfold progBase dataBase curveBase at h
  unfold jnlBase Reg.PEN_PFIX
  omega

/-- R78: a repaired word holds its flash copy. -/
theorem State.parRepair_rd (s : State) {a : Nat} (h : isEngineMem a = true) : (s.parRepair a).rd a = s.flashWord a := by
  obtain ⟨hrec, hne⟩ := isEngineMem_apart h
  rw [State.parRepair, State.raise_rd _ _ _ _ hrec, State.incSat_rd_ne _ _ _ hne, State.parFix_rd, State.rd_wr_same]

/-- A repaired word has good parity, and no other word's parity changes. -/
theorem State.parRepair_parBad (s : State) (a b : Nat) : (s.parRepair b).parBad a = (s.parBad a && a != b) := by
  rw [Bool.eq_iff_iff]
  simp [State.parBad, State.parRepair, State.parFix, State.wr]

@[simp] theorem State.parRepair_phu (s : State) (a : Nat) : (s.parRepair a).phu = s.phu := by simp [State.parRepair]

@[simp] theorem State.parRepair_bob (s : State) (a n : Nat) : (s.parRepair a).bob n = s.bob n := by
  rw [State.parRepair, State.raise_bob]
  rfl

/-- R79: repairs one after the other leave good parity in every word repaired. -/
theorem forEach_parRepair (l : List Nat) (s : State) : (forEach (fun a s => s.parRepair a) l s).phu = s.phu ∧
    ∀ a, (forEach (fun a s => s.parRepair a) l s).parBad a = (s.parBad a && !l.contains a) := by
  induction l generalizing s with
  | nil => exact ⟨rfl, fun a => (Bool.and_true _).symm⟩
  | cons b l ih =>
    obtain ⟨hphu, hpar⟩ := ih (s.parRepair b)
    refine ⟨hphu.trans (s.parRepair_phu b), fun a => (hpar a).trans ?_⟩
    rw [State.parRepair_parBad, List.contains_cons, Bool.not_or, Bool.and_assoc]
    rfl

/-- R78: the repair for which a bobbin is parked. -/
theorem State.penPfix_repairs {s : State} {n a : Nat} (hp : (s.bob n).parked = some a) (hb : s.parBad a = true) :
    s.penPfix n true = (s.setBob n { s.bob n with parked := none }).parRepair a := by
  simp [State.penPfix, hp, hb]

/-- R526: a pass of the scrub is due once its instant has come. -/
theorem State.programScrub_due {s : State} (hr : s.inRunQuiet = true) (hd : s.phu.tr + (s.phu.scrubP + 1) * 600000000000 ≤ s.ns) :
    s.programScrub = forEach (fun a s => s.parRepair a) (s.badPar.filter isEngineMem)
      { s with phu := { s.phu with scrubP := s.phu.scrubP + 1 } } := by
  have hlt : s.phu.scrubP < s.scrubsDue scrubPeriod :=
    (Nat.le_div_iff_mul_le (show 0 < 600000000000 by decide)).mpr (Nat.le_sub_of_add_le' hd)
  rw [State.programScrub, hr, decide_eq_true hlt]
  rfl

/-! ## Host writes of zones (R39, R43, R44) -/

/-- R43, R45: a write of a target word of a zone that the host owns stages its two bands. -/
theorem State.zonTgtWrite_stages {s : State} {z k v : Nat} (hz : z ≠ 511) (ho : s.get (F.ZON_CTL_OWNER z) = 1) :
    (s.zonTgtWrite z k v).status = 0 ∧ ∀ j : Fin 8, j.val / 2 = k →
      ((s.zonTgtWrite z k v).zstage z).bands[j] = some (BitVec.ofNat 16 (v / 2 ^ (16 * (j.val % 2)) % 65536)) := by
  have hown : s.hostOwns z = true := by rw [State.hostOwns, State.flag, ho]; rfl
  unfold State.zonTgtWrite
  rw [if_neg hz, hown]
  refine ⟨rfl, fun j hj => ?_⟩
  simp only [Bool.not_true, Bool.false_eq_true, if_false]
  change ((s.setZstage z _).zstage z).bands[j] = _
  rw [State.zstage_setZstage_same]
  obtain hj0 | hj1 : j.val = 2 * k ∨ j.val = 2 * k + 1 := by omega
  · simp [hj0]
  · simp [hj1]

theorem State.get_ite {p : Prop} {_ : Decidable p} {a b : State} {f : Fld} {v : Nat} (ha : a.get f = v) (hb : b.get f = v) :
    (if p then a else b).get f = v := by
  split
  · exact ha
  · exact hb

/-- R44, R55: what a write of a zone's control word leaves in OWNER and FCAP; MODE is staged and REACT a field apart. -/
theorem State.zonCtlWrite_gives (s : State) (z v : Nat) (hv : v < 2 ^ 32) : (s.zonCtlWrite z v).status = 0 ∧
    (s.zonCtlWrite z v).get (F.ZON_CTL_OWNER z) = v / 2 % 2 ∧ (s.zonCtlWrite z v).get (F.ZON_CTL_FCAP z) = v / 65536 := by
  have hfcap : (F.ZON_CTL_FCAP z).disj (F.ZON_CTL_OWNER z) = true := by simp [Fld.disj, F.ZON_CTL_FCAP, F.ZON_CTL_OWNER]
  have hreact : (F.ZON_CTL_REACT z).disj (F.ZON_CTL_OWNER z) = true := by simp [Fld.disj, F.ZON_CTL_REACT, F.ZON_CTL_OWNER]
  unfold State.zonCtlWrite
  extract_lets own changed s1 s2 s3 s4
  have h1 : s1.get (F.ZON_CTL_OWNER z) = v / 2 % 2 := by
    refine (State.get_put_same _ _ _ rfl).trans ?_
    obtain h | h : v / 2 % 2 = 0 ∨ v / 2 % 2 = 1 := by omega
    · simp [own, bit, h]
    · simp [own, bit, h, F.ZON_CTL_OWNER]
  have h2 : s2.get (F.ZON_CTL_OWNER z) = v / 2 % 2 := State.get_ite h1 h1
  have h3 : s3.get (F.ZON_CTL_OWNER z) = v / 2 % 2 := State.get_ite h2 h2
  have h4 : s4.get (F.ZON_CTL_OWNER z) = v / 2 % 2 := State.get_ite h3 ((State.get_put_disj _ _ hreact).trans h3)
  refine ⟨rfl, (State.get_put_disj _ _ hfcap).trans h4, (State.get_put_same _ _ _ rfl).trans (Nat.mod_eq_of_lt ?_)⟩
  change v / 65536 < 2 ^ 16
  omega

/-- Settles O60: completion from the arms of `exec`, the due effects from the tick commit, the repairs and the zone writes. -/
theorem everyCommandCompletes : Obligations.EveryCommandCompletes := by
  unfold Obligations.EveryCommandCompletes
  refine ⟨exec_next, fun s hr ht hc ha hf => ?tick, fun s n a hp hb he => ?repair, fun s hr hd => ?scrub, fun s i v hm hz => ?node,
    fun s z k v hm hz ho => ⟨_, rfl, ?target⟩, fun s z v hm => ⟨_, rfl, ?control⟩⟩
  case tick =>
    have hdue : s.commitDue = true := by simp [State.commitDue, hr, ht, hc, hf]
    have h := State.tickSteps_committed hdue ht ha
    exact ⟨_, rfl, by rw [if_pos hdue]; exact ⟨h.last, h.node⟩⟩
  case repair =>
    refine ⟨_, rfl, ?_⟩
    rw [State.penPfix_repairs hp hb]
    refine ⟨State.parRepair_rd _ he, ?_, ?_⟩
    · rw [State.parRepair_parBad, bne_self_eq_false, Bool.and_false]
    · rw [State.parRepair_bob, State.bob_setBob_same]
  case scrub =>
    obtain ⟨hphu, hpar⟩ := forEach_parRepair (s.badPar.filter isEngineMem) { s with phu := { s.phu with scrubP := s.phu.scrubP + 1 } }
    refine ⟨_, rfl, ?_⟩
    rw [State.programScrub_due hr hd]
    refine ⟨by rw [hphu], fun a he => (hpar a).trans ?_⟩
    simp [State.parBad, he]
  case node =>
    refine ⟨_, rfl, ?_⟩
    rw [State.hostWr_of_may hm, State.nodeZoneWrite, if_neg (by omega)]
    exact ⟨rfl, spGet_spSet_same (fun _ => none) s.zon.node i.toNat (some (v.toNat % 1024))⟩
  case target =>
    rw [State.hostWr_of_may hm]
    exact State.zonTgtWrite_stages hz ho
  case control =>
    rw [State.hostWr_of_may hm]
    exact s.zonCtlWrite_gives _ _ v.isLt

end Sys2Proof.Machine

/-!
# What a seam's IN tells the module (O31)

Each thing that the reception of a frame does has a lemma of its own: the slot that fails its SCRC, the return field that is noted and
latched, a slot's change of state.  `State.seamReceive_invalid` and `State.seamReceive_idle` say which of them a frame comes to.
-/

namespace Sys2Proof.Machine

/-! ## Addresses and fields -/

theorem Fld.disj_of_addr {f g : Fld} (h : f.addr ≠ g.addr) : f.disj g = true := by simp [Fld.disj, h]

/-- The registers below the event queue's, the seams' among them, and the node table hold no record. -/
theorem recordAddr_of_apart {a : Nat} (h : a < 0xA0000 ∨ nodeBase ≤ a ∧ a < nodeBase + 0x20000) : recordAddr a = false := by
  simp only [recordAddr, Bool.or_eq_false_iff, Bool.and_eq_false_iff, decide_eq_false_iff_not]
  unfold jnlBase
  unfold nodeBase at h
  omega

theorem recordAddr_node {i w : Nat} (hi : i < 4096) (hw : w < 8) : recordAddr (nodeAddr i w) = false :=
  recordAddr_of_apart (.inr (by unfold nodeAddr; omega))

/-- The registers of seam `n` lie below the node table. -/
theorem node_ne_seam {b n i w : Nat} (hb : b < 0x41100) (hn : n < 32) : nodeAddr i w ≠ b + n * 256 := by
  unfold nodeAddr nodeBase
  omega

/-- A write of one word of a node's entry leaves the others. -/
theorem State.rd_wr_node (s : State) {i v w : Nat} (x : Word) (h : v ≠ w) : (s.wr (nodeAddr i w) x).rd (nodeAddr i v) = s.rd (nodeAddr i v) :=
  s.rd_wr_ne x (by unfold nodeAddr; omega)

theorem State.rd_wrTime_ne (s : State) {a x : Nat} (t : Nat) (h0 : x ≠ a) (h4 : x ≠ a + 4) (h8 : x ≠ a + 8) : (s.wrTime a t).rd x = s.rd x := by
  rw [State.wrTime, State.rd_wr_ne _ _ h8, State.rd_wr_ne _ _ h4, State.rd_wr_ne _ _ h0]

/-- A field reads alike in states whose words agree. -/
theorem State.get_congr {s t : State} {f : Fld} (h : t.rd f.addr = s.rd f.addr) : t.get f = s.get f := by rw [State.get, State.get, h]

/-- A word outside the seams' registers and the node table, below the ring of the journal. -/
def unseamed (a : Nat) : Prop := a < 0x41000 ∨ 0xA0000 ≤ a ∧ a < nodeBase

/-- An event stands in the journal whatever is written of the seams before it, and after it below the ring. -/
theorem Journalled.of_writes {s s' t t' : State} {c u : Nat} {p : List Nat} (h : Journalled s t c u p)
    (hs : ∀ a, unseamed a → s'.rd a = s.rd a) (ht : ∀ a, jnlBase ≤ a → t'.rd a = t.rd a) : Journalled s' t' c u p := by
  have hrole : unseamed Reg.GLB_ROLE := .inl (by decide)
  have hwptr : unseamed Reg.JNL_WPTR := .inr (by decide)
  refine h.congr ?_ (State.get_congr (hs _ hwptr)) fun k _ => ht _ (by unfold jnlAddr; omega)
  rw [State.acts, State.acts, State.get_congr (f := F.GLB_ROLE_ROLE) (hs _ hrole)]

/-- What is not the seams' is no register of a seam's. -/
theorem unseamed.ne_reg {a b n : Nat} (h : unseamed a) (hb : 0x41000 ≤ b ∧ b < 0x41100) (hn : n < 32) : a ≠ b + n * 256 := by
  unfold unseamed nodeBase at h
  omega

/-- Nor a word of the node table. -/
theorem unseamed.ne_node {a i w : Nat} (h : unseamed a) : a ≠ nodeAddr i w := by
  unfold unseamed at h
  unfold nodeAddr nodeBase at *
  omega

/-! ## A frame at the IN -/

/-- R170: a frame that is none, or fails HCRC, is counted and its time of arrival noted. -/
theorem State.seamReceive_invalid {s : State} {n k : Nat} {bs : List Nat} (he : s.flag (F.SEA_CTL_ENABLE n) = true)
    (hr : s.inRunQuiet = true) (hbad : ∀ r, readFrame (s.ns / nsPerSec / 4294967296) bs = some r → r.hcrcOk = false) :
    s.seamReceive n k bs = (s.wrTime (Reg.SEA_LAST_S_LO n) (k - seamLatency)).incSat (F.SEA_ERR_INVAL n) := by
  unfold State.seamReceive
  dsimp only
  rw [he, hr, if_neg (by decide)]
  split
  · rfl
  · next r hgot => rw [hbad r hgot]; rfl

/-- A seam without TOPO carries no frames of the partner's, so no delay is checked (R178). -/
theorem State.delayCheck_of_no_topo {s : State} {n : Nat} (h : s.flag (F.SEA_CTL_TOPO n) = false) (sof : Nat) (r : Rcvd) :
    s.delayCheck n sof r = s := by
  simp [State.delayCheck, h]

/-- R171, R199: an IDLE frame that is whole and not wrapped, on a seam without TOPO: its one slot is taken, and WRAP ends. -/
theorem State.seamReceive_idle {s : State} {n k : Nat} {bs sl : List Nat} {r : Rcvd}
    (he : s.flag (F.SEA_CTL_ENABLE n) = true) (hr : s.inRunQuiet = true)
    (hgot : readFrame (s.ns / nsPerSec / 4294967296) bs = some r) (hh : r.hcrcOk = true) (hd : r.digestOk = true) (ht : r.h.typ = ftIdle)
    (hw : r.h.wrap = false) (hsl : r.slots = [sl]) (hto : s.flag (F.SEA_CTL_TOPO n) = false) :
    s.seamReceive n k bs =
      ((s.wrTime (Reg.SEA_LAST_S_LO n) (k - seamLatency)).takeSlot n r (k - seamLatency) 0 sl).setFlag (F.SEA_STAT_WRAP n) false := by
  have hto' : (s.wrTime (Reg.SEA_LAST_S_LO n) (k - seamLatency)).flag (F.SEA_CTL_TOPO n) = false :=
    (State.flag_wrTime_ne (by simp [F.SEA_CTL_TOPO, Reg.SEA_CTL, Reg.SEA_LAST_S_LO]; omega)).trans hto
  unfold State.seamReceive
  rw [he, hr, if_neg (by decide), hgot]
  dsimp only
  rw [hh, hd, if_neg (by decide), if_pos rfl, State.delayCheck_of_no_topo hto', ht, if_pos (.inr rfl), hsl,
    if_neg (by simp [ftIdle, ftDrive])]
  unfold State.wrapCheck
  rw [hw]
  rfl

/-- Noting the time of arrival leaves every word below and above its three. -/
theorem State.rd_arrival (s : State) {n a : Nat} (t : Nat) (h : a < Reg.SEA_LAST_S_LO n ∨ Reg.SEA_LAST_S_LO n + 8 < a) :
    (s.wrTime (Reg.SEA_LAST_S_LO n) t).rd a = s.rd a :=
  s.rd_wrTime_ne t (by omega) (by omega) (by omega)

/-! ## A slot that fails its SCRC (R184, R205) -/

theorem State.takeSlot_bad (s : State) {n p : Nat} {sl : List Nat} (r : Rcvd) (sof : Nat)
    (h : crc8 (sl.take (sl.length - 1)) ≠ sl.getLastD 0) : s.takeSlot n r sof p sl = s.scrcFail (n * 128 + p) := by
  unfold State.takeSlot
  exact if_pos h

/-- What a slot of seam `n` that fails its SCRC changes. -/
theorem State.scrcFail_gives (s : State) {n i : Nat} (hn : i / 128 = n) (hi : i < 4096) :
    (s.scrcFail i).get (F.SEA_ERR_SCRC n) = min (s.get (F.SEA_ERR_SCRC n) + 1) 0xFFFF ∧
      (s.scrcFail i).get (F.SEA_ERR_INVAL n) = s.get (F.SEA_ERR_INVAL n) ∧
      (s.scrcFail i).get (F.NT_SCRCERR i) = min (s.get (F.NT_SCRCERR i) + 1) 0xFF ∧ (s.scrcFail i).sens = s.sens ∧
      (s.rateOk 0x306 (n * 128) nsPerSec = true → Journalled s (s.scrcFail i) 0x306 i [n]) := by
  subst hn
  have hn : i / 128 < 32 := by omega
  have hseam : recordAddr (Reg.SEA_ERR (i / 128)) = false := recordAddr_of_apart (.inl (by unfold Reg.SEA_ERR; omega))
  have hapart : nodeAddr i 7 ≠ Reg.SEA_ERR (i / 128) := node_ne_seam (by decide) hn
  unfold State.scrcFail
  refine ⟨?_, ?_, ?_, by simp, fun hok => ?_⟩
  · rw [State.raiseRated_get _ _ _ _ _ _ hseam, State.get_incSat_disj _ _ (Fld.disj_of_addr hapart),
      State.get_incSat_same _ _ _ rfl]
    rfl
  · rw [State.raiseRated_get _ _ _ _ _ _ hseam, State.get_incSat_disj _ _ (Fld.disj_of_addr hapart),
      State.get_incSat_disj _ _ (by simp [Fld.disj, F.SEA_ERR_SCRC, F.SEA_ERR_INVAL])]
  · rw [State.raiseRated_get _ _ _ _ _ _ (recordAddr_node hi (by decide)), State.get_incSat_same _ _ _ rfl,
      State.get_incSat_disj _ _ (Fld.disj_of_addr hapart.symm)]
    rfl
  · refine (State.raiseRated_journalled ((s.incSat (F.SEA_ERR_SCRC (i / 128))).incSat (F.NT_SCRCERR i)) nsPerSec 0x306 i [i / 128]
      (i / 128 * 128) hok).of_writes (fun a ha => ?_) fun _ _ => rfl
    rw [State.incSat_rd_ne _ _ _ ha.ne_node, State.incSat_rd_ne _ _ _ (ha.ne_reg (by decide) hn)]

/-! ## A return field (R27, R172, R173) -/

theorem State.nslot_setNslot_same (s : State) (i : Nat) (x : NSlot) : (s.setNslot i x).nslot i = x := spGet_spSet_same _ _ _ _

theorem State.lum_setLum_same (s : State) (i : Nat) (l : Lum) : (s.setLum i l).lum i = l := spGet_spSet_same _ _ _ _

/-- R208: the check of the FAULT bits concerns the lamp diagnostics alone. -/
theorem State.faultCheck_only (s : State) (i bits : Nat) : s.faultCheck i bits = { s with dia := (s.faultCheck i bits).dia } := by
  unfold State.faultCheck forUp
  generalize List.range 8 = l
  refine List.foldlRecOn (motive := fun t : State => t = { s with dia := t.dia }) l _ rfl fun t ht k _ => ?_
  dsimp only
  split
  · split
    · exact congrArg (fun u : State => u.setChan i k _) ht
    · exact congrArg (fun u : State => u.setChan i k _) ht
  · exact ht

/-- R136: what a temperature changes: the sensor values and the slot's luminaire, which has it with the field's time stamp. -/
theorem State.takeTemp_gives (s : State) (i : Nat) (f : RetField) : (s.takeTemp i f).mem = s.mem ∧ (s.takeTemp i f).sea = s.sea ∧
    (f.temp ≠ 0x8000 → ((s.takeTemp i f).lum i).tAt = some f.stamp) := by
  unfold State.takeTemp
  split
  · next h => exact ⟨rfl, rfl, fun hn => absurd h hn⟩
  · refine ⟨rfl, rfl, fun _ => ?_⟩
    change ((s.setLum i _).lum i).tAt = _
    rw [State.lum_setLum_same]

/-- R173: what a field with a firmware version becomes as input of the solve and the diagnostics: its temperature. -/
theorem State.latchField_version {s : State} {i : Nat} {f : RetField} (hm : f.mcode = 2) : (s.latchField i f).mem = s.mem ∧
    (s.latchField i f).sea = s.sea ∧ (f.temp ≠ 0x8000 → ((s.latchField i f).lum i).tAt = some f.stamp) := by
  unfold State.latchField
  dsimp only
  rw [hm, if_neg (by decide), if_neg (by decide), if_neg (fun h => absurd h.1 (by decide)),
    if_neg (fun h => absurd h.1 (by decide)), State.faultCheck_only]
  exact s.takeTemp_gives i f

/-- What a valid return field with a firmware version, of slot `i`, leaves in state `t`: the field and the version in the node table, and
that the slot was heard at `now`. -/
structure VersionNoted (i now : Nat) (f : RetField) (t : State) : Prop where
  version : t.get (F.NT_FWVER i) = f.mval % 65536
  front : t.rd (nodeAddr i 5) = BitVec.ofNat 32 (field f.bytes 0 4)
  back : t.rd (nodeAddr i 6) = BitVec.ofNat 32 (field f.bytes 4 4)
  heard : (t.nslot i).last = some now

/-- The store and the seams are all that it is about. -/
theorem VersionNoted.congr {i now : Nat} {f : RetField} {s t : State} (h : VersionNoted i now f s)
    (hm : ∀ w, t.rd (nodeAddr i w) = s.rd (nodeAddr i w)) (hs : t.sea = s.sea) : VersionNoted i now f t :=
  ⟨(State.get_congr (hm 4)).trans h.version, (hm 5).trans h.front, (hm 6).trans h.back, by rw [State.nslot, hs]; exact h.heard⟩

/-- R173, R185: what the seam controller notes of a field with a firmware version, of a slot that is not LOST. -/
theorem State.noteField_version {s : State} {i : Nat} {f : RetField} (hm : f.mcode = 2) (hmism : f.mism = false)
    (hst : s.get (F.NT_STATE i) ≠ 4) : VersionNoted i s.ns f (s.noteField i f) ∧ (s.noteField i f).xlk = s.xlk ∧
      (s.noteField i f).rd Reg.GLB_ROLE = s.rd Reg.GLB_ROLE := by
  have hst' : ((s.wr (nodeAddr i 5) (BitVec.ofNat 32 (field f.bytes 0 4))).wr (nodeAddr i 6) (BitVec.ofNat 32 (field f.bytes 4 4))).get
      (F.NT_STATE i) ≠ 4 := by
    rw [State.get_congr ((State.rd_wr_node _ (v := 3) _ (by decide)).trans (State.rd_wr_node _ _ (by decide)))]
    exact hst
  unfold State.noteField
  dsimp only
  rw [hm, hmism, if_neg (by decide), if_pos rfl, if_neg (by decide), if_neg (by exact hst')]
  have hrole (w : Nat) : Reg.GLB_ROLE ≠ nodeAddr i w := by unfold Reg.GLB_ROLE nodeAddr nodeBase; omega
  refine ⟨⟨State.get_put_same _ _ _ rfl, ?_, ?_, ?_⟩, rfl, ?_⟩
  · exact ((State.rd_wr_node _ _ (by decide)).trans (State.rd_wr_node _ _ (by decide))).trans (State.rd_wr_same _ _ _)
  · exact (State.rd_wr_node _ _ (by decide)).trans (State.rd_wr_same _ _ _)
  · change ((State.setNslot _ i _).nslot i).last = _
    rw [State.nslot_setNslot_same]
    rfl
  · exact ((State.rd_wr_ne _ _ (hrole 4)).trans (State.rd_wr_ne _ _ (hrole 6))).trans (State.rd_wr_ne _ _ (hrole 5))

/-- R422: whether the module is half of a pair is a matter of its role and the crosslink. -/
theorem State.paired_congr {s t : State} (hr : t.rd Reg.GLB_ROLE = s.rd Reg.GLB_ROLE) (hx : t.xlk = s.xlk) : t.paired = s.paired := by
  have hrole : t.get F.GLB_ROLE_ROLE = s.get F.GLB_ROLE_ROLE := State.get_congr hr
  rw [State.paired, State.paired, State.activePaired, State.activePaired, State.isStandby, State.isStandby, hrole, hx]

/-- R27, R173: a valid return field with a firmware version, of a slot that is not LOST, outside a pair. -/
theorem State.takeField_version {s : State} {i : Nat} {f : RetField} {here : Bool} (hm : f.mcode = 2) (hmism : f.mism = false)
    (hst : s.get (F.NT_STATE i) ≠ 4) (hp : s.paired = false) : VersionNoted i s.ns f (s.takeField i f here) ∧
      (f.temp ≠ 0x8000 → ((s.takeField i f here).lum i).tAt = some f.stamp) := by
  obtain ⟨hnoted, hxlk, hrole⟩ := State.noteField_version hm hmism hst
  obtain ⟨hmem, hsea, htemp⟩ := State.latchField_version (s := s.noteField i f) (i := i) hm
  unfold State.takeField
  dsimp only
  rw [State.paired_congr hrole hxlk, hp, if_neg (by decide)]
  exact ⟨hnoted.congr (fun w => by rw [State.rd, hmem]; rfl) hsea, htemp⟩

/-- A slot whose SCRC is right and whose return field a node has filled in. -/
theorem State.takeSlot_good (s : State) {n p crc : Nat} {ret : List Nat} (r : Rcvd) (sof : Nat) (hlen : ret.length = 8) (hcrc : crc8 ret = crc)
    (hfill : ret ≠ retFill) : s.takeSlot n r sof p (ret ++ [crc]) =
      s.takeField (n * 128 + p) { bytes := ret, dirB := r.h.dirB, seq := r.h.seq, origin := r.h.origin, stamp := sof } true := by
  have hbody : (ret ++ [crc]).take ((ret ++ [crc]).length - 1) = ret := by simp
  have hlast : (ret ++ [crc]).getLastD 0 = crc := by simp
  unfold State.takeSlot
  dsimp only
  rw [hbody, hlast, hlen, Nat.sub_self, List.drop_zero, if_neg (not_not.mpr hcrc), if_neg hfill]

/-! ## The state of a slot (R184, R185) -/

/-- R184, R205: besides STATE of the slot a change of state writes the counts of its seam. -/
theorem State.setNodeState_rd (s : State) (i x : Nat) {a : Nat} (hn : a ≠ Reg.SEA_NODES (i / 128)) (hi : a ≠ nodeAddr i 3) :
    (s.setNodeState i x).rd a = s.rd a :=
  ((State.rd_put_ne _ _ hi).trans (State.rd_put_ne _ _ hn)).trans (State.rd_put_ne _ _ hn)

theorem State.setNodeState_state (s : State) (i x : Nat) : (s.setNodeState i x).get (F.NT_STATE i) = x % 8 := State.get_put_same _ _ _ rfl

/-- R185: what a silent slot's becoming LOST changes. -/
theorem State.nodeLost_gives {s : State} {i : Nat} (hi : i < 4096) (h : s.nodeSilent i = true) : (s.nodeLost i).get (F.NT_STATE i) = 4 ∧
    ((s.nodeLost i).nslot i).back = s.get (F.NT_STATE i) ∧ Journalled s (s.nodeLost i) 0x310 i [i / 128] := by
  unfold State.nodeLost State.seamEvent
  rw [if_pos h, show i / 128 * 128 + i % 128 = i by omega]
  refine ⟨?_, ?_, ?_⟩
  · exact (State.raise_get _ _ _ _ (recordAddr_node hi (by decide))).trans (State.setNodeState_state _ _ _)
  · rw [State.nslot, State.raise_sea]
    change ((State.setNslot _ i _).nslot i).back = _
    rw [State.nslot_setNslot_same]
  · refine (State.raise_journalled _ 0x310 i [i / 128]).of_writes (fun a ha => ?_) fun _ _ => rfl
    have hreg : a ≠ Reg.SEA_NODES (i / 128) := ha.ne_reg (b := 0x4100c) (by decide) (by omega)
    exact (State.setNodeState_rd _ _ _ hreg ha.ne_node).symm

/-- R185: a SLOW slot's return is due, or not. -/
theorem State.slowClear_due {s : State} {i since : Nat} (h : (s.nslot i).slowOk = some since) (hst : s.get (F.NT_STATE i) = 3) :
    s.slowClear i = if since + 60000000000 ≤ s.ns then s.setNodeState i 1 else s := by
  rw [State.slowClear, h]
  simp only [hst, true_and]
  rfl

/-- The state of another slot is as before. -/
theorem State.setNodeState_state_ne (s : State) {i j : Nat} (x : Nat) (hi : i < 4096) (h : j ≠ i) :
    (s.setNodeState i x).get (F.NT_STATE j) = s.get (F.NT_STATE j) := by
  refine State.get_congr (State.setNodeState_rd _ _ _ ?_ ?_)
  · exact node_ne_seam (b := 0x4100c) (by decide) (by omega)
  · change nodeAddr j 3 ≠ nodeAddr i 3
    unfold nodeAddr
    omega

/-! ## The clauses -/

/-- R170, R253: the invalid frame, as registers. -/
theorem State.countInvalid_gives (s : State) (n t : Nat) :
    let u := (s.wrTime (Reg.SEA_LAST_S_LO n) t).incSat (F.SEA_ERR_INVAL n)
    u.get (F.SEA_ERR_INVAL n) = min (s.get (F.SEA_ERR_INVAL n) + 1) 0xFFFF ∧ u.rdTime (Reg.SEA_LAST_S_LO n) = t % (2 ^ 48 * 1000000000) ∧
      ∀ a, a ≠ Reg.SEA_ERR n → a ≠ Reg.SEA_LAST_S_LO n → a ≠ Reg.SEA_LAST_S_LO n + 4 → a ≠ Reg.SEA_LAST_S_LO n + 8 → u.rd a = s.rd a := by
  have hapart (k : Nat) : Reg.SEA_LAST_S_LO n + k ≠ Reg.SEA_ERR n := by unfold Reg.SEA_LAST_S_LO Reg.SEA_ERR; omega
  refine ⟨?_, ?_, fun a he h0 h4 h8 => ?_⟩
  · rw [State.get_incSat_same _ _ _ rfl, State.get_congr (s.rd_wrTime_ne _ (hapart 0).symm (hapart 4).symm (hapart 8).symm)]
    rfl
  · refine Eq.trans ?_ (s.rdTime_wrTime (Reg.SEA_LAST_S_LO n) t)
    rw [State.rdTime, State.rdTime, State.incSat_rd_ne _ _ _ (hapart 0), State.incSat_rd_ne _ _ _ (hapart 4),
      State.incSat_rd_ne _ _ _ (hapart 8)]
  · rw [State.incSat_rd_ne _ _ _ he, s.rd_wrTime_ne _ h0 h4 h8]

/-- R184, R205: a slot of an IDLE frame that fails its SCRC, as registers. -/
theorem State.badSlot_gives (s : State) {n : Nat} (hn : n < 32) (sof : Nat) :
    let u := ((s.wrTime (Reg.SEA_LAST_S_LO n) sof).scrcFail (n * 128)).setFlag (F.SEA_STAT_WRAP n) false
    u.get (F.SEA_ERR_SCRC n) = min (s.get (F.SEA_ERR_SCRC n) + 1) 0xFFFF ∧ u.get (F.SEA_ERR_INVAL n) = s.get (F.SEA_ERR_INVAL n) ∧
      u.get (F.NT_SCRCERR (n * 128)) = min (s.get (F.NT_SCRCERR (n * 128)) + 1) 0xFF ∧ u.sens = s.sens ∧
      (s.rateOk 0x306 (n * 128) nsPerSec = true → Journalled s u 0x306 (n * 128) [n]) := by
  obtain ⟨hscrc, hinval, hnode, hsens, hjnl⟩ :=
    (s.wrTime (Reg.SEA_LAST_S_LO n) sof).scrcFail_gives (i := n * 128) (n := n) (by omega) (by omega)
  have herrBefore : (s.wrTime (Reg.SEA_LAST_S_LO n) sof).rd (Reg.SEA_ERR n) = s.rd (Reg.SEA_ERR n) :=
    s.rd_arrival _ (by unfold Reg.SEA_ERR Reg.SEA_LAST_S_LO; omega)
  have hnodeBefore : (s.wrTime (Reg.SEA_LAST_S_LO n) sof).rd (nodeAddr (n * 128) 7) = s.rd (nodeAddr (n * 128) 7) :=
    s.rd_arrival _ (by unfold nodeAddr nodeBase Reg.SEA_LAST_S_LO; omega)
  have herr : Reg.SEA_ERR n ≠ Reg.SEA_STAT n := by unfold Reg.SEA_ERR Reg.SEA_STAT; omega
  have hentry : nodeAddr (n * 128) 7 ≠ Reg.SEA_STAT n := node_ne_seam (by decide) hn
  refine ⟨(State.get_congr (State.rd_put_ne _ _ herr)).trans (hscrc.trans ?_),
    (State.get_congr (State.rd_put_ne _ _ herr)).trans (hinval.trans (State.get_congr herrBefore)),
    (State.get_congr (State.rd_put_ne _ _ hentry)).trans (hnode.trans ?_), hsens,
    fun hok => (hjnl hok).of_writes (fun a ha => (s.rd_arrival _ ?_).symm) fun a ha => ?_⟩
  · rw [State.get_congr herrBefore]
  · rw [State.get_congr hnodeBefore]
  · unfold unseamed nodeBase at ha
    unfold Reg.SEA_LAST_S_LO
    omega
  · refine State.rd_put_ne _ _ (show a ≠ Reg.SEA_STAT n from ?_)
    unfold jnlBase at ha
    unfold Reg.SEA_STAT
    omega

/-- R172, R173: a return field with a firmware version in an IDLE frame, as node table, slot and luminaire. -/
theorem State.versionSlot_gives (s : State) {n sof : Nat} {ret : List Nat} (hn : n < 32) (r : Rcvd) (hlen : ret.length = 8)
    (hcode : ret.getD 0 0 = 2) (hp : s.paired = false) (hst : s.get (F.NT_STATE (n * 128)) = 1) :
    let u := ((s.wrTime (Reg.SEA_LAST_S_LO n) sof).takeField (n * 128)
      { bytes := ret, dirB := r.h.dirB, seq := r.h.seq, origin := r.h.origin, stamp := sof } true).setFlag (F.SEA_STAT_WRAP n) false
    u.get (F.NT_FWVER (n * 128)) = (ret.getD 4 0 * 256 + ret.getD 5 0) % 65536 ∧
      u.rd (nodeAddr (n * 128) 5) = BitVec.ofNat 32 (Crypto.ofBytes (ret.take 4)) ∧
      u.rd (nodeAddr (n * 128) 6) = BitVec.ofNat 32 (Crypto.ofBytes (ret.drop 4)) ∧ (u.nslot (n * 128)).last = some s.ns ∧
      (ret.getD 2 0 * 256 + ret.getD 3 0 ≠ 0x8000 → (u.lum (n * 128)).tAt = some sof) := by
  have hmcode : (⟨ret, r.h.dirB, r.h.seq, r.h.origin, sof⟩ : RetField).mcode = 2 := by rw [RetField.mcode, RetField.b, hcode]
  have hmism : (⟨ret, r.h.dirB, r.h.seq, r.h.origin, sof⟩ : RetField).mism = false := by rw [RetField.mism, RetField.b, hcode]; rfl
  have hstate : (s.wrTime (Reg.SEA_LAST_S_LO n) sof).get (F.NT_STATE (n * 128)) ≠ 4 := by
    rw [State.get_congr (s.rd_arrival _ (.inr (by unfold F.NT_STATE nodeAddr nodeBase Reg.SEA_LAST_S_LO; dsimp only; omega))), hst]
    decide
  have hpaired : (s.wrTime (Reg.SEA_LAST_S_LO n) sof).paired = false :=
    (State.paired_congr (s.rd_arrival _ (.inl (by unfold Reg.GLB_ROLE Reg.SEA_LAST_S_LO; omega))) rfl).trans hp
  obtain ⟨hnoted, htemp⟩ := State.takeField_version (here := true) hmcode hmism hstate hpaired
  have hu := hnoted.congr (t := State.setFlag _ (F.SEA_STAT_WRAP n) false) (fun w => State.rd_put_ne _ _ (node_ne_seam (by decide) hn)) rfl
  refine ⟨hu.version, hu.front, hu.back.trans ?_, hu.heard, htemp⟩
  rw [field, List.take_of_length_le (by simp [hlen])]

/-- R199: a seam whose signal is lost, as register and record. -/
theorem State.signalLost_gives (s : State) {n : Nat} (hn : n < 32) :
    let u := (s.setFlag (F.SEA_STAT_LINK n) false).seamEvent 0x30B n 0
    u.flag (F.SEA_STAT_LINK n) = false ∧ Journalled s u 0x30B (n * 128) [n] := by
  refine ⟨?_, ?_⟩
  · exact (State.raise_flag _ _ _ _ (recordAddr_of_apart (.inl (by unfold F.SEA_STAT_LINK Reg.SEA_STAT; dsimp only; omega)))).trans
      (State.flag_setFlag_same _ _ _ rfl rfl)
  · exact (State.raise_journalled (s.setFlag (F.SEA_STAT_LINK n) false) 0x30B (n * 128) [n]).of_writes
      (fun a ha => (State.rd_put_ne _ _ (ha.ne_reg (b := 0x41004) (by decide) hn)).symm) fun _ _ => rfl

/-- R185: a slot that has not been heard for 50 frame periods, in force as it is, is silent. -/
theorem State.nodeSilent_of {s : State} {i : Nat} (hst : s.get (F.NT_STATE i) = 1 ∨ s.get (F.NT_STATE i) = 2 ∨ s.get (F.NT_STATE i) = 3)
    (hen : s.flag (F.SEA_CTL_ENABLE (i / 128)) = true) (hinj : s.flag (F.SEA_CTL_INJECT (i / 128)) = true)
    (hlast : ((s.nslot i).last.getD 0) + 50 * s.framePeriod ≤ s.ns) (hsince : (s.nslot i).since + 50 * s.framePeriod ≤ s.ns) :
    s.nodeSilent i = true := by
  unfold State.nodeSilent
  dsimp only
  rw [State.seamOn, hen, hinj, Bool.and_eq_true, decide_eq_true_eq]
  refine ⟨?_, ?_⟩
  · obtain h | h | h := hst
    · rw [h]; rfl
    · rw [h]; rfl
    · rw [h]; rfl
  · cases hl : (s.nslot i).last with
    | none => exact hsince
    | some t =>
      rw [hl] at hlast
      change t + _ ≤ _ at hlast
      change max t _ + _ ≤ _
      omega

/-- Settles O31: a frame by what `State.seamReceive` makes of it (counted invalid, or its one slot taken), a slot by its SCRC and its return
field, the link, LOST and SLOW states by their own steps. -/
theorem seamReception : Obligations.SeamReception := by
  unfold Obligations.SeamReception
  intro s n i sof bs m x got hears
  have hn : m < 32 := n.isLt
  have hx : x < 4096 := i.isLt
  refine ⟨?invalid, ?scrc, ?version, ?signal, ?lock, ?lost, ?slow⟩
  case invalid =>
    rintro ⟨he, hr⟩ hbad
    refine ⟨_, rfl, ?_⟩
    rw [State.seamReceive_invalid he hr hbad]
    exact s.countInvalid_gives m _
  case scrc =>
    rintro r sl ⟨he, hr⟩ hgot hh hd ht hw hsl hto hcrc
    refine ⟨_, rfl, ?_⟩
    rw [State.seamReceive_idle he hr hgot hh hd ht hw hsl hto, State.takeSlot_bad _ _ _ hcrc]
    exact s.badSlot_gives hn _
  case version =>
    rintro r ret crc ⟨he, hr⟩ hgot hh hd ht hw hsl hlen hcrc hfill hto hp hst hcode
    refine ⟨_, rfl, ?_⟩
    rw [State.seamReceive_idle he hr hgot hh hd ht hw hsl hto, State.takeSlot_good _ _ _ hlen hcrc hfill]
    exact s.versionSlot_gives hn _ hlen hcode hp hst
  case signal =>
    intro he
    refine ⟨_, rfl, ?_⟩
    rw [if_pos he]
    exact s.signalLost_gives hn
  case lock =>
    intro he
    refine ⟨_, rfl, ?_⟩
    rw [if_pos he]
    exact ⟨State.flag_setFlag_same _ _ _ rfl rfl, fun a ha => State.rd_put_ne _ _ ha⟩
  case lost =>
    exact fun hst hen hinj hlast hsince => ⟨_, rfl, State.nodeLost_gives hx (State.nodeSilent_of hst hen hinj hlast hsince)⟩
  case slow =>
    intro since hok hst
    refine ⟨fun hdue => ⟨_, rfl, ?_⟩, fun hearly => ⟨_, rfl, ?_⟩⟩
    · rw [State.slowClear_due hok hst, if_pos hdue]
      exact ⟨s.setNodeState_state x 1, fun j hj => s.setNodeState_state_ne 1 hx hj⟩
    · rw [State.slowClear_due hok hst, if_neg (Nat.not_le.mpr hearly)]

end Sys2Proof.Machine

/-!
# Zone 511 stays dark (O22)

Each function that could give zone 511 a target or stage one for it branches it off first.
-/

namespace Sys2Proof.Machine

/-! ## Zone 511 (R41) -/

theorem State.frameBand_dark (s : State) (i o : Nat) : s.frameBand 511 i o = 0 := by
  unfold State.frameBand
  exact if_pos rfl

theorem State.view_dark (s : State) {k : Nat} (hk : k < 4) : s.view (Reg.ZON_TGT 511 k) = 0 := by
  unfold State.view Reg.ZON_TGT
  iterate 5 rw [if_neg (by omega)]
  exact if_pos (by omega)

/-- R520: the target registers of zone 511 stand in the block of the zones. -/
theorem placeAt_zonTgt_dark : ∀ k : BitVec 2, placeAt (Reg.ZON_TGT 511 k.toNat) = some (.block 5) := by decide

theorem State.peek_dark (s : State) (k : BitVec 2) : s.peek (Reg.ZON_TGT 511 k.toNat) = 0 := by
  unfold State.peek
  rw [placeAt_zonTgt_dark k]
  dsimp only
  rw [s.view_dark k.isLt]
  exact BitVec.zero_and

theorem State.zonTgtWrite_dark (s : State) (k v : Nat) : s.zonTgtWrite 511 k v = s.answer stIgnored := if_pos rfl

theorem State.zset_dark (s : State) (v : VReg) : s.zset 511 v = s := if_pos rfl

theorem State.zmode_dark (s : State) (m : Bool) : s.zmode 511 m = s := if_pos rfl

/-! ## Instructions that stage nothing -/

theorem State.endGroup_zon (s : State) (n : Nat) : (s.endGroup n).zon = s.zon := by rw [s.endGroup_only n]

theorem State.exhaust_zon (s : State) (n : Nat) : (s.exhaust n).zon = s.zon := State.raiseRated_zon ..

theorem State.groupStep_zon (s : State) (n : Nat) : (s.groupStep n).zon = s.zon := by
  unfold State.groupStep
  split
  · exact s.endGroup_zon n
  · split
    · split
      · exact s.endGroup_zon n
      · rfl
    · exact s.endGroup_zon n

theorem State.retire_zon (s : State) (n cost : Nat) : (s.retire n cost).zon = s.zon := by
  rw [State.retire, State.groupStep_zon]
  split
  · exact State.exhaust_zon _ n
  · rfl

/-- An instruction that goes on leaves its bobbin RUNNABLE or PREEMPTED. -/
theorem GoesOn.not_faulted {s t : State} {n : BitVec 5} {cost : Nat} (h : GoesOn s n cost t) : (t.bob n.toNat).st ≠ .faulted := by
  rw [h.st]
  split
  · decide
  · decide

/-- An instruction whose body does nothing but go on to the next one. -/
theorem issue_idle {s : State} {n : BitVec 5} (h : Ready s n) (w : Word) (cost : Nat) (body : State → Body)
    (hb : body s = bodyOn n.toNat (fun b => b) s) :
    Scalar s n cost 0 0 (s.bob n.toNat).flags (s.issue n.toNat w cost body) ∧ (s.issue n.toNat w cost body).zon = s.zon ∧
      ((s.issue n.toNat w cost body).bob n.toNat).st ≠ .faulted := by
  have hscalar : Scalar s n cost 0 0 (s.bob n.toNat).flags (s.issue n.toNat w cost body) :=
    issue_scalar_body h w cost 0 0 _ body (s.bob n.toNat) hb rfl rfl
  exact ⟨hscalar, by rw [issue_ok h hb, State.retire_zon]; rfl, hscalar.on.not_faulted⟩

theorem bodyZset_dark {s : State} {n : Nat} {g : BitVec 4} (a : BitVec 3) (hz : ((s.bob n).rg g).toNat = 511) :
    bodyZset n a g s = bodyOn n (fun b => b) s := by
  unfold bodyZset
  dsimp only
  rw [hz, if_neg (by decide), State.zset_dark]

theorem bodyZmode_dark {s : State} {n : Nat} {g : BitVec 4} (m : BitVec 1) (hz : ((s.bob n).rg g).toNat = 511) :
    bodyZmode n g m s = bodyOn n (fun b => b) s := by
  unfold bodyZmode
  dsimp only
  rw [hz, if_neg (by decide), State.zmode_dark]

/-- Settles O22: the frame, the read and the host write by their branch for zone 511; ZSET and ZMODE as instructions whose body only goes
on to the next one. -/
theorem zone511StaysDark : Obligations.Zone511StaysDark := by
  unfold Obligations.Zone511StaysDark
  refine fun s n va g m k v => ⟨s.frameBand_dark, s.peek_dark k, fun hm => ⟨_, rfl, ?write⟩,
    fun hr hz => ⟨⟨_, rfl, ?zset⟩, _, rfl, ?zmode⟩⟩
  case write => exact (State.hostWr_of_may hm).trans (s.zonTgtWrite_dark _ _)
  case zset => exact issue_idle hr _ 2 _ (bodyZset_dark va hz)
  case zmode => exact issue_idle hr _ 1 _ (bodyZmode_dark m hz)

end Sys2Proof.Machine

/-!
# Zone writes and the tick commit (O21)

A host write is told by the state it leaves.  The commit is told zone by zone: what a zone is to have (`State.dueBand`, `State.dueMode`)
is kept by the commit of every zone, its own included, and a zone whose turn has come has nothing staged, so that in the end it has what
it was to have.  The steps of the tick start and of the swap that follow leave the zones alone (`SameZones`).
-/

namespace Sys2Proof.Machine

/-! ## Staging -/

@[simp] theorem State.answer_zstage (s : State) (c z : Nat) : (s.answer c).zstage z = s.zstage z := rfl

@[simp] theorem State.put_zstage (s : State) (f : Fld) (v z : Nat) : (s.put f v).zstage z = s.zstage z := rfl

/-! ## Host writes of a node's zone (R39, R40) -/

theorem State.nodeZoneWrite_stages (s : State) {i v : Nat} (hv : v % 1024 ≤ 511) :
    s.nodeZoneWrite i v = { s with zon := { s.zon with node := spSet (fun _ => none) s.zon.node i (some (v % 1024)) }, status := stOk } := by
  unfold State.nodeZoneWrite
  dsimp only
  rw [if_neg (by omega)]
  rfl

theorem State.nodeZoneWrite_refused (s : State) {i v : Nat} (hv : 511 < v % 1024) :
    s.nodeZoneWrite i v = (s.raise 0x202 (s.get (F.NT_ZONE i)) [i, v % 1024]).answer stOk := by
  unfold State.nodeZoneWrite
  dsimp only
  rw [if_pos hv]

/-! ## Host writes of a zone's target (R43, R44, R45) -/

theorem State.hostOwns_eq (s : State) (z : Nat) : s.hostOwns z = decide (s.get (F.ZON_CTL_OWNER z) = 1) := rfl

theorem State.zonTgtWrite_locked (s : State) {z : Nat} (k v : Nat) (hz : z ≠ 511) (ho : s.hostOwns z = false) :
    s.zonTgtWrite z k v = s.answer stLocked := by
  rw [State.zonTgtWrite, if_neg hz, ho]
  rfl

/-- R45: what stands staged once the word `v` of the bands 2 `k` and 2 `k` + 1 is staged over `st`. -/
def ZStage.withPair (st : ZStage) (k v : Nat) : ZStage :=
  { st with bands := Vector.ofFn fun j => if j.val = 2 * k then some (BitVec.ofNat 16 (v % 65536))
      else if j.val = 2 * k + 1 then some (BitVec.ofNat 16 (v / 65536)) else st.bands[j] }

theorem ZStage.withPair_get (st : ZStage) (k v : Nat) (j : Fin 8) : (st.withPair k v).bands[j] =
    if j.val = 2 * k then some (BitVec.ofNat 16 (v % 65536))
    else if j.val = 2 * k + 1 then some (BitVec.ofNat 16 (v / 65536)) else st.bands[j] :=
  Vector.getElem_ofFn j.isLt

/-- The two bands may be put into the list one after the other, as the write does. -/
theorem ZStage.withPair_bands (st : ZStage) (k v : Nat) :
    (Vector.ofFn fun j : Fin 8 => ((st.bands.toList.set (2 * k) (some (BitVec.ofNat 16 (v % 65536)))).set (2 * k + 1)
      (some (BitVec.ofNat 16 (v / 65536 % 65536)))).getD j.val none) = (st.withPair k v).bands := by
  refine Vector.ext fun j hj => ?_
  rw [Vector.getElem_ofFn, ZStage.withPair, Vector.getElem_ofFn, List.getD_eq_getElem?_getD]
  by_cases h1 : j = 2 * k + 1
  · subst h1
    rw [if_neg (Nat.succ_ne_self (2 * k)), if_pos rfl, List.getElem?_set_self (by simpa using hj)]
    exact congrArg some (BitVec.eq_of_toNat_eq (by simp))
  · rw [List.getElem?_set_ne (Ne.symm h1)]
    by_cases h0 : j = 2 * k
    · subst h0
      rw [if_pos rfl, List.getElem?_set_self (by simpa using hj)]
      rfl
    · rw [if_neg h0, if_neg h1, List.getElem?_set_ne (Ne.symm h0)]
      simp [hj]

theorem State.zonTgtWrite_owned (s : State) {z : Nat} (k v : Nat) (hz : z ≠ 511) (ho : s.hostOwns z = true) :
    s.zonTgtWrite z k v = (s.setZstage z ((s.zstage z).withPair k v)).answer stOk := by
  rw [State.zonTgtWrite, if_neg hz, ho]
  dsimp only
  rw [ZStage.withPair_bands]
  rfl

theorem State.zonTgtWrite_zstage (s : State) {z : Nat} (k v x : Nat) (hz : z ≠ 511) (ho : s.hostOwns z = true) :
    (s.zonTgtWrite z k v).zstage x = if x = z then (s.zstage z).withPair k v else s.zstage x := by
  rw [s.zonTgtWrite_owned k v hz ho, State.answer_zstage, State.zstage_setZstage]

/-! ## Host writes of a zone's control word (R44, R55) -/

/-- R44: what stands staged for a zone once its control word is written: nothing where the owner changes, and the mode where the host
owns it. -/
def State.ctlStage (s : State) (z v : Nat) : ZStage :=
  let kept := if bit v 1 != s.hostOwns z then {} else s.zstage z
  if bit v 1 then { kept with mode := some (bit v 0) } else kept

theorem State.ctlStage_mode (s : State) (z v : Nat) :
    (s.ctlStage z v).mode = if bit v 1 then some (bit v 0) else if s.hostOwns z then none else (s.zstage z).mode := by
  unfold State.ctlStage
  cases bit v 1
  · cases s.hostOwns z
    · rfl
    · rfl
  · rfl

theorem State.ctlStage_bands {s : State} {z v : Nat} (h : bit v 1 ≠ s.hostOwns z) (j : Fin 8) : (s.ctlStage z v).bands[j] = none := by
  have hnone : ({} : ZStage).bands[j] = none := Vector.getElem_replicate j.isLt
  unfold State.ctlStage
  dsimp only
  rw [if_pos (bne_iff_ne.mpr h)]
  split
  · exact hnone
  · exact hnone

theorem State.zonCtlWrite_zstage (s : State) (z v : Nat) : (s.zonCtlWrite z v).zstage z = s.ctlStage z v := by
  unfold State.zonCtlWrite
  extract_lets own changed s1 s2 s3 s4
  have h2 : s2.zstage z = if changed then {} else s.zstage z := by
    unfold s2
    split
    · exact State.zstage_setZstage_same _ _ _
    · rfl
  have h3 : s3.zstage z = if own then { s2.zstage z with mode := some (bit v 0) } else s2.zstage z := by
    unfold s3
    split
    · exact State.zstage_setZstage_same _ _ _
    · rfl
  have h4 : s4.zstage z = s3.zstage z := by
    unfold s4
    split
    · rfl
    · rfl
  rw [h2] at h3
  exact h4.trans h3

/-- Of a field beside OWNER and FCAP, the write changes what it puts into REACT. -/
theorem State.zonCtlWrite_get (s : State) {z : Nat} {f : Fld} (v : Nat) (howner : (F.ZON_CTL_OWNER z).disj f = true)
    (hfcap : (F.ZON_CTL_FCAP z).disj f = true) : ∃ t : State, t.get f = s.get f ∧
      (s.zonCtlWrite z v).get f = (if v / 4 % 4 = 3 then t else t.put (F.ZON_CTL_REACT z) (v / 4 % 4)).get f := by
  unfold State.zonCtlWrite
  extract_lets own changed s1 s2 s3 s4
  have h1 : s1.get f = s.get f := State.get_setFlag_disj _ _ howner
  have h2 : s2.get f = s.get f := State.get_ite h1 h1
  have h3 : s3.get f = s.get f := State.get_ite h2 h2
  exact ⟨s3, h3, State.get_put_disj _ _ hfcap⟩

/-- The mode takes effect with the commit only. -/
theorem State.zonCtlWrite_mode (s : State) (z v : Nat) : (s.zonCtlWrite z v).get (F.ZON_CTL_MODE z) = s.get (F.ZON_CTL_MODE z) := by
  have hreact : (F.ZON_CTL_REACT z).disj (F.ZON_CTL_MODE z) = true := by simp [Fld.disj, F.ZON_CTL_REACT, F.ZON_CTL_MODE]
  obtain ⟨t, ht, h⟩ := s.zonCtlWrite_get (z := z) (f := F.ZON_CTL_MODE z) v (by simp [Fld.disj, F.ZON_CTL_OWNER, F.ZON_CTL_MODE])
    (by simp [Fld.disj, F.ZON_CTL_FCAP, F.ZON_CTL_MODE])
  exact h.trans (State.get_ite ht ((State.get_put_disj _ _ hreact).trans ht))

/-- R55: the reserved value 3 leaves REACT as it is. -/
theorem State.zonCtlWrite_react (s : State) (z v : Nat) : (s.zonCtlWrite z v).get (F.ZON_CTL_REACT z) =
    if v / 4 % 4 = 3 then s.get (F.ZON_CTL_REACT z) else v / 4 % 4 := by
  obtain ⟨t, ht, h⟩ := s.zonCtlWrite_get (z := z) (f := F.ZON_CTL_REACT z) v (by simp [Fld.disj, F.ZON_CTL_OWNER, F.ZON_CTL_REACT])
    (by simp [Fld.disj, F.ZON_CTL_FCAP, F.ZON_CTL_REACT])
  rw [h]
  split
  · exact ht
  · exact (State.get_put_same _ _ _ rfl).trans (Nat.mod_mod _ 4)

/-! ## What the steps of a tick leave of the zones -/

/-- The words of the zones that hold a target or a control word, none of the members' counts. -/
def zoneWord (a : Nat) : Bool := decide (0x20000 ≤ a) && decide (a < 0x24000) && decide (a % 32 ≤ 16)

theorem zoneWord_iff {a : Nat} : zoneWord a = true ↔ 0x20000 ≤ a ∧ a < 0x24000 ∧ a % 32 ≤ 16 := by
  simp only [zoneWord, Bool.and_eq_true, decide_eq_true_eq, and_assoc]

theorem zoneWord_of_not {a : Nat} (h : ¬ (0x20000 ≤ a ∧ a < 0x24000 ∧ a % 32 ≤ 16)) : zoneWord a = false :=
  Bool.eq_false_iff.mpr fun ha => h (zoneWord_iff.mp ha)

theorem zoneWord_of_apart {a : Nat} (h : a < 0x20000 ∨ 0x24000 ≤ a) : zoneWord a = false := zoneWord_of_not (by omega)

/-- State `t` has the zones' targets, modes and stages of state `s`, and the same tick start. -/
structure SameZones (s t : State) : Prop where
  zon : t.zon = s.zon
  tickAt : t.pen.tickAt = s.pen.tickAt
  word : ∀ a, zoneWord a = true → t.rd a = s.rd a

namespace SameZones

variable {old s : State}

theorem refl (s : State) : SameZones s s := ⟨rfl, rfl, fun _ _ => rfl⟩

theorem of_eq {t : State} (h : SameZones old s) (ez : t.zon = s.zon) (et : t.pen.tickAt = s.pen.tickAt) (em : t.mem = s.mem) :
    SameZones old t :=
  ⟨ez.trans h.zon, et.trans h.tickAt, fun a ha => by rw [State.rd, em]; exact h.word a ha⟩

theorem ite {c : Prop} {_ : Decidable c} {a b : State} (ha : SameZones old a) (hb : SameZones old b) :
    SameZones old (if c then a else b) := by
  split
  · exact ha
  · exact hb

theorem forUp {f : Nat → State → State} {n : Nat} (hf : ∀ i t, i < n → SameZones old t → SameZones old (f i t)) (h : SameZones old s) :
    SameZones old (forUp f n s) :=
  List.foldlRecOn _ _ h fun t ht i hi => hf i t (List.mem_range.mp hi) ht

theorem wr {a : Nat} {w : Word} (h : SameZones old s) (ha : zoneWord a = false := by decide) : SameZones old (s.wr a w) :=
  ⟨h.zon, h.tickAt, fun x hx => (s.rd_wr_ne w (by rintro rfl; rw [ha] at hx; cases hx)).trans (h.word x hx)⟩

theorem put {f : Fld} {v : Nat} (h : SameZones old s) (hf : zoneWord f.addr = false := by decide) : SameZones old (s.put f v) := h.wr hf

theorem setBob {n : Nat} {b : Bobbin} (h : SameZones old s) : SameZones old (s.setBob n b) := h.of_eq rfl rfl rfl

theorem of_records {t : State} (h : SameZones old s) (k : State.Records s t) : SameZones old t := by
  refine ⟨k.zon_eq.trans h.zon, by rw [k.pen_eq]; exact h.tickAt, fun a ha => (k.rd a ?_).trans (h.word a ha)⟩
  refine recordAddr_of_apart (.inl ?_)
  obtain ⟨-, hlt, -⟩ := zoneWord_iff.mp ha
  omega

/-- The registers of the 32 bobbins lie below the zones'. -/
theorem bobbinReg {b n : Nat} (hb : b < 0x11040) (hn : n < 32) : zoneWord (b + n * 64) = false := zoneWord_of_apart (.inl (by omega))

/-! ## The steps of a tick start -/

theorem endGroup {n : Nat} (h : SameZones old s) : SameZones old (s.endGroup n) := .ite (h.of_eq rfl rfl rfl) h.setBob

theorem endService (h : SameZones old s) : SameZones old s.endService := by
  unfold State.endService
  split
  · exact h.endGroup
  · exact h

theorem tickUsed {n : Nat} (hn : n < 32) (h : SameZones old s) : SameZones old (s.tickUsed n) :=
  (h.put (bobbinReg (by decide) hn)).setBob

theorem tickEnd {n : Nat} (hn : n < 32) (h : SameZones old s) : SameZones old (s.tickEnd n) :=
  .ite (((h.tickUsed hn).put (bobbinReg (by decide) hn)).of_records (State.raiseRated_records ..)) (h.tickUsed hn)

theorem latchInputs {c : Nat} (h : SameZones old s) : SameZones old (s.latchInputs c) :=
  .forUp (fun _ _ _ k => k.setBob) (h.of_eq rfl rfl rfl)

theorem releaseWaitK {n c : Nat} (h : SameZones old s) : SameZones old (s.releaseWaitK n c) := .ite (.ite h.setBob h.setBob) h

theorem releaseWaitT {n c : Nat} (h : SameZones old s) : SameZones old (s.releaseWaitT n c) := .ite h.setBob h

theorem refill {n : Nat} (h : SameZones old s) : SameZones old (s.refill n) := h.setBob

/-! ## The steps of a swap -/

theorem swapIds (h : SameZones old s) : SameZones old s.swapIds :=
  .forUp (fun i _ hi k => (k.wr (zoneWord_of_apart (.inl (by unfold Reg.PEN_IHASH_A; omega)))).wr
    (zoneWord_of_apart (.inl (by unfold Reg.PEN_IHASH_I; omega)))) h.wr.wr

theorem loadBobbin {a n : Nat} (hn : n < 32) (h : SameZones old s) : SameZones old (s.loadBobbin a n) :=
  (((((h.put (bobbinReg (by decide) hn)).put (bobbinReg (by decide) hn)).put (bobbinReg (by decide) hn)).put
    (bobbinReg (by decide) hn)).put (bobbinReg (by decide) hn)).setBob

theorem applyInit {a k d : Nat} (h : SameZones old s) : SameZones old (s.applyInit a k d) := by
  induction d generalizing s k with
  | zero => exact h
  | succ d ih =>
    exact ih (.forUp (fun _ _ _ k => (k.wr (zoneWord_of_apart (.inr (by unfold dataBase; omega)))).of_eq rfl rfl rfl) h)

theorem startImage (h : SameZones old s) : SameZones old s.startImage := .applyInit (.forUp (fun _ _ hn k => k.loadBobbin hn) h)

/-! ## Node zones (R39, R57) -/

/-- The members' counts and the node table are no words of a zone's target or control. -/
theorem commitSlot {i z : Nat} (h : SameZones old s) : SameZones old (s.commitSlot i z) := by
  have hnode : zoneWord (nodeAddr i 0) = false := zoneWord_of_apart (.inr (by unfold nodeAddr nodeBase; omega))
  have hstat (x : Nat) : zoneWord (Reg.ZON_STAT x) = false := zoneWord_of_not (by unfold Reg.ZON_STAT; omega)
  exact .ite h (((h.put hnode).put (hstat _)).put (hstat z))

theorem commitSlots (l : List (Nat × Option Nat)) (h : SameZones old s) :
    SameZones old (forEach (fun p s => match p.2 with | some z => s.commitSlot p.1 z | none => s) l s) := by
  refine List.foldlRecOn _ _ h fun t ht p _ => ?_
  dsimp only
  split
  · exact ht.commitSlot
  · exact ht

end SameZones

/-- The state with its tick start at `c`. -/
def State.atTick (s : State) (c : Nat) : State := { s with pen := { s.pen with tickAt := some c } }

/-- R64: a tick start leaves the zones as they are. -/
theorem State.tickStart_zones (s : State) (c : Nat) : SameZones (s.atTick c) (s.tickStart c) := by
  unfold State.tickStart
  extract_lets s0 s1 _ _ s2 s3 _ s3r s4 s5
  have h1 : SameZones s s1 :=
    have h0 : SameZones s s0 := (SameZones.refl s).endService
    .ite h0 (.forUp (fun _ _ hn k => k.tickEnd hn) h0)
  have h2 : SameZones (s.atTick c) s2 := ⟨h1.zon, rfl, (h1.put (f := F.PEN_CYC_USED)).word⟩
  clear_value s2
  have h3 : SameZones (s.atTick c) s3 := h2.latchInputs
  clear_value s3
  have h3r : SameZones (s.atTick c) s3r := h3.of_eq rfl rfl rfl
  clear_value s3r
  have h4 : SameZones (s.atTick c) s4 := .forUp (fun _ _ _ k => k.releaseWaitK) h3r
  clear_value s4
  have h5 : SameZones (s.atTick c) s5 := .forUp (fun _ _ _ k => k.releaseWaitT) h4
  clear_value s5
  split
  · next ht => exact ⟨rfl, ht, fun _ _ => rfl⟩
  · exact .ite (.forUp (fun _ _ _ k => k.refill) h5) h3

/-- R91: a swap, the tick start at its end included, leaves the zones as they are. -/
theorem State.swapNow_zones (s : State) (c : Nat) : SameZones (s.atTick c) (s.swapNow c) := by
  unfold State.swapNow
  extract_lets _ se s0 s1 _ s2 s3 s4
  have hse : SameZones s se := (SameZones.refl s).endService
  have h0 : SameZones s s0 := .ite hse (.forUp (fun _ _ hn k => k.tickUsed hn) hse)
  clear_value s0
  have h1 : SameZones s s1 := h0.swapIds.put.put
  clear_value s1
  have h2 : SameZones s s2 := h1.of_eq rfl rfl rfl
  clear_value s2
  have h4 : SameZones s s4 := h2.startImage.put.put
  clear_value s4
  have ht := s4.tickStart_zones c
  have h : SameZones (s.atTick c) (s4.tickStart c) := ⟨ht.zon.trans h4.zon, ht.tickAt, fun a ha => (ht.word a ha).trans (h4.word a ha)⟩
  exact h.of_records (State.raise_records ..)

/-! ## A zone's target and mode in the store -/

theorem VReg.ofFn_lane (f : Nat → BitVec 16) {b : Nat} (hb : b < 8) : ((VReg.ofFn f).lane b).toNat = (f b).toNat := by
  simp [VReg.lane, VReg.ofFn, hb]

/-- State `t` holds the target and the control word of zone `y` as state `s` does: the first five words of its registers. -/
def SameZone (y : Nat) (s t : State) : Prop := ∀ o, o ≤ 16 → t.rd (Reg.ZON_TGT y 0 + o) = s.rd (Reg.ZON_TGT y 0 + o)

theorem SameZones.zone {s t : State} {y : Nat} (h : SameZones s t) (hy : y < 512) : SameZone y s t :=
  fun o ho => h.word _ (zoneWord_iff.mpr (by unfold Reg.ZON_TGT; omega))

theorem State.zband_congr {s t : State} {y b : Nat} (h : t.rd (Reg.ZON_TGT y (b / 2)) = s.rd (Reg.ZON_TGT y (b / 2))) :
    t.zband y b = s.zband y b := by
  have hfield (f : Fld) (hf : f.addr = Reg.ZON_TGT y (b / 2)) : t.get f = s.get f := State.get_congr (by rw [hf, h])
  unfold State.zband
  rw [hfield _ (by split <;> rfl)]

theorem SameZone.zband {s t : State} {y b : Nat} (h : SameZone y s t) (hb : b < 8) : t.zband y b = s.zband y b := by
  have hword := h (b / 2 * 4) (by omega)
  rw [show Reg.ZON_TGT y 0 + b / 2 * 4 = Reg.ZON_TGT y (b / 2) by simp [Reg.ZON_TGT]] at hword
  exact State.zband_congr hword

theorem SameZone.mode {s t : State} {y : Nat} (h : SameZone y s t) : t.get (F.ZON_CTL_MODE y) = s.get (F.ZON_CTL_MODE y) := by
  have hword := h 16 (Nat.le_refl 16)
  rw [show Reg.ZON_TGT y 0 + 16 = Reg.ZON_CTL y by unfold Reg.ZON_TGT Reg.ZON_CTL; omega] at hword
  exact State.get_congr hword

/-- The word of the bands 2 `k` and 2 `k` + 1 of a target. -/
def VReg.pair (v : VReg) (k : Nat) : Word := BitVec.ofNat 32 ((v.lane (2 * k)).toNat + (v.lane (2 * k + 1)).toNat * 65536)

theorem State.setZtarget_eq (s : State) (z : Nat) (v : VReg) : s.setZtarget z v =
    (((s.wr (Reg.ZON_TGT z 0) (v.pair 0)).wr (Reg.ZON_TGT z 1) (v.pair 1)).wr (Reg.ZON_TGT z 2) (v.pair 2)).wr (Reg.ZON_TGT z 3) (v.pair 3) :=
  rfl

theorem State.setZtarget_zon (s : State) (z : Nat) (v : VReg) : (s.setZtarget z v).zon = s.zon := by
  rw [State.setZtarget_eq, State.wr_zon, State.wr_zon, State.wr_zon, State.wr_zon]

theorem State.setZtarget_rd_same (s : State) (z : Nat) (v : VReg) {k : Nat} (hk : k < 4) :
    (s.setZtarget z v).rd (Reg.ZON_TGT z k) = v.pair k := by
  have hinj (i j : Nat) : Reg.ZON_TGT z i = Reg.ZON_TGT z j ↔ i = j := by unfold Reg.ZON_TGT; omega
  simp only [State.setZtarget_eq, State.rd_wr, hinj]
  obtain rfl | rfl | rfl | rfl : k = 0 ∨ k = 1 ∨ k = 2 ∨ k = 3 := by omega
  all_goals rfl

theorem State.setZtarget_rd_ne (s : State) {z a : Nat} (v : VReg) (ha : a < Reg.ZON_TGT z 0 ∨ Reg.ZON_TGT z 3 < a) :
    (s.setZtarget z v).rd a = s.rd a := by
  have hne (k : Nat) (hk : k ≤ 3) : a ≠ Reg.ZON_TGT z k := by unfold Reg.ZON_TGT at *; omega
  rw [State.setZtarget_eq, State.rd_wr_ne _ _ (hne 3 (by decide)), State.rd_wr_ne _ _ (hne 2 (by decide)),
    State.rd_wr_ne _ _ (hne 1 (by decide)), State.rd_wr_ne _ _ (hne 0 (by decide))]

/-- The two halves of a word of two bands. -/
theorem pairHalves (x y : BitVec 16) : BitVec.ofNat 16 (getBits (BitVec.ofNat 32 (x.toNat + y.toNat * 65536)) 0 16) = x ∧
    BitVec.ofNat 16 (getBits (BitVec.ofNat 32 (x.toNat + y.toNat * 65536)) 16 16) = y := by
  have hx := x.isLt
  have hy := y.isLt
  refine ⟨BitVec.eq_of_toNat_eq ?_, BitVec.eq_of_toNat_eq ?_⟩
  · simp only [getBits, BitVec.toNat_ofNat]
    omega
  · simp only [getBits, BitVec.toNat_ofNat]
    omega

/-- A target reads back band by band as it was written. -/
theorem State.zband_setZtarget (s : State) {z b : Nat} (f : Nat → BitVec 16) (hz : z ≠ 511) (hb : b < 8) :
    (s.setZtarget z (VReg.ofFn f)).zband z b = f b := by
  have hpair : (VReg.ofFn f).pair (b / 2) = BitVec.ofNat 32 ((f (b / 2 * 2)).toNat + (f (b / 2 * 2 + 1)).toNat * 65536) := by
    rw [VReg.pair, VReg.ofFn_lane f (by omega), VReg.ofFn_lane f (by omega), Nat.mul_comm 2]
  obtain ⟨hlo, hhi⟩ := pairHalves (f (b / 2 * 2)) (f (b / 2 * 2 + 1))
  have hword := s.setZtarget_rd_same z (VReg.ofFn f) (show b / 2 < 4 by omega)
  rw [hpair] at hword
  rw [State.zband, if_neg hz]
  split
  · rw [State.get, F.ZON_TGT_BLO, hword, hlo, show b / 2 * 2 = b by omega]
  · rw [State.get, F.ZON_TGT_BHI, hword, hhi, show b / 2 * 2 + 1 = b by omega]

/-! ## The commit of one zone (R46) -/

/-- R45, R48: band `j` of the target that the next commit gives zone `y`: the staged one, else the one in force. -/
def State.dueBand (s : State) (y : Nat) (j : Fin 8) : BitVec 16 := ((s.zstage y).bands[j]).getD (s.zband y j.val)

/-- R48: the mode that the next commit gives zone `y`. -/
def State.dueMode (s : State) (y : Nat) : Nat :=
  match (s.zstage y).mode with
  | some m => if m then 1 else 0
  | none => s.get (F.ZON_CTL_MODE y)

/-- Zone `y` is to have in `t` the target and the mode that it is to have in `s`. -/
structure SameDue (y : Nat) (s t : State) : Prop where
  band : y ≠ 511 → ∀ j, t.dueBand y j = s.dueBand y j
  mode : t.dueMode y = s.dueMode y

theorem SameDue.refl (y : Nat) (s : State) : SameDue y s s := ⟨fun _ _ => rfl, rfl⟩

theorem SameDue.trans {y : Nat} {s t u : State} (h : SameDue y s t) (k : SameDue y t u) : SameDue y s u :=
  ⟨fun hy j => (k.band hy j).trans (h.band hy j), k.mode.trans h.mode⟩

theorem SameZone.due {y : Nat} {s t : State} (h : SameZone y s t) (hs : t.zstage y = s.zstage y) : SameDue y s t :=
  ⟨fun _ j => by rw [State.dueBand, State.dueBand, hs, h.zband j.isLt], by rw [State.dueMode, State.dueMode, hs, h.mode]⟩

theorem SameDue.of_eq {y : Nat} {s t : State} (hs : t.zstage y = s.zstage y) (hm : t.mem = s.mem) : SameDue y s t :=
  SameZone.due (fun _ _ => by rw [State.rd, hm, State.rd]) hs

/-- A zone for which nothing is staged keeps its target and its mode. -/
theorem State.due_of_unstaged {s : State} {y : Nat} (h : s.zstage y = {}) :
    (∀ j, s.dueBand y j = s.zband y j.val) ∧ s.dueMode y = s.get (F.ZON_CTL_MODE y) := by
  refine ⟨fun j => ?_, by rw [State.dueMode, h]⟩
  rw [State.dueBand, h]
  simp

/-- A commit of zone `z` writes no other zone's registers. -/
theorem State.commitZone_zone_ne (s : State) {y z : Nat} (h : y ≠ z) : SameZone y s (s.commitZone z) := by
  intro o ho
  have htgt (v : VReg) : (s.setZtarget z v).rd (Reg.ZON_TGT y 0 + o) = s.rd (Reg.ZON_TGT y 0 + o) :=
    s.setZtarget_rd_ne v (by unfold Reg.ZON_TGT; omega)
  have hctl : Reg.ZON_TGT y 0 + o ≠ Reg.ZON_CTL z := by unfold Reg.ZON_TGT Reg.ZON_CTL; omega
  unfold State.commitZone
  extract_lets st old new s1 s2
  have h1 : s1.rd (Reg.ZON_TGT y 0 + o) = s.rd (Reg.ZON_TGT y 0 + o) := by
    unfold s1
    split
    · rfl
    · exact htgt new
  rw [State.setZstage_rd]
  unfold s2
  split
  · exact (State.rd_put_ne _ _ hctl).trans h1
  · exact h1

theorem State.commitZone_zstage (s : State) (y z : Nat) : (s.commitZone z).zstage y = if y = z then {} else s.zstage y := by
  unfold State.commitZone
  extract_lets st old new s1 s2
  have h1 : s1.zon = s.zon := by
    unfold s1
    split
    · rfl
    · exact s.setZtarget_zon z new
  have h2 : s2.zon = s1.zon := by
    unfold s2
    split
    · exact State.put_zon ..
    · rfl
  rw [State.zstage_setZstage, State.zstage, h2, h1]
  rfl

/-- The commit of zone `z` gives it the target and the mode it is to have. -/
theorem State.commitZone_gives (s : State) (z : Nat) : (z ≠ 511 → ∀ j : Fin 8, (s.commitZone z).zband z j.val = s.dueBand z j) ∧
    (s.commitZone z).get (F.ZON_CTL_MODE z) = s.dueMode z := by
  unfold State.commitZone
  extract_lets st old new s1 s2
  constructor
  · intro hz j
    have htgt : s2.rd (Reg.ZON_TGT z (j.val / 2)) = s1.rd (Reg.ZON_TGT z (j.val / 2)) := by
      unfold s2
      split
      · exact State.rd_put_ne _ _ (by simp only [F.ZON_CTL_MODE, Reg.ZON_TGT, Reg.ZON_CTL]; omega)
      · rfl
    refine (State.zband_congr htgt).trans ?_
    unfold s1
    rw [if_neg hz, State.zband_setZtarget _ _ hz j.isLt, State.dueBand]
    simp [st, old, State.ztarget, VReg.ofFn_lane]
  · have h1 : s1.get (F.ZON_CTL_MODE z) = s.get (F.ZON_CTL_MODE z) := by
      refine State.get_ite rfl (State.get_congr (s.setZtarget_rd_ne new ?_))
      simp only [F.ZON_CTL_MODE, Reg.ZON_TGT, Reg.ZON_CTL]
      omega
    change s2.get (F.ZON_CTL_MODE z) = _
    unfold s2 State.dueMode
    split
    · next m hm =>
      rw [show (s.zstage z).mode = some m from hm]
      refine (State.get_put_same _ _ _ rfl).trans ?_
      cases m
      · rfl
      · rfl
    · next hm =>
      rw [show (s.zstage z).mode = none from hm]
      exact h1

theorem State.commitZone_due (s : State) (y z : Nat) : SameDue y s (s.commitZone z) := by
  have hs := s.commitZone_zstage y z
  by_cases h : y = z
  · subst h
    rw [if_pos rfl] at hs
    obtain ⟨hband, hmode⟩ := State.due_of_unstaged hs
    obtain ⟨gband, gmode⟩ := s.commitZone_gives y
    exact ⟨fun hy j => (hband j).trans (gband hy j), hmode.trans gmode⟩
  · exact (s.commitZone_zone_ne h).due (hs.trans (if_neg h))

/-! ## The commit of every zone -/

theorem forEach_commitZone_due (l : List (Nat × ZStage)) (s : State) (y : Nat) :
    SameDue y s (forEach (fun p s => s.commitZone p.1) l s) :=
  List.foldlRecOn _ _ (SameDue.refl y s) fun t ht p _ => ht.trans (t.commitZone_due y p.1)

theorem forEach_commitZone_unstaged (l : List (Nat × ZStage)) (s : State) (y : Nat) (h : (∀ p ∈ l, p.1 ≠ y) → s.zstage y = {}) :
    (forEach (fun p s => s.commitZone p.1) l s).zstage y = {} := by
  induction l generalizing s with
  | nil => exact h (by simp)
  | cons p l ih =>
    refine ih (s.commitZone p.1) fun hl => ?_
    rw [State.commitZone_zstage]
    split
    · rfl
    · next hne =>
      exact h fun q hq => by
        obtain rfl | hq := List.mem_cons.mp hq
        · exact Ne.symm hne
        · exact hl q hq

/-- R46: the commit gives every zone the target and the mode it is to have, and leaves nothing staged for it. -/
theorem State.commitAll_zone (s : State) (c : Nat) {y : Nat} (hy : y < 512) :
    (s.commitAll c).zstage y = {} ∧ SameDue y s (s.commitAll c) := by
  unfold State.commitAll
  extract_lets s0 s1 s2 _ _
  have h1 : s1.zstage y = {} := forEach_commitZone_unstaged _ _ _ fun h => spGet_of_no_key _ _ _ h
  have h0 : SameDue y s s0 := .of_eq rfl rfl
  have hdue : SameDue y s s1 := h0.trans (forEach_commitZone_due _ s0 y)
  have h2 : SameZones s1 s2 := (SameZones.refl s1).commitSlots _
  have hs : s2.zstage y = s1.zstage y := by rw [State.zstage, h2.zon]; rfl
  exact ⟨hs.trans h1, (hdue.trans ((h2.zone hy).due hs)).trans (.of_eq rfl rfl)⟩

/-- R25, R46, R64, R91: what the steps of a tick start whose commit is due leave of a zone. -/
theorem State.tickSteps_zone {s : State} {y : Nat} (hy : y < 512) (h : s.commitDue = true) (ht : s.isTick s.gridNow = true)
    (ha : s.pen.tickAt ≠ some s.gridNow) :
    (s.tickSteps s.gridNow).pen.tickAt = some s.gridNow ∧ (s.tickSteps s.gridNow).zstage y = {} ∧
      (y ≠ 511 → ∀ j : Fin 8, (s.tickSteps s.gridNow).zband y j.val = s.dueBand y j) ∧
      (s.tickSteps s.gridNow).get (F.ZON_CTL_MODE y) = s.dueMode y := by
  have hchange : SameDue y s (s.tickChange s.gridNow) := by
    unfold State.tickChange
    dsimp only
    split
    · exact .of_eq rfl rfl
    · exact .refl y s
  obtain ⟨hun, hdue⟩ := (s.tickChange s.gridNow).commitAll_zone s.gridNow hy
  have hz : SameZones (((s.tickChange s.gridNow).commitAll s.gridNow).atTick s.gridNow) (s.tickSteps s.gridNow) := by
    unfold State.tickSteps
    rw [if_pos (by simp [ht, ha])]
    dsimp only
    rw [if_pos h]
    exact .ite (State.swapNow_zones _ _) (State.tickStart_zones _ _)
  generalize s.tickSteps s.gridNow = t at hz ⊢
  have hs : t.zstage y = {} := by rw [State.zstage, hz.zon]; exact hun
  have hat : SameDue y s (((s.tickChange s.gridNow).commitAll s.gridNow).atTick s.gridNow) := (hchange.trans hdue).trans (.of_eq rfl rfl)
  have hall : SameDue y s t := hat.trans ((hz.zone hy).due (hs.trans hun.symm))
  obtain ⟨hband, hmode⟩ := State.due_of_unstaged hs
  exact ⟨hz.tickAt, hs, fun hne j => (hband j).symm.trans (hall.band hne j), hmode.symm.trans hall.mode⟩

/-- Settles O21: each host write by the state that it leaves, the tick commit by what its steps leave of one zone
(`State.tickSteps_zone`). -/
theorem zoneWritesAndTickCommit : Obligations.ZoneWritesAndTickCommit := by
  unfold Obligations.ZoneWritesAndTickCommit
  intro s i z k v y own
  have hv := v.isLt
  refine ⟨fun hm hz => ⟨_, rfl, ?node⟩, fun hm hz => ⟨_, rfl, ?refused⟩, fun hm hy => ⟨_, rfl, ?dark⟩,
    fun hm hy ho => ⟨_, rfl, ?locked⟩, fun hm hy ho => ⟨_, rfl, ?target⟩, fun hm => ⟨_, rfl, ?control⟩, fun hr ht hc ha hf => ⟨_, rfl, ?commit⟩⟩
  case node =>
    rw [State.hostWr_of_may hm, State.nodeZoneWrite_stages s hz]
    exact ⟨rfl, rfl, spGet_spSet_same (fun _ => none) s.zon.node i.toNat (some (v.toNat % 1024))⟩
  case refused =>
    rw [State.hostWr_of_may hm, State.nodeZoneWrite_refused s hz]
    exact ⟨rfl, State.raise_zon .., fun a ha => State.raise_rd _ _ _ _ ha, State.raise_journalled _ _ _ _⟩
  case dark =>
    rw [State.hostWr_of_may hm, show z.toNat = 511 from hy]
    exact s.zonTgtWrite_dark _ _
  case locked =>
    rw [State.hostWr_of_may hm]
    exact s.zonTgtWrite_locked _ _ hy (by simp [State.hostOwns_eq, y, ho])
  case target =>
    have hown : s.hostOwns y = true := by simp [State.hostOwns_eq, ho]
    have hs (x : Nat) := s.zonTgtWrite_zstage k.toNat v.toNat x hy hown
    have hy' := (hs y).trans (if_pos rfl)
    rw [State.hostWr_of_may hm]
    refine ⟨?_, ?_, fun x hx => (hs x).trans (if_neg hx), by rw [hy']; rfl, fun j => ?_⟩
    · rw [s.zonTgtWrite_owned _ _ hy hown]
      exact State.answer_status _ _
    · rw [s.zonTgtWrite_owned _ _ hy hown, State.answer_mem, State.setZstage_mem]
    · rw [hy']
      exact ZStage.withPair_get _ _ _ j
  case control =>
    rw [State.hostWr_of_may hm]
    obtain ⟨hstatus, howner, hfcap⟩ := s.zonCtlWrite_gives z.toNat v.toNat hv
    refine ⟨hstatus, howner, hfcap, s.zonCtlWrite_mode _ _, s.zonCtlWrite_react _ _, ?_, ?_⟩
    · rw [State.zonCtlWrite_zstage, State.ctlStage_mode, State.hostOwns_eq]
      have hown : bit v.toNat 1 = own := rfl
      have hmode : bit v.toNat 0 = decide (v.toNat % 2 = 1) := by rw [bit, pow_zero, Nat.div_one]; rfl
      simp only [hown, hmode, decide_eq_true_eq, y]
    · intro hne j
      rw [State.zonCtlWrite_zstage]
      exact State.ctlStage_bands hne j
  case commit =>
    have htick : s.isTick s.gridNow = true := beq_iff_eq.mpr ht
    have hdue : s.commitDue = true := by
      have hlast : (s.pen.lastCommit != some s.gridNow) = true := bne_iff_ne.mpr hc
      have hframe : (s.lastFrame != some s.gridNow) = true := bne_iff_ne.mpr hf
      rw [State.commitDue, hr, htick, hlast, hframe]
      rfl
    rw [if_pos hdue]
    obtain ⟨hlast, hnode⟩ := State.tickSteps_committed hdue htick ha
    obtain ⟨hat, hun, hband, hmode⟩ := State.tickSteps_zone z.isLt hdue htick ha
    exact ⟨hlast, hnode, hat.trans hlast.symm, fun j hy => hband hy j, hmode, hun⟩

end Sys2Proof.Machine

/-!
# CURVE (O8)

The points of a curve are those of its words up to the last one, so that what CURVE gives is a matter of where x lies among their X: beyond
an end the value of that end, else the value between two neighbours.
-/

namespace Sys2Proof.Machine

/-! ## The points of a curve (R76) -/

/-- The points `i` to `i + k` of a curve. -/
def curveRun (X Y : Nat → Nat) (i k : Nat) : List (Nat × Nat) := (List.range' i (k + 1)).map fun j => (X j, Y j)

theorem curveRun_length (X Y : Nat → Nat) (i k : Nat) : (curveRun X Y i k).length = k + 1 := by simp [curveRun]

/-- R76: the points of a curve end before the first X that is not greater than its predecessor's. -/
theorem curvePoints_eq_run (w : Nat → Word) {i k n : Nat} (hk : k < n)
    (hup : ∀ j, i ≤ j → j < i + k → getBits (w j) 16 16 < getBits (w (j + 1)) 16 16)
    (hend : k + 1 = n ∨ getBits (w (i + k + 1)) 16 16 ≤ getBits (w (i + k)) 16 16) :
    curvePoints ((List.range' i n).map w) = curveRun (fun j => getBits (w j) 16 16) (fun j => getBits (w j) 0 16) i k := by
  induction k generalizing i n with
  | zero =>
    obtain ⟨m, rfl⟩ : ∃ m, n = m + 1 := ⟨n - 1, by omega⟩
    cases m with
    | zero => rfl
    | succ m => exact if_pos (hend.resolve_left (by omega))
  | succ k ih =>
    obtain ⟨m, rfl⟩ : ∃ m, n = m + 2 := ⟨n - 2, by omega⟩
    have hlt := hup i (Nat.le_refl i) (by omega)
    have hrest := ih (i := i + 1) (n := m + 1) (by omega) (fun j hj hjk => hup j (by omega) (by omega)) (by
      rw [show i + 1 + k = i + (k + 1) by omega]
      exact hend.imp_left (by omega))
    exact (if_neg (Nat.not_le.mpr hlt)).trans (congrArg _ hrest)

/-- The words read in order from an address. -/
theorem State.rds_eq (s : State) (a n : Nat) : s.rds a n = (List.range' 0 n).map fun j => s.rd (a + 4 * j) := by
  induction n generalizing a with
  | zero => rfl
  | succ n ih =>
    rw [State.rds, ih, List.range'_succ, List.map_cons, List.range'_eq_map_range (s := 0 + 1), List.range'_eq_map_range (s := 0),
      List.map_map, List.map_map]
    refine congrArg _ (List.map_congr_left fun j _ => congrArg s.rd ?_)
    dsimp only [Function.comp_apply]
    omega

/-- R76: X rises along the whole curve. -/
theorem curve_rises {X : Nat → Nat} {k : Nat} (h : ∀ i, i < k → X i < X (i + 1)) {i j : Nat} (hij : i < j) (hj : j ≤ k) : X i < X j := by
  induction j, hij using Nat.le_induction with
  | base => exact h i (by omega)
  | succ j _ ih => exact (ih (by omega)).trans (h j (by omega))

/-! ## The value at x (R116) -/

/-- R116: the value from `y` on, `p` / `q` further, ties toward `y`. -/
def curveStep (y : Nat) (p : Int) (q : Nat) : Nat :=
  if p < 0 then y - (2 * p.natAbs + q - 1) / (2 * q) else y + (2 * p.natAbs + q - 1) / (2 * q)

theorem toNat_add_roundTiesToZero (y : Nat) (p : Int) (q : Nat) : ((y : Int) + roundTiesToZero p q).toNat = curveStep y p q := by
  unfold roundTiesToZero curveStep
  dsimp only
  generalize (2 * p.natAbs + q - 1) / (2 * q) = m
  split
  · omega
  · omega

/-- The value between two points lies below 2^32. -/
theorem curveStep_lt {y : Nat} {p : Int} {q : Nat} (hy : y < 65536) (hp : p.natAbs ≤ 65536 * q) : curveStep y p q < 2 ^ 32 := by
  have hstep : (2 * p.natAbs + q - 1) / (2 * q) ≤ 65537 := Nat.div_le_of_le_mul (by omega)
  unfold curveStep
  generalize (2 * p.natAbs + q - 1) / (2 * q) = m at hstep
  split
  · omega
  · omega

/-- CURVE goes through the points from the left. -/
theorem curveIn_run (X Y : Nat → Nat) (x i k : Nat) : curveIn x (curveRun X Y i (k + 1)) =
    if x < X (i + 1) then (curveStep (Y i) (((Y (i + 1) : Int) - Y i) * (x - X i : Nat)) (X (i + 1) - X i), false)
    else if x = X (i + 1) ∧ k = 0 then (Y (i + 1), false) else curveIn x (curveRun X Y (i + 1) k) := by
  rw [← toNat_add_roundTiesToZero]
  cases k with
  | zero => simp [curveRun, curveIn, List.range'_succ]
  | succ k => simp [curveRun, curveIn, List.range'_succ]

/-- From the last point on, CURVE gives its value. -/
theorem curveIn_above (X Y : Nat → Nat) {x i k : Nat} (hi : X i < x) (hup : ∀ j, i < j → j < i + k → X j < x) (hx : X (i + k) ≤ x) :
    curveIn x (curveRun X Y i k) = (Y (i + k), decide (x ≠ X (i + k))) := by
  induction k generalizing i with
  | zero =>
    have hne : x ≠ X i := by omega
    exact congrArg (Prod.mk _) (decide_eq_true hne).symm
  | succ k ih =>
    have hidx : i + 1 + k = i + (k + 1) := by omega
    have hle : X (i + 1) ≤ x := by
      cases k with
      | zero => exact hx
      | succ k => exact (hup (i + 1) (by omega) (by omega)).le
    rw [curveIn_run, if_neg (Nat.not_lt.mpr hle)]
    split
    · next hlast =>
      obtain ⟨heq, rfl⟩ := hlast
      simp [heq]
    · next hlast =>
      have hlt : X (i + 1) < x := by
        cases k with
        | zero => exact lt_of_le_of_ne hle fun h => hlast ⟨h.symm, rfl⟩
        | succ k => exact hup (i + 1) (by omega) (by omega)
      rw [ih hlt (fun j hj hjk => hup j (by omega) (by omega)) (by rwa [hidx]), hidx]

/-- Between two points CURVE gives the value between theirs. -/
theorem curveIn_between (X Y : Nat → Nat) {x i j k : Nat} (hij : i ≤ j) (hjk : j < i + k) (hle : ∀ m, i < m → m ≤ j → X m ≤ x)
    (hx : x < X (j + 1)) :
    curveIn x (curveRun X Y i k) = (curveStep (Y j) (((Y (j + 1) : Int) - Y j) * (x - X j : Nat)) (X (j + 1) - X j), false) := by
  induction k generalizing i with
  | zero => omega
  | succ k ih =>
    rw [curveIn_run]
    obtain rfl | hlt : i = j ∨ i < j := by omega
    · exact if_pos hx
    · rw [if_neg (Nat.not_lt.mpr (hle (i + 1) (by omega) hlt)), if_neg (by omega)]
      exact ih hlt (by omega) fun m hm hmj => hle m (by omega) hmj

theorem curveAt_run (X Y : Nat → Nat) (x k : Nat) : curveAt x (curveRun X Y 0 k) =
    if x ≤ X 0 then (Y 0, decide (x ≠ X 0)) else curveIn x (curveRun X Y 0 k) := by
  have hbne : (x != X 0) = decide (x ≠ X 0) := by simp [bne, Bool.beq_eq_decide_eq]
  cases k with
  | zero => simp [curveRun, curveAt, curveIn, hbne]
  | succ k => simp [curveRun, curveAt, List.range'_succ, hbne]

/-! ## The instruction -/

theorem curveAddr_add (k c i : Nat) : curveAddr k c 0 + 4 * i = curveAddr k c i := by unfold curveAddr; omega

/-- R78: CURVE reads its points and the word that ends them; with good parity in all of them it goes on. -/
theorem bodyCurve_ok {s : State} {n : Nat} {d a : BitVec 4} {c : BitVec 8} {pts : List (Nat × Nat)}
    (hpts : curvePoints (s.curveWords c.toNat) = pts)
    (hpar : ∀ i, i ≤ pts.length → i < 64 → s.parBad (curveAddr (s.get F.PEN_STAT_ACTIVE) c.toNat i) = false) :
    bodyCurve n d a c s = bodyOn n (fun b =>
      let r := curveAt (min (b.rg a).toNat 65535) pts
      ({ b.setZ (BitVec.ofNat 32 r.1) with fc := r.2 } : Bobbin).wg d (BitVec.ofNat 32 r.1)) s := by
  have hgood : (List.range (min 64 (pts.length + 1))).find?
      (fun i => s.parBad (curveAddr (s.get F.PEN_STAT_ACTIVE) c.toNat 0 + 4 * i)) = none := by
    refine List.find?_eq_none.mpr fun i hi => ?_
    rw [List.mem_range] at hi
    rw [curveAddr_add, hpar i (by omega) (by omega)]
    exact Bool.false_ne_true
  unfold bodyCurve
  dsimp only
  rw [hpts, hgood]

theorem ofNat_beq_zero {y : Nat} (hy : y < 2 ^ 32) : (BitVec.ofNat 32 y == 0#32) = decide (y = 0) := by
  rw [Bool.beq_eq_decide_eq, decide_eq_decide, BitVec.toNat_eq, BitVec.toNat_ofNat, Nat.mod_eq_of_lt hy]
  rfl

/-- R116: CURVE with the value `y` and C as its points give them. -/
theorem curve_gives {s : State} {n : BitVec 5} {d a : BitVec 4} {c : BitVec 8} {pts : List (Nat × Nat)} {y : Nat} {cf : Bool}
    (hr : Ready s n) (hpts : curvePoints (s.curveWords c.toNat) = pts)
    (hpar : ∀ i, i ≤ pts.length → i < 64 → s.parBad (curveAddr (s.get F.PEN_STAT_ACTIVE) c.toNat i) = false)
    (hat : curveAt (min ((s.bob n.toNat).rg a).toNat 65535) pts = (y, cf)) (hy : y < 2 ^ 32) :
    Gives (.curve n d a c) s
      (Scalar s n 4 d (BitVec.ofNat 32 y) (decide (y = 0), (s.bob n.toNat).fn, cf, (s.bob n.toNat).fv)) := by
  refine ⟨_, rfl, issue_scalar_body hr _ 4 d _ _ _
    { (s.bob n.toNat).setZ (BitVec.ofNat 32 y) with fc := cf } ?_ rfl ?_⟩
  · rw [bodyCurve_ok hpts hpar, bodyOn]
    dsimp only
    rw [hat]
  · exact congrArg (fun z => (z, (s.bob n.toNat).fn, cf, (s.bob n.toNat).fv)) (ofNat_beq_zero hy)

/-- Settles O8: the curve's points are the run of its words to the last one (`curvePoints_eq_run`), and x lies below it, above it or between
two of them. -/
theorem bobbinCurveInterpolates : Obligations.BobbinCurveInterpolates := by
  unfold Obligations.BobbinCurveInterpolates
  intro s n d a c k hr b w X Y x out hk hup hend hpar
  have hY (i : Nat) : Y i < 65536 := getBits_lt _ 0 16
  have hpts : curvePoints (s.curveWords c.toNat) = curveRun X Y 0 k := by
    rw [State.curveWords, State.rds_eq]
    simp only [curveAddr_add]
    exact curvePoints_eq_run w hk (fun j _ hj => hup j (by omega)) (hend.imp (by omega) (by rw [Nat.zero_add]; exact id))
  have hgives {y : Nat} {cf : Bool} (hat : curveAt x (curveRun X Y 0 k) = (y, cf)) (hy : y < 2 ^ 32) : out y cf :=
    curve_gives hr hpts (fun i hi => hpar i (by rwa [curveRun_length] at hi)) hat hy
  have hinner (h : X 0 < x) := (curveAt_run X Y x k).trans (if_neg (Nat.not_le.mpr h))
  refine ⟨fun hx => ?below, fun h0 hx => ?above, fun i hi h0 hle hx => ?between⟩
  case below => exact hgives ((curveAt_run X Y x k).trans (if_pos hx)) ((hY 0).trans (by decide))
  case above =>
    refine hgives ((hinner h0).trans ?_) ((hY k).trans (by decide))
    rw [curveIn_above X Y h0 (fun j _ hj => (curve_rises hup (by omega) (Nat.le_refl k)).trans_le hx) (by rwa [Nat.zero_add]), Nat.zero_add]
  case between =>
    intro num den step
    have hnum : num = ((Y (i + 1) : Int) - Y i) * (x - X i : Nat) := by rw [Nat.cast_sub hle]
    refine hgives (y := curveStep (Y i) num den) ((hinner h0).trans ?_) (curveStep_lt (hY i) ?_)
    · rw [hnum]
      refine curveIn_between X Y (Nat.zero_le i) (by omega) (fun m _ hm => ?_) hx
      obtain rfl | hlt : m = i ∨ m < i := by omega
      · exact hle
      · exact (curve_rises hup hlt hi.le).le.trans hle
    · rw [hnum, Int.natAbs_mul, Int.natAbs_natCast]
      refine Nat.mul_le_mul ?_ (by omega)
      have h1 := hY i
      have h2 := hY (i + 1)
      omega

end Sys2Proof.Machine

/-!
# Waits, signals, events and illegal forms of a bobbin (O10, O13, O14)

An instruction with which its bobbin yields is told by `issue_yields`, one that faults by `issue_faulted`.  WAITS that goes on, EMIT and SIG
change more than the registers of their bobbin: what they share is `Retires`.
-/

namespace Sys2Proof.Machine

/-! ## Records of a retiring instruction -/

/-- What leaves the ring and the next number alone journals nothing. -/
theorem JournalsUpTo.of_rd {s t : State} (h : ∀ a, a = Reg.JNL_WPTR ∨ jnlBase ≤ a → t.rd a = s.rd a) : JournalsUpTo 0 s t := by
  have hw : t.wptr = s.wptr := State.get_congr (h _ (.inl rfl))
  have hlt : s.wptr < 4294967296 := s.get_lt _
  exact ⟨⟨0, Nat.le_refl _, by omega⟩, fun m k _ _ => h _ (.inr (by unfold jnlAddr; omega))⟩

theorem State.raiseRated_journals (s : State) (g c u : Nat) (p : List Nat) (k : Nat) : JournalsUpTo 24 s (s.raiseRated g c u p k) := by
  unfold State.raiseRated
  split
  · exact ((JournalsUpTo.of_mem (s := s) (t := s.rateMark c k) rfl).trans (JournalsUpTo.raise _ c u p)).mono (Nat.le_refl 24)
  · exact (JournalsUpTo.of_mem rfl).mono (Nat.zero_le _)

/-- R70: running out of budget journals at most what PEN_BUDGET raises. -/
theorem State.exhaust_journals (s : State) {n : Nat} (hn : n < 32) : JournalsUpTo 24 s (s.exhaust n) := by
  unfold State.exhaust
  refine (JournalsUpTo.trans (m := 0) ?_ (State.raiseRated_journals _ _ _ _ _ _)).mono (Nat.le_refl 24)
  refine .of_rd fun a ha => State.rd_put_ne (s.setBob n _) _ ?_
  simp only [F.PEN_BOVR_OVR, Reg.PEN_BOVR]
  unfold Reg.JNL_WPTR jnlBase at ha
  omega

/-- Retiring an instruction journals at most what PEN_BUDGET raises. -/
theorem State.retire_journals (s : State) {n : Nat} (cost : Nat) (hn : n < 32) : JournalsUpTo 24 s (s.retire n cost) := by
  obtain ⟨u, hu, heq⟩ : ∃ u : State, u.mem = s.mem ∧ (s.retire n cost = (u.exhaust n).groupStep n ∨ s.retire n cost = u.groupStep n) := by
    unfold State.retire
    dsimp only
    split
    · refine ⟨_, ?_, .inl rfl⟩
      rfl
    · refine ⟨_, ?_, .inr rfl⟩
      rfl
  have hstep (t : State) : JournalsUpTo 0 t (t.groupStep n) := .of_rd fun a _ => t.groupStep_rd n a
  obtain heq | heq := heq
  · rw [heq]
    exact (((JournalsUpTo.of_mem hu).trans (u.exhaust_journals hn)).trans (hstep _)).mono (Nat.le_refl 24)
  · rw [heq]
    exact ((JournalsUpTo.of_mem hu).trans (hstep u)).mono (Nat.zero_le 24)

/-- R399: an event raised before its instruction retires stands in the journal at the number that was next. -/
theorem State.journalled_of_raiseEv {s t : State} {e : Ev} {n : Nat} (hs : e.skip = 0) (hn : n ≤ 200)
    (h : JournalsUpTo n (s.raiseEv e) t) : Journalled s t e.code e.unit e.pay :=
  State.journalled_of_raise1 hs (show 23 + n < jnlSize by unfold jnlSize; omega) ((JournalsUpTo.raiseAll 23 _ _).trans h)

/-! ## Instructions that go on to the next one with their registers kept -/

/-- R70, R105, R106: an instruction of bobbin `n` of one cycle that retires, keeps registers and flags and moves on to the next one. -/
structure Retires (s : State) (n : BitVec 5) (t : State) : Prop where
  counted : Counted s n 1 t
  regs : SameRegs s n t
  words : OtherWords s n t
  pc : (t.bob n.toNat).pc = (s.bob n.toNat).pc + 1
  st : (t.bob n.toNat).st = if (s.bob n.toNat).left = 1 then .preempted else .runnable

/-- A body that leaves, beside its own bobbin's pending bits, bobbins and words of a record for others to tell. -/
theorem issue_retires {s u : State} {n : BitVec 5} {p : BitVec 16} (h : Ready s n) (w : Word) (body : State → Body) (hb : body s = .ok u)
    (hbob : u.bob n.toNat = { s.bob n.toNat with pend := p, pc := (s.bob n.toNat).pc + 1 }) (hcyc : u.pen.cyc = s.pen.cyc)
    (hrd : ∀ a, recordAddr a = false → u.rd a = s.rd a) :
    Retires s n (s.issue n.toNat w 1 body) ∧ ((s.issue n.toNat w 1 body).bob n.toNat).pend = p ∧
      ∀ m, m ≠ n.toNat → (s.issue n.toNat w 1 body).bob m = u.bob m := by
  rw [issue_ok h hb]
  obtain ⟨⟨g, v, hown⟩, hothers, -, hc⟩ := u.retire_spec n.toNat 1
  rw [hbob] at hown
  have hleft := h.left
  refine ⟨⟨⟨by rw [hown]; rfl, by rw [hown]; rfl, by rw [hc, hcyc]⟩, ⟨fun r => by rw [hown]; rfl, fun r => by rw [hown]; rfl, by rw [hown]; rfl⟩,
    fun a ha hrec => (u.retire_rd _ _ ha hrec).trans (hrd a hrec), by rw [hown]; rfl, ?_⟩, by rw [hown]; rfl, hothers⟩
  rw [hown]
  simp only [Bobbin.account, h.runnable, true_and]
  by_cases hone : (s.bob n.toNat).left = 1
  · rw [if_pos hone, if_pos (by omega)]
  · rw [if_neg hone, if_neg (by omega)]

/-! ## Waits (R72, R116) -/

theorem bodyOn_eq {s : State} {n : Nat} {f : Bobbin → Bobbin} {b : Bobbin} (h : f (s.bob n) = b) :
    bodyOn n f s = .ok (s.setBob n b.next) := by rw [bodyOn, h]

/-- R72: a WAITK of 0 acts as 1. -/
theorem Bobbin.waitK'_count (x : Bobbin) (a : BitVec 4) (i : BitVec 18) (tick : Option Nat) :
    (x.waitK' a i tick).waitK = max (((x.rg a).toNat + i.toNat) % 2 ^ 32) 1 := by
  have hsum : (x.rg a + i.zeroExtend 32).toNat = ((x.rg a).toNat + i.toNat) % 2 ^ 32 := by
    have hi := i.isLt
    simp only [BitVec.toNat_add, BitVec.toNat_setWidth]
    omega
  have hzero : x.rg a + i.zeroExtend 32 = 0 ↔ ((x.rg a).toNat + i.toNat) % 2 ^ 32 = 0 := by rw [BitVec.toNat_eq, hsum]; rfl
  unfold Bobbin.waitK'
  dsimp only
  simp only [hzero, hsum]
  split
  · omega
  · omega

/-- Settles O10: each wait by its branch; the bobbin that yields by `issue_yields`, WAITS that goes on by `issue_retires`. -/
theorem bobbinWaitsAndHalt : Obligations.BobbinWaitsAndHalt := by
  unfold Obligations.BobbinWaitsAndHalt
  intro s n a b i m hr v st tgt k
  refine ⟨fun hlt => ⟨_, rfl, ?later⟩, fun hle => ⟨_, rfl, ?past⟩, ⟨_, rfl, ?ticks⟩, fun hm hp => ⟨_, rfl, ?signal⟩,
    fun hm hp => ⟨_, rfl, ?signalled⟩, ⟨_, rfl, ?halt⟩⟩
  case later =>
    have hbody : v.waitT' st a b = { v with st := .waitt, waitT := tgt } := if_pos hlt
    obtain ⟨hy, g, w, hbob⟩ := issue_yields hr (bobbinWord (.waitt n a b)) (bodyOn n.toNat fun x => x.waitT' s.pen.snap.start a b)
      (Bobbin.next { v with st := .waitt, waitT := tgt }) .waitt (bodyOn_eq hbody) rfl (by decide) rfl
    exact ⟨hy, by rw [hbob]; rfl⟩
  case past =>
    have hbody : v.waitT' st a b = v := if_neg (Nat.not_lt.mpr hle)
    exact (issue_idle hr _ 1 _ (bodyOn_eq hbody)).1
  case ticks =>
    obtain ⟨hy, g, w, hbob⟩ := issue_yields hr (bobbinWord (.waitk n a i)) (bodyOn n.toNat fun x => x.waitK' a i s.pen.tickAt)
      (v.waitK' a i s.pen.tickAt).next .waitk rfl rfl (by decide) rfl
    exact ⟨hy, by rw [hbob]; exact v.waitK'_count a i s.pen.tickAt⟩
  case signal =>
    have hbody : bodyWaits n.toNat m s = .ok (s.setBob n.toNat (Bobbin.next { v with st := .waits, wmask := m })) := by
      rw [bodyWaits, if_neg hm, bodyOn, if_neg (not_not.mpr hp)]
    obtain ⟨hy, g, w, hbob⟩ := issue_yields hr (bobbinWord (.waits n m)) _ _ .waits hbody rfl (by decide) rfl
    exact ⟨hy, by rw [hbob]; rfl, by rw [hbob]; rfl⟩
  case signalled =>
    have hbody : bodyWaits n.toNat m s = .ok (s.setBob n.toNat (Bobbin.next { v with pend := v.pend &&& ~~~m })) := by
      rw [bodyWaits, if_neg hm, bodyOn, if_pos hp]
    obtain ⟨h, hpend, hothers⟩ := issue_retires hr (bobbinWord (.waits n m)) _ hbody (s.bob_setBob_same _ _) rfl fun _ _ => rfl
    exact ⟨h.counted, h.regs, h.words, h.pc, hpend, h.st, fun j hj => (hothers j hj).trans (s.bob_setBob_ne _ hj)⟩
  case halt => exact (issue_yields hr _ _ _ .halted rfl rfl (by decide) rfl).1

/-! ## Events and signals (R72, R124) -/

/-- R124: an instruction whose body raises an event and goes on to the next one. -/
theorem issue_emits {s : State} {n : BitVec 5} {e : Ev} (h : Ready s n) (w : Word) (body : State → Body)
    (hb : body s = bodyOn n.toNat (fun b => b) (s.raiseEv e)) (hs : e.skip = 0) :
    Retires s n (s.issue n.toNat w 1 body) ∧ (∀ m, m ≠ n.toNat → (s.issue n.toNat w 1 body).bob m = s.bob m) ∧
      Journalled s (s.issue n.toNat w 1 body) e.code e.unit e.pay := by
  have hrec := s.raiseEv_records e
  have hnext : ((s.raiseEv e).bob n.toNat).next = { s.bob n.toNat with pc := (s.bob n.toNat).pc + 1 } := by rw [hrec.bob]; rfl
  obtain ⟨hretires, -, hothers⟩ := issue_retires h w body hb ((State.bob_setBob_same _ _ _).trans hnext) (congrArg Pen.cyc hrec.pen_eq)
    hrec.rd
  refine ⟨hretires, fun m hm => ?_, ?_⟩
  · rw [hothers m hm, State.bob_setBob_ne _ _ hm, hrec.bob]
  · have hset : JournalsUpTo 0 (s.raiseEv e) ((s.raiseEv e).setBob n.toNat ((s.raiseEv e).bob n.toNat).next) := .of_mem rfl
    rw [issue_ok h hb]
    exact State.journalled_of_raiseEv hs (by decide) (hset.trans (State.retire_journals _ 1 n.isLt))

/-- Settles O13: EMIT by what raising its event leaves (`issue_emits`), SIG by the pending bits its body sets. -/
theorem bobbinEmitAndSig : Obligations.BobbinEmitAndSig := by
  unfold Obligations.BobbinEmitAndSig
  intro s n pr a b c m hr v k
  refine ⟨⟨_, rfl, ?emit⟩, ⟨_, rfl, ?sig⟩⟩
  case emit =>
    obtain ⟨h, hothers, hevent⟩ := issue_emits hr (bobbinWord (.emit n pr a b c)) (bodyEmit n.toNat pr a b c) rfl rfl
    exact ⟨h.counted, h.regs, h.words, h.pc, hothers, hevent⟩
  case sig =>
    let u := s.setBob k { s.bob k with pend := (s.bob k).pend ||| m }
    have hpend (j : Nat) : (u.bob j).pend = if j = k then (s.bob k).pend ||| m else (s.bob j).pend := by
      rw [s.bob_setBob]
      split
      · rfl
      · rfl
    have hst (j : Nat) : (u.bob j).st = (s.bob j).st := by
      rw [s.bob_setBob]
      split
      · next h => rw [h]
      · rfl
    have hnext : (u.bob n.toNat).next = { v with pend := (u.bob n.toNat).pend, pc := v.pc + 1 } := by
      rw [s.bob_setBob]
      split
      · next h => rw [← h]; rfl
      · rfl
    have hbody : bodySig n.toNat a m s = .ok (u.setBob n.toNat (u.bob n.toNat).next) := rfl
    obtain ⟨h, hown, hothers⟩ := issue_retires hr (bobbinWord (.sig n a m)) _ hbody ((State.bob_setBob_same _ _ _).trans hnext) rfl
      fun _ _ => rfl
    have hall (j : Nat) : ((s.issue n.toNat (bobbinWord (.sig n a m)) 1 (bodySig n.toNat a m)).bob j).pend = (u.bob j).pend := by
      by_cases hj : j = n.toNat
      · rw [hj, hown]
      · rw [hothers j hj, State.bob_setBob_ne _ _ hj]
    refine ⟨h.counted, h.regs, h.words, h.pc, ?_, fun j hj => ?_, fun j hj => ?_⟩
    · rw [hall, hpend, if_pos rfl]
    · rw [hall, hpend, if_neg hj]
    · rw [hothers j hj, State.bob_setBob_ne _ _ hj, hst]

/-! ## Illegal forms (R81, R99) -/

/-- R99: an opcode from 0x30 is no instruction's. -/
theorem decodeBobbin_of_opcode (n : BitVec 5) {w : Word} (h : 0x30 ≤ w.toNat / 2 ^ 26) : decodeBobbin n w = .illegalInstruction n w := by
  have hop : 0x30 ≤ (fieldOf w 26 6).toNat := by
    have hw := w.isLt
    simp only [fieldOf, BitVec.extractLsb'_toNat, Nat.shiftRight_eq_div_pow]
    omega
  unfold decodeBobbin
  dsimp only
  obtain ⟨j, hj⟩ := Nat.exists_eq_add_of_le' hop
  -- none of the arms 0x00 to 0x2F
  rw [hj]
  rfl

theorem Bobbin.cond_of_illegal (x : Bobbin) {c : BitVec 4} (h : 8 < c.toNat) : x.cond c = none := by
  unfold Bobbin.cond
  obtain ⟨j, hj⟩ := Nat.exists_eq_add_of_le' (show 9 ≤ c.toNat from h)
  rw [hj]
  rfl

/-- Settles O14: each illegal form has a body that faults, by its first branch. -/
theorem bobbinIllegalFormsFault : Obligations.BobbinIllegalFormsFault := by
  unfold Obligations.BobbinIllegalFormsFault
  intro s n d a o i q w hr stops
  have faults {cost : Nat} {w : Word} {body : State → Body} (h : body s = .error (.fault 1)) :
      Faulted s n 1 w (s.issue n.toNat w cost body) := issue_faulted hr w cost 1 (by decide) body h
  refine ⟨fun hw => ⟨_, rfl, ?word⟩, fun hw => ⟨_, rfl, if_neg hw⟩, fun hd => ⟨_, rfl, faults ?br⟩, ⟨_, rfl, faults rfl⟩,
    fun hi => ⟨_, rfl, faults (if_pos hi)⟩, fun hi => ⟨_, rfl, faults (if_pos hi)⟩, ⟨_, rfl, faults rfl⟩,
    fun hq => ⟨_, rfl, faults (if_pos hq)⟩, ⟨_, rfl, faults rfl⟩, fun hq => ⟨_, rfl, faults (if_pos hq)⟩⟩
  case word =>
    rw [if_pos (hw.elim (decodeBobbin_of_opcode n) id)]
    exact faults rfl
  case br =>
    unfold bodyBranch
    rw [Bobbin.cond_of_illegal _ hd]

end Sys2Proof.Machine

/-!
# Host writes of the pattern engine (O15, O16)

Each write is told by the state that it leaves; the five staging buffers share two lemmas.  A tick change waits for a commit of both ticks.
-/

namespace Sys2Proof.Machine

/-! ## Fields and records -/

theorem State.flag_eq_decide (s : State) (f : Fld) : s.flag f = decide (s.get f = 1) := rfl

/-- A flag that is put reads as its bit. -/
theorem State.get_setFlag_same (s : State) (f : Fld) (b : Bool) (hf : f.ok = true) (hw : f.width = 1) :
    (s.setFlag f b).get f = if b then 1 else 0 := by
  rw [State.setFlag, State.get_put_same _ _ _ hf, hw]
  cases b
  · rfl
  · rfl

/-- An event raised after a register of the engine is put is the next record all the same. -/
theorem Journalled.of_put {s t : State} {f : Fld} {v c u : Nat} {p : List Nat} (h : Journalled (s.put f v) t c u p)
    (hrole : f.addr ≠ Reg.GLB_ROLE := by decide) (hwptr : f.addr ≠ Reg.JNL_WPTR := by decide) : Journalled s t c u p := by
  refine h.congr ?_ (State.get_congr (s.rd_put_ne v hwptr.symm)).symm fun _ _ => rfl
  rw [State.acts, State.acts, State.get_congr (f := F.GLB_ROLE_ROLE) (s.rd_put_ne v hrole.symm)]

/-- In `t` a flag of state `s` is put to `b`, and event `c` is journalled with it. -/
structure FlagRaised (s t : State) (f : Fld) (b : Bool) (c : Nat) (p : List Nat) : Prop where
  flag : t.get f = if b then 1 else 0
  other : ∀ g : Fld, recordAddr g.addr = false → f.disj g = true → t.get g = s.get g
  pen : t.pen = s.pen
  event : Journalled s t c 0 p

theorem State.setFlag_raise (s : State) {f : Fld} (b : Bool) (c : Nat) (p : List Nat) (hf : f.ok = true) (hw : f.width = 1)
    (hrec : recordAddr f.addr = false) (hrole : f.addr ≠ Reg.GLB_ROLE) (hwptr : f.addr ≠ Reg.JNL_WPTR) :
    FlagRaised s ((s.setFlag f b).raise c 0 p) f b c p :=
  have k := State.raise_records (s.setFlag f b) c 0 p
  ⟨(k.get hrec).trans (s.get_setFlag_same f b hf hw), fun _ hg hd => (k.get hg).trans (s.get_setFlag_disj b hd), k.pen_eq,
    (State.raise_journalled _ c 0 p).of_put hrole hwptr⟩

theorem FlagRaised.answer {s t : State} {f : Fld} {b : Bool} {c : Nat} {p : List Nat} (h : FlagRaised s t f b c p) (x : Nat) :
    FlagRaised s (t.answer x) f b c p := ⟨h.flag, h.other, h.pen, h.event⟩

theorem FlagRaised.rdata {s t : State} {f : Fld} {b : Bool} {c : Nat} {p : List Nat} (h : FlagRaised s t f b c p) (r : List Word) :
    FlagRaised s { t with rdata := r } f b c p := ⟨h.flag, h.other, h.pen, h.event⟩

/-! ## Staging (R87) -/

/-- R87: a staging pointer takes the address rounded down to a word, unless it lies beyond its buffer. -/
theorem State.stagePtr_gives (s : State) {f : Fld} (limit v : Nat) (hf : f.ok = true) :
    (s.stagePtr f limit v).status = 0 ∧ (∀ x, x ≠ f.addr → (s.stagePtr f limit v).rd x = s.rd x) ∧
      (s.stagePtr f limit v).get f = if limit < v % 2 ^ f.width then s.get f else v % 2 ^ f.width / 4 * 4 := by
  have hlt : v % 2 ^ f.width / 4 * 4 < 2 ^ f.width := (Nat.div_mul_le_self _ 4).trans_lt (Nat.mod_lt _ (Nat.two_pow_pos _))
  unfold State.stagePtr
  split
  · exact ⟨rfl, fun _ _ => rfl, rfl⟩
  · exact ⟨rfl, fun x hx => s.rd_put_ne _ hx, (s.get_put_same f _ hf).trans (Nat.mod_eq_of_lt hlt)⟩

theorem State.stageDat_busy (s : State) {f : Fld} {base limit : Nat} {busy : Bool} (v : Word) (h : busy = true ∨ limit ≤ s.get f) :
    s.stageDat f base limit busy v = { s with status := 0x13 } :=
  if_pos (by simpa using h)

/-- R87: a staging data port stores its word at the pointer, which advances. -/
theorem State.stageDat_stores (s : State) {f : Fld} {base limit : Nat} {busy : Bool} (v : Word) (h : ¬ (busy = true ∨ limit ≤ s.get f))
    (hf : f.ok = true) (hbase : f.addr < base) :
    (s.stageDat f base limit busy v).status = 0 ∧ (s.stageDat f base limit busy v).rd (base + s.get f) = v ∧
      (s.stageDat f base limit busy v).get f = (s.get f + 4) % 2 ^ f.width ∧
      ∀ x, x ≠ base + s.get f → x ≠ f.addr → (s.stageDat f base limit busy v).rd x = s.rd x := by
  rw [State.stageDat, if_neg (by simpa using h)]
  exact ⟨rfl, (State.rd_put_ne _ _ (by omega)).trans (s.rd_wr_same _ v), State.get_put_same _ _ _ hf,
    fun x hx hxf => (State.rd_put_ne _ _ hxf).trans (s.rd_wr_ne v hx)⟩

/-! ## Bobbin and window registers (R72, R74, R97) -/

theorem State.penHsig_gives (s : State) (v : Nat) : (s.penHsig v).status = 0 ∧ (s.penHsig v).mem = s.mem ∧
    ((s.penHsig v).bob (v % 32)).hostPend = (s.bob (v % 32)).hostPend ||| BitVec.ofNat 16 (v / 65536) ∧
    ((s.penHsig v).bob (v % 32)).pend = (s.bob (v % 32)).pend ∧ ∀ m, m ≠ v % 32 → (s.penHsig v).bob m = s.bob m := by
  have hbob (m : Nat) : (s.penHsig v).bob m = if m = v % 32 then
      { s.bob (v % 32) with hostPend := (s.bob (v % 32)).hostPend ||| BitVec.ofNat 16 (v / 65536) } else s.bob m := s.bob_setBob _ _ _
  exact ⟨rfl, rfl, by rw [hbob, if_pos rfl], by rw [hbob, if_pos rfl], fun m hm => (hbob m).trans (if_neg hm)⟩

theorem State.penBbudget_taken {s : State} {n v : Nat} (h : v % 2 ^ 24 ≠ 0) :
    s.penBbudget n v = (s.put (F.PEN_BBUDGET_BUDGET n) v).answer stOk := if_neg h

theorem State.penBwin_ignored {s : State} {n v : Nat} (h : v / 65536 % 1024 = 0 ∨ 512 < v % 1024 + v / 65536 % 1024) :
    s.penBwin n v = s.answer stOk := congrArg (State.answer · stOk) (if_pos h)

theorem State.penBwin_bobs (s : State) (n v : Nat) : (s.penBwin n v).bobs = s.bobs := by
  unfold State.penBwin
  dsimp only
  split
  · rfl
  · rfl

theorem State.penBwin_taken {s : State} {n v : Nat} (h : ¬ (v / 65536 % 1024 = 0 ∨ 512 < v % 1024 + v / 65536 % 1024)) :
    (s.penBwin n v).get (F.PEN_BWIN_BASE n) = v % 1024 ∧ (s.penBwin n v).get (F.PEN_BWIN_SIZE n) = v / 65536 % 1024 := by
  have heq : s.penBwin n v = ((s.put (F.PEN_BWIN_BASE n) (v % 1024)).put (F.PEN_BWIN_SIZE n) (v / 65536 % 1024)).answer stOk :=
    congrArg (State.answer · stOk) (if_neg h)
  have hdisj : (F.PEN_BWIN_SIZE n).disj (F.PEN_BWIN_BASE n) = true := by simp [Fld.disj, F.PEN_BWIN_BASE, F.PEN_BWIN_SIZE]
  rw [heq, State.answer_get, State.answer_get, State.get_put_disj _ _ hdisj, State.get_put_same _ _ _ rfl, State.get_put_same _ _ _ rfl]
  exact ⟨Nat.mod_mod v (2 ^ 10), Nat.mod_mod (v / 65536) (2 ^ 10)⟩

/-! ## Data memory (R75, R80) -/

theorem State.parBad_parFix (s : State) (a x : Nat) : (s.parFix a).parBad x = (s.parBad x && x != a) := by
  rw [Bool.eq_iff_iff]
  simp [State.parBad, State.parFix]

/-- R80: a data memory write changes its word and rewrites its parity. -/
theorem State.penDataWrite_gives (s : State) {a : Nat} (v : Word) (ha : a % 4 = 0) : (s.penDataWrite a v).status = 0 ∧
    (s.penDataWrite a v).rd (dataBase + a) = v ∧ (s.penDataWrite a v).parBad (dataBase + a) = false ∧
    ∀ x, x ≠ dataBase + a → (s.penDataWrite a v).rd x = s.rd x ∧ (s.penDataWrite a v).parBad x = s.parBad x := by
  rw [State.penDataWrite, if_neg (not_not.mpr ha)]
  have hpar := (s.wr (dataBase + a) v).parBad_parFix (dataBase + a)
  refine ⟨rfl, s.rd_wr_same _ v, (hpar _).trans (by rw [bne_self_eq_false, Bool.and_false]), fun x hx => ⟨s.rd_wr_ne v hx, ?_⟩⟩
  exact (hpar x).trans (by rw [bne_iff_ne.mpr hx, Bool.and_true]; rfl)

/-- R80: a word with bad parity is read as it is, and reported. -/
theorem State.penDataRead_gives (s : State) {a : Nat} (ha : a % 4 = 0) : (s.penDataRead a).status = 0 ∧
    (s.penDataRead a).rdata = [s.rd (dataBase + a)] ∧
    (s.parBad (dataBase + a) = true → (s.penDataRead a).get F.PEN_STAT_DPAR = 1 ∧ Journalled s (s.penDataRead a) 0x109 0 [a]) := by
  rw [State.penDataRead, if_neg (not_not.mpr ha)]
  refine ⟨rfl, rfl, fun hp => ?_⟩
  have hput : FlagRaised s ((s.setFlag F.PEN_STAT_DPAR true).raise 0x109 0 [a]) F.PEN_STAT_DPAR true 0x109 [a] :=
    s.setFlag_raise true 0x109 [a] (by decide) rfl (by decide) (by decide) (by decide)
  have hans := (hput.answer stOk).rdata [s.rd (dataBase + a)]
  dsimp only
  rw [if_pos hp]
  exact ⟨hans.flag, hans.event⟩

/-- Settles O15: each write that a module takes by the state that it leaves. -/
theorem patternHostWritesAndStaging : Obligations.PatternHostWritesAndStaging := by
  unfold Obligations.PatternHostWritesAndStaging
  refine ⟨fun s n v a => ⟨fun hm => ⟨_, rfl, ?ctl⟩, fun hm => ⟨_, rfl, ?hsig⟩, fun hm => ⟨_, rfl, ?budget⟩, fun hm => ⟨_, rfl, ?win⟩,
    fun hm => ⟨_, rfl, ?write⟩, fun hr ha => ⟨_, rfl, ?read⟩⟩, ?staging⟩
  case ctl =>
    rw [State.hostWr_of_may hm]
    refine ⟨(s.get_put_same F.PEN_CTL_RUN _ (by decide)).trans ?_, rfl, fun x hx => s.rd_put_ne _ hx, rfl⟩
    simp [getBits, F.PEN_CTL_RUN]
  case hsig =>
    rw [State.hostWr_of_may hm]
    exact s.penHsig_gives v.toNat
  case budget =>
    rw [State.hostWr_of_may hm]
    split
    · next h => exact if_pos h
    · next h =>
      rw [State.penBbudget_taken h]
      exact ⟨rfl, s.get_put_same _ _ rfl, rfl⟩
  case win =>
    rw [State.hostWr_of_may hm]
    dsimp only
    split
    · next h =>
      rw [State.penBwin_ignored h]
      exact ⟨rfl, rfl, rfl⟩
    · next h => exact ⟨rfl, State.penBwin_bobs _ _ _, State.penBwin_taken h⟩
  case write =>
    rw [State.hostWr_of_may hm]
    split
    · next ha => exact if_pos ha
    · next ha => exact s.penDataWrite_gives v (not_not.mp ha)
  case read =>
    rw [if_pos hr]
    exact s.penDataRead_gives ha
  case staging =>
    intro s v ptr dat
    have hptr {c : Instr} {a limit : Nat} {f : Fld}
        (hc : exec c s = .next (s.hostWr a v.toNat fun s => s.stagePtr f limit v.toNat)) (hf : f.ok = true) : ptr c a f limit :=
      fun hm => ⟨_, hc, by rw [State.hostWr_of_may hm]; exact s.stagePtr_gives limit v.toNat hf⟩
    have hdat {c : Instr} {a base limit : Nat} {f : Fld} {busy : Bool}
        (hc : exec c s = .next (s.hostWr a v.toNat fun s => s.stageDat f base limit busy v)) (hf : f.ok = true) (hb : f.addr < base) :
        dat c a f base limit busy := fun hm => ⟨_, hc, by
      rw [State.hostWr_of_may hm]
      split
      · next h => exact s.stageDat_busy v h
      · next h => exact s.stageDat_stores v h hf hb⟩
    exact ⟨hptr rfl (by decide), hdat rfl (by decide) (by decide), hptr rfl (by decide), hdat rfl (by decide) (by decide),
      hptr rfl (by decide), hdat rfl (by decide) (by decide), hptr rfl (by decide), hdat rfl (by decide) (by decide),
      hptr rfl (by decide), hdat rfl (by decide) (by decide)⟩

/-! ## The tick (R23, R65, R66) -/

theorem tickFits_iff {t f : Nat} : tickFits t f = true ↔ 0 < t ∧ 1000000 % t = 0 ∧ t % f = 0 := by
  simp [tickFits, and_assoc]

theorem State.penTick_taken {s : State} {v : Nat}
    (h : tickFits (v % 2 ^ 20) s.sea.fperUs = true ∧ tickFits (v % 2 ^ 20) (s.get F.SEA_FPER_US) = true) :
    s.penTick v = (s.put F.PEN_TICK_TICK (v % 2 ^ 20)).answer stOk :=
  if_pos (Bool.and_eq_true_iff.mpr h)

theorem State.penTick_refused {s : State} {v : Nat}
    (h : ¬ (tickFits (v % 2 ^ 20) s.sea.fperUs = true ∧ tickFits (v % 2 ^ 20) (s.get F.SEA_FPER_US) = true)) :
    s.penTick v = ((s.setFlag F.PEN_STAT_TICKREF true).raise 0x108 0).answer stOk :=
  if_neg fun hand => h (Bool.and_eq_true_iff.mp hand)

/-- R65: at a commit of both ticks whose steps are still to be done the new tick takes effect. -/
theorem State.tickChange_due {s : State} {t : Nat} (hold : t % (s.pen.tickUs * 1000) = 0) (hnew : t % (s.get F.PEN_TICK_TICK * 1000) = 0)
    (hat : s.pen.tickAt ≠ some t) : s.tickChange t = { s with pen := { s.pen with tickUs := s.get F.PEN_TICK_TICK } } := by
  unfold State.tickChange
  dsimp only
  by_cases hsame : s.get F.PEN_TICK_TICK = s.pen.tickUs
  · rw [if_neg fun h => h.1 hsame, hsame]
  · exact if_pos ⟨hsame, beq_iff_eq.mpr hold, hnew, hat⟩

/-- R65: at every other instant no tick changes. -/
theorem State.tickChange_not_due {s : State} {t : Nat}
    (h : ¬ (t % (s.pen.tickUs * 1000) = 0 ∧ t % (s.get F.PEN_TICK_TICK * 1000) = 0) ∨ s.pen.tickAt = some t) : s.tickChange t = s := by
  refine if_neg fun hdue => ?_
  obtain ⟨-, hold, hnew, hat⟩ := hdue
  exact h.elim (fun hboth => hboth ⟨beq_iff_eq.mp hold, hnew⟩) hat

/-- R23: a tick that divides the second has a tick start at every whole second. -/
theorem second_is_tick {g t : Nat} (hg : g % 1000000000 = 0) (ht : 1000000 % t = 0) : g % (t * 1000) = 0 :=
  Nat.mod_eq_zero_of_dvd ((Nat.mul_dvd_mul_right (Nat.dvd_of_mod_eq_zero ht) 1000).trans (Nat.dvd_of_mod_eq_zero hg))

/-- Settles O16: the write by its check, the change by whether the instant is a commit of both ticks. -/
theorem tickIsCheckedAndChangesAtACommit : Obligations.TickIsCheckedAndChangesAtACommit := by
  unfold Obligations.TickIsCheckedAndChangesAtACommit
  intro s v t0 fits
  refine ⟨fun hm hnow hnext => ⟨_, rfl, ?taken⟩, fun hm hnot => ⟨_, rfl, ?refused⟩, fun hr => ⟨fun hboth hat => ⟨_, rfl, ?change⟩,
    fun hnot => ⟨_, rfl, ?stay⟩, fun hg hold hnew => ⟨second_is_tick hg hold, second_is_tick hg hnew⟩⟩⟩
  case taken =>
    rw [State.hostWr_of_may hm, State.penTick_taken ⟨tickFits_iff.mpr hnow, tickFits_iff.mpr hnext⟩]
    exact ⟨rfl, (s.get_put_same F.PEN_TICK_TICK _ (by decide)).trans (Nat.mod_mod _ _), rfl⟩
  case refused =>
    rw [State.hostWr_of_may hm, State.penTick_refused fun h => hnot ⟨tickFits_iff.mp h.1, tickFits_iff.mp h.2⟩]
    have hput : FlagRaised s ((s.setFlag F.PEN_STAT_TICKREF true).raise 0x108 0 []) F.PEN_STAT_TICKREF true 0x108 [] :=
      s.setFlag_raise true 0x108 [] (by decide) rfl (by decide) (by decide) (by decide)
    have hans := hput.answer stOk
    exact ⟨rfl, hans.other F.PEN_TICK_TICK (by decide) (by decide), hans.pen, hans.flag, hans.event⟩
  case change =>
    rw [if_pos hr]
    exact State.tickChange_due hboth.1 hboth.2 hat
  case stay =>
    rw [if_pos hr]
    exact State.tickChange_not_due hnot

end Sys2Proof.Machine

/-!
# The swap of the pattern images (O17)

What a swap decides on and leaves stands in the registers from PEN_STAT on.  The tick commit, the tick start and the load of the image that
surround it leave these alone (`SameEngine`), so that the swap is told by what it puts there itself.
-/

namespace Sys2Proof.Machine

/-! ## SWAP and DISARM (R90, R92) -/

/-- R90 reason 3: the partner differs. -/
theorem State.partnerIdleDiffers_iff (s : State) : s.partnerIdleDiffers = true ↔
    s.activePaired = true ∧ s.xlk.partIdle ≠ (List.range 8).map fun k => s.rd (Reg.PEN_IHASH_I k) := by
  rw [State.partnerIdleDiffers, Bool.and_eq_true, bne_iff_ne]
  rfl

/-- R90: the state of a refused swap. -/
def State.swapRefused (s : State) (r : Nat) : State := ((s.setFlag F.PEN_STAT_SWDONE false).raise 0x106 0 [r]).answer stOk

theorem State.swapRefused_gives {s : State} (r : Nat) (ha : s.get F.PEN_STAT_ARMED = 0) : (s.swapRefused r).status = 0 ∧
    (s.swapRefused r).get F.PEN_STAT_ARMED = 0 ∧ (s.swapRefused r).get F.PEN_STAT_SWDONE = 0 ∧ (s.swapRefused r).pen = s.pen ∧
    Journalled s (s.swapRefused r) 0x106 0 [r] := by
  have hput : FlagRaised s ((s.setFlag F.PEN_STAT_SWDONE false).raise 0x106 0 [r]) F.PEN_STAT_SWDONE false 0x106 [r] :=
    s.setFlag_raise false 0x106 [r] (by decide) rfl (by decide) (by decide) (by decide)
  have hans : FlagRaised s (s.swapRefused r) F.PEN_STAT_SWDONE false 0x106 [r] := hput.answer stOk
  exact ⟨rfl, (hans.other F.PEN_STAT_ARMED (by decide) (by decide)).trans ha, hans.flag, hans.pen, hans.event⟩

/-- R90: the state of a swap that is armed. -/
def State.swapArmed (s : State) : State :=
  ({ s.setFlag F.PEN_STAT_ARMED true with pen := { s.pen with armAt := s.ns } } : State).answer stOk

/-- R90: SWAP looks at the idle image, then at a load of it, then at the partner's. -/
theorem State.penSwap_unarmed {s : State} (ha : s.get F.PEN_STAT_ARMED = 0) : s.penSwap =
    if s.get F.PEN_STAT_IDLEST ≠ 2 then s.swapRefused 1 else if s.lopRunning 2 then s.swapRefused 2
    else if s.partnerIdleDiffers then s.swapRefused 3 else s.swapArmed := by
  have hflag : s.flag F.PEN_STAT_ARMED = false := by rw [State.flag, ha]; rfl
  unfold State.penSwap
  rw [hflag]
  rfl

/-! ## Registers of the engine that a tick leaves alone -/

/-- The registers from PEN_STAT to PEN_IHASH_I7 but PEN_CYC. -/
def engineWord (a : Nat) : Bool := decide (0x10008 ≤ a) && decide (a < 0x10080) && a != Reg.PEN_CYC

theorem engineWord_iff {a : Nat} : engineWord a = true ↔ 0x10008 ≤ a ∧ a < 0x10080 ∧ a ≠ Reg.PEN_CYC := by
  simp only [engineWord, Bool.and_eq_true, decide_eq_true_eq, bne_iff_ne, and_assoc]

theorem engineWord_of_above {a : Nat} (h : 0x10080 ≤ a) : engineWord a = false :=
  Bool.eq_false_iff.mpr fun ha => Nat.not_lt.mpr h (engineWord_iff.mp ha).2.1

/-- State `t` has these registers of state `s`. -/
def SameEngine (s t : State) : Prop := ∀ a, engineWord a = true → t.rd a = s.rd a

namespace SameEngine

variable {old s : State}

theorem refl (s : State) : SameEngine s s := fun _ _ => rfl

theorem of_mem {t : State} (h : SameEngine old s) (hm : t.mem = s.mem) : SameEngine old t :=
  fun a ha => by rw [State.rd, hm]; exact h a ha

theorem get {f : Fld} (h : SameEngine old s) (hf : engineWord f.addr = true := by decide) : s.get f = old.get f := State.get_congr (h _ hf)

theorem ite {c : Prop} {_ : Decidable c} {a b : State} (ha : SameEngine old a) (hb : SameEngine old b) :
    SameEngine old (if c then a else b) := by
  split
  · exact ha
  · exact hb

theorem forUp {f : Nat → State → State} {n : Nat} (hf : ∀ i t, SameEngine old t → SameEngine old (f i t)) (h : SameEngine old s) :
    SameEngine old (forUp f n s) := List.foldlRecOn _ _ h fun t ht i _ => hf i t ht

theorem forEach {α : Type} {f : α → State → State} {l : List α} (hf : ∀ x t, SameEngine old t → SameEngine old (f x t))
    (h : SameEngine old s) : SameEngine old (forEach f l s) := List.foldlRecOn _ _ h fun t ht x _ => hf x t ht

theorem wr {a : Nat} {w : Word} (h : SameEngine old s) (ha : engineWord a = false := by decide) : SameEngine old (s.wr a w) :=
  fun x hx => (s.rd_wr_ne w (by rintro rfl; rw [ha] at hx; cases hx)).trans (h x hx)

theorem put {f : Fld} {v : Nat} (h : SameEngine old s) (hf : engineWord f.addr = false := by decide) : SameEngine old (s.put f v) := h.wr hf

theorem setBob {n : Nat} {b : Bobbin} (h : SameEngine old s) : SameEngine old (s.setBob n b) := h.of_mem rfl

theorem of_records {t : State} (h : SameEngine old s) (k : State.Records s t) : SameEngine old t := fun a ha => by
  obtain ⟨-, hlt, -⟩ := engineWord_iff.mp ha
  exact (k.rd a (recordAddr_of_apart (.inl (by omega)))).trans (h a ha)

/-- The registers of a bobbin lie above. -/
theorem bobbinReg {b n : Nat} (hb : 0x11000 ≤ b) : engineWord (b + n * 64) = false := engineWord_of_above (by omega)

/-! ## The tick start (R64) and the load of an image (R85, R91) -/

theorem endService (h : SameEngine old s) : SameEngine old s.endService := by
  unfold State.endService
  split
  · exact h.of_mem (State.endGroup_only _ _).mem
  · exact h

theorem tickUsed {n : Nat} (h : SameEngine old s) : SameEngine old (s.tickUsed n) := (h.put (bobbinReg (by decide))).setBob

theorem tickEnd {n : Nat} (h : SameEngine old s) : SameEngine old (s.tickEnd n) :=
  .ite ((h.tickUsed.put (bobbinReg (by decide))).of_records (State.raiseRated_records ..)) h.tickUsed

theorem latchInputs {c : Nat} (h : SameEngine old s) : SameEngine old (s.latchInputs c) := .forUp (fun _ _ k => k.setBob) (h.of_mem rfl)

theorem releaseWaitK {n c : Nat} (h : SameEngine old s) : SameEngine old (s.releaseWaitK n c) := .ite (.ite h.setBob h.setBob) h

theorem releaseWaitT {n c : Nat} (h : SameEngine old s) : SameEngine old (s.releaseWaitT n c) := .ite h.setBob h

theorem tickStart {c : Nat} (h : SameEngine old s) : SameEngine old (s.tickStart c) := by
  unfold State.tickStart
  extract_lets s0 s1 _ _ s2 s3 _ s3r s4 s5
  have h0 : SameEngine old s0 := h.endService
  clear_value s0
  have h1 : SameEngine old s1 := .ite h0 (.forUp (fun _ _ k => k.tickEnd) h0)
  clear_value s1
  have h2 : SameEngine old s2 := (h1.put (f := F.PEN_CYC_USED)).of_mem rfl
  clear_value s2
  have h3 : SameEngine old s3 := h2.latchInputs
  clear_value s3
  have h4 : SameEngine old s4 := .forUp (fun _ _ k => k.releaseWaitK) (h3.of_mem rfl)
  clear_value s4
  have h5 : SameEngine old s5 := .forUp (fun _ _ k => k.releaseWaitT) h4
  clear_value s5
  exact .ite h (.ite (.forUp (fun _ _ k => k.setBob) h5) h3)

theorem loadBobbin {a n : Nat} (h : SameEngine old s) : SameEngine old (s.loadBobbin a n) :=
  (((((h.put (bobbinReg (by decide))).put (bobbinReg (by decide))).put (bobbinReg (by decide))).put (bobbinReg (by decide))).put
    (bobbinReg (by decide))).setBob

theorem applyInit {a k d : Nat} (h : SameEngine old s) : SameEngine old (s.applyInit a k d) := by
  induction d generalizing s k with
  | zero => exact h
  | succ d ih => exact ih (.forUp (fun _ _ k => (k.wr (engineWord_of_above (by unfold dataBase; omega))).of_mem rfl) h)

theorem startImage (h : SameEngine old s) : SameEngine old s.startImage := .applyInit (.forUp (fun _ _ k => k.loadBobbin) h)

/-! ## The tick commit (R46, R65) -/

theorem tickChange {c : Nat} (h : SameEngine old s) : SameEngine old (s.tickChange c) := .ite (h.of_mem rfl) h

/-- The registers of a zone lie above. -/
theorem zoneReg {b z : Nat} (hb : 0x20000 ≤ b) : engineWord (b + z * 32) = false := engineWord_of_above (by omega)

theorem setZtarget {z : Nat} {v : VReg} (h : SameEngine old s) : SameEngine old (s.setZtarget z v) :=
  .forUp (fun _ _ k => k.wr (engineWord_of_above (by unfold Reg.ZON_TGT; omega))) h

theorem commitZone {z : Nat} (h : SameEngine old s) : SameEngine old (s.commitZone z) := by
  unfold State.commitZone
  extract_lets _ _ _ s1 s2
  have h1 : SameEngine old s1 := .ite h h.setZtarget
  have h2 : SameEngine old s2 := by
    unfold s2
    split
    · exact h1.put (zoneReg (by decide))
    · exact h1
  exact h2.of_mem rfl

theorem commitSlot {i z : Nat} (h : SameEngine old s) : SameEngine old (s.commitSlot i z) :=
  .ite h (((h.put (engineWord_of_above (by simp only [F.NT_ZONE, nodeAddr, nodeBase]; omega))).put (zoneReg (by decide))).put
    (zoneReg (by decide)))

theorem commitAll {c : Nat} (h : SameEngine old s) : SameEngine old (s.commitAll c) := by
  unfold State.commitAll
  extract_lets s0 s1 s2 _ _
  have h1 : SameEngine old s1 := .forEach (fun _ _ k => k.commitZone) (h.of_mem rfl)
  have h2 : SameEngine old s2 := .forEach (fun p t k => by
    split
    · exact k.commitSlot
    · exact k) h1
  exact h2.of_mem rfl

end SameEngine

/-! ## What the tick commit leaves of the engine's own state -/

/-- State `t` has the engine's own state of state `s`, and the frame period. -/
structure SamePen (s t : State) : Prop where
  pen : t.pen = s.pen
  sea : t.sea = s.sea

theorem SamePen.refl (s : State) : SamePen s s := ⟨rfl, rfl⟩

theorem SamePen.trans {s t u : State} (h : SamePen s t) (k : SamePen t u) : SamePen s u := ⟨k.pen.trans h.pen, k.sea.trans h.sea⟩

theorem State.setZtarget_pen (s : State) (z : Nat) (v : VReg) : SamePen s (s.setZtarget z v) :=
  List.foldlRecOn _ _ (.refl s) fun t ht _ _ => ⟨(t.wr_pen _ _).trans ht.pen, (t.wr_sea _ _).trans ht.sea⟩

theorem State.commitZone_pen (s : State) (z : Nat) : SamePen s (s.commitZone z) := by
  unfold State.commitZone
  extract_lets _ _ new s1 s2
  have h1 : SamePen s s1 := by
    unfold s1
    split
    · exact .refl s
    · exact s.setZtarget_pen z new
  have h2 : SamePen s1 s2 := by
    unfold s2
    split
    · exact ⟨rfl, rfl⟩
    · exact .refl s1
  exact (h1.trans h2).trans ⟨rfl, rfl⟩

theorem State.commitSlot_pen (s : State) (i z : Nat) : SamePen s (s.commitSlot i z) := by
  unfold State.commitSlot
  dsimp only
  split
  · exact .refl s
  · exact ⟨rfl, rfl⟩

/-- R46: of the engine's own state the tick commit changes its instant alone. -/
theorem State.commitAll_pen (s : State) (c : Nat) :
    (s.commitAll c).pen = { s.pen with lastCommit := some c } ∧ (s.commitAll c).sea = s.sea := by
  have hend (u : State) (z : Zon) (h : SamePen s u) : ({ u with zon := z, pen := { u.pen with lastCommit := some c } } : State).pen =
      { s.pen with lastCommit := some c } ∧ ({ u with zon := z, pen := { u.pen with lastCommit := some c } } : State).sea = s.sea :=
    ⟨by rw [h.pen], h.sea⟩
  refine hend _ _ (List.foldlRecOn _ _ (List.foldlRecOn _ _ ⟨rfl, rfl⟩ fun t ht p _ => ht.trans (t.commitZone_pen p.1)) fun t ht p _ => ?_)
  dsimp only
  split
  · exact ht.trans (t.commitSlot_pen _ _)
  · exact ht

/-! ## The swap itself (R91) -/

theorem forUp_succ {α : Type} (f : Nat → α → α) (n : Nat) (a : α) : forUp f (n + 1) a = f n (forUp f n a) := by
  simp [forUp, List.range_succ]

/-- R91 step 2: the hash registers are written pair by pair. -/
theorem forUp_swapHash (f g : Nat → Word) (s : State) {n : Nat} (hn : n ≤ 8) :
    let t := forUp (fun k t => (t.wr (Reg.PEN_IHASH_A k) (f k)).wr (Reg.PEN_IHASH_I k) (g k)) n s
    (∀ k, k < n → t.rd (Reg.PEN_IHASH_A k) = f k ∧ t.rd (Reg.PEN_IHASH_I k) = g k) ∧ ∀ a, a < Reg.PEN_IHASH_A 0 → t.rd a = s.rd a := by
  induction n with
  | zero => exact ⟨fun k hk => absurd hk (Nat.not_lt_zero k), fun _ _ => rfl⟩
  | succ n ih =>
    obtain ⟨hin, hout⟩ := ih (by omega)
    dsimp only
    rw [forUp_succ]
    generalize forUp (fun k t => (t.wr (Reg.PEN_IHASH_A k) (f k)).wr (Reg.PEN_IHASH_I k) (g k)) n s = u at hin hout ⊢
    refine ⟨fun k hk => ?_, fun a ha => ?_⟩
    · have hAI : Reg.PEN_IHASH_A k ≠ Reg.PEN_IHASH_I n := by unfold Reg.PEN_IHASH_A Reg.PEN_IHASH_I; omega
      rw [State.rd_wr_ne _ _ hAI]
      obtain rfl | hlt : k = n ∨ k < n := by omega
      · exact ⟨u.rd_wr_same _ _, State.rd_wr_same _ _ _⟩
      · have hA : Reg.PEN_IHASH_A k ≠ Reg.PEN_IHASH_A n := by unfold Reg.PEN_IHASH_A; omega
        have hI : Reg.PEN_IHASH_I k ≠ Reg.PEN_IHASH_I n := by unfold Reg.PEN_IHASH_I; omega
        have hIA : Reg.PEN_IHASH_I k ≠ Reg.PEN_IHASH_A n := by unfold Reg.PEN_IHASH_A Reg.PEN_IHASH_I; omega
        rw [State.rd_wr_ne _ _ hA, State.rd_wr_ne _ _ hI, State.rd_wr_ne _ _ hIA]
        exact hin k hlt
    · have hA : a ≠ Reg.PEN_IHASH_A n := by unfold Reg.PEN_IHASH_A at *; omega
      have hI : a ≠ Reg.PEN_IHASH_I n := by unfold Reg.PEN_IHASH_A at ha; unfold Reg.PEN_IHASH_I; omega
      rw [State.rd_wr_ne _ _ hI, State.rd_wr_ne _ _ hA, hout a ha]

/-- In `t` the identities and hashes of the two images of `s` are exchanged. -/
structure IdsSwapped (s t : State) : Prop where
  aid : t.rd Reg.PEN_AID = s.rd Reg.PEN_IID
  iid : t.rd Reg.PEN_IID = s.rd Reg.PEN_AID
  hashA : ∀ k, k < 8 → t.rd (Reg.PEN_IHASH_A k) = s.rd (Reg.PEN_IHASH_I k)
  hashI : ∀ k, k < 8 → t.rd (Reg.PEN_IHASH_I k) = s.rd (Reg.PEN_IHASH_A k)

/-- The registers of the images' identities and hashes. -/
def idWord (a : Nat) : Prop := a = Reg.PEN_AID ∨ a = Reg.PEN_IID ∨ ∃ k, k < 8 ∧ (a = Reg.PEN_IHASH_A k ∨ a = Reg.PEN_IHASH_I k)

/-- They are registers that a tick leaves alone, beside PEN_STAT. -/
theorem idWord.engine {a : Nat} (h : idWord a) : engineWord a = true ∧ a ≠ Reg.PEN_STAT := by
  rw [engineWord_iff]
  obtain rfl | rfl | ⟨k, hk, rfl | rfl⟩ := h
  · decide
  · decide
  · unfold Reg.PEN_IHASH_A Reg.PEN_CYC Reg.PEN_STAT
    omega
  · unfold Reg.PEN_IHASH_I Reg.PEN_CYC Reg.PEN_STAT
    omega

theorem IdsSwapped.congr {s s' t t' : State} (h : IdsSwapped s t) (hs : ∀ a, idWord a → s'.rd a = s.rd a)
    (ht : ∀ a, idWord a → t'.rd a = t.rd a) : IdsSwapped s' t' := by
  have ha : idWord Reg.PEN_AID := .inl rfl
  have hi : idWord Reg.PEN_IID := .inr (.inl rfl)
  have hA (k : Nat) (hk : k < 8) : idWord (Reg.PEN_IHASH_A k) := .inr (.inr ⟨k, hk, .inl rfl⟩)
  have hI (k : Nat) (hk : k < 8) : idWord (Reg.PEN_IHASH_I k) := .inr (.inr ⟨k, hk, .inr rfl⟩)
  refine ⟨?_, ?_, fun k hk => ?_, fun k hk => ?_⟩
  · rw [ht _ ha, h.aid, hs _ hi]
  · rw [ht _ hi, h.iid, hs _ ha]
  · rw [ht _ (hA k hk), h.hashA k hk, hs _ (hI k hk)]
  · rw [ht _ (hI k hk), h.hashI k hk, hs _ (hA k hk)]

theorem State.swapIds_gives (s : State) : IdsSwapped s s.swapIds := by
  unfold State.swapIds
  extract_lets a i s1
  obtain ⟨hhash, hlow⟩ := forUp_swapHash (fun k => s.rd (Reg.PEN_IHASH_I k)) (fun k => s.rd (Reg.PEN_IHASH_A k)) s1 (Nat.le_refl 8)
  exact ⟨(hlow _ (by decide)).trans ((State.rd_wr_ne _ _ (by decide)).trans (s.rd_wr_same _ _)),
    (hlow _ (by decide)).trans (State.rd_wr_same _ _ _), fun k hk => (hhash k hk).1, fun k hk => (hhash k hk).2⟩

/-- R91: what a swap leaves in the registers of the engine. -/
structure Swapped (s t : State) : Prop where
  ids : IdsSwapped s t
  armed : t.get F.PEN_STAT_ARMED = 0
  done : t.get F.PEN_STAT_SWDONE = 1
  active : t.get F.PEN_STAT_ACTIVE = 1 - s.get F.PEN_STAT_ACTIVE
  idle : t.get F.PEN_STAT_IDLEST = 2

theorem Swapped.congr {s s' t t' : State} (h : Swapped s t) (hs : SameEngine s' s) (ht : SameEngine t t') : Swapped s' t' :=
  ⟨h.ids.congr (fun _ ha => (hs _ ha.engine.1).symm) fun _ ha => ht _ ha.engine.1, ht.get.trans h.armed, ht.get.trans h.done,
    ht.get.trans (h.active.trans (by rw [hs.get])), ht.get.trans h.idle⟩

/-- What the swap itself puts into the registers of the engine, the load of the image between. -/
theorem State.swapPuts (s : State) {a : Nat} (ha : a = 1 - s.get F.PEN_STAT_ACTIVE) {u : State}
    (hu : SameEngine ((s.swapIds.put F.PEN_STAT_ACTIVE a).put F.PEN_STAT_IDLEST 2) u) :
    Swapped s ((u.setFlag F.PEN_STAT_ARMED false).setFlag F.PEN_STAT_SWDONE true) := by
  refine ⟨s.swapIds_gives.congr (fun _ _ => rfl) fun x hx => ?_, ?_, State.get_setFlag_same _ _ true (by decide) rfl, ?_, ?_⟩
  · obtain ⟨hengine, hne⟩ := hx.engine
    rw [State.setFlag, State.rd_put_ne _ _ hne, State.setFlag, State.rd_put_ne _ _ hne, hu x hengine, State.rd_put_ne _ _ hne,
      State.rd_put_ne _ _ hne]
  · exact (State.get_setFlag_disj _ true (by decide)).trans (u.get_setFlag_same _ false (by decide) rfl)
  · refine ((State.get_setFlag_disj _ true (by decide)).trans (u.get_setFlag_disj false (by decide))).trans (hu.get.trans ?_)
    rw [State.get_put_disj _ _ (by decide), State.get_put_same _ _ _ (by decide), ha]
    exact Nat.mod_eq_of_lt (Nat.lt_succ_of_le (Nat.sub_le 1 _))
  · exact ((State.get_setFlag_disj _ true (by decide)).trans (u.get_setFlag_disj false (by decide))).trans
      (hu.get.trans (State.get_put_same _ _ _ (by decide)))

theorem State.swapNow_gives (s : State) (c : Nat) : Swapped s (s.swapNow c) := by
  unfold State.swapNow
  extract_lets old se s0 s1 _ s2 s3 s4
  have h0 : SameEngine s s0 := .ite (SameEngine.refl s).endService (.forUp (fun _ _ k => k.tickUsed) (SameEngine.refl s).endService)
  have h3 : SameEngine s1 s3 := ((SameEngine.refl s1).of_mem (t := s2) rfl).startImage
  have h4 : Swapped s0 s4 := s0.swapPuts (by rw [h0.get]) h3
  exact h4.congr h0 ((SameEngine.refl s4).tickStart.of_records (State.raise_records ..))

/-- R65: a change of the tick takes place at a start of the new one. -/
theorem State.tickChange_isTick {s : State} {c : Nat} (h : s.isTick c = true) : (s.tickChange c).isTick c = true := by
  unfold State.tickChange
  dsimp only
  split
  · next hc =>
    obtain ⟨-, -, hnew, -⟩ := hc
    exact beq_iff_eq.mpr hnew
  · exact h

/-- R90: a tick change and the commit leave a swap due. -/
theorem State.swapDue_kept {s : State} {c : Nat} (h : s.swapDue c = true) : ((s.tickChange c).commitAll c).swapDue c = true := by
  have hsame : SameEngine s ((s.tickChange c).commitAll c) := (SameEngine.refl s).tickChange.commitAll
  obtain ⟨hpen, hsea⟩ := (s.tickChange c).commitAll_pen c
  simp only [State.swapDue, Bool.and_eq_true, decide_eq_true_eq] at h ⊢
  obtain ⟨⟨⟨harmed, htick⟩, htime⟩, hgap⟩ := h
  have hchange : (s.tickChange c).pen.armAt = s.pen.armAt ∧ (s.tickChange c).sea = s.sea := by
    unfold State.tickChange
    dsimp only
    split
    · exact ⟨rfl, rfl⟩
    · exact ⟨rfl, rfl⟩
  refine ⟨⟨⟨?_, ?_⟩, ?_⟩, ?_⟩
  · rw [State.flag, hsame.get]
    exact harmed
  · rw [State.isTick, hpen]
    exact State.tickChange_isTick htick
  · rw [State.rdTime, hsame _ (by decide), hsame _ (by decide), hsame _ (by decide)]
    exact htime
  · rw [State.framePeriod, hpen, hsea, hchange.1, hchange.2]
    exact hgap

/-- R91: a swap takes place with the tick commit that is due, and not after the steps of that commit. -/
theorem State.patternSwap_due {s : State} (hc : s.commitDue = true) (hs : s.swapDue s.gridNow = true) (hat : s.pen.tickAt ≠ some s.gridNow) :
    s.patternSwap.pen.lastCommit = some s.gridNow ∧ s.patternSwap.pen.tickAt = some s.gridNow ∧ Swapped s s.patternSwap := by
  have htick : s.isTick s.gridNow = true := by
    simp only [State.swapDue, Bool.and_eq_true] at hs
    exact hs.1.1.2
  have hpat : s.patternSwap = s.tickSteps s.gridNow := if_pos (by rw [hc, hs]; rfl)
  have hsteps : s.tickSteps s.gridNow = ((s.tickChange s.gridNow).commitAll s.gridNow).swapNow s.gridNow := by
    unfold State.tickSteps
    rw [if_pos (by simp [htick, hat])]
    dsimp only
    rw [if_pos hc, if_pos (State.swapDue_kept hs)]
  rw [hpat]
  refine ⟨(State.tickSteps_committed hc htick hat).last, ?_, ?_⟩
  · rw [hsteps]
    exact (State.swapNow_zones _ _).tickAt
  · rw [hsteps]
    exact (State.swapNow_gives _ _).congr (SameEngine.refl s).tickChange.commitAll (.refl _)

/-- R91: at any other instant no swap takes place. -/
theorem State.patternSwap_not_due {s : State} (h : ¬ (s.commitDue = true ∧ s.swapDue s.gridNow = true) ∨ s.pen.tickAt = some s.gridNow) :
    s.patternSwap = s := by
  unfold State.patternSwap
  split
  · next hdue =>
    obtain hnot | hat := h
    · exact absurd (Bool.and_eq_true_iff.mp hdue) hnot
    · exact if_neg (by simp [hat])
  · rfl

/-- R90: DISARM takes an armed swap back. -/
theorem State.penDisarm_gives (s : State) : s.penDisarm.status = 0 ∧ s.penDisarm.get F.PEN_STAT_ARMED = 0 ∧
    (s.get F.PEN_STAT_ARMED = 1 → s.penDisarm.get F.PEN_STAT_SWDONE = 0) ∧ ∀ x, x ≠ Reg.PEN_STAT → s.penDisarm.rd x = s.rd x := by
  unfold State.penDisarm
  by_cases ha : s.flag F.PEN_STAT_ARMED = true
  · rw [if_pos ha]
    exact ⟨rfl, (State.get_setFlag_disj _ false (by decide)).trans (s.get_setFlag_same _ false (by decide) rfl),
      fun _ => State.get_setFlag_same _ _ false (by decide) rfl, fun x hx => (State.rd_put_ne _ _ hx).trans (s.rd_put_ne _ hx)⟩
  · rw [if_neg ha]
    have hne : s.get F.PEN_STAT_ARMED ≠ 1 := by rwa [State.flag_eq_decide, decide_eq_true_eq] at ha
    have hlt : s.get F.PEN_STAT_ARMED < 2 := s.get_lt _
    exact ⟨rfl, show s.get F.PEN_STAT_ARMED = 0 by omega, fun h => absurd h hne, fun _ _ => rfl⟩

/-- R90: an armed swap notes its instant. -/
theorem State.swapArmed_gives (s : State) : s.swapArmed.status = 0 ∧ s.swapArmed.get F.PEN_STAT_ARMED = 1 ∧
    s.swapArmed.pen = { s.pen with armAt := s.ns } ∧ ∀ x, x ≠ Reg.PEN_STAT → s.swapArmed.rd x = s.rd x :=
  ⟨rfl, s.get_setFlag_same F.PEN_STAT_ARMED true (by decide) rfl, rfl, fun _ hx => s.rd_put_ne _ hx⟩

/-- Settles O17: SWAP by the first of its checks that fails (`State.penSwap_unarmed`), the swap by the registers that it puts and that the
steps about it leave alone (`State.patternSwap_due`). -/
theorem patternSwaps : Obligations.PatternSwaps := by
  unfold Obligations.PatternSwaps
  constructor
  case left =>
    intro s differs refused
    have hdiffers : s.partnerIdleDiffers = true ↔ differs := s.partnerIdleDiffers_iff
    refine ⟨fun hm ha hi hl hd => ⟨_, rfl, ?arm⟩, fun hm ha hi => ⟨_, rfl, ?unverified⟩, fun hm ha hi hl => ⟨_, rfl, ?loading⟩,
      fun hm ha hi hl hd => ⟨_, rfl, ?differing⟩, fun hm ha => ⟨_, rfl, ?again⟩, fun hm => ⟨_, rfl, ?disarm⟩⟩
    case arm =>
      rw [State.hostWr_of_may hm, State.penSwap_unarmed ha, if_neg (not_not.mpr hi), hl, if_neg Bool.false_ne_true,
        if_neg (hd ∘ hdiffers.mp)]
      exact s.swapArmed_gives
    case unverified =>
      rw [State.hostWr_of_may hm, State.penSwap_unarmed ha, if_pos hi]
      exact State.swapRefused_gives 1 ha
    case loading =>
      rw [State.hostWr_of_may hm, State.penSwap_unarmed ha, if_neg (not_not.mpr hi), if_pos hl]
      exact State.swapRefused_gives 2 ha
    case differing =>
      rw [State.hostWr_of_may hm, State.penSwap_unarmed ha, if_neg (not_not.mpr hi), hl, if_neg Bool.false_ne_true,
        if_pos (hdiffers.mpr hd)]
      exact State.swapRefused_gives 3 ha
    case again =>
      rw [State.hostWr_of_may hm]
      exact if_pos (by rw [State.flag_eq_decide, decide_eq_true_eq, ha])
    case disarm =>
      rw [State.hostWr_of_may hm]
      exact s.penDisarm_gives
  case right =>
    intro s g due
    have hdue : due ↔ (s.commitDue = true ∧ s.swapDue s.gridNow = true) ∧ s.pen.tickAt ≠ some s.gridNow := by
      have hg : g = s.gridNow := rfl
      have hp : s.sea.fperUs * 1000 = s.framePeriod := rfl
      simp only [due, hg, hp, State.commitDue, State.swapDue, State.isTick, State.flag_eq_decide, Bool.and_eq_true, bne_iff_ne, beq_iff_eq,
        decide_eq_true_eq]
      tauto
    refine ⟨fun hnot => ⟨_, rfl, State.patternSwap_not_due ?_⟩, fun h => ⟨_, rfl, ?_⟩⟩
    · rw [hdue, not_and_or, not_not] at hnot
      exact hnot
    · obtain ⟨⟨hc, hs⟩, hat⟩ := hdue.mp h
      obtain ⟨hlast, htick, hswap⟩ := State.patternSwap_due hc hs hat
      exact ⟨hlast, htick, hswap.armed, hswap.done, hswap.active, hswap.idle, congrArg (getBits · 0 32) hswap.ids.aid,
        congrArg (getBits · 0 32) hswap.ids.iid, fun k hk => ⟨congrArg (getBits · 0 32) (hswap.ids.hashA k hk),
          congrArg (getBits · 0 32) (hswap.ids.hashI k hk)⟩⟩

end Sys2Proof.Machine

/-!
# START, STOP and repairs of program memory (O18, O20)

What a group boundary makes of a bobbin's controls is a function of the bobbin and its register (`Bobbin.controlled`), applied to the 32
bobbins one by one.  A repair is told by what `State.parRepair` writes.
-/

namespace Sys2Proof.Machine

@[simp] theorem State.answer_bob (s : State) (c n : Nat) : (s.answer c).bob n = s.bob n := rfl

/-! ## Controls of a bobbin (R97) -/

/-- R97: bobbin `b` once its controls have acted, with priority `p` and entry `e` written. -/
def Bobbin.controlled (b : Bobbin) (p e : Nat) : Bobbin :=
  let b1 := { b with prio := p }
  if b1.stopReq then { b1.halt with stopReq := false, startReq := false, startPend := false, cmdDone := true }
  else if b1.startReq then { b1.clear with pc := BitVec.ofNat 16 e, fcode := 0, startReq := false, startPend := true }
  else b1

theorem State.bobControls_eq (s : State) (n : Nat) :
    s.bobControls n = s.setBob n ((s.bob n).controlled (s.get (F.PEN_BCTL_PRIO n)) (s.get (F.PEN_BCTL_ENTRY n))) := rfl

theorem Bobbin.controlled_stop {b : Bobbin} (p e : Nat) (h : b.stopReq = true) : b.controlled p e =
    { ({ b with prio := p } : Bobbin).halt with stopReq := false, startReq := false, startPend := false, cmdDone := true } := if_pos h

theorem Bobbin.controlled_start {b : Bobbin} (p e : Nat) (hs : b.stopReq = false) (h : b.startReq = true) : b.controlled p e =
    { ({ b with prio := p } : Bobbin).clear with pc := BitVec.ofNat 16 e, fcode := 0, startReq := false, startPend := true } :=
  (if_neg (Bool.eq_false_iff.mp hs)).trans (if_pos h)

/-- No control is left waiting. -/
theorem Bobbin.controlled_done (b : Bobbin) (p e : Nat) :
    (b.controlled p e).prio = p ∧ (b.controlled p e).stopReq = false ∧ (b.controlled p e).startReq = false := by
  cases hs : b.stopReq
  · cases hr : b.startReq
    · have hnone : b.controlled p e = { b with prio := p } :=
        (if_neg (Bool.eq_false_iff.mp hs)).trans (if_neg (Bool.eq_false_iff.mp hr))
      rw [hnone]
      exact ⟨rfl, hs, hr⟩
    · rw [Bobbin.controlled_start p e hs hr]
      exact ⟨rfl, hs, rfl⟩
  · rw [Bobbin.controlled_stop p e hs]
    exact ⟨rfl, rfl, rfl⟩

/-- R97: the controls of the first `n` bobbins, one after the other. -/
theorem forUp_bobControls (s : State) (n : Nat) : (forUp (fun n s => s.bobControls n) n s).mem = s.mem ∧
    ∀ m, (forUp (fun n s => s.bobControls n) n s).bob m =
      if m < n then (s.bob m).controlled (s.get (F.PEN_BCTL_PRIO m)) (s.get (F.PEN_BCTL_ENTRY m)) else s.bob m := by
  induction n with
  | zero => exact ⟨rfl, fun m => (if_neg (Nat.not_lt_zero m)).symm⟩
  | succ n ih =>
    rw [forUp_succ]
    generalize forUp (fun n s => s.bobControls n) n s = u at ih ⊢
    obtain ⟨hmem, hbob⟩ := ih
    have hget (f : Fld) : u.get f = s.get f := State.get_congr (by rw [State.rd, hmem, State.rd])
    refine ⟨hmem, fun m => ?_⟩
    rw [State.bobControls_eq, State.bob_setBob, hbob, hbob, hget, hget, if_neg (Nat.lt_irrefl n)]
    obtain hlt | rfl | hgt : m < n ∨ m = n ∨ n < m := Nat.lt_trichotomy m n
    · rw [if_neg hlt.ne, if_pos hlt, if_pos (hlt.trans (Nat.lt_succ_self n))]
    · rw [if_pos rfl, if_pos (Nat.lt_succ_self m)]
    · rw [if_neg hgt.ne', if_neg hgt.le.not_gt, if_neg (by omega)]

/-! ## The group boundary (R68, R93) -/

/-- R68: the end of a group is seen in the copies that the host reads. -/
theorem State.endService_gives (s : State) : OnlyBobbins s s.endService ∧
    ∀ m, ∃ g v, s.endService.bob m = { s.bob m with gShow := g, vShow := v } := by
  unfold State.endService
  split
  · next n _ =>
    refine ⟨s.endGroup_only n, fun m => ?_⟩
    by_cases hm : m = n
    · exact ⟨_, _, by rw [hm]; exact s.endGroup_bob n⟩
    · exact ⟨_, _, s.endGroup_others n hm⟩
  · exact ⟨.refl s, fun m => ⟨_, _, rfl⟩⟩

/-- R97: at a boundary with the engine stopped the controls act and nothing else. -/
theorem State.nextGroup_stopped {s : State} (h : s.flag F.PEN_CTL_RUN = false) :
    s.nextGroup = forUp (fun n s => s.bobControls n) 32 s.endService := by
  obtain ⟨hmem, -⟩ := forUp_bobControls s.endService 32
  have hflag : (forUp (fun n s => s.bobControls n) 32 s.endService).flag F.PEN_CTL_RUN = false := by
    rw [← h, State.flag, State.flag, State.get, State.get, State.rd, hmem, s.endService_gives.1.mem, State.rd]
  unfold State.nextGroup
  dsimp only
  rw [hflag]
  rfl

theorem Bobbin.controlled_show (b : Bobbin) (g : Vector Word 16) (v : Vector VReg 8) (p e : Nat) :
    ({ b with gShow := g, vShow := v } : Bobbin).controlled p e = { b.controlled p e with gShow := g, vShow := v } := by
  unfold Bobbin.controlled
  dsimp only
  split
  · rfl
  · split
    · rfl
    · rfl

/-- R93, R97: what a boundary with the engine stopped leaves of a bobbin. -/
theorem State.nextGroup_bob {s : State} (h : s.flag F.PEN_CTL_RUN = false) : s.nextGroup.mem = s.mem ∧ ∀ m, m < 32 →
    ∃ g v, s.nextGroup.bob m =
      { (s.bob m).controlled (s.get (F.PEN_BCTL_PRIO m)) (s.get (F.PEN_BCTL_ENTRY m)) with gShow := g, vShow := v } := by
  obtain ⟨honly, hshow⟩ := s.endService_gives
  obtain ⟨hmem, hbob⟩ := forUp_bobControls s.endService 32
  have hget (f : Fld) : s.endService.get f = s.get f := State.get_congr (by rw [State.rd, honly.mem, State.rd])
  rw [State.nextGroup_stopped h]
  refine ⟨hmem.trans honly.mem, fun m hm => ?_⟩
  obtain ⟨g, v, hg⟩ := hshow m
  exact ⟨g, v, by rw [hbob, if_pos hm, hg, hget, hget, Bobbin.controlled_show]⟩

/-- R68: no bobbin in service, or one that cannot go on, is a boundary. -/
theorem State.atBoundary_of_stuck {s : State}
    (h : ∀ m, s.pen.cur = some m → (s.bob m).st ≠ .runnable ∨ (s.bob m).parked ≠ none ∨ (s.bob m).left = 0) : s.atBoundary = true := by
  unfold State.atBoundary
  split
  · next n hn =>
    obtain hst | hp | hl := h n hn
    · simp [hst]
    · simp [Option.isSome_iff_ne_none.mpr hp]
    · simp [hl]
  · rfl

theorem State.atBoundary_of_going {s : State} {m : Nat} (hc : s.pen.cur = some m) (hst : (s.bob m).st = .runnable)
    (hp : (s.bob m).parked = none) (hl : 0 < (s.bob m).left) : s.atBoundary = false := by
  simp [State.atBoundary, hc, hst, hp, hl]

theorem State.groupBoundary_stuck {s : State} (hr : s.inRunQuiet = true)
    (h : ∀ m, s.pen.cur = some m → (s.bob m).st ≠ .runnable ∨ (s.bob m).parked ≠ none ∨ (s.bob m).left = 0) :
    s.groupBoundary = s.nextGroup := if_pos (by rw [hr, State.atBoundary_of_stuck h]; rfl)

theorem State.groupBoundary_going {s : State} {m : Nat} (hc : s.pen.cur = some m) (hst : (s.bob m).st = .runnable)
    (hp : (s.bob m).parked = none) (hl : 0 < (s.bob m).left) : s.groupBoundary = s :=
  if_neg (by rw [State.atBoundary_of_going hc hst hp hl, Bool.and_false]; exact Bool.false_ne_true)

/-! ## Host writes of PEN_BCTL (R97) -/

theorem bit_setBit_same (v i : Nat) : bit (setBit v i true) i = true := by
  unfold setBit
  split
  · next h => exact beq_iff_eq.mp h
  · next h =>
    have hb : ¬ v / 2 ^ i % 2 = 1 := fun hv => h (beq_iff_eq.mpr (beq_iff_eq.mpr hv))
    rw [if_pos rfl, bit, Nat.add_div_right _ (Nat.two_pow_pos i), beq_iff_eq]
    omega

theorem bit9_setBit8 (v : Nat) : bit (setBit v 8 true) 9 = bit v 9 := by
  unfold setBit
  split
  · rfl
  · next h =>
    have hb : ¬ v / 2 ^ 8 % 2 = 1 := fun hv => h (beq_iff_eq.mpr (beq_iff_eq.mpr hv))
    have hq : (v + 2 ^ 8) / 2 ^ 9 = v / 2 ^ 9 := by omega
    rw [if_pos rfl, bit, bit, hq]

/-- R97: the state with the priority and the entry of the word `v` in PEN_BCTL[n]. -/
def State.bctlPut (s : State) (n v : Nat) : State := (s.put (F.PEN_BCTL_PRIO n) (v % 4)).put (F.PEN_BCTL_ENTRY n) (v / 65536)

theorem State.penBctl_eq (s : State) (n v : Nat) : s.penBctl n v = ((s.bctlPut n v).bobCommand n (bit v 8) (bit v 9)).answer stOk := rfl

theorem State.bctlPut_get (s : State) (n v : Nat) : (s.bctlPut n v).get (F.PEN_BCTL_PRIO n) = v % 4 ∧
    (s.bctlPut n v).get (F.PEN_BCTL_ENTRY n) = v / 65536 % 65536 := by
  have hdisj : (F.PEN_BCTL_ENTRY n).disj (F.PEN_BCTL_PRIO n) = true := by simp [Fld.disj, F.PEN_BCTL_ENTRY, F.PEN_BCTL_PRIO]
  rw [State.bctlPut, State.get_put_disj _ _ hdisj, State.get_put_same _ _ _ rfl, State.get_put_same _ _ _ rfl]
  exact ⟨Nat.mod_mod v (2 ^ 2), rfl⟩

theorem State.bctlPut_run (s : State) (n v : Nat) : (s.bctlPut n v).flag F.PEN_CTL_RUN = s.flag F.PEN_CTL_RUN := by
  have hne : Reg.PEN_CTL ≠ Reg.PEN_BCTL n := by unfold Reg.PEN_CTL Reg.PEN_BCTL; omega
  have hrd : (s.bctlPut n v).rd F.PEN_CTL_RUN.addr = s.rd F.PEN_CTL_RUN.addr := (State.rd_put_ne _ _ hne).trans (s.rd_put_ne _ hne)
  rw [State.flag, State.flag, State.get_congr hrd]

theorem State.bctlPut_bob (s : State) (n v m : Nat) : (s.bctlPut n v).bob m = s.bob m := by
  rw [State.bob, State.bctlPut, State.put_bobs, State.put_bobs, State.bob]

/-- R97: the bobbin with a START written. -/
def Bobbin.startAsked (b : Bobbin) : Bobbin := { b with startReq := true, stopReq := false, startPend := false, cmdDone := false }

/-- R97: the bobbin with a STOP written. -/
def Bobbin.stopAsked (b : Bobbin) : Bobbin := { b with stopReq := true, startReq := false, cmdDone := false }

/-- R97: the bobbin whose START, acted on and waiting for the next tick start, a STOP takes back. -/
def Bobbin.startDropped (b : Bobbin) : Bobbin := { b with startPend := false, startReq := false, stopReq := false, cmdDone := true }

/-- R97: the state that a write of `v` to PEN_BCTL[n] leaves, with bobbin `n` as `b`. -/
def State.bctlSet (s : State) (n v : Nat) (b : Bobbin) : State := ((s.bctlPut n v).setBob n b).answer stOk

theorem State.bctlSet_gives (s : State) (n v : Nat) (b : Bobbin) : (s.bctlSet n v b).status = 0 ∧
    (s.bctlSet n v b).get (F.PEN_BCTL_PRIO n) = v % 4 ∧ (s.bctlSet n v b).get (F.PEN_BCTL_ENTRY n) = v / 65536 % 65536 ∧
    (s.bctlSet n v b).bob n = b ∧ ∀ m, m ≠ n → (s.bctlSet n v b).bob m = s.bob m := by
  obtain ⟨hprio, hentry⟩ := s.bctlPut_get n v
  rw [State.bctlSet, State.answer_get, State.answer_get, State.setBob_get, State.setBob_get, State.answer_bob, State.bob_setBob_same]
  exact ⟨State.answer_status _ _, hprio, hentry, rfl,
    fun m hm => by rw [State.answer_bob, State.bob_setBob_ne _ _ hm, State.bctlPut_bob]⟩

/-- R97: a START that waits for the next group boundary. -/
theorem State.penBctl_start_waits {s : State} {n v : Nat} (h8 : bit v 8 = true) (h9 : bit v 9 = false)
    (h : s.get F.PEN_CTL_RUN = 1 ∨ s.pen.cur ≠ none) : s.penBctl n v = s.bctlSet n v (s.bob n).startAsked := by
  have hrun : ((s.bctlPut n v).flag F.PEN_CTL_RUN || s.pen.cur.isSome) = true := by
    rw [Bool.or_eq_true, Option.isSome_iff_ne_none, State.bctlPut_run, State.flag_eq_decide, decide_eq_true_eq]
    exact h
  rw [State.penBctl_eq, h8, h9]
  exact congrArg (State.answer · stOk) (if_pos hrun)

/-- R97: with the engine stopped and no group in service a START acts at once. -/
theorem State.penBctl_start_now {s : State} {n v : Nat} (h8 : bit v 8 = true) (h9 : bit v 9 = false) (h : s.get F.PEN_CTL_RUN = 0)
    (hc : s.pen.cur = none) : (s.penBctl n v).status = 0 ∧
      (s.penBctl n v).bob n = (s.bob n).startAsked.controlled (v % 4) (v / 65536 % 65536) := by
  have hrun : ¬ ((s.bctlPut n v).flag F.PEN_CTL_RUN || s.pen.cur.isSome) = true := by
    rw [State.bctlPut_run, State.flag_eq_decide, h, hc]
    decide
  have heq : s.penBctl n v = (((s.bctlPut n v).setBob n (s.bob n).startAsked).bobControls n).answer stOk := by
    rw [State.penBctl_eq, h8, h9]
    exact congrArg (State.answer · stOk) (if_neg hrun)
  obtain ⟨hprio, hentry⟩ := s.bctlPut_get n v
  rw [heq, State.bobControls_eq, State.bob_setBob_same, State.setBob_get, State.setBob_get, hprio, hentry, State.answer_bob,
    State.bob_setBob_same]
  exact ⟨State.answer_status _ _, rfl⟩

theorem State.penBctl_stop {s : State} {n v : Nat} (h9 : bit v 9 = true) (hp : (s.bob n).startPend = false) :
    s.penBctl n v = s.bctlSet n v (s.bob n).stopAsked := by
  rw [State.penBctl_eq, h9]
  exact congrArg (State.answer · stOk) (if_neg (Bool.eq_false_iff.mp hp))

theorem State.penBctl_drop {s : State} {n v : Nat} (h9 : bit v 9 = true) (hp : (s.bob n).startPend = true) :
    s.penBctl n v = s.bctlSet n v (s.bob n).startDropped := by
  rw [State.penBctl_eq, h9]
  exact congrArg (State.answer · stOk) (if_pos hp)

/-- R97: a START clears every register. -/
theorem Bobbin.clear_regs (b : Bobbin) : (∀ r, b.clear.rg r = 0) ∧ ∀ r i, b.clear.laneOf r i = 0 := by
  refine ⟨fun r => ?_, fun r i => ?_⟩
  · unfold Bobbin.rg
    split
    · rfl
    · exact Vector.getElem_replicate r.isLt
  · have hv : b.clear.rv r = Vector.replicate 8 0 := Vector.getElem_replicate r.isLt
    rw [Bobbin.laneOf, hv]
    exact congrArg BitVec.toNat (Vector.getElem_replicate i.isLt)

/-- Settles O18: a command by what it leaves of its bobbin (`State.penBctl_start_waits` and its like), the boundary by what it makes
of each bobbin (`State.nextGroup_bob`). -/
theorem bobbinStartAndStop : Obligations.BobbinStartAndStop := by
  unfold Obligations.BobbinStartAndStop
  intro s n v st sp
  have hst8 : bit st 8 = true := bit_setBit_same _ 8
  have hst9 (h : bit v.toNat 9 = false) : bit st 9 = false := (bit9_setBit8 _).trans h
  have hsp9 : bit sp 9 = true := bit_setBit_same _ 9
  refine ⟨fun hm h9 hrun => ⟨_, rfl, ?waits⟩, fun hm h9 hrun hcur => ⟨_, rfl, ?now⟩, fun hm hp => ⟨_, rfl, ?stop⟩,
    fun hm hp => ⟨_, rfl, ?unstart⟩, fun m hc hr hp hl => ⟨_, rfl, ?going⟩, fun hr hrun hstuck => ⟨_, rfl, ?boundary⟩⟩
  case waits =>
    obtain ⟨hstatus, hprio, hentry, hown, hothers⟩ := s.bctlSet_gives n.toNat st (s.bob n.toNat).startAsked
    rw [State.hostWr_of_may hm, State.penBctl_start_waits hst8 (hst9 h9) hrun]
    rw [hown]
    exact ⟨hstatus, hprio, hentry, rfl, rfl, rfl, rfl, hothers⟩
  case now =>
    obtain ⟨hstatus, hown⟩ := State.penBctl_start_now (n := n.toNat) hst8 (hst9 h9) hrun hcur
    obtain ⟨hg, hv⟩ := ({ (s.bob n.toNat).startAsked with prio := st % 4 } : Bobbin).clear_regs
    rw [State.hostWr_of_may hm, hown, Bobbin.controlled_start _ _ rfl rfl]
    refine ⟨hstatus, rfl, ?_, hg, hv, rfl, rfl, rfl⟩
    exact BitVec.eq_of_toNat_eq (Nat.mod_mod _ _)
  case stop =>
    obtain ⟨hstatus, hprio, -, hown, hothers⟩ := s.bctlSet_gives n.toNat sp (s.bob n.toNat).stopAsked
    rw [State.hostWr_of_may hm, State.penBctl_stop hsp9 hp, hown]
    exact ⟨hstatus, hprio, rfl, rfl, rfl, hothers⟩
  case unstart =>
    obtain ⟨hstatus, -, -, hown, -⟩ := s.bctlSet_gives n.toNat sp (s.bob n.toNat).startDropped
    rw [State.hostWr_of_may hm, State.penBctl_drop hsp9 hp, hown]
    exact ⟨hstatus, rfl, rfl⟩
  case going => exact State.groupBoundary_going hc hr hp hl
  case boundary =>
    have hflag : s.flag F.PEN_CTL_RUN = false := by rw [State.flag_eq_decide, hrun]; rfl
    obtain ⟨hmem, hbob⟩ := State.nextGroup_bob hflag
    rw [State.groupBoundary_stuck hr hstuck]
    refine ⟨hmem, fun m hm => ?_⟩
    obtain ⟨g, w, hg⟩ := hbob m hm
    obtain ⟨hp, hstop, hstart⟩ := (s.bob m).controlled_done (s.get (F.PEN_BCTL_PRIO m)) (s.get (F.PEN_BCTL_ENTRY m))
    rw [hg]
    refine ⟨hp, hstop, hstart, fun h => ?_, fun h h' => ?_⟩
    · rw [Bobbin.controlled_stop _ _ h]
      exact ⟨rfl, rfl⟩
    · rw [Bobbin.controlled_start _ _ h h']
      exact ⟨rfl, rfl, rfl⟩

/-! ## Repairs (R78, R79) -/

/-- Program and curve memory holds neither the role nor the next record number. -/
theorem isEngineMem_reg {a : Nat} (h : isEngineMem a = true) : a ≠ Reg.GLB_ROLE ∧ a ≠ Reg.JNL_WPTR := by
  constructor
  · rintro rfl
    exact absurd h (by decide)
  · rintro rfl
    exact absurd h (by decide)

/-- R78: a repair is counted and reported. -/
theorem State.parRepair_reports (s : State) {a : Nat} (h : isEngineMem a = true) :
    (s.parRepair a).get F.PEN_PFIX_COUNT = min (s.get F.PEN_PFIX_COUNT + 1) 0xFFFF ∧ ∃ p, Journalled s (s.parRepair a) 0x104 0 p := by
  obtain ⟨hrole, hwptr⟩ := isEngineMem_reg h
  have hne := (isEngineMem_apart h).2
  have hrd (x : Nat) (hx : x ≠ a) (hf : x ≠ Reg.PEN_PFIX) :
      (((s.wr a (s.flashWord a)).parFix a).incSat F.PEN_PFIX_COUNT).rd x = s.rd x := by
    rw [State.incSat_rd_ne _ _ _ hf, State.parFix_rd, State.rd_wr_ne _ _ hx]
  constructor
  · rw [State.parRepair, (State.raise_records _ _ _ _).get (f := F.PEN_PFIX_COUNT) (by decide), State.get_incSat_same _ _ 1 (by decide),
      State.parFix_get, State.get_congr (s.rd_wr_ne _ hne.symm)]
    rfl
  · refine ⟨_, (State.raise_journalled (((s.wr a (s.flashWord a)).parFix a).incSat F.PEN_PFIX_COUNT) 0x104 0 _).congr ?_ ?_ fun _ _ => rfl⟩
    · rw [State.acts, State.acts, State.get_congr (f := F.GLB_ROLE_ROLE) (hrd _ hrole.symm (by decide))]
    · exact (State.get_congr (hrd _ hwptr.symm (by decide))).symm

/-- R78, R81: the bobbin whose repair failed. -/
theorem State.faultBob_bob (s : State) (n c : Nat) (w : Word) :
    (s.faultBob n c w).bob n = ({ s.bob n with st := .faulted, fcode := c, fpc := (s.bob n).pc } : Bobbin).show := by
  rw [State.faultBob, State.endGroup_bob, State.raise_bob, State.bob_setBob_same]

theorem State.penPfix_fails {s : State} {n a : Nat} (hp : (s.bob n).parked = some a) :
    ∃ w, s.penPfix n false = (s.setBob n { s.bob n with parked := none }).faultBob n 5 w := by
  unfold State.penPfix
  rw [hp]
  exact ⟨_, rfl⟩

/-- Settles O20: a repair by what `State.parRepair` writes, a repair that fails by the fault, a scrub by repairs one after the other. -/
theorem parityRepairs : Obligations.ParityRepairs := by
  unfold Obligations.ParityRepairs
  refine ⟨fun s n a hp => ⟨fun he hb => ⟨_, rfl, ?repair⟩, ⟨_, rfl, ?fault⟩⟩, fun s hr hd => ⟨_, rfl, ?scrub⟩⟩
  case repair =>
    let u := s.setBob n.toNat { s.bob n.toNat with parked := none }
    obtain ⟨hcount, p, hevent⟩ := u.parRepair_reports he
    have hbob : (u.parRepair a).bob n.toNat = { s.bob n.toNat with parked := none } := by
      rw [State.parRepair_bob, State.bob_setBob_same]
    rw [State.penPfix_repairs hp hb]
    exact ⟨u.parRepair_rd he, by rw [State.parRepair_parBad, bne_self_eq_false, Bool.and_false], (congrArg Bobbin.parked hbob :),
      (congrArg Bobbin.st hbob :), hcount,
      fun x hx => by rw [State.parRepair_parBad, bne_iff_ne.mpr hx, Bool.and_true]; rfl, p, hevent⟩
  case fault =>
    obtain ⟨w, hw⟩ := State.penPfix_fails hp
    rw [hw, State.faultBob_bob, State.bob_setBob_same]
    exact ⟨rfl, rfl, rfl, rfl⟩
  case scrub =>
    obtain ⟨hphu, hpar⟩ := forEach_parRepair (s.badPar.filter isEngineMem) { s with phu := { s.phu with scrubP := s.phu.scrubP + 1 } }
    rw [State.programScrub_due hr (by omega)]
    refine ⟨fun x hx => (hpar x).trans ?_, fun x hx => (hpar x).trans ?_, by rw [hphu]⟩
    · simp [State.parBad, hx]
    · simp [State.parBad, hx]

end Sys2Proof.Machine

/-!
# The solve and its caps (O23)

Two things are shown apart.  The arithmetic of the caps: the module's scale factor takes the sum of the zones' estimates to the cap latched,
and the codes that are sent, each rounded down, have no more power than their zones' estimates so scaled.  And what the steps of a solve
leave of the mixing engine, so that the frame's own codes and registers are found at its end.
-/

namespace Sys2Proof.Machine

/-! ## What a pass over units keeps -/

/-- A pass keeps what each of its steps keeps. -/
theorem forEach_keeps {α β γ : Type} {f : β → α → α} (g : α → γ) (hf : ∀ x a, g (f x a) = g a) (l : List β) (a : α) :
    g (forEach f l a) = g a := by
  induction l generalizing a with
  | nil => rfl
  | cons x l ih => exact (ih (f x a)).trans (hf x a)

theorem forUp_keeps {α γ : Type} {f : Nat → α → α} (g : α → γ) (hf : ∀ i a, g (f i a) = g a) (n : Nat) (a : α) :
    g (forUp f n a) = g a := forEach_keeps g hf (List.range n) a

/-- A pass each of whose steps does nothing. -/
theorem forEach_of_id {α β : Type} {f : β → α → α} {l : List β} {a : α} (h : ∀ x ∈ l, f x a = a) : forEach f l a = a := by
  induction l with
  | nil => rfl
  | cons x l ih =>
    obtain ⟨hx, hl⟩ := List.forall_mem_cons.mp h
    have hstep : forEach f (x :: l) a = forEach f l (f x a) := rfl
    rw [hstep, hx, ih hl]

/-! ## Sums -/

theorem foldl_add_eq_sum {α : Type} (f : α → Nat) (l : List α) (a : Nat) : l.foldl (fun t x => t + f x) a = a + (l.map f).sum := by
  induction l generalizing a with
  | nil => rfl
  | cons x l ih => rw [List.foldl_cons, ih, List.map_cons, List.sum_cons, Nat.add_assoc]

/-- R146: a luminaire's power as a sum over its channels. -/
theorem State.lumPower_eq_sum (s : State) (i : Nat) (c : List Nat) :
    s.lumPower i c = ((List.range 8).map fun k => s.recWPC (calAddr i) k * c.getD k 0).sum := by
  rw [State.lumPower, foldl_add_eq_sum, Nat.zero_add]

/-- A code that is scaled and rounded down. -/
theorem getD_scaled (codes : List Nat) (f k : Nat) : (codes.map fun x => x * f / 65536).getD k 0 * 65536 ≤ codes.getD k 0 * f := by
  rw [List.getD_eq_getElem?_getD, List.getD_eq_getElem?_getD, List.getElem?_map]
  cases codes[k]? with
  | none => simp
  | some x => exact Nat.div_mul_le_self _ _

/-- R146: codes that are scaled by `f`, in 2^-16, and rounded down have at most the power so scaled. -/
theorem State.lumPower_scaled (s : State) (i f : Nat) (c : List Nat) :
    s.lumPower i (c.map fun x => x * f / 65536) * 65536 ≤ s.lumPower i c * f := by
  rw [State.lumPower_eq_sum, State.lumPower_eq_sum, ← List.sum_map_mul_right, ← List.sum_map_mul_right]
  refine List.sum_le_sum fun k _ => ?_
  rw [Nat.mul_assoc, Nat.mul_assoc]
  exact Nat.mul_le_mul_left _ (getD_scaled c f k)

/-- A sum over luminaires is at most the sum of their zones' sums, when every luminaire's zone is listed. -/
theorem sum_le_sum_zones (g : CapLum → Nat) (ls : List CapLum) (zs : List ZoneIn) (h : ∀ l ∈ ls, l.zone ∈ zs.map (·.zone)) :
    (ls.map g).sum ≤ (zs.map fun zi => ((ls.filter (·.zone == zi.zone)).map g).sum).sum := by
  induction ls with
  | nil => exact Nat.zero_le _
  | cons l ls ih =>
    obtain ⟨hl, hls⟩ := List.forall_mem_cons.mp h
    obtain ⟨z, hz, hzl⟩ := List.mem_map.mp hl
    have hone : g l ≤ (zs.map fun zi => if l.zone == zi.zone then g l else 0).sum := by
      refine List.single_le_sum (fun _ _ => Nat.zero_le _) _ (List.mem_map.mpr ⟨z, hz, ?_⟩)
      rw [hzl, beq_self_eq_true, if_pos rfl]
    have hsplit : (zs.map fun zi => (((l :: ls).filter (·.zone == zi.zone)).map g).sum) =
        zs.map fun zi => (if l.zone == zi.zone then g l else 0) + ((ls.filter (·.zone == zi.zone)).map g).sum := by
      refine List.map_congr_left fun zi _ => ?_
      rw [List.filter_cons]
      split
      · rw [List.map_cons, List.sum_cons]
      · rw [Nat.zero_add]
    rw [hsplit, List.sum_map_add, List.map_cons, List.sum_cons]
    exact Nat.add_le_add hone (ih hls)

/-! ## The caps (R146, R148, R149) -/

/-- R146: a cap's scale factor is at most 1. -/
theorem capScale_le (p cap : Nat) : capScale p cap ≤ 65536 := by
  unfold capScale
  split
  · exact Nat.le_refl _
  · exact Nat.div_le_of_le_mul (by omega)

/-- R146: a power that is scaled by its cap's factor keeps the cap. -/
theorem capScale_caps (p cap : Nat) : p * capScale p cap ≤ cap * 2 ^ 40 := by
  unfold capScale
  split
  · omega
  · exact Nat.mul_div_le _ _

theorem wattsUp_le {p w : Nat} (h : p * 65536 ≤ w * 2 ^ 40) : wattsUp p ≤ w := by
  unfold wattsUp
  omega

/-- R148: a zone's factor in the frame is its own scaled by the module's, each in 2^-16; what the codes so scaled have, the
estimate rounded up has too. -/
theorem scaled_twice {x p sz sm : Nat} (h : x * 65536 ≤ p * (sz * sm / 65536)) : x * 65536 ≤ (p * sz + 65535) / 65536 * sm := by
  have hdiv : sz * sm / 65536 * 65536 ≤ sz * sm := Nat.div_mul_le_self _ _
  have hup : p * sz ≤ (p * sz + 65535) / 65536 * 65536 := by omega
  refine Nat.le_of_mul_le_mul_right (c := 65536) ?_ (by decide)
  calc x * 65536 * 65536 ≤ p * (sz * sm / 65536) * 65536 := Nat.mul_le_mul_right _ h
    _ = p * (sz * sm / 65536 * 65536) := Nat.mul_assoc _ _ _
    _ ≤ p * (sz * sm) := Nat.mul_le_mul_left _ hdiv
    _ = p * sz * sm := (Nat.mul_assoc _ _ _).symm
    _ ≤ (p * sz + 65535) / 65536 * 65536 * sm := Nat.mul_le_mul_right _ hup
    _ = (p * sz + 65535) / 65536 * sm * 65536 := by rw [Nat.mul_assoc, Nat.mul_comm 65536, ← Nat.mul_assoc]

/-- R146: the codes of one zone's luminaires, scaled by the zone's factor and the module's, have at most the zone's estimate scaled by
the module's factor. -/
theorem State.pcapZone_scaled (s : State) (zi : ZoneIn) (ls : List CapLum) (sm : Nat) :
    ((ls.filter (·.zone == zi.zone)).map fun l => s.lumPower l.slot (l.codes.map fun x => x * ((s.pcapZone zi ls).sz * sm / 65536) / 65536)).sum *
      65536 ≤ (s.pcapZone zi ls).bz * sm := by
  have hpz : (s.pcapZone zi ls).pz = ((ls.filter (·.zone == zi.zone)).map fun l => s.lumPower l.slot l.codes).sum :=
    (foldl_add_eq_sum _ _ 0).trans (Nat.zero_add _)
  have hbz : (s.pcapZone zi ls).bz = ((s.pcapZone zi ls).pz * (s.pcapZone zi ls).sz + 65535) / 65536 := rfl
  rw [hbz]
  refine scaled_twice ?_
  rw [hpz, ← List.sum_map_mul_right, ← List.sum_map_mul_right]
  exact List.sum_le_sum fun l _ => s.lumPower_scaled _ _ _

/-- The zones' parts of the cap stage. -/
def State.capZones (s : State) (zs : List ZoneIn) (ls : List CapLum) : List CapZone := zs.map fun zi => s.pcapZone zi ls

/-- R148, R149: the factor by which a zone's codes are scaled in the frame. -/
def zoneScale (czs : List CapZone) (sm z : Nat) : Nat :=
  match czs.find? (·.zone == z) with
  | some c => c.sz * sm / 65536
  | none => 65536

/-- R146 to R149: the codes of one luminaire in the frame. -/
def frameCode (czs : List CapZone) (sm : Nat) (l : CapLum) : List Nat := l.codes.map fun x => x * zoneScale czs sm l.zone / 65536

/-- A zone that is listed once is scaled by its own factor. -/
theorem State.zoneScale_capZones (s : State) {zs : List ZoneIn} (ls : List CapLum) (sm : Nat) {zi : ZoneIn} (hz : zi ∈ zs)
    (hn : (zs.map (·.zone)).Nodup) : zoneScale (s.capZones zs ls) sm zi.zone = (s.pcapZone zi ls).sz * sm / 65536 := by
  have hfind : (s.capZones zs ls).find? (·.zone == zi.zone) = some (s.pcapZone zi ls) := by
    induction zs with
    | nil => cases hz
    | cons y zs ih =>
      rw [List.map_cons, List.nodup_cons] at hn
      have hcons : s.capZones (y :: zs) ls = s.pcapZone y ls :: s.capZones zs ls := rfl
      rw [hcons]
      rcases List.mem_cons.mp hz with rfl | hmem
      · exact List.find?_cons_of_pos (beq_self_eq_true _)
      · have hne : y.zone ≠ zi.zone := fun e => hn.1 (e ▸ List.mem_map.mpr ⟨zi, hmem, rfl⟩)
        rw [List.find?_cons_of_neg (by simpa [State.pcapZone] using hne)]
        exact ih hmem hn.2
  rw [zoneScale, hfind]

/-- R149, R150: the power of the frame's codes keeps the module cap. -/
theorem State.framePower_le (s : State) (zs : List ZoneIn) (ls : List CapLum) (cap : Nat) (hn : (zs.map (·.zone)).Nodup)
    (hl : ∀ l ∈ ls, l.zone ∈ zs.map (·.zone)) {pm : Nat} (hpm : pm = ((s.capZones zs ls).map (·.bz)).sum) :
    wattsUp (ls.map fun l => s.lumPower l.slot (frameCode (s.capZones zs ls) (capScale pm cap) l)).sum ≤ cap := by
  generalize hsm : capScale pm cap = sm
  have hzone : ∀ zi ∈ zs, ((ls.filter (·.zone == zi.zone)).map fun l => s.lumPower l.slot (frameCode (s.capZones zs ls) sm l)).sum * 65536 ≤
      (s.pcapZone zi ls).bz * sm := fun zi hzi => by
    have hscale : (ls.filter (·.zone == zi.zone)).map (fun l => s.lumPower l.slot (frameCode (s.capZones zs ls) sm l)) =
        (ls.filter (·.zone == zi.zone)).map fun l => s.lumPower l.slot (l.codes.map fun x => x * ((s.pcapZone zi ls).sz * sm / 65536) / 65536) :=
      List.map_congr_left fun l hl => by rw [frameCode, beq_iff_eq.mp (List.mem_filter.mp hl).2, s.zoneScale_capZones ls sm hzi hn]
    rw [hscale]
    exact s.pcapZone_scaled zi ls sm
  have hbz : pm = (zs.map fun zi => (s.pcapZone zi ls).bz).sum := by rw [hpm, State.capZones, List.map_map]; rfl
  refine wattsUp_le ?_
  calc _ ≤ _ := Nat.mul_le_mul_right 65536 (sum_le_sum_zones _ ls zs hl)
    _ = _ := (List.sum_map_mul_right ..).symm
    _ ≤ (zs.map fun zi => (s.pcapZone zi ls).bz * sm).sum := List.sum_le_sum hzone
    _ = pm * capScale pm cap := by rw [List.sum_map_mul_right, ← hbz, hsm]
    _ ≤ cap * 2 ^ 40 := capScale_caps pm cap

/-! ## What the steps of a solve leave of the mixing engine -/

/-- Two latches list the same slots, zones and cap. -/
structure Latched.Alike (l m : Latched) : Prop where
  slots : m.lums.map (·.slot) = l.lums.map (·.slot)
  lumZones : m.lums.map (·.zone) = l.lums.map (·.zone)
  zones : m.zones = l.zones
  pcap : m.pcap = l.pcap

theorem Latched.Alike.refl (l : Latched) : l.Alike l := ⟨rfl, rfl, rfl, rfl⟩

theorem Latched.invalidate_alike (l : Latched) (i : Nat) : l.Alike (l.invalidate i) := by
  refine ⟨?_, ?_, rfl, rfl⟩
  · rw [Latched.invalidate, List.map_map]
    exact List.map_congr_left fun x _ => by rw [Function.comp]; split <;> rfl
  · rw [Latched.invalidate, List.map_map]
    exact List.map_congr_left fun x _ => by rw [Function.comp]; split <;> rfl

/-- A frame is being solved whose latch is like `lt`, and its caps have not failed. -/
def State.solving (lt : Latched) (s : State) : Prop := s.sme.capFailed = false ∧ ∃ l, s.sme.latch = some l ∧ lt.Alike l

theorem State.copyRec_sme (s : State) (src dst : Nat) : (s.copyRec src dst).sme = s.sme := by
  unfold State.copyRec
  exact forUp_keeps State.sme (fun _ _ => by rfl) 128 s

/-- R154: a repair leaves the frame being solved, one of its slots INVALID or not. -/
theorem State.solving_repairRec {lt : Latched} {s : State} (h : s.solving lt) (i : Nat) : (s.repairRec i).solving lt := by
  obtain ⟨hcap, l, hl, hlike⟩ := h
  unfold State.repairRec
  split
  · rw [State.solving, State.raise_sme, State.incSat_sme, State.copyRec_sme]
    exact ⟨hcap, l, hl, hlike⟩
  · have hinv : (s.invalidate i).sme = { (s.setLum i { s.lum i with rec_ := .invalid }).sme with latch := s.sme.latch.map (·.invalidate i) } :=
      State.raise_sme _ _ _ _
    have hi := l.invalidate_alike i
    refine ⟨by rw [hinv]; exact hcap, l.invalidate i, by rw [hinv, hl]; rfl, ?_⟩
    exact ⟨hi.slots.trans hlike.slots, hi.lumZones.trans hlike.lumZones, hi.zones.trans hlike.zones, hi.pcap.trans hlike.pcap⟩

theorem State.solving_repairLatched {lt l : Latched} {s : State} (h : s.solving lt) : (s.repairLatched l).solving lt := by
  unfold State.repairLatched
  induction l.lums generalizing s with
  | nil => exact h
  | cons x l ih =>
    refine ih ?_
    dsimp only
    split
    · exact State.solving_repairRec h _
    · exact h

/-- R152: noting mismatches leaves the cap stage's verdict. -/
theorem State.noteFault_capFailed (s : State) (lt : Latched) (f : SolveFault) : (s.noteFault lt f).sme.capFailed = s.sme.capFailed := by
  unfold State.noteFault
  split
  · split
    · rfl
    · rfl
  · rfl

/-- One luminaire of the frame: its slot and zone, and the verdict of the cap stage left alone. -/
theorem State.frameLum_gives (s : State) (lt : Latched) (faults : List SolveFault) (li : LumIn) :
    (s.frameLum lt faults li).2.slot = li.slot ∧ (s.frameLum lt faults li).2.zone = li.zone ∧
      (s.frameLum lt faults li).1.sme.capFailed = s.sme.capFailed := by
  unfold State.frameLum
  dsimp only
  split
  · exact ⟨rfl, rfl, rfl⟩
  · split
    · exact ⟨rfl, rfl, rfl⟩
    · split
      · exact ⟨rfl, rfl, by rw [State.raiseRated_sme]; rfl⟩
      · exact ⟨rfl, rfl, rfl⟩

theorem State.frameLums_gives (s : State) (lt : Latched) (faults : List SolveFault) (lums : List LumIn) :
    (s.frameLums lt faults lums).2.map (·.slot) = lums.map (·.slot) ∧ (s.frameLums lt faults lums).2.map (·.zone) = lums.map (·.zone) ∧
      (s.frameLums lt faults lums).1.sme.capFailed = s.sme.capFailed := by
  induction lums generalizing s with
  | nil => exact ⟨rfl, rfl, rfl⟩
  | cons li lums ih =>
    obtain ⟨hslot, hzone, hcap⟩ := s.frameLum_gives lt faults li
    obtain ⟨hslots, hzones, hcaps⟩ := ih (s.frameLum lt faults li).1
    exact ⟨congrArg₂ List.cons hslot hslots, congrArg₂ List.cons hzone hzones, hcaps.trans hcap⟩

/-! ## The cap stage's registers (R149, R150, R153) -/

/-- R149, R150: the registers of the frame's estimate, scale and cycles, with MCAP and its event. -/
def State.capReport (s : State) (pm post sm cycles : Nat) : State :=
  ((((s.put F.SME_ESTPRE_W (wattsUp pm)).put F.SME_ESTPOST_W (wattsUp post)).put F.SME_SCALE_SM sm).put F.SME_SOLVET_CYC cycles).mcap pm sm

/-- R150: MCAP and its event leave the registers beside SME_STAT. -/
theorem State.mcap_gives (s : State) (pm sm : Nat) : (s.mcap pm sm).sme = s.sme ∧
    ∀ f : Fld, recordAddr f.addr = false → F.SME_STAT_MCAP.disj f = true → (s.mcap pm sm).get f = s.get f := by
  unfold State.mcap
  dsimp only
  split
  · exact ⟨State.raise_sme _ _ _ _, fun f hf hd => (State.raise_get _ _ _ _ hf).trans (s.get_setFlag_disj _ hd)⟩
  · exact ⟨rfl, fun f _ hd => s.get_setFlag_disj _ hd⟩

theorem State.capReport_gives (s : State) (pm post sm cycles : Nat) : (s.capReport pm post sm cycles).sme = s.sme ∧
    (s.capReport pm post sm cycles).get F.SME_SOLVET_CYC = cycles % 2 ^ 24 ∧
    (s.capReport pm post sm cycles).get F.SME_SCALE_SM = sm % 2 ^ 17 ∧
    (s.capReport pm post sm cycles).get F.SME_ESTPOST_W = wattsUp post % 2 ^ 32 := by
  unfold State.capReport
  generalize hu : ((s.put F.SME_ESTPRE_W (wattsUp pm)).put F.SME_ESTPOST_W (wattsUp post)).put F.SME_SCALE_SM sm = u
  obtain ⟨hsme, hget⟩ := (u.put F.SME_SOLVET_CYC cycles).mcap_gives pm sm
  refine ⟨hsme.trans (by rw [← hu]; rfl), ?_, ?_, ?_⟩
  · rw [hget _ (by decide) (by decide), State.get_put_same _ _ _ (by decide)]
    rfl
  · rw [hget _ (by decide) (by decide), State.get_put_disj _ _ (by decide), ← hu, State.get_put_same _ _ _ (by decide)]
    rfl
  · rw [hget _ (by decide) (by decide), State.get_put_disj _ _ (by decide), ← hu, State.get_put_disj _ _ (by decide),
      State.get_put_same _ _ _ (by decide)]
    rfl

/-- R57, R149: the zones' reports leave the verdict of the cap stage. -/
theorem State.zoneReports_capFailed (s : State) (zs : List Nat) (czs : List CapZone) (ls : List CapLum) (sm : Nat) :
    (forEach (fun cz s => s.zoneReport ls cz sm) czs (forEach (fun z s => s.zoneClear z) zs s)).sme.capFailed = s.sme.capFailed :=
  (forEach_keeps (fun t : State => t.sme.capFailed) (fun _ _ => by rfl) czs _).trans
    (forEach_keeps (fun t : State => t.sme.capFailed) (fun _ _ => by rfl) zs s)

/-- R146 to R149: the codes of the frame, scaled by their zones' factors and the module's. -/
def frameCodes (czs : List CapZone) (sm : Nat) (ls : List CapLum) : Sp (List Nat) :=
  ls.map fun l => (l.slot, frameCode czs sm l)

/-- R149: a frame's power as a sum over its luminaires. -/
theorem State.framePower_eq_sum (s : State) (czs : List CapZone) (sm : Nat) (ls : List CapLum) :
    (frameCodes czs sm ls).foldl (fun t p => t + s.lumPower p.1 p.2) 0 =
      (ls.map fun l => s.lumPower l.slot (frameCode czs sm l)).sum := by
  rw [foldl_add_eq_sum, Nat.zero_add, frameCodes, List.map_map]
  rfl

/-- What a completed solve of the frame `lt` leaves. -/
structure SolveDone (lt : Latched) (cycles : Nat) (t : State) : Prop where
  capFailed : t.sme.capFailed = false
  slots : (t.sme.next.map fun c => c.map (·.1)) = some (lt.lums.map (·.slot))
  cycles : t.get F.SME_SOLVET_CYC = cycles % 2 ^ 24
  scale : t.get F.SME_SCALE_SM ≤ 65536
  within : (lt.zones.map (·.zone)).Nodup → (∀ l ∈ lt.lums, l.zone ∈ lt.zones.map (·.zone)) → t.get F.SME_ESTPOST_W ≤ lt.pcap

/-- R146 to R153: a solve whose caps have not failed twice, from the luminaires of its frame on. -/
theorem State.solveLatched_eq {s : State} {l : Latched} (hl : s.sme.latch = some l) (faults : List SolveFault) {fails : Nat} (hf : fails < 2)
    (cycles : Nat) :
    let x := (forEach (fun (f : SolveFault) s => s.noteFault l f) faults s).frameLums l faults l.lums
    let czs := x.1.capZones l.zones x.2
    let pm := czs.foldl (fun t z => t + z.bz) 0
    let codes := frameCodes czs (capScale pm l.pcap) x.2
    ∃ (u : State) (cs : Sp (List Nat)) (zs : List Nat), u.sme.capFailed = x.1.sme.capFailed ∧
      s.solveLatched faults fails cycles =
        let r := u.capReport pm (codes.foldl (fun t p => t + x.1.lumPower p.1 p.2) 0) (capScale pm l.pcap) cycles
        { r with sme := { r.sme with next := some codes, nextCs := cs, statZones := zs } } := by
  intro x czs pm codes
  unfold State.solveLatched
  rw [hl]
  exact ⟨_, _, _, State.zoneReports_capFailed x.1 (x.1.sme.statZones.filter fun z => !(czs.any (·.zone == z))) czs x.2 (capScale pm l.pcap),
    if_neg (by omega)⟩

theorem State.solveLatched_done {lt : Latched} {s : State} (h : s.solving lt) (faults : List SolveFault) {fails : Nat} (hf : fails < 2)
    (cycles : Nat) : SolveDone lt cycles (s.solveLatched faults fails cycles) := by
  obtain ⟨hcap, l, hl, hslots, hzones, hzs, hpcap⟩ := h
  obtain ⟨u, cs, zs, hu, heq⟩ := State.solveLatched_eq hl faults hf cycles
  have hnoted := forEach_keeps (fun t : State => t.sme.capFailed) (fun f t => State.noteFault_capFailed t l f) faults s
  generalize forEach (fun (f : SolveFault) s => s.noteFault l f) faults s = s1 at hnoted hu heq
  obtain ⟨hxs, hxz, hxc⟩ := s1.frameLums_gives l faults l.lums
  generalize s1.frameLums l faults l.lums = x at hxs hxz hxc hu heq
  rw [heq]
  generalize hpm : (x.1.capZones l.zones x.2).foldl (fun t z => t + z.bz) 0 = pm
  obtain ⟨hsme, hcyc, hscale, hpost⟩ := u.capReport_gives pm
    ((frameCodes (x.1.capZones l.zones x.2) (capScale pm l.pcap) x.2).foldl (fun t p => t + x.1.lumPower p.1 p.2) 0) (capScale pm l.pcap) cycles
  refine ⟨?_, congrArg some ?_, hcyc, ?_, fun hn hmem => ?_⟩
  · exact (congrArg Sme.capFailed hsme).trans (hu.trans (hxc.trans (hnoted.trans hcap)))
  · exact (List.map_map ..).trans (hxs.trans hslots)
  · exact hscale.trans_le ((Nat.mod_le _ _).trans (capScale_le pm l.pcap))
  · refine hpost.trans_le ((Nat.mod_le _ _).trans ?_)
    rw [State.framePower_eq_sum, hpcap, hzs]
    rw [hzs, foldl_add_eq_sum, Nat.zero_add] at hpm
    refine x.1.framePower_le lt.zones x.2 lt.pcap hn (fun y hy => ?_) hpm.symm
    have hy' : y.zone ∈ lt.lums.map (·.zone) := hzones ▸ hxz ▸ List.mem_map.mpr ⟨y, hy, rfl⟩
    obtain ⟨li, hli, hz⟩ := List.mem_map.mp hy'
    exact hz ▸ hmem li hli

/-! ## A cap stage that fails twice (R153) -/

/-- Only what the mixing engine keeps for its luminaires differs. -/
def OnlyLums (s t : State) : Prop := t = { s with sme := { s.sme with lums := t.sme.lums } }

theorem OnlyLums.refl (s : State) : OnlyLums s s := rfl

theorem OnlyLums.trans {s t u : State} (h : OnlyLums s t) (k : OnlyLums t u) : OnlyLums s u := by
  unfold OnlyLums at *
  rw [k, h]

theorem State.setLum_onlyLums (s : State) (i : Nat) (l : Lum) : OnlyLums s (s.setLum i l) := rfl

/-- R58, R141: without a residue mismatch a luminaire of the frame changes nothing but what is kept for it. -/
theorem State.frameLum_onlyLums (s : State) (lt : Latched) (li : LumIn) : OnlyLums s (s.frameLum lt [] li).1 := by
  unfold State.frameLum
  dsimp only
  split
  · exact s.setLum_onlyLums _ _
  · split
    · exact s.setLum_onlyLums _ _
    · exact s.setLum_onlyLums _ _

theorem State.frameLums_onlyLums (s : State) (lt : Latched) (lums : List LumIn) : OnlyLums s (s.frameLums lt [] lums).1 := by
  induction lums generalizing s with
  | nil => exact OnlyLums.refl s
  | cons li lums ih => exact (s.frameLum_onlyLums lt li).trans (ih _)

theorem State.repairLatched_of_good {s : State} {lt : Latched} (h : ∀ l ∈ lt.lums, l.rec_ = .valid → s.recParBad l.slot = false) :
    s.repairLatched lt = s := by
  refine forEach_of_id fun li hli => if_neg fun hbad => ?_
  rw [h li hli hbad.1] at hbad
  exact absurd hbad.2 (by decide)

/-- An event raised where the store is that of `s` is the next record of `s`. -/
theorem Journalled.of_mem {s s' t : State} {c u : Nat} {p : List Nat} (h : Journalled s' t c u p) (hm : s'.mem = s.mem) : Journalled s t c u p := by
  have hrd (a : Nat) : s'.rd a = s.rd a := by rw [State.rd, hm]; rfl
  refine h.congr ?_ (State.get_congr (hrd _)).symm fun _ _ => rfl
  rw [State.acts, State.acts, State.get_congr (f := F.GLB_ROLE_ROLE) (hrd _)]

theorem State.solveLatched_failed {s : State} {lt : Latched} (hl : s.sme.latch = some lt) {fails : Nat} (hf : 2 ≤ fails) (cycles : Nat) :
    (s.solveLatched [] fails cycles).sme.capFailed = true ∧ (s.solveLatched [] fails cycles).sme.next = s.sme.next ∧
      Journalled s (s.solveLatched [] fails cycles) 0x218 0 [] := by
  have hx : OnlyLums s ((s.frameLums lt [] lt.lums).1.keepGood s) := (s.frameLums_onlyLums lt lt.lums).trans rfl
  have heq : s.solveLatched [] fails cycles =
      let r := ((s.frameLums lt [] lt.lums).1.keepGood s).raise 0x218 0
      { r with sme := { r.sme with capFailed := true } } := by
    unfold State.solveLatched
    rw [hl]
    exact if_pos hf
  rw [heq]
  generalize (s.frameLums lt [] lt.lums).1.keepGood s = u at hx
  refine ⟨rfl, ?_, (State.raise_journalled u 0x218 0 []).of_mem (by rw [hx])⟩
  exact (congrArg Sme.next (State.raise_sme _ _ _ _)).trans (by rw [hx])

/-! ## The obligation -/

/-- A frame's solve runs when no solved frame waits and its caps have not failed. -/
theorem State.solveComplete_runs {s : State} {lt : Latched} (hl : s.sme.latch = some lt) (hn : s.sme.next = none)
    (hc : s.sme.capFailed = false) (hm : s.mode = .run) (faults : List SolveFault) (fails cycles : Nat) :
    s.solveComplete faults fails cycles = (s.repairLatched lt).solveLatched faults fails cycles := by
  rw [State.solveComplete, if_neg (by simp [hn, hc, hm]), hl]

/-- Settles O23: the frame solved is the one latched, but for slots that a repair makes INVALID; its power after the caps by
`State.framePower_le`. -/
theorem solveCompletesWithinTheCap : Obligations.SolveCompletesWithinTheCap := by
  unfold Obligations.SolveCompletesWithinTheCap
  intro s faults fails cycles lt hl hn hc hm
  refine ⟨fun hf => ⟨_, rfl, ?completed⟩, fun hf hnone hgood => ⟨_, rfl, ?failed⟩⟩
  case completed =>
    have hsolving : (s.repairLatched lt).solving lt := State.solving_repairLatched ⟨hc, lt, hl, .refl lt⟩
    obtain ⟨hcap, hslots, hcyc, hscale, hwithin⟩ := State.solveLatched_done hsolving faults hf cycles
    rw [State.solveComplete_runs hl hn hc hm]
    exact ⟨hcap, hslots, hcyc, hscale, fun hnodup hzones _ => hwithin hnodup hzones⟩
  case failed =>
    subst hnone
    obtain ⟨hcap, hnext, hevent⟩ := State.solveLatched_failed hl hf cycles
    rw [State.solveComplete_runs hl hn hc hm, State.repairLatched_of_good hgood]
    exact ⟨hcap, hnext.trans hn, hevent⟩

end Sys2Proof.Machine

/-!
# Lanes, calibration records and ageing saves (O24)

A repair of a calibration record is told once, by what it writes and what it leaves alone; CALFIX is one such repair and a scrub pass that
finds one wrong CRC another, since the records beside the one repaired read as before.
-/

namespace Sys2Proof.Machine

/-! ## Lanes (R152) -/

theorem bit_setBit_false (v i : Nat) : bit (setBit v i false) i = false := by
  unfold setBit
  split
  · next h => exact beq_iff_eq.mp h
  · next h =>
    have hb : bit v i = true := by simpa using h
    have hodd : v / 2 ^ i % 2 = 1 := beq_iff_eq.mp hb
    have hsub : (v - 2 ^ i) / 2 ^ i = v / 2 ^ i - 1 := by simpa using Nat.sub_mul_div v (2 ^ i) 1
    rw [if_neg (by decide), bit, hsub, beq_eq_false_iff_ne]
    omega

/-- A bit that is set is cleared by taking its weight off. -/
theorem setBit_false_of_bit {v i : Nat} (h : bit v i = true) : setBit v i false = v - 2 ^ i := by
  rw [setBit, h]
  rfl

theorem two_pow_le_of_bit {v i : Nat} (h : bit v i = true) : 2 ^ i ≤ v := by
  by_contra hlt
  rw [bit, Nat.div_eq_of_lt (not_le.mp hlt)] at h
  exact absurd h (by decide)

/-- R152: lane `k` is noted to leave no more. -/
def State.laneNoted (s : State) (k : Nat) : State := { s with sme := { s.sme with laneDue := setBit s.sme.laneDue k false } }

/-- R152: a lane that is due leaves when another stays. -/
theorem State.laneOut_leaves {s : State} {k : Nat} (hd : bit s.sme.laneDue k = true) (hb : bit (s.get F.SME_STAT_LANES) k = true)
    (hl : s.get F.SME_STAT_LANES ≠ 2 ^ k) :
    s.laneOut k = ((s.laneNoted k).put F.SME_STAT_LANES (s.get F.SME_STAT_LANES - 2 ^ k)).raise 0x212 k := by
  have hne : s.get F.SME_STAT_LANES - 2 ^ k ≠ 0 := by
    have := two_pow_le_of_bit hb
    omega
  rw [State.laneOut, if_pos hd, setBit_false_of_bit hb]
  exact if_pos ⟨hb, hne⟩

/-- R152: the last lane stays. -/
theorem State.laneOut_stays {s : State} {k : Nat} (hd : bit s.sme.laneDue k = true) (hl : s.get F.SME_STAT_LANES = 2 ^ k) :
    s.laneOut k = s.laneNoted k := by
  have hb : bit (2 ^ k) k = true := by simp [bit]
  rw [State.laneOut, if_pos hd, hl, setBit_false_of_bit hb, Nat.sub_self]
  exact if_neg fun h => h.2 rfl

/-! ## Passes that write consecutive words -/

/-- Steps that each write one of the words from `b` on. -/
theorem forUp_writes {f : Nat → State → State} {b : Nat} {v : Nat → Word}
    (hf : ∀ k t x, (f k t).rd x = if x = b + 4 * k then v k else t.rd x) (s : State) (n : Nat) :
    (∀ k, k < n → (forUp f n s).rd (b + 4 * k) = v k) ∧ ∀ x, (∀ k, k < n → x ≠ b + 4 * k) → (forUp f n s).rd x = s.rd x := by
  induction n with
  | zero => exact ⟨fun k hk => absurd hk (Nat.not_lt_zero k), fun _ _ => rfl⟩
  | succ n ih =>
    obtain ⟨hin, hout⟩ := ih
    rw [forUp_succ]
    refine ⟨fun k hk => ?_, fun x hx => ?_⟩
    · rw [hf]
      obtain rfl | hlt : k = n ∨ k < n := by omega
      · exact if_pos rfl
      · rw [if_neg (by omega), hin k hlt]
    · rw [hf, if_neg (hx n (by omega)), hout x fun k hk => hx k (by omega)]

/-- R131: the words of a record are copied, and nothing else. -/
theorem State.copyRec_rd (s : State) (src dst : Nat) : (∀ k, k < 128 → (s.copyRec src dst).rd (dst + 4 * k) = s.rd (src + 4 * k)) ∧
    ∀ x, (∀ k, k < 128 → x ≠ dst + 4 * k) → (s.copyRec src dst).rd x = s.rd x := by
  have hstep (k : Nat) (t : State) (x : Nat) : ((t.wr (dst + 4 * k) (s.rd (src + 4 * k))).parFix (dst + 4 * k)).rd x =
      if x = dst + 4 * k then s.rd (src + 4 * k) else t.rd x := t.rd_wr _ _ _
  exact forUp_writes hstep s 128

/-- R80: the words copied have good parity. -/
theorem State.copyRec_parBad (s : State) (src dst : Nat) {k : Nat} (hk : k < 128) : (s.copyRec src dst).parBad (dst + 4 * k) = false := by
  have hpar : ∀ n, k < n → (forUp (fun k t => (t.wr (dst + 4 * k) (s.rd (src + 4 * k))).parFix (dst + 4 * k)) n s).parBad (dst + 4 * k) = false := by
    intro n
    induction n with
    | zero => exact fun h => absurd h (Nat.not_lt_zero k)
    | succ n ih =>
      intro h
      rw [forUp_succ, State.parBad_parFix]
      obtain rfl | hlt : k = n ∨ k < n := by omega
      · rw [bne_self_eq_false, Bool.and_false]
      · rw [Bool.and_eq_false_iff]
        exact .inl (ih hlt)
  exact hpar 128 hk

/-! ## Memories that read alike -/

section
variable {s t : State}

theorem State.rdBE_congr {a k n : Nat} (h : ∀ j, k ≤ j → j < k + n → t.rdByte a j = s.rdByte a j) : t.rdBE a k n = s.rdBE a k n := by
  induction n with
  | zero => rfl
  | succ n ih => rw [State.rdBE, State.rdBE, ih fun j hj hn => h j hj (by omega), h (k + n) (by omega) (by omega)]

theorem State.rdBytes_congr {a k n : Nat} (h : ∀ j, k ≤ j → j < k + n → t.rdByte a j = s.rdByte a j) :
    t.rdBytes a k n = s.rdBytes a k n := by
  induction n generalizing k with
  | zero => rfl
  | succ n ih => rw [State.rdBytes, State.rdBytes, h k (by omega) (by omega), ih fun j hj hn => h j (by omega) (by omega)]

/-- The bytes of a record come from its 128 words. -/
theorem State.rdByte_record {a : Nat} (h : ∀ k, k < 128 → t.rd (a + 4 * k) = s.rd (a + 4 * k)) {j : Nat} (hj : j < 512) :
    t.rdByte a j = s.rdByte a j := by
  rw [State.rdByte, State.rdByte, Nat.mul_comm, h (j / 4) (by omega)]

/-- R128: a record's CRC and the CRC it holds come from its 128 words. -/
theorem State.crc_record {a : Nat} (h : ∀ k, k < 128 → t.rd (a + 4 * k) = s.rd (a + 4 * k)) :
    crc32 (t.rdBytes a 0 508) = crc32 (s.rdBytes a 0 508) ∧ t.recU a 508 4 = s.recU a 508 4 :=
  ⟨congrArg crc32 (State.rdBytes_congr fun _ _ hj => State.rdByte_record h (by omega)),
    State.rdBE_congr fun _ _ hj => State.rdByte_record h (by omega)⟩

/-- R129: the check of a record reads memory from the record on only. -/
theorem State.recCheck_congr {a : Nat} (h : ∀ x, a ≤ x → t.rd x = s.rd x) : t.recCheck a = s.recCheck a := by
  have hbyte (j : Nat) : t.rdByte a j = s.rdByte a j := by rw [State.rdByte, State.rdByte, h _ (Nat.le_add_right a _)]
  have hBE : t.rdBE a = s.rdBE a := funext fun k => funext fun n => State.rdBE_congr fun j _ _ => hbyte j
  have hbytes : t.rdBytes a = s.rdBytes a := funext fun k => funext fun n => State.rdBytes_congr fun j _ _ => hbyte j
  unfold State.recCheck State.recFIT State.recPMASK State.recKT State.recIREF State.recCMAX State.recWPC State.recM State.recSd State.recP
    State.recU State.recS
  rw [hBE, hbytes]

end

/-! ## Addresses of the records (R131, R523) -/

/-- Calibration memory in use holds no record of an event. -/
theorem recordAddr_cal {i k : Nat} (hi : i < 4096) (hk : k < 128) : recordAddr (calAddr i + 4 * k) = false := by
  simp only [recordAddr, Bool.or_eq_false_iff, Bool.and_eq_false_iff, decide_eq_false_iff_not]
  unfold calAddr calBase jnlBase
  omega

/-- A register is no word of a calibration record. -/
theorem cal_ne_reg {i k a : Nat} (h : a < calBase) : calAddr i + 4 * k ≠ a := by
  unfold calAddr
  omega

/-- The words of two records are apart. -/
theorem cal_ne_cal {i j k m : Nat} (h : j ≠ i) (hk : k < 128) (hm : m < 128) : calAddr j + 4 * k ≠ calAddr i + 4 * m := by
  unfold calAddr
  omega

/-! ## The repair of a record (R154) -/

/-- What the repair of record `i` writes when its flash copy passes the check. -/
structure RecRepaired (s : State) (i : Nat) (t : State) : Prop where
  words : ∀ k, k < 128 → t.rd (calAddr i + 4 * k) = s.rd (calFlashAddr i + 4 * k) ∧ t.parBad (calAddr i + 4 * k) = false
  count : t.get F.SME_CALFIX_COUNT = min (s.get F.SME_CALFIX_COUNT + 1) 0xFFFF
  event : Journalled s t 0x213 (s.get (F.NT_ZONE i)) [i]
  sme : t.sme = s.sme

/-- What it writes when the flash copy fails: the slot is INVALID. -/
structure RecInvalid (s : State) (i : Nat) (t : State) : Prop where
  state : (t.lum i).rec_ = .invalid
  flag : t.get F.SME_STAT_INVAL = 1
  event : Journalled s t 0x214 (s.get (F.NT_ZONE i)) [i]

/-- An event raised after words are written that are neither the role's, nor the next number's, nor the ring's, is the next record. -/
theorem Journalled.of_rd {s s' t : State} {c u : Nat} {p : List Nat} (h : Journalled s' t c u p)
    (hrole : s'.rd Reg.GLB_ROLE = s.rd Reg.GLB_ROLE) (hwptr : s'.rd Reg.JNL_WPTR = s.rd Reg.JNL_WPTR) : Journalled s t c u p := by
  refine h.congr ?_ (State.get_congr hwptr).symm fun _ _ => rfl
  rw [State.acts, State.acts, State.get_congr (f := F.GLB_ROLE_ROLE) hrole]

theorem State.repairRec_good {s : State} {i : Nat} (hi : i < 4096) (h : s.recCheck (calFlashAddr i) = 0) : RecRepaired s i (s.repairRec i) := by
  obtain ⟨hin, hout⟩ := s.copyRec_rd (calFlashAddr i) (calAddr i)
  have hcopy (a : Nat) (ha : a < calBase) : (s.copyRec (calFlashAddr i) (calAddr i)).rd a = s.rd a := hout a fun k _ => (cal_ne_reg ha).symm
  have hput (a : Nat) (ha : a < calBase) (hne : a ≠ Reg.SME_CALFIX) :
      ((s.copyRec (calFlashAddr i) (calAddr i)).incSat F.SME_CALFIX_COUNT).rd a = s.rd a := (State.rd_put_ne _ _ hne).trans (hcopy a ha)
  rw [State.repairRec, if_pos h]
  refine ⟨fun k hk => ⟨?_, ?_⟩, ?_, ?_, ?_⟩
  · rw [State.raise_rd _ _ _ _ (recordAddr_cal hi hk), State.incSat_rd_ne _ _ _ (cal_ne_reg (by decide)), hin k hk]
  · rw [← s.copyRec_parBad (calFlashAddr i) (calAddr i) hk, State.parBad, State.raise_badPar, State.incSat_badPar, ← State.parBad]
  · rw [State.raise_get _ _ _ _ (by decide), State.get_incSat_same _ _ _ (by decide), State.get_congr (f := F.SME_CALFIX_COUNT) (hcopy _ (by decide))]
    rfl
  · exact (State.raise_journalled _ _ _ _).of_rd (hput _ (by decide) (by decide)) (hput _ (by decide) (by decide))
  · rw [State.raise_sme, State.incSat_sme, State.copyRec_sme]

theorem State.invalidate_gives (s : State) (i : Nat) : RecInvalid s i (s.invalidate i) := by
  have hput (a : Nat) (ha : a ≠ Reg.SME_STAT) :
      (({ s.setLum i { s.lum i with rec_ := .invalid } with
        sme := { (s.setLum i { s.lum i with rec_ := .invalid }).sme with latch := s.sme.latch.map (·.invalidate i) } } : State).setFlag
          F.SME_STAT_INVAL true).rd a = s.rd a := State.rd_put_ne _ _ ha
  unfold State.invalidate
  refine ⟨?_, ?_, ?_⟩
  · rw [State.lum, State.raise_sme]
    exact congrArg Lum.rec_ (s.lum_setLum_same i { s.lum i with rec_ := .invalid })
  · rw [State.raise_get _ _ _ _ (by decide), State.get_setFlag_same _ _ _ (by decide) rfl]
    rfl
  · exact (State.raise_journalled _ _ _ _).of_rd (hput _ (by decide)) (hput _ (by decide))

theorem State.repairRec_bad {s : State} {i : Nat} (h : s.recCheck (calFlashAddr i) ≠ 0) : RecInvalid s i (s.repairRec i) := by
  rw [State.repairRec, if_neg h]
  exact s.invalidate_gives i

/-- R154: beside the record, its repair writes the count, INVAL and the words of an event. -/
theorem State.repairRec_rd (s : State) (i : Nat) {x : Nat} (hx : ∀ k, k < 128 → x ≠ calAddr i + 4 * k) (hfix : x ≠ Reg.SME_CALFIX)
    (hstat : x ≠ Reg.SME_STAT) (hr : recordAddr x = false) : (s.repairRec i).rd x = s.rd x := by
  unfold State.repairRec
  split
  · rw [State.raise_rd _ _ _ _ hr, State.incSat_rd_ne _ _ _ hfix, (s.copyRec_rd _ _).2 x hx]
  · exact (State.raise_rd _ _ _ _ hr).trans (State.rd_put_ne _ _ hstat)

/-! ## Installation (R131) -/

@[simp] theorem State.setLum_rd (s : State) (i a : Nat) (l : Lum) : (s.setLum i l).rd a = s.rd a := rfl

/-- R208: what is not fitted changes nothing but channels. -/
theorem State.unfit_only (s : State) (i : Nat) : (s.unfit i).mem = s.mem ∧ (s.unfit i).sme = s.sme := by
  unfold State.unfit
  refine ⟨forUp_keeps State.mem (fun k t => ?_) 8 s, forUp_keeps State.sme (fun k t => ?_) 8 s⟩
  all_goals
    split
    · rfl
    · rfl

/-- R131, R133: an installed record is VALID, and only its words and the count of aged channels are written. -/
theorem State.installRec_gives (s : State) (i : Nat) : ((s.installRec i).lum i).rec_ = .valid ∧
    ∀ a, a < calBase → a ≠ Reg.SME_EOLCNT → (s.installRec i).rd a = s.rd a := by
  have hcopy (a : Nat) (ha : a < calBase) : (s.copyRec (calFlashAddr i) (calAddr i)).rd a = s.rd a :=
    (s.copyRec_rd _ _).2 a fun k _ => (cal_ne_reg ha).symm
  unfold State.installRec
  dsimp only
  split
  · obtain ⟨hmem, hsme⟩ := State.unfit_only (((s.copyRec (calFlashAddr i) (calAddr i)).setLum i { (s.lum i).resetAge with rec_ := .valid }).put
      F.SME_EOLCNT_COUNT (s.get F.SME_EOLCNT_COUNT - ((s.lum i).eol.toList.filter (· == true)).length)) i
    refine ⟨?_, fun a ha hne => ?_⟩
    · rw [State.lum, hsme]
      exact congrArg Lum.rec_ (State.lum_setLum_same _ i _)
    · rw [State.rd, hmem, ← State.rd, State.rd_put_ne _ _ hne, State.setLum_rd, hcopy a ha]
  · obtain ⟨hmem, hsme⟩ := State.unfit_only ((s.copyRec (calFlashAddr i) (calAddr i)).setLum i { s.lum i with rec_ := .valid }) i
    refine ⟨?_, fun a ha _ => ?_⟩
    · rw [State.lum, hsme]
      exact congrArg Lum.rec_ (State.lum_setLum_same _ i _)
    · rw [State.rd, hmem, ← State.rd, State.setLum_rd, hcopy a ha]

/-- R131: a record that waits is installed at its frame start; no CALLOAD is running beside it. -/
theorem State.installStep_gives {s : State} {m : Nat} (hm : s.sme.install = some m) (hack : s.sme.installAck = true)
    (hlop : ∀ n, n < 8 → ¬ (s.get (F.LOP_STAT_CODE n) = 1 ∧ s.get (F.LOP_STAT_STATE n) = 1)) :
    s.installStep.sme.install = none ∧ (s.installStep.lum m).rec_ = .valid := by
  obtain ⟨hvalid, hrd⟩ := s.installRec_gives m
  have hpend : s.installPending = { s.installRec m with sme := { (s.installRec m).sme with install := none, installed := some m } } := by
    rw [State.installPending, hm]
  have hnone : (List.range 8).find? s.installPending.loadsCal = none := by
    rw [List.find?_eq_none]
    intro n hn hloads
    have hn8 : n < 8 := List.mem_range.mp hn
    have hword : s.installPending.rd (Reg.LOP_STAT n) = s.rd (Reg.LOP_STAT n) := by
      rw [hpend]
      refine hrd _ ?_ ?_
      · unfold Reg.LOP_STAT calBase
        omega
      · unfold Reg.LOP_STAT Reg.SME_EOLCNT
        omega
    simp only [State.loadsCal, State.lopState, Bool.and_eq_true, beq_iff_eq, State.get_congr (f := F.LOP_STAT_CODE n) hword,
      State.get_congr (f := F.LOP_STAT_STATE n) hword] at hloads
    exact hlop n hn8 hloads.1
  have heq : s.installStep = s.installPending := by
    rw [State.installStep, if_pos (by simp [hm, hack])]
    dsimp only
    rw [hnone]
  rw [heq, hpend]
  exact ⟨rfl, hvalid⟩

/-! ## The scrub (R155) -/

theorem spWfFrom_lt {α : Type} [DecidableEq α] {d : Nat → α} {lo : Nat} {m : Sp α} (h : spWfFrom d (some lo) m = true) :
    ∀ p ∈ m, lo < p.1 := by
  induction m generalizing lo with
  | nil => exact fun _ hp => by cases hp
  | cons q m ih =>
    obtain ⟨j, v⟩ := q
    simp only [spWfFrom, Bool.and_eq_true, decide_eq_true_eq] at h
    obtain ⟨⟨hlt, -⟩, hm⟩ := h
    refine List.forall_mem_cons.mpr ⟨hlt, fun p hp => hlt.trans (ih hm p hp)⟩

/-- A canonical table lists a key once. -/
theorem spWfFrom_keys {α : Type} [DecidableEq α] {d : Nat → α} {lo : Option Nat} {m : Sp α} (h : spWfFrom d lo m = true) :
    (m.map (·.1)).Nodup := by
  induction m generalizing lo with
  | nil => exact List.nodup_nil
  | cons q m ih =>
    obtain ⟨j, v⟩ := q
    simp only [spWfFrom, Bool.and_eq_true] at h
    obtain ⟨-, hm⟩ := h
    refine List.nodup_cons.mpr ⟨fun hmem => ?_, ih hm⟩
    obtain ⟨p, hp, hpj⟩ := List.mem_map.mp hmem
    exact absurd hpj (Nat.ne_of_gt (spWfFrom_lt hm p hp))

theorem spGet_of_mem {α : Type} {d : Nat → α} {m : Sp α} (hn : (m.map (·.1)).Nodup) {k : Nat} {v : α} (h : (k, v) ∈ m) : spGet d m k = v := by
  induction m with
  | nil => cases h
  | cons q m ih =>
    obtain ⟨j, w⟩ := q
    rw [List.map_cons, List.nodup_cons] at hn
    obtain ⟨hj, hm⟩ := hn
    rcases List.mem_cons.mp h with heq | hmem
    · cases heq
      exact if_pos rfl
    · have hne : k ≠ j := fun e => hj (List.mem_map.mpr ⟨(k, v), hmem, e⟩)
      exact (if_neg hne).trans (ih hm hmem)

/-- A pass of which one step acts, and the others neither before it nor after it. -/
theorem forEach_acts_once {α β : Type} {f : Nat × β → α → α} {l : List (Nat × β)} (hn : (l.map (·.1)).Nodup) {i : Nat} {x : β} (hx : (i, x) ∈ l)
    (a : α) (hbefore : ∀ p ∈ l, p.1 ≠ i → f p a = a) (hafter : ∀ p ∈ l, p.1 ≠ i → f p (f (i, x) a) = f (i, x) a) :
    forEach f l a = f (i, x) a := by
  obtain ⟨l1, l2, rfl⟩ := List.append_of_mem hx
  rw [List.map_append, List.map_cons, List.nodup_middle, List.nodup_cons] at hn
  have hne (p : Nat × β) (hp : p ∈ l1 ++ l2) : p.1 ≠ i := fun e => hn.1 (e ▸ by
    rw [← List.map_append]
    exact List.mem_map.mpr ⟨p, hp, rfl⟩)
  have h1 : forEach f l1 a = a := forEach_of_id fun p hp => hbefore p (by simp [hp]) (hne p (by simp [hp]))
  have h2 : forEach f l2 (f (i, x) a) = f (i, x) a := forEach_of_id fun p hp => hafter p (by simp [hp]) (hne p (by simp [hp]))
  have hsplit : forEach f (l1 ++ (i, x) :: l2) a = forEach f l2 (f (i, x) (forEach f l1 a)) := List.foldl_append ..
  rw [hsplit, h1, h2]

/-- R155: a record that is not VALID or whose CRC is right is left alone. -/
theorem State.scrubRec_leaves {s : State} {p : Nat × Lum} (h : p.2.rec_ = .valid → s.recCrcOk p.1 = true) : s.scrubRec p = s :=
  if_neg fun hbad => by
    rw [h hbad.1] at hbad
    exact absurd hbad.2 (by decide)

theorem State.recCrcOk_iff {s : State} {i : Nat} : s.recCrcOk i = true ↔ crc32 (s.rdBytes (calAddr i) 0 508) = s.recU (calAddr i) 508 4 := beq_iff_eq

/-- R155: the state of a pass that has fallen due, before it looks at a record. -/
def State.scrubbed (s : State) : State := { s with phu := { s.phu with scrubC := s.phu.scrubC + 1 } }

theorem State.recCrcOk_scrubbed (s : State) (i : Nat) : s.scrubbed.recCrcOk i = s.recCrcOk i := by
  obtain ⟨hcrc, hheld⟩ := State.crc_record (s := s) (t := s.scrubbed) (a := calAddr i) fun _ _ => rfl
  rw [State.recCrcOk, State.recCrcOk, hcrc, hheld]

theorem State.calScrub_due {s : State} (hr : s.inRunQuiet = true) (hd : s.phu.scrubC < (s.ns - s.phu.tr) / 600000000000) :
    s.calScrub = forEach (fun p s => s.scrubRec p) s.sme.lums s.scrubbed :=
  if_pos (by rw [hr, Bool.true_and]; exact decide_eq_true hd)

/-- R155: a pass over right records. -/
theorem State.calScrub_good {s : State} (hr : s.inRunQuiet = true) (hd : s.phu.scrubC < (s.ns - s.phu.tr) / 600000000000)
    (h : ∀ p ∈ s.sme.lums, p.2.rec_ = .valid → s.recCrcOk p.1 = true) : s.calScrub = s.scrubbed :=
  (State.calScrub_due hr hd).trans (forEach_of_id fun p hp => State.scrubRec_leaves fun hv => (s.recCrcOk_scrubbed p.1).trans (h p hp hv))

/-- R155: a pass that finds one record wrong repairs that record alone. -/
theorem State.calScrub_one {s : State} (hr : s.inRunQuiet = true) (hd : s.phu.scrubC < (s.ns - s.phu.tr) / 600000000000) {i : Nat} {x : Lum}
    (hx : (i, x) ∈ s.sme.lums) (hwf : spWf (fun _ => ({} : Lum)) s.sme.lums = true) (hv : x.rec_ = .valid) (hbad : s.recCrcOk i = false)
    (hothers : ∀ p ∈ s.sme.lums, p.2.rec_ = .valid → p.1 ≠ i → p.1 < 4096 ∧ s.recCrcOk p.1 = true) :
    s.calScrub = (s.scrubbed.incSat F.SME_CRCERR_COUNT).repairRec i := by
  have hfix : s.scrubbed.scrubRec (i, x) = (s.scrubbed.incSat F.SME_CRCERR_COUNT).repairRec i :=
    if_pos ⟨hv, (s.recCrcOk_scrubbed i).trans hbad⟩
  have hcount (a : Nat) (ha : calBase ≤ a) : (s.scrubbed.incSat F.SME_CRCERR_COUNT).rd a = s.rd a :=
    State.rd_put_ne s.scrubbed _ (by unfold calBase at ha; unfold F.SME_CRCERR_COUNT Reg.SME_CRCERR; dsimp only; omega)
  have hrd (p : Nat) (hp : p < 4096) (hne : p ≠ i) (k : Nat) (hk : k < 128) :
      ((s.scrubbed.incSat F.SME_CRCERR_COUNT).repairRec i).rd (calAddr p + 4 * k) = s.rd (calAddr p + 4 * k) := by
    rw [State.repairRec_rd _ _ (fun m hm => cal_ne_cal hne hk hm) (cal_ne_reg (by decide)) (cal_ne_reg (by decide)) (recordAddr_cal hp hk),
      hcount _ (by unfold calAddr; omega)]
  rw [State.calScrub_due hr hd, ← hfix]
  refine forEach_acts_once (spWfFrom_keys hwf) hx _ (fun p hp hne => ?_) fun p hp hne => ?_
  · exact State.scrubRec_leaves fun hval => (s.recCrcOk_scrubbed p.1).trans (hothers p hp hval hne).2
  · refine State.scrubRec_leaves fun hval => ?_
    obtain ⟨hp4, hgood⟩ := hothers p hp hval hne
    rw [hfix, State.recCrcOk_iff]
    obtain ⟨hcrc, hheld⟩ := State.crc_record (hrd p.1 hp4 hne)
    rw [hcrc, hheld]
    exact State.recCrcOk_iff.mp hgood

/-- R155: the count of the wrong CRC changes its own word alone, which no repair reads. -/
theorem State.crcCounted_rd (s : State) {a : Nat} (ha : a ≠ Reg.SME_CRCERR) : (s.scrubbed.incSat F.SME_CRCERR_COUNT).rd a = s.rd a :=
  State.rd_put_ne s.scrubbed _ ha

theorem State.recCheck_crcCounted (s : State) (i : Nat) :
    (s.scrubbed.incSat F.SME_CRCERR_COUNT).recCheck (calFlashAddr i) = s.recCheck (calFlashAddr i) :=
  State.recCheck_congr fun x hx => s.crcCounted_rd (by unfold calFlashAddr calFlash at hx; unfold Reg.SME_CRCERR; omega)

theorem State.zone_crcCounted (s : State) (i : Nat) : (s.scrubbed.incSat F.SME_CRCERR_COUNT).get (F.NT_ZONE i) = s.get (F.NT_ZONE i) :=
  State.get_congr (s.crcCounted_rd (by unfold F.NT_ZONE nodeAddr nodeBase Reg.SME_CRCERR; dsimp only; omega))

/-- R155: a pass whose one wrong record is repaired. -/
theorem RecRepaired.of_crcCounted {s t : State} {i : Nat} (h : RecRepaired (s.scrubbed.incSat F.SME_CRCERR_COUNT) i t) : RecRepaired s i t := by
  obtain ⟨hwords, hcount, hevent, hsme⟩ := h
  rw [State.zone_crcCounted] at hevent
  refine ⟨fun k hk => ⟨(hwords k hk).1.trans (s.crcCounted_rd ?_), (hwords k hk).2⟩, hcount.trans ?_,
    hevent.of_rd (s.crcCounted_rd (by decide)) (s.crcCounted_rd (by decide)), hsme⟩
  · unfold calFlashAddr calFlash Reg.SME_CRCERR
    omega
  · rw [State.get_congr (f := F.SME_CALFIX_COUNT) (s.crcCounted_rd (by decide))]

/-- R155: a pass whose one wrong record cannot be repaired. -/
theorem RecInvalid.of_crcCounted {s t : State} {i : Nat} (h : RecInvalid (s.scrubbed.incSat F.SME_CRCERR_COUNT) i t) : RecInvalid s i t := by
  obtain ⟨hstate, hflag, hevent⟩ := h
  rw [State.zone_crcCounted] at hevent
  exact ⟨hstate, hflag, hevent.of_rd (s.crcCounted_rd (by decide)) (s.crcCounted_rd (by decide))⟩

/-- R155: the repair leaves the count of wrong CRCs. -/
theorem State.crcCount_gives (s : State) (i : Nat) : ((s.scrubbed.incSat F.SME_CRCERR_COUNT).repairRec i).get F.SME_CRCERR_COUNT =
    min (s.get F.SME_CRCERR_COUNT + 1) (2 ^ F.SME_CRCERR_COUNT.width - 1) := by
  rw [State.get_congr (f := F.SME_CRCERR_COUNT) (State.repairRec_rd _ i (fun k _ => (cal_ne_reg (by decide)).symm) (by decide) (by decide) (by decide))]
  exact State.get_incSat_same s.scrubbed _ 1 (by decide)

/-! ## Ageing saves and stale temperatures (R136, R139) -/

/-- R139: a save that is due. -/
theorem execAgeingSave_due {s : State} (hr : s.inRunQuiet = true) (hd : s.phu.ageSaves < (s.ns - s.phu.tr) / 3600000000000) :
    execAgeingSave s = .next { s.ageingSave with phu := { s.phu with ageSaves := s.phu.ageSaves + 1 } } :=
  congrArg Host.Outcome.next (if_pos (by rw [State.ageSaveDue, hr, Bool.true_and]; exact decide_eq_true hd))

theorem execAgeingSave_notDue {s : State} (h : ¬ (s.inRunQuiet = true ∧ s.phu.ageSaves < (s.ns - s.phu.tr) / 3600000000000)) :
    execAgeingSave s = .next s :=
  congrArg Host.Outcome.next (if_neg fun hd => h (by
    rw [State.ageSaveDue, Bool.and_eq_true] at hd
    exact ⟨hd.1, of_decide_eq_true hd.2⟩))

/-- R136: the stale temperatures are counted, and their count that rises from 0 is reported. -/
theorem State.countStale_gives (s : State) :
    s.countStale.get F.SME_TSCNT_COUNT = (s.sme.lums.filter fun p => s.tempStale p.2 s.ns).length % 2 ^ 13 ∧
      (s.get F.SME_TSCNT_COUNT = 0 → (s.sme.lums.filter fun p => s.tempStale p.2 s.ns).length ≠ 0 → Journalled s s.countStale 0x217 0 []) := by
  unfold State.countStale
  dsimp only
  split
  · refine ⟨?_, fun _ _ => (State.raise_journalled _ _ _ _).of_put (f := F.SME_TSCNT_COUNT)⟩
    exact (State.raise_get _ _ _ _ (by decide)).trans (s.get_put_same F.SME_TSCNT_COUNT _ (by decide))
  · next h => exact ⟨s.get_put_same F.SME_TSCNT_COUNT _ (by decide), fun h0 hn => absurd ⟨h0, hn⟩ h⟩

/-! ## The obligation -/

/-- Settles O24: lanes by whether another stays, records by their repair and installation, saves by the area that is next. -/
theorem solverLanesCalibrationAndAgeing : Obligations.SolverLanesCalibrationAndAgeing := by
  unfold Obligations.SolverLanesCalibrationAndAgeing
  refine ⟨fun s k => ?lanes, fun s i => ?records⟩
  case lanes =>
    have hexec (hr : s.inRunQuiet = true) (hf : s.frameDue = true) : exec (.smeLaneOut k) s = .next (s.laneOut k.toNat) :=
      congrArg Host.Outcome.next (if_pos (by rw [hr, hf]; rfl))
    refine ⟨fun hmay => ⟨_, congrArg Host.Outcome.next (State.hostWr_of_may hmay), rfl⟩, fun hr hf hd hb hl => ⟨_, hexec hr hf, ?_⟩,
      fun hr hf hd hl => ⟨_, hexec hr hf, ?_⟩⟩
    · rw [State.laneOut_leaves hd hb hl]
      refine ⟨?_, ?_, ?_⟩
      · rw [State.raise_get _ _ _ _ (by decide), State.get_put_same _ _ _ (by decide), Nat.mod_eq_of_lt]
        exact (Nat.sub_le _ _).trans_lt (s.get_lt F.SME_STAT_LANES)
      · rw [State.raise_sme]
        exact bit_setBit_false _ _
      · exact Journalled.of_mem (s' := s.laneNoted k.toNat) ((State.raise_journalled _ _ _ _).of_put (f := F.SME_STAT_LANES)) rfl
    · rw [State.laneOut_stays hd hl]
      exact ⟨rfl, bit_setBit_false _ _⟩
  case records =>
    have hi : i.toNat < 4096 := i.isLt
    have hfix (hr : s.inRunQuiet = true) (hp : s.recParBad i.toNat = true) (hv : (s.lum i.toNat).rec_ = .valid) :
        exec (.smeCalfix i) s = .next (s.repairRec i.toNat) := congrArg Host.Outcome.next (if_pos ⟨hr, hp, hv⟩)
    dsimp only
    refine ⟨fun hr hf m hm hack hlop => ⟨_, congrArg Host.Outcome.next (if_pos (by rw [hr, hf]; rfl)), State.installStep_gives hm hack hlop⟩,
      fun hr hp hv hc => ⟨_, hfix hr hp hv, ?repaired⟩, fun hr hp hv hc => ⟨_, hfix hr hp hv, ?invalid⟩,
      fun hr hd hgood => ⟨_, rfl, State.calScrub_good hr hd fun p hp hv => State.recCrcOk_iff.mpr (hgood p hp hv)⟩,
      fun x hr hd hx hwf hv hbad hc hothers => ⟨_, rfl, ?scrubRepairs⟩, fun x hr hd hx hwf hv hbad hc hothers => ⟨_, rfl, ?scrubInvalid⟩,
      fun h => ⟨_, execAgeingSave_notDue h, rfl⟩, fun hr hd hn => ⟨_, execAgeingSave_due hr hd, ?area0⟩,
      fun hr hd hn => ⟨_, execAgeingSave_due hr hd, ?area1⟩, fun hr => ⟨_, congrArg Host.Outcome.next (if_pos hr), s.countStale_gives⟩⟩
    case repaired =>
      obtain ⟨hwords, hcount, hevent, -⟩ := State.repairRec_good hi hc
      exact ⟨hwords, hcount, hevent⟩
    case invalid =>
      obtain ⟨hstate, hflag, hevent⟩ := State.repairRec_bad hc
      exact ⟨hstate, hflag, hevent⟩
    case scrubRepairs =>
      have hcrc : s.recCrcOk i.toNat = false := Bool.eq_false_iff.mpr fun h => hbad (State.recCrcOk_iff.mp h)
      rw [State.calScrub_one hr hd hx hwf hv hcrc
        (fun p hp hval hne => (hothers p hp hval hne).imp_right State.recCrcOk_iff.mpr)]
      obtain ⟨hwords, hcount, hevent, hsme⟩ := (State.repairRec_good hi ((s.recCheck_crcCounted _).trans hc)).of_crcCounted
      refine ⟨hwords, s.crcCount_gives _, hcount, ?_, hevent⟩
      rw [State.lum, hsme, spGet_of_mem (spWfFrom_keys hwf) hx, hv]
    case scrubInvalid =>
      have hcrc : s.recCrcOk i.toNat = false := Bool.eq_false_iff.mpr fun h => hbad (State.recCrcOk_iff.mp h)
      rw [State.calScrub_one hr hd hx hwf hv hcrc
        (fun p hp hval hne => (hothers p hp hval hne).imp_right State.recCrcOk_iff.mpr)]
      obtain ⟨hstate, hflag, hevent⟩ := (State.repairRec_bad fun h => hc ((s.recCheck_crcCounted _).symm.trans h)).of_crcCounted
      exact ⟨s.crcCount_gives _, hstate, hflag, hevent⟩
    case area0 =>
      rw [State.ageingSave, if_pos hn]
      exact ⟨rfl, rfl, rfl, rfl, rfl⟩
    case area1 =>
      rw [State.ageingSave, if_neg hn]
      exact ⟨rfl, rfl, rfl, rfl, rfl⟩

end Sys2Proof.Machine

/-!
# O51: the seam number of a partner's measurement

`SeamPeer.transits` numbers its seams by unbounded naturals, and the statement takes any `SeamPeer`.  The model writes the measurement of
seam `n` at `Reg.SEA_TRANSIT n`, whose row of 256 bytes for a seam reaches the crosslink's registers at `n = 1776`.
-/

namespace Sys2Proof.Machine

theorem exec_stateCopyAck (num : BitVec 32) (peer : SeamPeer) (s : State) :
    exec (.stateCopyAck num { peer := peer }) s = .next (s.copyAcked num.toNat peer) := by
  rfl

/-- A measurement for seam 1776, where there are 32 seams. -/
def straySeamPeer : SeamPeer := { transits := [(1776, 1)] }

/-- An active module that awaits the acknowledgement of copy 0, sent at the present instant. -/
def awaitingCopyAck : State :=
  { State.reset.put F.GLB_ROLE_ROLE roleActive with xlk := { State.reset.xlk with copyAt := some (0, 0) } }

theorem awaitingCopyAck_role : awaitingCopyAck.role = roleActive := by decide

/-- What `Obligations.CopiesAndJoining` claims of XLK_COPYT here: the copy has taken no time. -/
theorem awaitingCopyAck_elapsed : (awaitingCopyAck.ns - 0) % 2 ^ 18 = 0 := by decide

/-- The partner's measurement of 1 ns stands in XLK_COPYT, over the 0 ns that the acknowledged copy took. -/
theorem copyAcked_stray_copyTime : (awaitingCopyAck.copyAcked 0 straySeamPeer).get F.XLK_COPYT_NS = 1 := by
  decide +kernel

/-- Refutes O51: its clause on the acknowledgement of a copy leaves the seam numbers of the partner's report unbounded, and a measurement
reported for seam 1776 is written over XLK_COPYT.  With the 32 seams that exist the two registers are apart. -/
theorem not_copiesAndJoining : ¬ Obligations.CopiesAndJoining := by
  unfold Obligations.CopiesAndJoining
  intro h
  obtain ⟨-, -, -, -, -, hack, -⟩ := h awaitingCopyAck { num := 0, f := 0 } none 0 false {} { sess := 0, xid := 0 }
    { id := 0, resp := [], peer := {} } 0 0 straySeamPeer { bytes := [], dirB := false, seq := 0, origin := 0, stamp := 0 }
    ⟨0, 0, 0, 0, 0, 0, 0, 0⟩ [] { linkOk := false, fmt := 0, uhash := [], pid := 0 }
  obtain ⟨t, ht, htime, -⟩ := hack 0 awaitingCopyAck_role rfl
  have hacked : t = awaitingCopyAck.copyAcked 0 straySeamPeer := Host.Outcome.next.inj (ht.symm.trans (exec_stateCopyAck 0 _ _))
  rw [awaitingCopyAck_elapsed, hacked, copyAcked_stray_copyTime] at htime
  exact absurd htime (by decide)

end Sys2Proof.Machine

/-!
# O32: a resend that a standby's key store refuses

A standby works out the control frames of its seams too (`State.follows`), and the refusal under NOKEY raises SEA_NOKEY (0x311), a local
record.  A standby relays its local records to the active module (R400, `State.relay`), so that one message does go out.
-/

namespace Sys2Proof.Machine

theorem exec_controlFrameResend (n : BitVec 5) (s : State) : exec (.controlFrameResend n) s = .next (s.resend n.toNat) := by
  rfl

/-- A CONFIG frame of seam 0 tagged under the key of slot 1, sent at the start of the TAI second and not acknowledged by slot 0. -/
def keyedFrame : CtlOut := { kind := .own, key := 1, seq := 0, bytes := List.replicate 64 0, waiting := [0], resends := 0, sentAt := 0 }

/-- A standby half a second later, at a frame start: its seam 0 carries frames and has `keyedFrame` outstanding, its key slots are empty. -/
def keylessStandby : State :=
  let s := (((State.reset.put F.GLB_ROLE_ROLE 2).setFlag (F.SEA_CTL_ENABLE 0) true).setFlag (F.SEA_CTL_INJECT 0) true).setSeam 0
    { outst := some keyedFrame }
  { s with ns := 500000000, sea := { s.sea with sentAt := some 500000000 } }

theorem keylessStandby_window : keylessStandby.auxOpen 0 = true ∧ keylessStandby.auxFits (keylessStandby.auxFrom 0) 32 = true := by decide

/-- R195: the resend is due. -/
theorem keylessStandby_due : keyedFrame.sentAt + keylessStandby.get F.SEA_RESEND_INTV * (keylessStandby.sea.fperUs * 1000) ≤ keylessStandby.ns ∧
    keyedFrame.resends < keylessStandby.get F.SEA_RESEND_RETRY := by decide

/-- The resend that the key refuses sends one message: the record of SEA_NOKEY, relayed to the active module. -/
theorem keylessStandby_relays : (keylessStandby.resend 0).out.length = 1 := by
  decide +kernel

/-- Refutes O32: its clause on NOKEY claims of every module that no message goes out, and a standby relays the refusal's record. -/
theorem not_seamControlFrames : ¬ Obligations.SeamControlFrames := by
  unfold Obligations.SeamControlFrames
  intro h
  obtain ⟨-, -, -, hnokey, -⟩ := h keylessStandby 0 keyedFrame
  obtain ⟨hdue, hleft⟩ := keylessStandby_due
  obtain ⟨hopen, hfits⟩ := keylessStandby_window
  obtain ⟨t, ht, hout, -⟩ := hnokey (by decide) rfl (fun hsync => absurd hsync.1 (by decide)) rfl rfl hdue hleft hopen hfits (by decide)
  have hresent : t = keylessStandby.resend 0 := Host.Outcome.next.inj (ht.symm.trans (exec_controlFrameResend 0 _))
  have hrelayed := keylessStandby_relays
  rw [← hresent, hout] at hrelayed
  exact absurd hrelayed (by decide)

end Sys2Proof.Machine

/-!
# Host writes of the seam registers (O33)

SEA_FPER and SEA_LEAD are taken or refused in one way (`State.putWithSea_gives`, `State.refusal_gives`).  Each other write has lemmas for
the words that it leaves and for what it leaves of the seam.
-/

namespace Sys2Proof.Machine

/-! ## Seams and the lead -/

theorem State.seam_setSeam_same (s : State) (n : Nat) (x : Seam) : (s.setSeam n x).seam n = x := spGet_spSet_same _ _ _ _

/-- R187: of the store, SEA_LEADMIN alone follows the transits. -/
theorem State.updLeadMin_rd (s : State) {a : Nat} (h : a ≠ Reg.SEA_LEADMIN) : s.updLeadMin.rd a = s.rd a := s.rd_put_ne _ h

/-- A word of the node table is none of the registers below it. -/
theorem node_ne_reg {a i w : Nat} (h : a < nodeBase) : nodeAddr i w ≠ a := by
  unfold nodeAddr
  omega

/-! ## SEA_CTL (R162, R182) -/

theorem State.setNslot_rd (s : State) (i : Nat) (x : NSlot) (a : Nat) : (s.setNslot i x).rd a = s.rd a := rfl

theorem State.askEnum_rd (s : State) (n : Nat) (b : Bool) (a : Nat) : (s.askEnum n b).rd a = s.rd a := rfl

theorem State.askEnum_assign (s : State) (n : Nat) : ((s.askEnum n true).seam n).enumReq = some true := by
  rw [State.askEnum, State.seam_setSeam_same]
  rfl

/-- The three bits of SEA_CTL written. -/
def State.putSeaCtl (s : State) (n v : Nat) : State :=
  ((s.put (F.SEA_CTL_ENABLE n) (v % 2)).put (F.SEA_CTL_INJECT n) (v / 2 % 2)).put (F.SEA_CTL_TOPO n) (v / 4 % 2)

/-- The bits written, and the ENUM that enabling an empty seam asks for. -/
def State.seaCtlAsked (s : State) (n v : Nat) : State :=
  if bit v 0 && !s.flag (F.SEA_CTL_ENABLE n) && (List.range 128).all fun p => s.get (F.NT_NODEID (n * 128 + p)) == 0 then
    (s.putSeaCtl n v).askEnum n true
  else s.putSeaCtl n v

/-- The write of SEA_CTL up to the link, before the slots' silence is counted anew and SEA_LEADMIN follows. -/
def State.seaCtlLinked (s : State) (n v : Nat) : State :=
  if bit v 0 then s.seaCtlAsked n v else (s.seaCtlAsked n v).setFlag (F.SEA_STAT_LINK n) false

/-- What neither the slots nor SEA_LEADMIN nor STATUS tell is settled with the link. -/
theorem State.seaCtl_eq_linked {γ : Type} (g : State → γ) (hslot : ∀ t i x, g (t.setNslot i x) = g t) (hmin : ∀ t, g t.updLeadMin = g t)
    (hans : ∀ t, g (t.answer stOk) = g t) (s : State) (n v : Nat) : g (s.seaCtl n v) = g (s.seaCtlLinked n v) := by
  unfold State.seaCtl
  extract_lets was wasOn s1 empty s2 s3 s4
  have h4 : g s4 = g s3 := by
    unfold s4
    split
    · refine forUp_keeps g (fun p t => ?_) 128 s3
      dsimp only
      split
      · rfl
      · exact hslot _ _ _
    · rfl
  exact (hans _).trans ((hmin _).trans h4)

theorem State.seaCtl_rd (s : State) (n v : Nat) {a : Nat} (h : a ≠ Reg.SEA_LEADMIN) : (s.seaCtl n v).rd a = (s.seaCtlLinked n v).rd a :=
  State.seaCtl_eq_linked (fun t => t.rd a) (fun t i x => t.setNslot_rd i x a) (fun t => t.updLeadMin_rd h) (fun _ => rfl) s n v

theorem State.seaCtl_seam (s : State) (n v : Nat) : (s.seaCtl n v).seam n = (s.seaCtlLinked n v).seam n :=
  State.seaCtl_eq_linked (fun t => t.seam n) (fun _ _ _ => rfl) (fun _ => rfl) (fun _ => rfl) s n v

theorem State.seaCtlAsked_rd (s : State) (n v a : Nat) : (s.seaCtlAsked n v).rd a = (s.putSeaCtl n v).rd a := by
  unfold State.seaCtlAsked
  split
  · exact State.askEnum_rd _ _ _ _
  · rfl

theorem State.seaCtlLinked_rd (s : State) (n v : Nat) {a : Nat} (h : a ≠ Reg.SEA_STAT n) :
    (s.seaCtlLinked n v).rd a = (s.putSeaCtl n v).rd a := by
  unfold State.seaCtlLinked
  split
  · exact s.seaCtlAsked_rd n v a
  · exact (State.rd_put_ne _ _ h).trans (s.seaCtlAsked_rd n v a)

theorem State.putSeaCtl_bits (s : State) (n v : Nat) : (s.putSeaCtl n v).get (F.SEA_CTL_ENABLE n) = v % 2 ∧
    (s.putSeaCtl n v).get (F.SEA_CTL_INJECT n) = v / 2 % 2 ∧ (s.putSeaCtl n v).get (F.SEA_CTL_TOPO n) = v / 4 % 2 := by
  have hei : (F.SEA_CTL_INJECT n).disj (F.SEA_CTL_ENABLE n) = true := by simp [Fld.disj, F.SEA_CTL_ENABLE, F.SEA_CTL_INJECT]
  have het : (F.SEA_CTL_TOPO n).disj (F.SEA_CTL_ENABLE n) = true := by simp [Fld.disj, F.SEA_CTL_ENABLE, F.SEA_CTL_TOPO]
  have hit : (F.SEA_CTL_TOPO n).disj (F.SEA_CTL_INJECT n) = true := by simp [Fld.disj, F.SEA_CTL_INJECT, F.SEA_CTL_TOPO]
  rw [State.putSeaCtl, State.get_put_disj _ _ het, State.get_put_disj _ _ hei, State.get_put_disj _ _ hit,
    State.get_put_same _ _ _ rfl, State.get_put_same _ _ _ rfl, State.get_put_same _ _ _ rfl]
  exact ⟨Nat.mod_mod v 2, Nat.mod_mod (v / 2) 2, Nat.mod_mod (v / 4) 2⟩

/-- R162: the register reads as it was written. -/
theorem State.seaCtl_bits (s : State) (n v : Nat) : (s.seaCtl n v).get (F.SEA_CTL_ENABLE n) = v % 2 ∧
    (s.seaCtl n v).get (F.SEA_CTL_INJECT n) = v / 2 % 2 ∧ (s.seaCtl n v).get (F.SEA_CTL_TOPO n) = v / 4 % 2 := by
  have hrd : (s.seaCtl n v).rd (Reg.SEA_CTL n) = (s.putSeaCtl n v).rd (Reg.SEA_CTL n) :=
    (s.seaCtl_rd n v (by unfold Reg.SEA_CTL Reg.SEA_LEADMIN; omega)).trans
      (s.seaCtlLinked_rd n v (by unfold Reg.SEA_CTL Reg.SEA_STAT; omega))
  rw [State.get_congr (f := F.SEA_CTL_ENABLE n) hrd, State.get_congr (f := F.SEA_CTL_INJECT n) hrd,
    State.get_congr (f := F.SEA_CTL_TOPO n) hrd]
  exact s.putSeaCtl_bits n v

theorem bit_zero_eq (v : Nat) : bit v 0 = (v % 2 == 1) := by rw [bit, Nat.pow_zero, Nat.div_one]

/-- R205: a seam that is not enabled has no link. -/
theorem State.seaCtl_link (s : State) {n v : Nat} (h : v % 2 = 0) : (s.seaCtl n v).flag (F.SEA_STAT_LINK n) = false := by
  have hlinked : s.seaCtlLinked n v = (s.seaCtlAsked n v).setFlag (F.SEA_STAT_LINK n) false := if_neg (by rw [bit_zero_eq, h]; decide)
  have hrd : (s.seaCtl n v).rd (Reg.SEA_STAT n) = (s.seaCtlLinked n v).rd (Reg.SEA_STAT n) :=
    s.seaCtl_rd n v (by unfold Reg.SEA_STAT Reg.SEA_LEADMIN; omega)
  rw [State.flag, State.get_congr (f := F.SEA_STAT_LINK n) hrd, hlinked]
  exact State.flag_setFlag_same _ _ _ rfl rfl

/-- R182: enabling a seam whose node table is empty asks for an assigning ENUM. -/
theorem State.seaCtl_enum (s : State) {n v : Nat} (h : v % 2 = 1) (hwas : s.flag (F.SEA_CTL_ENABLE n) = false)
    (hempty : ∀ p, p < 128 → s.get (F.NT_NODEID (n * 128 + p)) = 0) : ((s.seaCtl n v).seam n).enumReq = some true := by
  have hbit : bit v 0 = true := by rw [bit_zero_eq, h]; rfl
  have hall : ((List.range 128).all fun p => s.get (F.NT_NODEID (n * 128 + p)) == 0) = true :=
    List.all_eq_true.mpr fun p hp => beq_iff_eq.mpr (hempty p (List.mem_range.mp hp))
  have hasked : s.seaCtlLinked n v = (s.putSeaCtl n v).askEnum n true :=
    (if_pos hbit).trans (if_pos (by rw [hbit, hwas, hall]; rfl))
  rw [State.seaCtl_seam, hasked, State.askEnum_assign]

/-- A write of SEA_CTL as registers and seam. -/
theorem State.seaCtl_gives (s : State) (n v : Nat) :
    let t := s.seaCtl n v
    t.status = 0 ∧ t.get (F.SEA_CTL_ENABLE n) = v % 2 ∧ t.get (F.SEA_CTL_INJECT n) = v / 2 % 2 ∧
      t.get (F.SEA_CTL_TOPO n) = v / 4 % 2 ∧ (v % 2 = 0 → t.flag (F.SEA_STAT_LINK n) = false) ∧
      (v % 2 = 1 → s.flag (F.SEA_CTL_ENABLE n) = false → (∀ p, p < 128 → s.get (F.NT_NODEID (n * 128 + p)) = 0) →
        (t.seam n).enumReq = some true) := by
  obtain ⟨henable, hinject, htopo⟩ := s.seaCtl_bits n v
  exact ⟨rfl, henable, hinject, htopo, s.seaCtl_link, s.seaCtl_enum⟩

/-! ## SEA_FPER and SEA_LEAD (R186, R188) -/

/-- An accepted value stands in its register, and the seams' own state has the instant. -/
theorem State.putWithSea_gives (s : State) {f : Fld} {v : Nat} (x : Sea) (hf : f.ok = true) (hv : v < 2 ^ f.width) :
    let t := State.answer { s.put f v with sea := x } stOk
    t.status = 0 ∧ t.get f = v ∧ t.sea = x ∧ ∀ a, a ≠ f.addr → t.rd a = s.rd a :=
  ⟨rfl, (s.get_put_same f v hf).trans (Nat.mod_eq_of_lt hv), rfl, fun _ ha => s.rd_put_ne v ha⟩

/-- A refused value leaves its register and the seams as they are and raises an event. -/
theorem State.refusal_gives (s : State) {f : Fld} (c : Nat) (hf : recordAddr f.addr = false) :
    let t := (s.seamEvent c 0 0).answer stOk
    t.status = 0 ∧ t.get f = s.get f ∧ t.sea = s.sea ∧ OnlyRecordWords s t ∧ Journalled s t c 0 [0] := by
  have hget : (s.seamEvent c 0 0).get f = s.get f := s.raise_get c 0 [0] hf
  have hsea : (s.seamEvent c 0 0).sea = s.sea := s.raise_sea c 0 [0]
  have hwords : OnlyRecordWords s (s.seamEvent c 0 0) := fun _ ha => s.raise_rd c 0 [0] ha
  have hevent : Journalled s (s.seamEvent c 0 0) c 0 [0] := s.raise_journalled c 0 [0]
  generalize s.seamEvent c 0 0 = u at hget hsea hwords hevent ⊢
  exact ⟨rfl, hget, hsea, hwords, hevent⟩

theorem State.seaFper_accepted {s : State} {v : Nat} (h : s.fperOk (v % 2 ^ 17) = true) :
    s.seaFper v = State.answer { s.put F.SEA_FPER_US (v % 2 ^ 17) with sea := { s.sea with fperAt := s.ns } } stOk :=
  congrArg (State.answer · stOk) (if_pos h)

theorem State.seaFper_refused {s : State} {v : Nat} (h : s.fperOk (v % 2 ^ 17) = false) :
    s.seaFper v = (s.seamEvent 0x30F 0 0).answer stOk :=
  congrArg (State.answer · stOk) (if_neg (Bool.eq_false_iff.mp h))

/-- R186: a period outside 1 ms to 100 ms, one that does not divide the second, and one for which the lead is too long. -/
theorem State.fperOk_of_out_of_range {s : State} {t : Nat} (h : t < 1000 ∨ 100000 < t ∨ 1000000 % t ≠ 0 ∨ 3 * t < s.sea.leadUs) :
    s.fperOk t = false := by
  refine Bool.eq_false_iff.mpr fun hok => ?_
  simp only [State.fperOk, Bool.and_eq_true, decide_eq_true_eq, beq_iff_eq] at hok
  omega

/-- R186: at a TAI second after its acceptance the frame period is in force. -/
theorem State.fperChange_due {s : State} (h : s.sea.fperAt / nsPerSec < s.ns / nsPerSec) :
    let t := s.fperChange
    t.sea.fperUs = s.get F.SEA_FPER_US ∧
      t = { s with sea := { s.sea with fperUs := t.sea.fperUs, fperWas := t.sea.fperWas, fperFrom := t.sea.fperFrom } } ∧
      (s.get F.SEA_FPER_US ≠ s.sea.fperUs → t.sea.fperWas = s.sea.fperUs ∧ t.sea.fperFrom = s.ns - s.ns % nsPerSec) := by
  by_cases hnew : s.get F.SEA_FPER_US ≠ s.sea.fperUs
  · rw [State.fperChange, if_pos ⟨h, hnew⟩]
    exact ⟨rfl, rfl, fun _ => ⟨rfl, rfl⟩⟩
  · rw [State.fperChange, if_neg fun k => hnew k.2]
    exact ⟨(not_not.mp hnew).symm, rfl, fun k => absurd k hnew⟩

/-- R188: the lead `t` is above SEA_LEADMIN and within three frame periods, that in force and the one accepted. -/
def State.leadOk (s : State) (t : Nat) : Prop :=
  s.get F.SEA_LEADMIN_NS < t * 1000 ∧ t ≤ 3 * s.sea.fperUs ∧ t ≤ 3 * s.get F.SEA_FPER_US

theorem State.seaLead_accepted {s : State} {v : Nat} (h : s.leadOk (v % 2 ^ 19)) :
    s.seaLead v = State.answer { s.put F.SEA_LEAD_US (v % 2 ^ 19) with sea := { s.sea with leadAt := s.ns } } stOk := by
  obtain ⟨hmin, hnow, hnext⟩ := h
  exact congrArg (State.answer · stOk) (if_pos (by simp only [Bool.and_eq_true, decide_eq_true_eq]; exact ⟨⟨hmin, hnow⟩, hnext⟩))

theorem State.seaLead_refused {s : State} {v : Nat} (h : ¬ s.leadOk (v % 2 ^ 19)) : s.seaLead v = (s.seamEvent 0x308 0 0).answer stOk := by
  refine congrArg (State.answer · stOk) (if_neg fun hok => h ?_)
  simp only [Bool.and_eq_true, decide_eq_true_eq] at hok
  obtain ⟨⟨hmin, hnow⟩, hnext⟩ := hok
  exact ⟨hmin, hnow, hnext⟩

/-! ## The SEA_CFG registers (R206) -/

theorem State.seaCfg_taken {s : State} {n a v c : Nat} (hmask : cfgMask a = some c) (hbusy : s.flag (F.SEA_CFGCMD_BUSY n) = false) :
    s.seaCfg n a v = (s.wr (Reg.SEA_CTL n + a) (BitVec.ofNat 32 (v &&& c))).answer stOk := by
  rw [State.seaCfg, hmask]
  exact if_neg (Bool.eq_false_iff.mp hbusy)

/-! ## ACCEPT of a node (R183, R184) -/

/-- The store after ACCEPT of a NEWID slot is that of its change to PRESENT. -/
theorem State.nodeAccept_mem {s : State} {i : Nat} (h : s.get (F.NT_STATE i) = 2) : (s.nodeAccept i).mem = (s.setNodeState i 1).mem := by
  unfold State.nodeAccept
  extract_lets s1
  have h1 : s1 = s.setNodeState i 1 := if_pos h
  rw [State.answer_mem, ← h1]
  split
  · rfl
  · rfl

/-- Of the word that holds STATE a change of state leaves the other fields. -/
theorem State.setNodeState_get (s : State) {i : Nat} (x : Nat) {f : Fld} (hi : i < 4096) (haddr : f.addr = nodeAddr i 3)
    (hf : (F.NT_STATE i).disj f = true) : (s.setNodeState i x).get f = s.get f := by
  have hapart : f.addr ≠ Reg.SEA_NODES (i / 128) := haddr ▸ node_ne_seam (b := 0x4100c) (by decide) (by omega)
  exact (State.get_put_disj _ _ hf).trans (State.get_congr ((State.rd_put_ne _ _ hapart).trans (State.rd_put_ne _ _ hapart)))

theorem State.nodeAccept_gives {s : State} {i : Nat} (hi : i < 4096) (h : s.get (F.NT_STATE i) = 2) : (s.nodeAccept i).status = 0 ∧
    (s.nodeAccept i).get (F.NT_STATE i) = 1 ∧ (s.nodeAccept i).get (F.NT_POSA i) = s.get (F.NT_POSA i) ∧
    ∀ j, j ≠ i → (s.nodeAccept i).get (F.NT_STATE j) = s.get (F.NT_STATE j) := by
  have hget (f : Fld) : (s.nodeAccept i).get f = (s.setNodeState i 1).get f := State.get_congr (by rw [State.rd, State.rd, s.nodeAccept_mem h])
  refine ⟨rfl, (hget _).trans (s.setNodeState_state i 1), (hget _).trans (s.setNodeState_get 1 hi rfl ?_), fun j hj =>
    (hget _).trans (s.setNodeState_state_ne 1 hi hj)⟩
  simp [Fld.disj, F.NT_STATE, F.NT_POSA]

/-! ## LDLY of a node (R177, R196) -/

/-- R196: what the module queues of its own waits on the seam. -/
theorem State.mem_queueOwn (s : State) {n : Nat} {r : CtlReq} {rs : List CtlReq} (h : r ∈ rs) : r ∈ ((s.queueOwn n rs).seam n).queue := by
  rw [State.queueOwn, State.seam_setSeam_same]
  exact List.mem_append_left _ (List.mem_append_right _ h)

/-- R177: a CONFIG frame gives each node of a seam its own link delay. -/
theorem State.delayReqs_own (s : State) {n p : Nat} (hp : p < s.get (F.SEA_NODES_COUNT n)) : ∃ q ∈ s.delayReqs n, q.target = p ∧
    q.items.head?.map (·.value) = some (s.get (F.NT_LDLY (n * 128 + p))) :=
  ⟨_, List.mem_map.mpr ⟨p, List.mem_range.mpr hp, rfl⟩, rfl, rfl⟩

/-- R177: the CONFIG frame of the node whose link delay has changed waits on its seam. -/
theorem State.delayChanged_queues (s : State) {n p : Nat} (hp : p < s.get (F.SEA_NODES_COUNT n)) :
    ∃ q ∈ ((s.delayChanged n p).seam n).queue, q.target = p ∧ q.items.head?.map (·.value) = some (s.get (F.NT_LDLY (n * 128 + p))) := by
  obtain ⟨q, hq, htarget, hvalue⟩ := s.delayReqs_own hp
  exact ⟨q, s.mem_queueOwn (List.mem_filter.mpr ⟨hq, by simp [htarget]⟩), htarget, hvalue⟩

theorem State.answer_seam (s : State) (c n : Nat) : (s.answer c).seam n = s.seam n := rfl

theorem State.delayChanged_get (s : State) (n p : Nat) (f : Fld) : (s.delayChanged n p).get f = s.get f := rfl

/-- Of the store a write of LDLY changes that field, and SEA_LEADMIN follows. -/
theorem State.nodeLdly_get (s : State) {i v : Nat} {f : Fld} (h : f.addr ≠ Reg.SEA_LEADMIN) :
    (s.nodeLdly i v).get f = (s.put (F.NT_LDLY i) v).get f := by
  rw [State.nodeLdly, State.answer_get, State.delayChanged_get]
  exact State.get_congr (State.updLeadMin_rd _ h)

theorem State.nodeLdly_ldly (s : State) (i v : Nat) : (s.nodeLdly i v).get (F.NT_LDLY i) = v % 1024 :=
  (s.nodeLdly_get (node_ne_reg (by decide))).trans (s.get_put_same _ v rfl)

theorem State.nodeLdly_cap (s : State) (i v : Nat) : (s.nodeLdly i v).get (F.NT_CAP i) = s.get (F.NT_CAP i) :=
  (s.nodeLdly_get (node_ne_reg (by decide))).trans (s.get_put_disj v (by simp [Fld.disj, F.NT_LDLY, F.NT_CAP]))

/-- R177: the node is given its new link delay. -/
theorem State.nodeLdly_queues (s : State) {i : Nat} (v : Nat) (hi : i < 4096) (hp : i % 128 < s.get (F.SEA_NODES_COUNT (i / 128))) :
    ∃ q ∈ ((s.nodeLdly i v).seam (i / 128)).queue, q.target = i % 128 ∧ q.items.head?.map (·.value) = some (v % 1024) := by
  have hget {f : Fld} (h : f.addr ≠ Reg.SEA_LEADMIN) : (s.put (F.NT_LDLY i) v).updLeadMin.get f = (s.put (F.NT_LDLY i) v).get f :=
    State.get_congr (State.updLeadMin_rd _ h)
  have hmin : Reg.SEA_NODES (i / 128) ≠ Reg.SEA_LEADMIN := by
    unfold Reg.SEA_NODES Reg.SEA_LEADMIN
    omega
  have hnode : nodeAddr i 2 ≠ Reg.SEA_NODES (i / 128) := node_ne_seam (b := 0x4100c) (by decide) (by omega)
  have hcount : (s.put (F.NT_LDLY i) v).updLeadMin.get (F.SEA_NODES_COUNT (i / 128)) = s.get (F.SEA_NODES_COUNT (i / 128)) :=
    (hget hmin).trans (s.get_put_disj v (Fld.disj_of_addr hnode))
  have hldly : (s.put (F.NT_LDLY i) v).updLeadMin.get (F.NT_LDLY (i / 128 * 128 + i % 128)) = v % 1024 := by
    rw [show i / 128 * 128 + i % 128 = i by omega, hget (node_ne_reg (by decide))]
    exact s.get_put_same _ v rfl
  rw [State.nodeLdly, State.answer_seam, ← hldly]
  exact State.delayChanged_queues _ (hcount.symm ▸ hp)

/-- Settles O33: each write that a module takes by the state that it leaves, the two changes at a TAI second by their own steps. -/
theorem seamHostWrites : Obligations.SeamHostWrites := by
  unfold Obligations.SeamHostWrites
  intro s n i v m x w f d leadOk
  have hx : x < 4096 := i.isLt
  refine ⟨fun hm hagree => ⟨_, rfl, ?ctl⟩, fun hm hok => ⟨_, rfl, ?fperTaken⟩, fun hm hbad => ⟨_, rfl, ?fperRefused⟩,
    fun hdue => ⟨_, rfl, State.fperChange_due hdue⟩, fun hm hok => ⟨_, rfl, ?leadTaken⟩, fun hm hbad => ⟨_, rfl, ?leadRefused⟩,
    fun hdue => ⟨_, rfl, if_pos hdue⟩, fun a c hmask hm hbusy => ⟨_, rfl, ?cfg⟩, fun hm hst => ⟨_, rfl, ?accept⟩,
    fun hm => ⟨_, rfl, ?ldly⟩⟩
  case ctl =>
    rw [State.hostWr_of_may hm, State.voteIn_of_agree _ _ _ hagree, State.vote_of_agree _ _ hagree]
    exact State.seaCtl_gives _ m w
  case fperTaken =>
    rw [State.hostWr_of_may hm, State.seaFper_accepted hok]
    exact s.putWithSea_gives _ (by decide) (Nat.mod_lt _ (by decide))
  case fperRefused =>
    rw [State.hostWr_of_may hm, State.seaFper_refused (State.fperOk_of_out_of_range hbad)]
    exact s.refusal_gives _ (by decide)
  case leadTaken =>
    rw [State.hostWr_of_may hm, State.seaLead_accepted hok]
    exact s.putWithSea_gives _ (by decide) (Nat.mod_lt _ (by decide))
  case leadRefused =>
    rw [State.hostWr_of_may hm, State.seaLead_refused hbad]
    exact s.refusal_gives _ (by decide)
  case cfg =>
    rw [State.hostWr_of_may hm, State.seaCfg_taken hmask hbusy]
    exact ⟨rfl, s.rd_wr_same _ _, fun y hy => s.rd_wr_ne _ hy⟩
  case accept =>
    rw [State.hostWr_of_may hm]
    exact State.nodeAccept_gives hx hst
  case ldly =>
    rw [State.hostWr_of_may hm]
    exact ⟨rfl, s.nodeLdly_ldly x w, s.nodeLdly_cap x w, fun hp => s.nodeLdly_queues w hx hp⟩

end Sys2Proof.Machine

/-!
# O25: CLR, CLRALL and the ageing of unverified channels

The register DIA_CMD acts on the channel records alone: a channel is cleared by `Chan.clr`, which leaves its recorded state (R222).  CLRALL
runs over the listed records; a channel with no record is as cleared already.
-/

namespace Sys2Proof.Machine

/-! ## Channel records -/

/-- Channel records are placed by slot × 8 + channel. -/
theorem State.chan_setChan_place (s : State) {i k m j : Nat} (c : Chan) (h : m * 8 + j = i * 8 + k) : (s.setChan i k c).chan m j = c := by
  rw [State.chan, h]
  exact spGet_spSet_same _ _ _ _

theorem State.chan_setChan_same (s : State) (i k : Nat) (c : Chan) : (s.setChan i k c).chan i k = c := s.chan_setChan_place c rfl

theorem State.chan_setChan_ne (s : State) {i k m j : Nat} (c : Chan) (h : m * 8 + j ≠ i * 8 + k) :
    (s.setChan i k c).chan m j = s.chan m j := spGet_spSet_ne _ _ _ h

theorem State.chan_congr {s t : State} (h : t.dia = s.dia) (i k : Nat) : t.chan i k = s.chan i k := by
  rw [State.chan, h, State.chan]

/-- The place `p` of a channel record, as slot and channel. -/
theorem chanPlace_div_mod (p : Nat) : p / 8 * 8 + p % 8 = p := Nat.div_add_mod' p 8

/-! ## CLR of the selected channel (R222) -/

theorem State.diaClr_selected (s : State) :
    s.diaClr.chan (s.get F.DIA_SEL_SLOT) (s.get F.DIA_SEL_CH) = (s.chan (s.get F.DIA_SEL_SLOT) (s.get F.DIA_SEL_CH)).clr :=
  s.chan_setChan_same _ _ _

theorem State.diaClr_other (s : State) {m j : Nat} (hj : j < 8) (h : (m, j) ≠ (s.get F.DIA_SEL_SLOT, s.get F.DIA_SEL_CH)) :
    s.diaClr.chan m j = s.chan m j := by
  have hch : s.get F.DIA_SEL_CH < 8 := s.get_lt F.DIA_SEL_CH
  refine s.chan_setChan_ne _ fun hkey => h ?_
  rw [Prod.mk.injEq]
  omega

/-! ## CLRALL (R222) -/

/-- CLR of each channel of the list `l`, by the record it has there. -/
def State.clrListed (s : State) (l : Sp Chan) : State :=
  forEach (fun (p : Nat × Chan) t => t.setChan (p.1 / 8) (p.1 % 8) p.2.clr) l s

theorem State.diaClrAll_eq (s : State) : s.diaClrAll = (s.clrListed s.dia.chans).answer stOk := rfl

theorem State.clrListed_cons (s : State) (p : Nat × Chan) (l : Sp Chan) :
    s.clrListed (p :: l) = (s.setChan (p.1 / 8) (p.1 % 8) p.2.clr).clrListed l := rfl

theorem State.clrListed_mem (s : State) (l : Sp Chan) : (s.clrListed l).mem = s.mem :=
  forEach_keeps (fun t : State => t.mem) (fun _ _ => by rfl) l s

/-- The list clears the channels that it names, and no other. -/
theorem State.clrListed_chan (s : State) {l : Sp Chan} {m j : Nat} {c : Chan} (h : ∀ p ∈ l, p.1 = m * 8 + j → p.2 = c) :
    (s.clrListed l).chan m j = if m * 8 + j ∈ l.map (·.1) then c.clr else s.chan m j := by
  induction l generalizing s with
  | nil => rfl
  | cons p l ih =>
    obtain ⟨hp, hl⟩ := List.forall_mem_cons.mp h
    rw [State.clrListed_cons, ih _ hl, List.map_cons]
    by_cases hkey : p.1 = m * 8 + j
    · have hset : (s.setChan (p.1 / 8) (p.1 % 8) p.2.clr).chan m j = c.clr := by
        rw [s.chan_setChan_place _ (by rw [chanPlace_div_mod, hkey]), hp hkey]
      rw [hset, ite_self, if_pos (List.mem_cons.mpr (.inl hkey.symm))]
    · have hset : (s.setChan (p.1 / 8) (p.1 % 8) p.2.clr).chan m j = s.chan m j :=
        s.chan_setChan_ne _ fun h => hkey (by rw [h, chanPlace_div_mod])
      have hmem : m * 8 + j ∈ p.1 :: l.map (·.1) ↔ m * 8 + j ∈ l.map (·.1) := by simp [Ne.symm hkey]
      simp only [hset, hmem]

/-- R222: CLRALL clears every channel; one with no record reads as `noChan`, in which nothing is to be cleared. -/
theorem State.diaClrAll_chan {s : State} (hwf : spWf (fun _ => noChan) s.dia.chans = true) (m j : Nat) :
    s.diaClrAll.chan m j = (s.chan m j).clr := by
  have hrec : ∀ p ∈ s.dia.chans, p.1 = m * 8 + j → p.2 = s.chan m j := fun p hp hkey =>
    (spGet_of_mem (spWfFrom_keys hwf) (hkey ▸ hp)).symm
  rw [State.diaClrAll_eq, State.chan_congr (State.answer_dia _ _), State.clrListed_chan s hrec]
  split
  case isTrue => rfl
  case isFalse hnone =>
    have hno : s.chan m j = noChan := spGet_of_no_key _ _ _ fun p hp hkey => hnone (List.mem_map.mpr ⟨p, hp, hkey⟩)
    rw [hno]
    rfl

/-! ## The age of an UNVERIFIED channel (R216) -/

/-- A record shows the first of its payload words whatever follows them. -/
theorem Journalled.of_append {s t : State} {c u : Nat} {p q : List Nat} (h : Journalled s t c u (p ++ q)) : Journalled s t c u p := by
  intro hacts
  obtain ⟨hcode, hunit, hpay⟩ := h hacts
  refine ⟨hcode, hunit, fun k v hk hv => hpay k v hk ?_⟩
  obtain ⟨hlt, -⟩ := List.getElem?_eq_some_iff.mp hv
  rw [List.getElem?_append_left hlt, hv]

/-- R216: DIA_UNVLIM is not 0, and the channel is UNVERIFIED, not AGED yet, and as old as the limit. -/
def State.unvAgedDue (s : State) (i k : Nat) : Prop :=
  s.get F.DIA_UNVLIM_SEC ≠ 0 ∧ (s.chan i k).st = .unverified ∧ (s.chan i k).aged = false ∧
    s.get F.DIA_UNVLIM_SEC * nsPerSec ≤ (s.chan i k).vage

theorem State.unvAged_due {s : State} {i k : Nat} (h : s.unvAgedDue i k) : s.unvAged i k =
    ((s.setChan i k { s.chan i k with aged := true }).setFlag F.DIA_STAT_AGED true).raise 0x405 i
      [i + k * 4096, (s.chan i k).vage / nsPerSec, s.sentCode i k] := if_pos h

theorem State.unvAged_notDue {s : State} {i k : Nat} (h : ¬ s.unvAgedDue i k) : s.unvAged i k = s := if_neg h

/-- A channel that comes of age is AGED and otherwise as it was, DIA_STAT shows it, and the event is journalled. -/
theorem State.unvAged_gives {s : State} {i k : Nat} (h : s.unvAgedDue i k) :
    (s.unvAged i k).chan i k = { s.chan i k with aged := true } ∧ (s.unvAged i k).get F.DIA_STAT_AGED = 1 ∧
      Journalled s (s.unvAged i k) 0x405 i [i + k * 4096, (s.chan i k).vage / nsPerSec] := by
  rw [State.unvAged_due h]
  refine ⟨?_, ?_, ?_⟩
  · rw [State.chan_congr ((State.raise_dia _ _ _ _).trans (State.setFlag_dia _ _ _)), State.chan_setChan_same]
  · rw [State.raise_get _ _ _ _ (by decide)]
    exact State.get_setFlag_same _ _ _ (by decide) rfl
  · exact Journalled.of_mem (s' := s.setChan i k { s.chan i k with aged := true })
      (.of_put (f := F.DIA_STAT_AGED) (.of_append (q := [s.sentCode i k]) (State.raise_journalled _ _ _ _))) rfl

/-! ## The obligation -/

/-- Settles O25: the two commands by the channels that they clear, the age by whether it is due. -/
theorem lampDiagnosticsCommands : Obligations.LampDiagnosticsCommands := by
  unfold Obligations.LampDiagnosticsCommands
  intro s i k cleared c
  refine ⟨fun hmay => ⟨_, rfl, ?clr⟩, fun hmay hwf => ⟨_, rfl, ?clrall⟩,
    fun hlim hst haged hage => ⟨_, rfl, State.unvAged_gives ⟨hlim, hst, haged, hage⟩⟩,
    fun hnot => ⟨_, rfl, State.unvAged_notDue fun ⟨hlim, hst, haged, _⟩ => ?notDue⟩⟩
  case clr =>
    rw [State.hostWr_of_may hmay]
    exact ⟨rfl, rfl, s.diaClr_selected, fun m j hj hne => s.diaClr_other hj hne⟩
  case clrall =>
    rw [State.hostWr_of_may hmay]
    exact ⟨rfl, s.clrListed_mem _, fun m j _ => State.diaClrAll_chan hwf m j⟩
  case notDue =>
    rcases hnot with hst' | haged' | hlim'
    · exact hst' hst
    · exact absurd (haged'.symm.trans haged) (by decide)
    · exact hlim hlim'

end Sys2Proof.Machine

/-!
# The registers and the commands of the control loops (O30)

A loop stands in four register words and, beside them, in `State.loop`.  What an operation leaves of a loop's fields follows from where they
lie: fields of one loop are compared at loop 0, the engine's own registers lie below every loop's.
-/

namespace Sys2Proof.Machine

/-! ## A loop's registers and its own state -/

/-- Fields of two words at one distance `k` from their bases share no bit where they share none at the bases. -/
theorem Fld.disj_at {a b l w l' w' : Nat} (h : (⟨a, l, w⟩ : Fld).disj ⟨b, l', w'⟩ = true) (k : Nat) :
    (⟨a + k, l, w⟩ : Fld).disj ⟨b + k, l', w'⟩ = true := by simpa [Fld.disj] using h

theorem loopReg_ne {a b : Nat} (ha : a < 0x61000) (hb : 0x61000 ≤ b) (z : Nat) : b + z * 16 ≠ a := by omega

/-- The registers of loop `z` hold no record. -/
theorem recordAddr_loopReg {b z : Nat} (hb : b < 0x61010) (hz : z < 512) : recordAddr (b + z * 16) = false :=
  recordAddr_of_apart (.inl (by omega))

theorem State.loop_setLoop_same (s : State) (z : Nat) (l : Loop) : (s.setLoop z l).loop z = l := spGet_spSet_same _ _ _ _

theorem State.loop_setLoop_ne (s : State) {z y : Nat} (l : Loop) (h : y ≠ z) : (s.setLoop z l).loop y = s.loop y :=
  spGet_spSet_ne _ _ _ h

theorem State.loop_congr {s t : State} (h : t.cce = s.cce) (z : Nat) : t.loop z = s.loop z := by rw [State.loop, h, State.loop]

@[simp] theorem State.setLoop_rd (s : State) (z : Nat) (l : Loop) (a : Nat) : (s.setLoop z l).rd a = s.rd a :=
  congrArg (spGet resetWord · a) (show (s.setLoop z l).mem = s.mem from rfl)

@[simp] theorem State.setLoop_get (s : State) (z : Nat) (l : Loop) (f : Fld) : (s.setLoop z l).get f = s.get f :=
  State.get_congr (s.setLoop_rd z l f.addr)

theorem State.emode_congr {s t : State} {z : Nat} (h : t.get (F.CCE_LSTAT_EMODE z) = s.get (F.CCE_LSTAT_EMODE z)) :
    t.emode z = s.emode z := by rw [State.emode, h, State.emode]

/-! ## Events of a loop (R245) -/

theorem State.loopEvent_loop (s : State) (c z y : Nat) (outer : Bool) (k : Nat) : (s.loopEvent c z outer k).loop y = s.loop y :=
  State.loop_congr (State.raiseRated_cce ..) y

theorem State.loopEvent_rd (s : State) (c z : Nat) (outer : Bool) (k : Nat) {a : Nat} (h : recordAddr a = false) :
    (s.loopEvent c z outer k).rd a = s.rd a := State.raiseRated_rd _ _ _ _ _ _ h

/-! ## The end of a hold (R242) -/

/-- The state of a loop whose inner (outer) hold ends. -/
def Loop.released (l : Loop) (outer : Bool) : Loop :=
  if outer then { l with ofeh := false, ofet := 0, orel := 0, opre := true } else { l with feh := false, fet := 0, rel := 0, pre := true }

theorem State.feRelease_eq (s : State) (z : Nat) (outer : Bool) : s.feRelease z outer =
    if s.emode z = .open_ then s.setLoop z ((s.loop z).released outer)
    else (s.setLoop z ((s.loop z).released outer)).loopEvent 0x502 z outer 0 := rfl

theorem State.feRelease_rd (s : State) (z : Nat) (outer : Bool) {a : Nat} (h : recordAddr a = false) :
    (s.feRelease z outer).rd a = s.rd a := by
  rw [State.feRelease_eq]
  split
  · exact s.setLoop_rd z _ a
  · exact (State.loopEvent_rd _ _ _ _ _ h).trans (s.setLoop_rd z _ a)

theorem State.feReleaseAll_rd (s : State) (z : Nat) {a : Nat} (h : recordAddr a = false) : (s.feReleaseAll z).rd a = s.rd a := by
  unfold State.feReleaseAll
  extract_lets s1
  have h1 : s1.rd a = s.rd a := by
    unfold s1
    split
    · exact s.feRelease_rd z false h
    · rfl
  split
  · exact (s1.feRelease_rd z true h).trans h1
  · exact h1

theorem State.feRelease_loop (s : State) (z : Nat) (outer : Bool) : (s.feRelease z outer).loop z = (s.loop z).released outer := by
  rw [State.feRelease_eq]
  split
  · exact s.loop_setLoop_same z _
  · exact (State.loopEvent_loop _ _ _ _ _ _).trans (s.loop_setLoop_same z _)

/-- R242: FECLR of a loop in an inner hold ends both holds, and its next inner run is a preset run. -/
theorem State.feReleaseAll_held {s : State} {z : Nat} (h : (s.loop z).feh = true) : ((s.feReleaseAll z).loop z).feh = false ∧
    ((s.feReleaseAll z).loop z).ofeh = false ∧ ((s.feReleaseAll z).loop z).pre = true := by
  have hinner : (s.feRelease z false).loop z = (s.loop z).released false := s.feRelease_loop z false
  have hheld : ((s.feRelease z false).loop z).ofeh = (s.loop z).ofeh := by rw [hinner]; rfl
  unfold State.feReleaseAll
  rw [if_pos h]
  dsimp only
  rw [hheld]
  split
  · rw [State.feRelease_loop, hinner]
    exact ⟨rfl, rfl, rfl⟩
  · next hopen =>
    rw [hinner]
    exact ⟨rfl, Bool.eq_false_iff.mpr hopen, rfl⟩

/-! ## CCE_LCTL (R223, R224) -/

/-- A field within the bits put reads as its part of the value. -/
theorem getBits_putBits_within (w : Word) {lo n l k : Nat} (v : Nat) (hlo : lo ≤ l) (hhi : l + k ≤ lo + n) (h : lo + n ≤ 32) :
    getBits (putBits w lo n v) l k = v / 2 ^ (l - lo) % 2 ^ k := by
  refine Nat.eq_of_testBit_eq fun i => ?_
  rw [testBit_getBits, Nat.testBit_mod_two_pow, Nat.testBit_div_two_pow]
  by_cases hi : i < k
  · rw [getLsbD_putBits _ _ _ _ _ (by omega), if_pos (by omega), show l + i - lo = i + (l - lo) by omega]
  · simp [hi]

/-- R223, R242: MODE of a written control word, and with it the end of the loop's holds; 0b11 leaves both. -/
def State.lctlMode (s : State) (z v : Nat) : State :=
  if v % 4 = 3 then s else (s.put (F.CCE_LCTL_MODE z) (v % 4)).feReleaseAll z

theorem State.lctlWrite_taken (s : State) {z : Nat} (v : Nat) (hz : z ≠ 511) :
    s.lctlWrite z v = ((s.lctlMode z v).put ⟨Reg.CCE_LCTL z, 2, 22⟩ (v / 4)).answer stOk := if_neg hz

theorem State.lctlMode_mode (s : State) {z : Nat} (v : Nat) (hz : z < 512) : (s.lctlMode z v).get (F.CCE_LCTL_MODE z) =
    if v % 4 = 3 then s.get (F.CCE_LCTL_MODE z) else v % 4 := by
  unfold State.lctlMode
  split
  · rfl
  · refine (State.get_congr (State.feReleaseAll_rd _ z ?_)).trans ?_
    · exact recordAddr_loopReg (by decide) hz
    · exact (s.get_put_same _ _ rfl).trans (Nat.mod_mod v 4)

theorem State.lctlMode_emode (s : State) {z : Nat} (v : Nat) (hz : z < 512) :
    (s.lctlMode z v).get (F.CCE_LSTAT_EMODE z) = s.get (F.CCE_LSTAT_EMODE z) := by
  unfold State.lctlMode
  split
  · rfl
  · refine (State.get_congr (State.feReleaseAll_rd _ z ?_)).trans (s.get_put_disj _ (Fld.disj_at (by decide) _))
    exact recordAddr_loopReg (by decide) hz

/-- R223, R224: a loop's control word as it was written; its mode in effect changes at an inner instant only. -/
theorem State.lctlWrite_gives (s : State) {z : Nat} (v : Nat) (hz : z < 511) : (s.lctlWrite z v).status = 0 ∧
    (s.lctlWrite z v).get (F.CCE_LCTL_MODE z) = (if v % 4 = 3 then s.get (F.CCE_LCTL_MODE z) else v % 4) ∧
    (∀ lo n, 2 ≤ lo → lo + n ≤ 24 → (s.lctlWrite z v).get ⟨Reg.CCE_LCTL z, lo, n⟩ = v / 2 ^ lo % 2 ^ n) ∧
    (s.lctlWrite z v).emode z = s.emode z := by
  rw [s.lctlWrite_taken v (by omega)]
  refine ⟨rfl, ?_, fun lo n hlo hhi => ?_, State.emode_congr ?_⟩
  · exact (State.get_put_disj _ _ (Fld.disj_at (by decide) _)).trans (s.lctlMode_mode v (by omega))
  · rw [State.answer_get, State.get, State.rd_put, if_pos rfl, getBits_putBits_within _ _ hlo hhi (Nat.le_of_ble_eq_true rfl),
      show v / 4 = v / 2 ^ 2 from rfl, Nat.div_div_eq_div_mul, ← Nat.pow_add, Nat.add_sub_cancel' hlo]
  · exact (State.get_put_disj _ _ (Fld.disj_at (by decide) _)).trans (s.lctlMode_emode v (by omega))

/-! ## COMMIT (R238) -/

/-- A staged word is written. -/
def State.takeStaged (s : State) (p : Nat × Option Word) : State :=
  match p.2 with
  | some w => s.wr p.1 w
  | none => s

theorem State.takeStaged_rd (s : State) (p : Nat × Option Word) (a : Nat) :
    (s.takeStaged p).rd a = if a = p.1 then p.2.getD (s.rd a) else s.rd a := by
  obtain ⟨j, w⟩ := p
  cases w with
  | none => exact (ite_self _).symm
  | some w => exact s.rd_wr j a w

/-- The staged words of the list `l` are written. -/
def State.writeStaged (s : State) (l : Sp (Option Word)) : State := forEach (fun p t => t.takeStaged p) l s

theorem State.writeStaged_rd (s : State) {l : Sp (Option Word)} (h : (l.map (·.1)).Nodup) (a : Nat) :
    (s.writeStaged l).rd a = (spGet (fun _ => none) l a).getD (s.rd a) := by
  induction l generalizing s with
  | nil => rfl
  | cons p l ih =>
    obtain ⟨hp, hl⟩ := List.nodup_cons.mp h
    have hrest : (s.writeStaged (p :: l)).rd a = (spGet (fun _ => none) l a).getD ((s.takeStaged p).rd a) := ih (s.takeStaged p) hl
    rw [hrest, s.takeStaged_rd, spGet]
    split
    · next hap =>
      have hnone : spGet (fun _ => none) l a = (none : Option Word) :=
        spGet_of_no_key _ _ _ fun q hq e => hp (List.mem_map.mpr ⟨q, hq, e.trans hap⟩)
      rw [hnone, Option.getD_none]
    · rfl

/-- R238: COMMIT makes every staged word effective and leaves nothing staged. -/
theorem State.cceCommit_gives {s : State} (h : spWf (fun _ => none) s.cce.staged = true) : s.cceCommit.status = 0 ∧
    s.cceCommit.cce.staged = [] ∧ ∀ a, s.cceCommit.rd a = (spGet (fun _ => none) s.cce.staged a).getD (s.rd a) :=
  ⟨rfl, rfl, fun a => s.writeStaged_rd (spWfFrom_keys h) a⟩

/-- Settles O30: each command by the registers and the loop that it leaves. -/
theorem controlLoopCommands : Obligations.ControlLoopCommands := by
  unfold Obligations.ControlLoopCommands
  intro s z v y sel
  refine ⟨fun hmay hz => ⟨_, rfl, ?ignored⟩, fun hmay hz => ⟨_, rfl, ?lctl⟩, fun hmay hwf => ⟨_, rfl, ?commit⟩,
    fun hmay hheld => ⟨_, rfl, ?feclr⟩, fun hmay => ⟨_, rfl, ?dlirst⟩⟩
  case ignored =>
    rw [State.hostWr_of_may hmay]
    exact if_pos hz
  case lctl =>
    rw [State.hostWr_of_may hmay]
    obtain ⟨hstatus, hmode, hfields, hemode⟩ := s.lctlWrite_gives v.toNat (show y < 511 by omega)
    exact ⟨hstatus, hmode, hfields 2 1 (by decide) (by decide), hfields 3 1 (by decide) (by decide), hfields 4 6 (by decide) (by decide),
      hfields 10 6 (by decide) (by decide), hfields 16 8 (by decide) (by decide), hemode⟩
  case commit =>
    rw [State.hostWr_of_may hmay]
    exact State.cceCommit_gives hwf
  case feclr =>
    rw [State.hostWr_of_may hmay]
    exact ⟨rfl, State.feReleaseAll_held hheld⟩
  case dlirst =>
    rw [State.hostWr_of_may hmay]
    exact ⟨rfl, rfl, s.loop_setLoop_same sel _, fun j hj => s.loop_setLoop_ne _ hj⟩

end Sys2Proof.Machine

/-!
# Trips, ends of holds and stale inputs (O29)

A trip and a stale input raise their event and then fall back: what a fall back leaves is told once, and an event stands in the journal
whatever the fall back after it raises.
-/

namespace Sys2Proof.Machine

/-! ## Events of a loop among other steps (R245) -/

/-- The error that an event of loop `z` reports and the output beside it. -/
def State.loopPay (s : State) (z cause : Nat) : List Nat :=
  [z + cause * 65536, ofSigned 32 (s.loop z).e, s.get (F.CCE_LOUT_GAIN z)]

theorem State.loopEvent_eq (s : State) (c z k : Nat) : s.loopEvent c z false k = s.raiseRated nsPerSec c z (s.loopPay z k) := rfl

/-- An event of an inner loop that is due stands in the journal, whatever is journalled of what follows it. -/
theorem State.loopEvent_journalled {s t : State} {c z k n : Nat} (hrate : s.rateOk c z nsPerSec = true) (hn : n ≤ 200)
    (h : JournalsUpTo n (s.loopEvent c z false k) t) : Journalled s t c z (s.loopPay z k) := by
  rw [State.loopEvent_eq, State.raiseRated, if_pos hrate] at h
  exact (State.journalled_of_raise (s := s.rateMark c z) hn h).of_mem rfl

theorem State.loopPay_congr {s t : State} {z : Nat} (k : Nat) (he : (t.loop z).e = (s.loop z).e)
    (hu : t.get (F.CCE_LOUT_GAIN z) = s.get (F.CCE_LOUT_GAIN z)) : t.loopPay z k = s.loopPay z k := by
  rw [State.loopPay, he, hu, State.loopPay]

/-! ## Leaving TRACK or DLI (R240, R241) -/

theorem State.loopOpen_rd (s : State) {z a : Nat} (t : Nat) (h : a ≠ Reg.CCE_LSTAT z) : (s.loopOpen z t).rd a = s.rd a := by
  unfold State.loopOpen
  dsimp only
  split
  · exact s.rd_put_ne _ h
  · exact (State.setLoop_rd _ _ _ _).trans ((State.rd_put_ne _ _ h).trans (s.rd_put_ne _ h))

/-- Of CCE_LSTAT a loop that leaves its mode changes EMODE and RAMP. -/
theorem State.loopOpen_get (s : State) {z : Nat} {f : Fld} (t : Nat) (hemode : (F.CCE_LSTAT_EMODE z).disj f = true)
    (hramp : (F.CCE_LSTAT_RAMP z).disj f = true) : (s.loopOpen z t).get f = s.get f :=
  State.get_ite (s.get_put_disj _ hemode)
    ((State.setLoop_get _ _ _ _).trans ((State.get_setFlag_disj _ _ hramp).trans (s.get_put_disj _ hemode)))

theorem State.loopOpen_emode (s : State) (z t : Nat) : (s.loopOpen z t).get (F.CCE_LSTAT_EMODE z) = 0 :=
  State.get_ite (s.get_put_same _ _ rfl)
    ((State.setLoop_get _ _ _ _).trans ((State.get_setFlag_disj _ _ (Fld.disj_at (by decide) _)).trans (s.get_put_same _ _ rfl)))

/-- R241: a gain beside the neutral one is handed over by a ramp. -/
theorem State.loopOpen_ramp (s : State) (z t : Nat) :
    (s.loopOpen z t).flag (F.CCE_LSTAT_RAMP z) = true ∨ s.get (F.CCE_LOUT_GAIN z) = 0x4000 := by
  unfold State.loopOpen
  dsimp only
  split
  · next hneutral => exact .inr hneutral
  · refine .inl ?_
    rw [State.flag, State.setLoop_get]
    exact State.flag_setFlag_same _ _ true rfl rfl

theorem State.loopOpen_loop (s : State) (z t : Nat) :
    ∃ g i, (s.loopOpen z t).loop z = { s.loop z with ramp0 := g, rampAt := i } := by
  unfold State.loopOpen
  dsimp only
  split
  · exact ⟨(s.loop z).ramp0, (s.loop z).rampAt, rfl⟩
  · exact ⟨_, _, State.loop_setLoop_same _ z _⟩

/-! ## Falling back (R244) -/

/-- In `t`, loop `z` of state `s` has fallen back to OPEN. -/
structure FellBack (z : Nat) (s t : State) : Prop where
  mode : t.get (F.CCE_LCTL_MODE z) = 0
  emode : t.get (F.CCE_LSTAT_EMODE z) = 0
  noted : t.flag F.CCE_STAT_FALLBACK = true
  ramp : t.flag (F.CCE_LSTAT_RAMP z) = true ∨ s.get (F.CCE_LOUT_GAIN z) = 0x4000
  loop : ∃ g i, t.loop z = { s.loop z with ramp0 := g, rampAt := i }
  stale : t.get (F.CCE_LSTAT_STALE z) = s.get (F.CCE_LSTAT_STALE z)
  stat : ∀ f : Fld, f.addr = Reg.CCE_STAT → F.CCE_STAT_FALLBACK.disj f = true → t.get f = s.get f
  words : ∀ a, recordAddr a = false → a ≠ Reg.CCE_LCTL z → a ≠ Reg.CCE_LSTAT z → a ≠ Reg.CCE_STAT → t.rd a = s.rd a
  journals : JournalsUpTo 24 s t

/-- A fall back before its event. -/
def State.toOpen (s : State) (z t : Nat) : State := ((s.put (F.CCE_LCTL_MODE z) 0).loopOpen z t).setFlag F.CCE_STAT_FALLBACK true

theorem State.fallback_eq (s : State) (z t cause : Nat) (outer : Bool) :
    s.fallback z t cause outer = (s.toOpen z t).loopEvent 0x504 z outer cause := rfl

theorem State.toOpen_rd (s : State) {z a : Nat} (t : Nat) (hlctl : a ≠ Reg.CCE_LCTL z) (hlstat : a ≠ Reg.CCE_LSTAT z)
    (hstat : a ≠ Reg.CCE_STAT) : (s.toOpen z t).rd a = s.rd a :=
  ((State.rd_put_ne _ _ hstat).trans (State.loopOpen_rd _ t hlstat)).trans (s.rd_put_ne _ hlctl)

/-- CCE_STAT of a fall back has no say in a loop's register. -/
theorem State.toOpen_get (s : State) {b l w : Nat} (z t : Nat) (hb : 0x61000 ≤ b) :
    (s.toOpen z t).get ⟨b + z * 16, l, w⟩ = ((s.put (F.CCE_LCTL_MODE z) 0).loopOpen z t).get ⟨b + z * 16, l, w⟩ :=
  State.get_setFlag_disj _ _ (Fld.disj_of_addr (loopReg_ne (by decide) hb z).symm)

theorem State.fallback_gives (s : State) {z : Nat} (t cause : Nat) (outer : Bool) (hz : z < 512) :
    FellBack z s (s.fallback z t cause outer) := by
  have hget {f : Fld} (h : recordAddr f.addr = false) : (s.fallback z t cause outer).get f = (s.toOpen z t).get f :=
    State.get_congr (State.loopEvent_rd _ _ _ _ _ h)
  have hloop {b l w : Nat} (hlo : 0x61000 ≤ b) (hhi : b < 0x61010) : (s.fallback z t cause outer).get ⟨b + z * 16, l, w⟩ =
      ((s.put (F.CCE_LCTL_MODE z) 0).loopOpen z t).get ⟨b + z * 16, l, w⟩ :=
    (hget (recordAddr_loopReg hhi hz)).trans (s.toOpen_get z t hlo)
  refine ⟨?mode, ?emode, ?noted, ?ramp, ?loop, ?stale, fun f hf hdisj => ?stat, fun a hrec hlctl hlstat hstat => ?words, ?journals⟩
  case mode =>
    refine (hloop (b := 0x61000) (by decide) (by decide)).trans ?_
    exact (State.loopOpen_get _ t (Fld.disj_at (by decide) _) (Fld.disj_at (by decide) _)).trans (s.get_put_same (F.CCE_LCTL_MODE z) 0 rfl)
  case emode => exact (hloop (b := 0x6100c) (by decide) (by decide)).trans (State.loopOpen_emode _ z t)
  case noted =>
    rw [State.flag, hget (by decide)]
    exact State.flag_setFlag_same _ F.CCE_STAT_FALLBACK true rfl rfl
  case ramp =>
    rw [State.flag, show (s.fallback z t cause outer).get (F.CCE_LSTAT_RAMP z) = _ from hloop (b := 0x6100c) (by decide) (by decide)]
    exact (State.loopOpen_ramp _ z t).imp_right ((s.get_put_disj _ (Fld.disj_at (by decide) _)).symm.trans ·)
  case loop =>
    rw [State.fallback_eq, State.loopEvent_loop]
    exact State.loopOpen_loop (s.put (F.CCE_LCTL_MODE z) 0) z t
  case stale =>
    refine (hloop (b := 0x6100c) (by decide) (by decide)).trans ?_
    exact (State.loopOpen_get _ t (Fld.disj_at (by decide) _) (Fld.disj_at (by decide) _)).trans
      (s.get_put_disj 0 (f := F.CCE_LCTL_MODE z) (Fld.disj_at (by decide) _))
  case stat =>
    have hapart {b : Nat} (hb : 0x61000 ≤ b) : b + z * 16 ≠ f.addr := hf ▸ loopReg_ne (by decide) hb z
    refine (hget (hf ▸ (by decide))).trans ((State.get_setFlag_disj _ _ hdisj).trans ?_)
    exact (State.loopOpen_get _ t (Fld.disj_of_addr (hapart (by decide))) (Fld.disj_of_addr (hapart (by decide)))).trans
      (s.get_put_disj _ (Fld.disj_of_addr (hapart (by decide))))
  case words => exact (State.loopEvent_rd _ _ _ _ _ hrec).trans (s.toOpen_rd t hlctl hlstat hstat)
  case journals =>
    refine (JournalsUpTo.trans (m := 0) (.of_rd fun a ha => s.toOpen_rd t ?_ ?_ ?_) (State.raiseRated_journals _ _ _ _ _ _)).mono
      (Nat.le_refl 24)
    all_goals
      simp only [Reg.CCE_LCTL, Reg.CCE_LSTAT, Reg.CCE_STAT]
      unfold Reg.JNL_WPTR jnlBase at ha
      omega

section
variable {z : Nat} {s t : State}

theorem FellBack.gain (h : FellBack z s t) (hz : z < 512) : t.get (F.CCE_LOUT_GAIN z) = s.get (F.CCE_LOUT_GAIN z) := by
  refine State.get_congr (h.words _ (recordAddr_loopReg (by decide) hz) ?_ ?_ (loopReg_ne (by decide) (by decide) z))
  all_goals
    simp only [F.CCE_LOUT_GAIN, Reg.CCE_LOUT, Reg.CCE_LCTL, Reg.CCE_LSTAT]
    omega

theorem FellBack.counts (h : FellBack z s t) : t.rd Reg.CCE_TRIPS = s.rd Reg.CCE_TRIPS :=
  h.words _ (by decide) (loopReg_ne (by decide) (by decide) z).symm (loopReg_ne (by decide) (by decide) z).symm (by decide)

theorem FellBack.opened (h : FellBack z s t) : t.emode z = .open_ := by
  rw [State.emode, h.emode]
  rfl

end

/-! ## Counting a trip or a stale input (R242, R243) -/

/-- A trip or a stale input of loop `z` is counted in `n`, shown in `f` of CCE_STAT and reported. -/
def State.noteTrip (s : State) (n f : Fld) (c z : Nat) : State := ((s.incSat n).setFlag f true).loopEvent c z false 0

/-- In `u` a trip or a stale input of loop `z` of state `s` is counted in `n`, shown in `f` and reported with code `c`. -/
structure TripNoted (n f : Fld) (c z : Nat) (s u : State) : Prop where
  loop : u.loop z = s.loop z
  count : u.get n = min (s.get n + 1) (2 ^ n.width - 1)
  flag : u.flag f = true
  words : ∀ a, recordAddr a = false → a ≠ Reg.CCE_TRIPS → a ≠ Reg.CCE_STAT → u.rd a = s.rd a
  event : ∀ t k, k ≤ 200 → JournalsUpTo k u t → s.rateOk c z nsPerSec = true → Journalled s t c z (s.loopPay z 0)

theorem State.noteTrip_gives (s : State) {n f : Fld} (c z : Nat) (hn : n.addr = Reg.CCE_TRIPS) (hf : f.addr = Reg.CCE_STAT)
    (hnok : n.ok = true) (hfok : f.ok = true) (hw : f.width = 1) : TripNoted n f c z s (s.noteTrip n f c z) := by
  have hget {g : Fld} (hg : recordAddr g.addr = false) : (s.noteTrip n f c z).get g = ((s.incSat n).setFlag f true).get g :=
    State.get_congr (State.loopEvent_rd _ _ _ _ _ hg)
  have hdisj : f.disj n = true := Fld.disj_of_addr (by rw [hn, hf]; decide)
  refine ⟨State.loopEvent_loop _ _ _ _ _ _, ?count, ?flag, fun a hrec htrips hstat => ?words, fun t k hk hj hrate => ?event⟩
  case count =>
    rw [hget (hn ▸ by decide), State.get_setFlag_disj _ _ hdisj]
    exact s.get_incSat_same n 1 hnok
  case flag =>
    rw [State.flag, hget (hf ▸ by decide)]
    exact State.flag_setFlag_same _ f true hfok hw
  case words =>
    rw [State.noteTrip, State.loopEvent_rd _ _ _ _ _ hrec]
    exact (State.rd_put_ne _ _ (hf ▸ hstat)).trans (s.rd_put_ne _ (hn ▸ htrips))
  case event =>
    have hgain : ((s.incSat n).setFlag f true).get (F.CCE_LOUT_GAIN z) = s.get (F.CCE_LOUT_GAIN z) :=
      (State.get_setFlag_disj _ _ (Fld.disj_of_addr (hf ▸ (loopReg_ne (by decide) (by decide) z).symm))).trans
        (State.get_incSat_disj _ _ (Fld.disj_of_addr (hn ▸ (loopReg_ne (by decide) (by decide) z).symm)))
    have hpay : ((s.incSat n).setFlag f true).loopPay z 0 = s.loopPay z 0 := State.loopPay_congr 0 rfl hgain
    have hevent : Journalled ((s.incSat n).setFlag f true) t c z (s.loopPay z 0) := hpay ▸ State.loopEvent_journalled hrate hk hj
    exact (hevent.of_put (hf ▸ by decide) (hf ▸ by decide)).of_put (hn ▸ by decide) (hn ▸ by decide)

/-- Counting leaves the registers of the loops. -/
theorem TripNoted.loopReg {n f : Fld} {c z b : Nat} {s u : State} (h : TripNoted n f c z s u) (hlo : 0x61000 ≤ b) (hhi : b < 0x61010)
    (hz : z < 512) : u.rd (b + z * 16) = s.rd (b + z * 16) :=
  h.words _ (recordAddr_loopReg hhi hz) (loopReg_ne (by decide) hlo z) (loopReg_ne (by decide) hlo z)

/-! ## Trips (R242) -/

/-- A trip of loop `z` before it falls back. -/
def State.tripped (s : State) (z : Nat) : State :=
  (s.setLoop z { s.loop z with feh := true, rel := 0 }).noteTrip F.CCE_TRIPS_TRIPS F.CCE_STAT_TRIP 0x501 z

theorem State.feTrip_eq (s : State) (z t : Nat) : s.feTrip z t false =
    if s.flag (F.CCE_LCTL_FEOPEN z) then (s.tripped z).fallback z t 1 false else s.tripped z := rfl

/-- What a trip of loop `z` leaves whether or not it falls back. -/
structure Trips (z : Nat) (s t : State) : Prop where
  held : (t.loop z).feh = true
  count : t.get F.CCE_TRIPS_TRIPS = min (s.get F.CCE_TRIPS_TRIPS + 1) 0xFFFF
  flag : t.flag F.CCE_STAT_TRIP = true
  gain : t.get (F.CCE_LOUT_GAIN z) = s.get (F.CCE_LOUT_GAIN z)
  event : s.rateOk 0x501 z nsPerSec = true → Journalled s t 0x501 z (s.loopPay z 0)

theorem State.tripped_noted (s : State) (z : Nat) : TripNoted F.CCE_TRIPS_TRIPS F.CCE_STAT_TRIP 0x501 z
    (s.setLoop z { s.loop z with feh := true, rel := 0 }) (s.tripped z) :=
  State.noteTrip_gives _ _ _ rfl rfl rfl rfl rfl

/-- A trip leaves the registers of its loop. -/
theorem State.tripped_loopReg (s : State) {b z : Nat} (hlo : 0x61000 ≤ b) (hhi : b < 0x61010) (hz : z < 512) :
    (s.tripped z).rd (b + z * 16) = s.rd (b + z * 16) := ((s.tripped_noted z).loopReg hlo hhi hz).trans (s.setLoop_rd z _ _)

theorem State.tripped_event (s : State) {z k : Nat} {t : State} (hk : k ≤ 200) (h : JournalsUpTo k (s.tripped z) t)
    (hrate : s.rateOk 0x501 z nsPerSec = true) : Journalled s t 0x501 z (s.loopPay z 0) := by
  have hpay : (s.setLoop z { s.loop z with feh := true, rel := 0 }).loopPay z 0 = s.loopPay z 0 :=
    State.loopPay_congr 0 (by rw [s.loop_setLoop_same z]) (s.setLoop_get z _ _)
  exact (hpay ▸ (s.tripped_noted z).event t k hk h hrate).of_mem rfl

theorem State.tripped_gives (s : State) {z : Nat} (hz : z < 512) : Trips z s (s.tripped z) := by
  have hnoted := s.tripped_noted z
  refine ⟨?held, ?count, hnoted.flag, State.get_congr (s.tripped_loopReg (b := 0x61008) (by decide) (by decide) hz),
    s.tripped_event (Nat.zero_le _) (.of_mem rfl)⟩
  case held => rw [hnoted.loop, s.loop_setLoop_same z]
  case count =>
    rw [hnoted.count, State.setLoop_get]
    rfl

/-- A fall back after a trip leaves what the trip has done. -/
theorem Trips.fellBack {s t : State} {z : Nat} (hz : z < 512) (h : FellBack z (s.tripped z) t) : Trips z s t := by
  have htrip := s.tripped_gives hz
  obtain ⟨g, i, hloop⟩ := h.loop
  refine ⟨?held, (State.get_congr h.counts).trans htrip.count, ?flag, (h.gain hz).trans htrip.gain, s.tripped_event (by decide) h.journals⟩
  case held =>
    rw [hloop]
    exact htrip.held
  case flag =>
    rw [State.flag, h.stat F.CCE_STAT_TRIP rfl rfl]
    exact htrip.flag

/-- R242: a trip, with FEOPEN a fall back, without it none. -/
theorem State.feTrip_gives (s : State) {z : Nat} (t : Nat) (hz : z < 512) : Trips z s (s.feTrip z t false) ∧
    (s.flag (F.CCE_LCTL_FEOPEN z) = true → FellBack z (s.tripped z) (s.feTrip z t false)) ∧
    (s.flag (F.CCE_LCTL_FEOPEN z) = false → (s.feTrip z t false).emode z = s.emode z) := by
  have hback := (s.tripped z).fallback_gives t 1 false hz
  rw [State.feTrip_eq]
  split
  · next hopen => exact ⟨Trips.fellBack hz hback, fun _ => hback, fun hnot => absurd (hnot.symm.trans hopen) (by decide)⟩
  · next hnot =>
    exact ⟨s.tripped_gives hz, fun hopen => absurd hopen hnot,
      fun _ => State.emode_congr (State.get_congr (s.tripped_loopReg (b := 0x6100c) (by decide) (by decide) hz))⟩

/-- R242: the timer of a loop that is in no hold has reached FETIME. -/
theorem State.feDue_inner {s : State} {z : Nat} (hmode : s.emode z ≠ .open_) (hheld : (s.loop z).feh = false)
    (hlim : s.get (F.CCE_FELIM_FELIM (s.get (F.CCE_LCTL_ICSET z))) ≠ 0) (hpos : 0 < (s.loop z).fet)
    (htime : s.get (F.CCE_FETIME_FETIME (s.get (F.CCE_LCTL_ICSET z))) * 1000 ≤ (s.loop z).fet) : s.feDue z false = true := by
  simp [State.feDue, State.feRuns, hmode, hheld, hlim, hpos, htime]

/-! ## Stale inputs (R243) -/

/-- A stale input of loop `z` before it falls back. -/
def State.staled (s : State) (z : Nat) : State :=
  (s.setFlag (F.CCE_LSTAT_STALE z) true).noteTrip F.CCE_TRIPS_STALES F.CCE_STAT_STALE 0x503 z

theorem State.staleTrip_eq (s : State) (z t : Nat) : s.staleTrip z t = (s.staled z).fallback z t 2 false := rfl

theorem State.staled_noted (s : State) (z : Nat) : TripNoted F.CCE_TRIPS_STALES F.CCE_STAT_STALE 0x503 z
    (s.setFlag (F.CCE_LSTAT_STALE z) true) (s.staled z) := State.noteTrip_gives _ _ _ rfl rfl rfl rfl rfl

theorem State.staled_stale (s : State) {z : Nat} (hz : z < 512) : (s.staled z).flag (F.CCE_LSTAT_STALE z) = true := by
  have hreg : (s.staled z).get (F.CCE_LSTAT_STALE z) = (s.setFlag (F.CCE_LSTAT_STALE z) true).get (F.CCE_LSTAT_STALE z) :=
    State.get_congr ((s.staled_noted z).loopReg (b := 0x6100c) (by decide) (by decide) hz)
  rw [State.flag, hreg]
  exact s.flag_setFlag_same _ true rfl rfl

theorem State.staled_gain (s : State) {z : Nat} (hz : z < 512) : (s.staled z).get (F.CCE_LOUT_GAIN z) = s.get (F.CCE_LOUT_GAIN z) :=
  (State.get_congr ((s.staled_noted z).loopReg (b := 0x61008) (by decide) (by decide) hz)).trans
    (s.get_setFlag_disj _ (Fld.disj_at (by decide) _))

theorem State.staled_count (s : State) (z : Nat) :
    (s.staled z).get F.CCE_TRIPS_STALES = min (s.get F.CCE_TRIPS_STALES + 1) 0xFFFF := by
  rw [(s.staled_noted z).count, s.get_setFlag_disj _ (Fld.disj_of_addr (loopReg_ne (by decide) (by decide) z))]
  rfl

theorem State.staled_event (s : State) {z k : Nat} {t : State} (hk : k ≤ 200) (h : JournalsUpTo k (s.staled z) t)
    (hrate : s.rateOk 0x503 z nsPerSec = true) : Journalled s t 0x503 z (s.loopPay z 0) := by
  have hpay : (s.setFlag (F.CCE_LSTAT_STALE z) true).loopPay z 0 = s.loopPay z 0 :=
    State.loopPay_congr 0 rfl (s.get_setFlag_disj _ (Fld.disj_at (by decide) _))
  refine (hpay ▸ (s.staled_noted z).event t k hk h hrate).of_put ?_ ?_
  · exact loopReg_ne (by decide) (by decide) z
  · simp only [F.CCE_LSTAT_STALE, Reg.CCE_LSTAT, Reg.JNL_WPTR]
    omega

theorem execCceStale_due {s : State} {z : BitVec 9} (hrun : s.mode = .run) (hne : z.toNat ≠ 511) (hmode : s.emode z.toNat ≠ .open_)
    (hstale : s.loopStale z.toNat s.frameNow = true) : execCceStale z s = .next (s.staleTrip z.toNat s.frameNow) := by
  simp [execCceStale, hrun, hne, hmode, hstale]

/-! ## The end of a hold (R242) -/

/-- R242: the error of a held loop has been within the limit for FETIME. -/
theorem State.feClearDue_inner {s : State} {z : Nat} (hmode : s.emode z ≠ .open_) (hheld : (s.loop z).feh = true)
    (htime : s.get (F.CCE_FETIME_FETIME (s.get (F.CCE_LCTL_ICSET z))) * 1000 ≤ (s.loop z).rel)
    (hnear : s.get (F.CCE_FELIM_FELIM (s.get (F.CCE_LCTL_ICSET z))) = 0 ∨
      (s.loop z).e.natAbs ≤ s.get (F.CCE_FELIM_FELIM (s.get (F.CCE_LCTL_ICSET z)))) : s.feClearDue z false = true := by
  simp [State.feClearDue, State.feRuns, hmode, hheld, htime, hnear]

/-- R242: it is not while the error is beyond the limit. -/
theorem State.feClearDue_far {s : State} {z : Nat} (hlim : s.get (F.CCE_FELIM_FELIM (s.get (F.CCE_LCTL_ICSET z))) ≠ 0)
    (hfar : s.get (F.CCE_FELIM_FELIM (s.get (F.CCE_LCTL_ICSET z))) < (s.loop z).e.natAbs) : s.feClearDue z false = false := by
  simp [State.feClearDue, hlim, Nat.not_le.mpr hfar]

theorem State.feRelease_event {s : State} {z : Nat} (hmode : s.emode z ≠ .open_) (hrate : s.rateOk 0x502 z nsPerSec = true) :
    Journalled s (s.feRelease z false) 0x502 z (s.loopPay z 0) := by
  have hpay : (s.setLoop z ((s.loop z).released false)).loopPay z 0 = s.loopPay z 0 :=
    State.loopPay_congr 0 (by rw [s.loop_setLoop_same z]; rfl) (s.setLoop_get z _ _)
  rw [State.feRelease_eq, if_neg hmode]
  exact (hpay ▸ State.loopEvent_journalled (s := s.setLoop z _) hrate (Nat.zero_le _) (.of_mem rfl)).of_mem rfl

/-! ## The obligation -/

/-- A loop in OPEN neither trips nor is released. -/
theorem State.notDue_of_open {s : State} {z : Nat} (h : s.emode z = .open_) : s.feDue z false = false ∧ s.feClearDue z false = false := by
  simp [State.feDue, State.feClearDue, State.feRuns, h]

theorem gives_of_run {s : State} {c : Instr} {b : Bool} {u : State} {P : State → Prop} (hrun : s.mode = .run)
    (hc : exec c s = .next (if s.mode == .run && b then u else s)) (h : P (if b then u else s)) : Gives c s P := by
  refine ⟨_, hc, ?_⟩
  rw [hrun, show (PwrMode.run == PwrMode.run) = true from rfl, Bool.true_and]
  exact h

/-- Settles O29: trips and stale inputs by what they count and report and by the fall back behind them, the end of a hold by its event. -/
theorem controlLoopTransitions : Obligations.ControlLoopTransitions := by
  unfold Obligations.ControlLoopTransitions
  intro s z hrun y l k time pay
  have hy : y < 512 := z.isLt
  have hpay : pay 0 = s.loopPay y 0 := rfl
  refine ⟨fun hmode => ⟨?stays, ?kept⟩, fun hmode hheld hlim hpos htime => ?trip, fun hmode hheld htime hnear => ?release,
    fun hmode hheld hlim hfar => ?far, fun hne hmode hstale => ?stale⟩
  case stays => exact gives_of_run hrun rfl (if_neg (by rw [(State.notDue_of_open hmode).1]; decide))
  case kept => exact gives_of_run hrun rfl (if_neg (by rw [(State.notDue_of_open hmode).2]; decide))
  case trip =>
    refine gives_of_run hrun rfl ?_
    rw [if_pos (State.feDue_inner hmode hheld hlim hpos htime), hpay]
    obtain ⟨htrip, hopen, hkept⟩ := s.feTrip_gives s.frameNow hy
    exact ⟨htrip.held, htrip.count, htrip.flag, htrip.gain, fun hf => ⟨(hopen hf).mode, (hopen hf).opened, (hopen hf).noted⟩, hkept,
      htrip.event⟩
  case release =>
    refine gives_of_run hrun rfl ?_
    rw [if_pos (State.feClearDue_inner hmode hheld htime hnear), hpay, s.feRelease_loop y false]
    exact ⟨rfl, rfl, rfl, State.feRelease_event hmode⟩
  case far => exact gives_of_run hrun rfl (if_neg (by rw [State.feClearDue_far hlim hfar]; decide))
  case stale =>
    have hback := (s.staled y).fallback_gives s.frameNow 2 false hy
    refine ⟨_, execCceStale_due hrun hne hmode hstale, ?_⟩
    rw [s.staleTrip_eq, hpay]
    have hshown : ((s.staled y).fallback y s.frameNow 2 false).flag (F.CCE_LSTAT_STALE y) = true := by
      rw [State.flag, hback.stale]
      exact s.staled_stale hy
    have hstat : ((s.staled y).fallback y s.frameNow 2 false).flag F.CCE_STAT_STALE = true := by
      rw [State.flag, hback.stat F.CCE_STAT_STALE rfl rfl]
      exact (s.staled_noted y).flag
    exact ⟨hshown, (State.get_congr hback.counts).trans (s.staled_count y), hstat, hback.noted, hback.mode, hback.opened,
      hback.ramp.imp_right fun hneutral => .inr ((s.staled_gain hy).symm.trans hneutral), s.staled_event (by decide) hback.journals⟩

end Sys2Proof.Machine

/-!
# The runs of a control loop (O28)

The control law is told once for a run with no hold: integrator, wanted output, limits, slew.  A run that is due puts what the law gives into
the loop's own words; with FELIM 0 the account of the following error behind it clears a timer and no more.
-/

namespace Sys2Proof.Machine

/-! ## The control law without holds (R231, R232, R239) -/

/-- R231: the integrator after a step of `dt` µs. -/
def CoefSet.integral (c : CoefSet) (e : Int) (dt : Nat) (i : Int) : Int := satI (i + rdiv (c.ki * e * dt) 1000000)

/-- R231: the output that the law wants for the reference `r`, the error `e` and the integrator `i`. -/
def CoefSet.wanted (c : CoefSet) (r e i : Int) : Int := (c.ff * r + 32768) / 65536 + (c.kp * e + 32768) / 65536 + (i + 32768) / 65536

/-- R232: the limited output `w`, no further from `u` than SLEW allows in `dt` µs; SLEW 0 is no limit. -/
def CoefSet.slewed (c : CoefSet) (dt : Nat) (u w : Int) : Int :=
  if c.slew = 0 then w else clampInt (u - rdiv (c.slew * dt) 1000000) (u + rdiv (c.slew * dt) 1000000) w

theorem CoefSet.slewed_zero {c : CoefSet} (h : c.slew = 0) (dt : Nat) (u w : Int) : c.slewed dt u w = w := if_pos h

/-- What a run of the law from the output `u` gives when nothing is held: `v` is wanted, `w1` within the limits, `w` within the slew. -/
structure LawRun (c : CoefSet) (e i1 v w1 w : Int) (o : LawOut) : Prop where
  u : o.u = w
  i : o.i = satI (i1 + (w - v) * 65536)
  sat : o.sat = true ↔ w ≠ v ∨ (w = c.omax ∧ 0 < e) ∨ (w = c.omin ∧ e < 0)
  src : o.src = 2 ↔ o.sat = true ∧ w ≠ w1
  src_lt : o.src < 4

/-- SATSRC of a run with no hold: the slew where it moves the output, else the limits. -/
def LawOut.source (sat : Bool) (w w1 : Int) : Nat := if !sat then 0 else if w ≠ w1 then 2 else 1

theorem LawOut.source_eq_slew (sat : Bool) (w w1 : Int) : LawOut.source sat w w1 = 2 ↔ sat = true ∧ w ≠ w1 := by
  unfold LawOut.source
  cases sat
  · simp
  · by_cases h : w = w1 <;> simp [h]

theorem LawOut.source_lt (sat : Bool) (w w1 : Int) : LawOut.source sat w w1 < 4 := by
  unfold LawOut.source
  split
  · decide
  · split <;> decide

theorem law_unheld (c : CoefSet) (r e : Int) (dt : Nat) (u i : Int) :
    let i1 := c.integral e dt i
    let v := c.wanted r e i1
    let w1 := clampInt c.omin c.omax v
    LawRun c e i1 v w1 (c.slewed dt u w1) (law c r e dt u i false false none) := by
  intro i1 v w1
  have hlaw : law c r e dt u i false false none =
      let w := c.slewed dt u w1
      let sat := decide (w ≠ v) || (decide (w = c.omax) && decide (0 < e)) || (decide (w = c.omin) && decide (e < 0))
      { u := w, i := satI (i1 + (w - v) * 65536), sat := sat, src := LawOut.source sat w w1 } := by
    simp [law, i1, v, w1, CoefSet.integral, CoefSet.wanted, CoefSet.slewed, LawOut.source]
  rw [hlaw]
  exact ⟨rfl, rfl, by simp [or_assoc], LawOut.source_eq_slew _ _ _, LawOut.source_lt _ _ _⟩

/-! ## The range of an output -/

theorem clampInt_mem {lo hi : Int} (h : lo ≤ hi) (v : Int) : lo ≤ clampInt lo hi v ∧ clampInt lo hi v ≤ hi := by
  unfold clampInt
  split
  · omega
  · split <;> omega

theorem rdiv_nonneg {n : Int} (h : 0 ≤ n) (d : Nat) : 0 ≤ rdiv n d := by
  rw [rdiv, if_pos h]
  exact Int.ediv_nonneg (by omega) (by omega)

/-- R238: the limits of a coefficient set lie in the range of an output, the lower not above the upper. -/
theorem State.coef_range (s : State) (k : Nat) : 0 ≤ (s.coef k).omin ∧ (s.coef k).omin ≤ (s.coef k).omax ∧ (s.coef k).omax < 65536 ∧
    0 ≤ (s.coef k).slew := by
  have hmax : s.get (F.CCE_OLIM_OMAX k) < 65536 := s.get_lt _
  refine ⟨Int.natCast_nonneg _, Int.ofNat_le.mpr (Nat.min_le_right _ _), Int.ofNat_lt.mpr hmax, Int.natCast_nonneg _⟩

/-- An output in its range stays there. -/
theorem CoefSet.slewed_range {c : CoefSet} (hslew : 0 ≤ c.slew) (dt : Nat) {u w : Int} (hu : 0 ≤ u ∧ u < 65536) (hw : 0 ≤ w ∧ w < 65536) :
    0 ≤ c.slewed dt u w ∧ c.slewed dt u w < 65536 := by
  have hstep : 0 ≤ rdiv (c.slew * dt) 1000000 := rdiv_nonneg (Int.mul_nonneg hslew (Int.natCast_nonneg _)) _
  unfold CoefSet.slewed clampInt
  split
  · exact hw
  · split
    · omega
    · split <;> omega

/-! ## The account of the following error (R242) -/

/-- A loop whose following error is not limited and that is in no hold clears its timer. -/
theorem State.feStep_unlimited {s : State} {z : Nat} (t dt : Nat) (e : Int) (outer : Bool)
    (hlim : s.get (F.CCE_FELIM_FELIM (if outer then s.get (F.CCE_LCTL_OCSET z) else s.get (F.CCE_LCTL_ICSET z))) = 0)
    (hheld : (if outer then (s.loop z).ofeh else (s.loop z).feh) = false) : s.feStep z t dt e outer =
      s.setLoop z (if outer then { s.loop z with ofet := 0 } else { s.loop z with fet := 0 }) := by
  simp only [State.feStep, hlim, hheld]
  simp

/-! ## Runs that are not due (R227) -/

theorem State.prepLoop_done {s : State} {z t : Nat} (h : (s.loop z).prepAt = some t) : s.prepLoop z t = s := if_pos (.inl h)

theorem State.outerRun_idle {s : State} {z : Nat} (t : Nat) (h : (s.loop z).doOuter = false ∨ s.emode z ≠ .dli) : s.outerRun z t = s := by
  refine if_pos ?_
  rcases h with h | h <;> simp [h]

theorem State.innerRun_idle {s : State} {z : Nat} (t : Nat) (h : (s.loop z).doInner = false) : s.innerRun z t = s :=
  if_pos (by simp [h])

/-! ## Words of a run -/

/-- Every word of the store but LSP, LOUT and LSTAT of loop `z` is as before. -/
def RunWords (z : Nat) (s t : State) : Prop := ∀ a, a ≠ Reg.CCE_LSP z → a ≠ Reg.CCE_LOUT z → a ≠ Reg.CCE_LSTAT z → t.rd a = s.rd a

namespace RunWords

variable {z : Nat} {s t u : State}

theorem trans (h : RunWords z s t) (k : RunWords z t u) : RunWords z s u := fun a h1 h2 h3 => (k a h1 h2 h3).trans (h a h1 h2 h3)

theorem setLoop (h : RunWords z s t) {y : Nat} {l : Loop} : RunWords z s (t.setLoop y l) := fun a h1 h2 h3 =>
  (t.setLoop_rd y l a).trans (h a h1 h2 h3)

theorem put (h : RunWords z s t) {f : Fld} {v : Nat} (hf : f.addr = Reg.CCE_LSP z ∨ f.addr = Reg.CCE_LOUT z ∨ f.addr = Reg.CCE_LSTAT z) :
    RunWords z s (t.put f v) := by
  intro a h1 h2 h3
  refine (t.rd_put_ne v ?_).trans (h a h1 h2 h3)
  rcases hf with hf | hf | hf
  · exact hf ▸ h1
  · exact hf ▸ h2
  · exact hf ▸ h3

/-- Words outside the loops' registers. -/
theorem rd (h : RunWords z s t) (hz : z < 512) {a : Nat} (ha : a < 0x61000 ∨ 0x63000 ≤ a) : t.rd a = s.rd a := by
  refine h a ?_ ?_ ?_
  all_goals
    simp only [Reg.CCE_LSP, Reg.CCE_LOUT, Reg.CCE_LSTAT]
    omega

theorem lctl (h : RunWords z s t) (l w : Nat) : t.get ⟨Reg.CCE_LCTL z, l, w⟩ = s.get ⟨Reg.CCE_LCTL z, l, w⟩ := by
  refine State.get_congr (h _ ?_ ?_ ?_)
  all_goals
    simp only [Reg.CCE_LCTL, Reg.CCE_LSP, Reg.CCE_LOUT, Reg.CCE_LSTAT]
    omega

theorem coef (h : RunWords z s t) (hz : z < 512) (k : Nat) : t.coef k = s.coef k := by
  have hreg {b l w : Nat} (hb : 0x64000 ≤ b) : t.get ⟨b + k * 32, l, w⟩ = s.get ⟨b + k * 32, l, w⟩ :=
    State.get_congr (h.rd hz (.inr (show 0x63000 ≤ b + k * 32 by omega)))
  have hkp : t.get (F.CCE_KP_KP k) = s.get (F.CCE_KP_KP k) := hreg (b := 0x64000) (by decide)
  have hki : t.get (F.CCE_KI_KI k) = s.get (F.CCE_KI_KI k) := hreg (b := 0x64004) (by decide)
  have hff : t.get (F.CCE_FF_FF k) = s.get (F.CCE_FF_FF k) := hreg (b := 0x64008) (by decide)
  have hmin : t.get (F.CCE_OLIM_OMIN k) = s.get (F.CCE_OLIM_OMIN k) := hreg (b := 0x6400c) (by decide)
  have hmax : t.get (F.CCE_OLIM_OMAX k) = s.get (F.CCE_OLIM_OMAX k) := hreg (b := 0x6400c) (by decide)
  have hslew : t.get (F.CCE_SLEW_SLEW k) = s.get (F.CCE_SLEW_SLEW k) := hreg (b := 0x64010) (by decide)
  simp only [State.coef, State.sget, hkp, hki, hff, hmin, hmax, hslew]

theorem felim (h : RunWords z s t) (hz : z < 512) (k : Nat) : t.get (F.CCE_FELIM_FELIM k) = s.get (F.CCE_FELIM_FELIM k) :=
  State.get_congr (h.rd hz (.inr (by simp only [F.CCE_FELIM_FELIM, Reg.CCE_FELIM]; omega)))

end RunWords

/-! ## The sample of an inner run in LOUT (R234) -/

/-- A loop takes note of its inner run, with its sample in LOUT. -/
def State.measured (s : State) (z m : Nat) : State := (s.setLoop z { s.loop z with doInner := false }).put (F.CCE_LOUT_MEAS z) m

theorem State.measured_words (s : State) (z m : Nat) : RunWords z s (s.measured z m) :=
  .put (.setLoop fun _ _ _ _ => rfl) (.inr (.inl rfl))

theorem State.measured_get (s : State) {z : Nat} (m : Nat) {f : Fld} (h : (F.CCE_LOUT_MEAS z).disj f = true) :
    (s.measured z m).get f = s.get f := (State.get_put_disj _ m h).trans (s.setLoop_get z _ f)

theorem State.measured_loop (s : State) (z m : Nat) : (s.measured z m).loop z = { s.loop z with doInner := false } :=
  s.loop_setLoop_same z _

/-- R233: the sample has no say in the hold of a cap. -/
theorem State.measured_holdUp (s : State) {z : Nat} (m : Nat) (hz : z < 512) : (s.measured z m).loopQ z = s.loopQ z ∧
    (s.measured z m).innerHoldUp z = s.innerHoldUp z := by
  have hrole : (s.measured z m).isStandby = s.isStandby := by
    rw [State.isStandby, State.isStandby, s.measured_get m (Fld.disj_of_addr (loopReg_ne (by decide) (by decide) z))]
  have hq : (s.measured z m).loopQ z = s.loopQ z := by
    rw [State.loopQ, State.loopQ, hrole]
    rfl
  have hsat : (s.measured z m).get (F.ZON_STAT_SATG z) = s.get (F.ZON_STAT_SATG z) :=
    s.measured_get m (Fld.disj_of_addr (by simp only [F.CCE_LOUT_MEAS, Reg.CCE_LOUT, F.ZON_STAT_SATG, Reg.ZON_STAT]; omega))
  refine ⟨hq, ?_⟩
  rw [State.innerHoldUp, State.innerHoldUp, hq, State.flag, State.flag, hsat]

/-! ## The inner run of a loop in TRACK (R231, R234) -/

/-- What a run of the law puts into LOUT and LSTAT of loop `z`. -/
def State.putLaw (s : State) (z : Nat) (o : LawOut) : State :=
  ((s.put (F.CCE_LOUT_GAIN z) o.u.toNat).setFlag (F.CCE_LSTAT_SAT z) o.sat).put (F.CCE_LSTAT_SATSRC z) o.src

theorem State.putLaw_words (s : State) (z : Nat) (o : LawOut) : RunWords z s (s.putLaw z o) :=
  .put (.put (.put (fun _ _ _ _ => rfl) (.inr (.inl rfl))) (.inr (.inr rfl))) (.inr (.inr rfl))

/-- A law's run in the fields that it puts, an output that has a value there. -/
theorem State.putLaw_gives (s : State) (z : Nat) {o : LawOut} (hu : 0 ≤ o.u ∧ o.u < 65536) (hsrc : o.src < 4) :
    ((s.putLaw z o).get (F.CCE_LOUT_GAIN z) : Int) = o.u ∧ (s.putLaw z o).flag (F.CCE_LSTAT_SAT z) = o.sat ∧
      (s.putLaw z o).get (F.CCE_LSTAT_SATSRC z) = o.src := by
  have hgain : (s.putLaw z o).get (F.CCE_LOUT_GAIN z) = o.u.toNat % 65536 :=
    (State.get_put_disj _ _ (Fld.disj_at (by decide) _)).trans
      ((State.get_setFlag_disj _ _ (Fld.disj_at (by decide) _)).trans (s.get_put_same _ _ rfl))
  refine ⟨?_, (State.flag_put_disj _ _ (Fld.disj_at (by decide) _)).trans (State.flag_setFlag_same _ _ _ rfl rfl),
    (State.get_put_same _ _ _ rfl).trans (Nat.mod_eq_of_lt hsrc)⟩
  rw [hgain]
  omega

/-- Of LOUT and LSTAT it leaves the fields beside GAIN, SAT and SATSRC. -/
theorem State.putLaw_get (s : State) (z : Nat) (o : LawOut) {f : Fld} (hgain : (F.CCE_LOUT_GAIN z).disj f = true)
    (hsat : (F.CCE_LSTAT_SAT z).disj f = true) (hsrc : (F.CCE_LSTAT_SATSRC z).disj f = true) : (s.putLaw z o).get f = s.get f :=
  (State.get_put_disj _ _ hsrc).trans ((State.get_setFlag_disj _ _ hsat).trans (s.get_put_disj _ hgain))

/-- The inner run of loop `z` at `t` is due in TRACK, at the setpoint LSP.SP and the sample `m`, `p` the instant of the one before: not a
preset run, not held and not limited by a cap. -/
structure TrackDue (s : State) (z t m p : Nat) : Prop where
  loop : z < 512
  sample : (s.loop z).m = some m
  before : (s.loop z).fp = some p
  prep : (s.loop z).prepAt = some t
  due : (s.loop z).doInner = true
  pre : (s.loop z).pre = false
  held : (s.loop z).feh = false
  run : s.mode = .run
  mode : s.emode z = .track
  sel : s.flag (F.CCE_LCTL_SPSEL z) = false
  set : (s.loop z).iset = s.get (F.CCE_LCTL_ICSET z)
  cap : s.innerHoldUp z = false

/-- What a loop keeps of an inner run at `t` that nothing held: error `e`, coefficient set `k`, cap ratio `q`. -/
def Loop.ranInner (l : Loop) (t k q : Nat) (e : Int) (o : LawOut) : Loop :=
  { l with doInner := false, i := o.i, e := e, fp := some t, pre := false, iset := k, q := q }

/-- What the run of a loop in TRACK writes, before the account of the following error. -/
def State.trackRun (s : State) (z : Nat) (l : Loop) (sp : Nat) (o : LawOut) : State :=
  ((s.setLoop z l).put (F.CCE_LSP_INSP z) sp).putLaw z o

/-- The law's run of a loop in TRACK with the sample `m`, `dt` µs after the one before. -/
def State.trackLaw (s : State) (z m dt : Nat) : LawOut :=
  law (s.coef (s.get (F.CCE_LCTL_ICSET z))) (s.get (F.CCE_LSP_SP z) : Nat) ((s.get (F.CCE_LSP_SP z) : Int) - m) dt
    (s.get (F.CCE_LOUT_GAIN z) : Nat) (s.loop z).i false false none

theorem State.innerRun_track {s : State} {z t m p : Nat} (h : TrackDue s z t m p) :
    let sp := s.get (F.CCE_LSP_SP z)
    let e : Int := sp - m
    let dt := (t - p) / 1000
    let o := s.trackLaw z m dt
    s.innerRun z t =
      ((s.measured z m).trackRun z ((s.loop z).ranInner t (s.get (F.CCE_LCTL_ICSET z)) (s.loopQ z) e o) sp o).feStep z t dt e false := by
  obtain ⟨hz, hm, hp, hprep, hdue, hpre, hheld, hrun, hmode, hsel, hset, hcap⟩ := h
  have hwords := s.measured_words z m
  have hmode1 : (s.measured z m).emode z = .track := (State.emode_congr (s.measured_get m (Fld.disj_at (by decide) _))).trans hmode
  have hsel1 : (s.measured z m).flag (F.CCE_LCTL_SPSEL z) = false :=
    (congrArg (· == 1) (s.measured_get (f := F.CCE_LCTL_SPSEL z) m (Fld.disj_at (by decide) _))).trans hsel
  have hset1 : (s.measured z m).get (F.CCE_LCTL_ICSET z) = s.get (F.CCE_LCTL_ICSET z) := hwords.lctl 4 6
  have hsp1 : (s.measured z m).get (F.CCE_LSP_SP z) = s.get (F.CCE_LSP_SP z) := s.measured_get m (Fld.disj_at (by decide) _)
  have hgain1 : (s.measured z m).get (F.CCE_LOUT_GAIN z) = s.get (F.CCE_LOUT_GAIN z) := s.measured_get m (Fld.disj_at (by decide) _)
  have hcoef1 := hwords.coef hz
  have hloop1 := s.measured_loop z m
  obtain ⟨hq1, hcap1⟩ := s.measured_holdUp m hz
  intro sp e dt o
  unfold State.innerRun
  extract_lets l s0 s1 mi l1 k1 dt1 g1 held1
  have hs1 : s1 = s.measured z m := by
    unfold s1 l
    rw [hm]
    rfl
  have hmi : mi = m := by simp [mi, l, hm]
  clear_value s1 mi
  subst hs1 hmi
  rw [if_neg (by simp [l, hdue, hprep]), if_neg (by rw [hrun]; decide), hmode1]
  have hdt : dt1 = dt := by simp [dt1, l1, hloop1, hp, dt]
  simp only [hdt, hsel1, hsp1, l1, k1, g1, hcap1, hcap, held1, hloop1, hheld, hpre, hset, hset1, hcoef1, hgain1, hq1]
  simp [State.trackRun, State.putLaw, State.trackLaw, Loop.ranInner, o, e, sp, hheld]

theorem State.trackRun_words (s : State) (z m : Nat) (l : Loop) (sp : Nat) (o : LawOut) :
    RunWords z s ((s.measured z m).trackRun z l sp o) :=
  ((s.measured_words z m).setLoop.put (f := F.CCE_LSP_INSP z) (.inl rfl)).trans (State.putLaw_words _ z o)

theorem State.trackRun_loop (s : State) (z : Nat) (l : Loop) (sp : Nat) (o : LawOut) : (s.trackRun z l sp o).loop z = l :=
  s.loop_setLoop_same z l

/-- R242: with FELIM 0 the run of a loop in TRACK leaves what the law's run wrote, and its timer at 0. -/
theorem State.innerRun_track_unlimited {s : State} {z t m p : Nat} (h : TrackDue s z t m p)
    (hlim : s.get (F.CCE_FELIM_FELIM (s.get (F.CCE_LCTL_ICSET z))) = 0) :
    let sp := s.get (F.CCE_LSP_SP z)
    let o := s.trackLaw z m ((t - p) / 1000)
    let l := (s.loop z).ranInner t (s.get (F.CCE_LCTL_ICSET z)) (s.loopQ z) (sp - m) o
    s.innerRun z t = ((s.measured z m).trackRun z l sp o).setLoop z { l with fet := 0 } := by
  intro sp o l
  have hwords := s.trackRun_words z m l sp o
  have hloop : ((s.measured z m).trackRun z l sp o).loop z = l := State.trackRun_loop _ z l sp o
  have hset : ((s.measured z m).trackRun z l sp o).get (F.CCE_LCTL_ICSET z) = s.get (F.CCE_LCTL_ICSET z) := hwords.lctl 4 6
  rw [State.innerRun_track h, State.feStep_unlimited]
  · rw [hloop]
    rfl
  · rw [if_neg (by decide), hset, hwords.felim h.loop, hlim]
  · rw [hloop]
    exact h.held

/-- R231, R232, R234: what the run of a loop in TRACK leaves, by the values `i1`, `v`, `w1`, `w` of the law's run. -/
structure TrackRan (s : State) (z m : Nat) (i1 v w1 w : Int) (t : State) : Prop where
  gain : (t.get (F.CCE_LOUT_GAIN z) : Int) = w
  i : (t.loop z).i = satI (i1 + (w - v) * 65536)
  e : (t.loop z).e = (s.get (F.CCE_LSP_SP z) : Int) - m
  done : (t.loop z).doInner = false
  meas : t.get (F.CCE_LOUT_MEAS z) = m % 65536
  insp : t.get (F.CCE_LSP_INSP z) = s.get (F.CCE_LSP_SP z)
  sat : t.flag (F.CCE_LSTAT_SAT z) = true ↔ w ≠ v ∨
    (w = (s.coef (s.get (F.CCE_LCTL_ICSET z))).omax ∧ 0 < (s.get (F.CCE_LSP_SP z) : Int) - m) ∨
    (w = (s.coef (s.get (F.CCE_LCTL_ICSET z))).omin ∧ (s.get (F.CCE_LSP_SP z) : Int) - m < 0)
  src : t.get (F.CCE_LSTAT_SATSRC z) = 2 ↔ t.flag (F.CCE_LSTAT_SAT z) = true ∧ w ≠ w1
  mode : t.emode z = .track
  words : RunWords z s t

theorem State.trackRun_gives {s : State} {z m : Nat} {i1 v w1 w : Int} {o : LawOut} {l l' : Loop} (hmode : s.emode z = .track)
    (hlaw : LawRun (s.coef (s.get (F.CCE_LCTL_ICSET z))) ((s.get (F.CCE_LSP_SP z) : Int) - m) i1 v w1 w o) (hw : 0 ≤ w ∧ w < 65536)
    (hi : l.i = o.i) (he : l.e = (s.get (F.CCE_LSP_SP z) : Int) - m) (hdone : l.doInner = false) :
    TrackRan s z m i1 v w1 w (((s.measured z m).trackRun z l' (s.get (F.CCE_LSP_SP z)) o).setLoop z l) := by
  have hsp : s.get (F.CCE_LSP_SP z) < 65536 := s.get_lt _
  obtain ⟨hgain, hsat, hsrc⟩ := ((((s.measured z m).setLoop z l').put (F.CCE_LSP_INSP z) (s.get (F.CCE_LSP_SP z)))).putLaw_gives z
    (hlaw.u.symm ▸ hw) hlaw.src_lt
  have hget (f : Fld) (hfgain : (F.CCE_LOUT_GAIN z).disj f = true) (hfsat : (F.CCE_LSTAT_SAT z).disj f = true)
      (hfsrc : (F.CCE_LSTAT_SATSRC z).disj f = true) :
      (((s.measured z m).trackRun z l' (s.get (F.CCE_LSP_SP z)) o).setLoop z l).get f =
        (((s.measured z m).setLoop z l').put (F.CCE_LSP_INSP z) (s.get (F.CCE_LSP_SP z))).get f :=
    (State.setLoop_get _ z l f).trans (State.putLaw_get _ z o hfgain hfsat hfsrc)
  have hloop : (((s.measured z m).trackRun z l' (s.get (F.CCE_LSP_SP z)) o).setLoop z l).loop z = l := State.loop_setLoop_same _ z l
  have hflag : (((s.measured z m).trackRun z l' (s.get (F.CCE_LSP_SP z)) o).setLoop z l).flag (F.CCE_LSTAT_SAT z) = o.sat :=
    (congrArg (· == 1) (State.setLoop_get _ z l _)).trans hsat
  refine ⟨?gain, ?i, ?e, ?done, ?meas, ?insp, ?sat, ?src, ?mode, (s.trackRun_words z m l' _ o).setLoop⟩
  case gain =>
    rw [State.setLoop_get]
    exact hgain.trans hlaw.u
  case i => rw [hloop, hi, hlaw.i]
  case e => rw [hloop, he]
  case done => rw [hloop, hdone]
  case meas =>
    refine (hget (F.CCE_LOUT_MEAS z) (Fld.disj_at (by decide) _) (Fld.disj_at (by decide) _) (Fld.disj_at (by decide) _)).trans ?_
    refine (State.get_put_disj _ _ (Fld.disj_at (by decide) _)).trans ((State.setLoop_get _ _ _ _).trans ?_)
    exact State.get_put_same _ _ _ rfl
  case insp =>
    refine (hget (F.CCE_LSP_INSP z) (Fld.disj_at (by decide) _) (Fld.disj_at (by decide) _) (Fld.disj_at (by decide) _)).trans ?_
    exact (State.get_put_same _ _ _ rfl).trans (Nat.mod_eq_of_lt hsp)
  case sat =>
    rw [hflag]
    exact hlaw.sat
  case src =>
    rw [hflag, State.setLoop_get]
    exact hsrc.symm ▸ hlaw.src
  case mode =>
    refine (State.emode_congr ((hget (F.CCE_LSTAT_EMODE z) (Fld.disj_at (by decide) _) (Fld.disj_at (by decide) _)
      (Fld.disj_at (by decide) _)).trans ?_)).trans hmode
    refine (State.get_put_disj _ _ (Fld.disj_at (by decide) _)).trans ((State.setLoop_get _ _ _ _).trans ?_)
    exact s.measured_get m (Fld.disj_at (by decide) _)

theorem State.innerRun_track_gives {s : State} {z t m p : Nat} (h : TrackDue s z t m p)
    (hlim : s.get (F.CCE_FELIM_FELIM (s.get (F.CCE_LCTL_ICSET z))) = 0) :
    let c := s.coef (s.get (F.CCE_LCTL_ICSET z))
    let sp : Int := s.get (F.CCE_LSP_SP z)
    let dt := (t - p) / 1000
    let i1 := c.integral (sp - m) dt (s.loop z).i
    let v := c.wanted sp (sp - m) i1
    let w1 := clampInt c.omin c.omax v
    TrackRan s z m i1 v w1 (c.slewed dt (s.get (F.CCE_LOUT_GAIN z) : Nat) w1) (s.innerRun z t) := by
  intro c sp dt i1 v w1
  obtain ⟨hmin, hle, hmax, hslew⟩ := s.coef_range (s.get (F.CCE_LCTL_ICSET z))
  have hgain : s.get (F.CCE_LOUT_GAIN z) < 65536 := s.get_lt _
  obtain ⟨hlo, hhi⟩ : c.omin ≤ w1 ∧ w1 ≤ c.omax := clampInt_mem hle v
  have hw1 : 0 ≤ w1 ∧ w1 < 65536 := ⟨hmin.trans hlo, hhi.trans_lt hmax⟩
  rw [State.innerRun_track_unlimited h hlim]
  exact State.trackRun_gives h.mode (law_unheld c _ _ _ _ _) (CoefSet.slewed_range hslew dt (by omega) hw1) rfl rfl rfl

/-! ## The outer run of a loop in DLI (R228, R236) -/

/-- The outer run of loop `z` at `t` is due in DLI, `p` the instant of the one before: not a preset run, not held, and the inner loop not at
a limit. -/
structure DliDue (s : State) (z t p : Nat) : Prop where
  loop : z < 512
  before : (s.loop z).ofp = some p
  prep : (s.loop z).prepAt = some t
  due : (s.loop z).doOuter = true
  pre : (s.loop z).opre = false
  held : (s.loop z).ofeh = false
  run : s.mode = .run
  mode : s.emode z = .dli
  sat : s.flag (F.CCE_LSTAT_SAT z) = false
  set : (s.loop z).oset = s.get (F.CCE_LCTL_OCSET z)

/-- R236, R237: the error of the outer loop: the trajectory at `t` less the measured integral in mmol/m², rounded to the nearest. -/
def State.dliError (s : State) (z t : Nat) : Int :=
  (curveAt (s.photoSec t / 2) (s.loopCurve z)).1 -
    roundNear (s.loop z).imeas.toNat 16000000000 (Config.tieUp 236 (s.loop z).imeas.toNat)

/-- The law's run of a loop in DLI, `dt` µs after the one before. -/
def State.dliLaw (s : State) (z t dt : Nat) : LawOut :=
  law (s.coef (s.get (F.CCE_LCTL_OCSET z))) (curveRate (s.photoSec t / 2) (s.loopCurve z)) (s.dliError z t) dt
    (s.get (F.CCE_LSP_INSP z) : Nat) (s.loop z).oi false false none

/-- What a loop keeps of an outer run at `t` that nothing held: error `e`, coefficient set `k`. -/
def Loop.ranOuter (l : Loop) (t k : Nat) (e : Int) (o : LawOut) : Loop :=
  { l with oi := o.i, oe := e, ofp := some t, opre := false, oset := k, outerAt := some t, runs := 0, ofirst := false, doOuter := false }

/-- What the outer run writes, before the account of the following error. -/
def State.dliRun (s : State) (z : Nat) (l : Loop) (o : LawOut) : State :=
  ((s.setLoop z l).put (F.CCE_LSP_INSP z) o.u.toNat).setFlag (F.CCE_LSTAT_OSAT z) o.sat

theorem State.outerRun_dli {s : State} {z t p : Nat} (h : DliDue s z t p) :
    let e := s.dliError z t
    let dt := (t - p) / 1000
    let o := s.dliLaw z t dt
    s.outerRun z t = (s.dliRun z ((s.loop z).ranOuter t (s.get (F.CCE_LCTL_OCSET z)) e o) o).feStep z t dt e true := by
  obtain ⟨-, hp, hprep, hdue, hpre, hheld, hrun, hmode, hsat, hset⟩ := h
  intro e dt o
  unfold State.outerRun
  rw [if_neg (by simp [hdue, hprep, hmode, hrun])]
  simp only [hp, hsat, hheld, hpre, hset]
  simp [State.dliRun, State.dliLaw, State.dliError, Loop.ranOuter, o, e, dt, hheld]

theorem State.dliRun_words (s : State) (z : Nat) (l : Loop) (o : LawOut) : RunWords z s (s.dliRun z l o) :=
  .put (.put (.setLoop fun _ _ _ _ => rfl) (.inl rfl)) (.inr (.inr rfl))

theorem State.dliRun_loop (s : State) (z : Nat) (l : Loop) (o : LawOut) : (s.dliRun z l o).loop z = l := s.loop_setLoop_same z l

/-- R242: with FELIM 0 the outer run leaves what the law's run wrote, and its timer at 0. -/
theorem State.outerRun_dli_unlimited {s : State} {z t p : Nat} (h : DliDue s z t p)
    (hlim : s.get (F.CCE_FELIM_FELIM (s.get (F.CCE_LCTL_OCSET z))) = 0) :
    let o := s.dliLaw z t ((t - p) / 1000)
    let l := (s.loop z).ranOuter t (s.get (F.CCE_LCTL_OCSET z)) (s.dliError z t) o
    s.outerRun z t = (s.dliRun z l o).setLoop z { l with ofet := 0 } := by
  intro o l
  have hwords := s.dliRun_words z l o
  have hloop : (s.dliRun z l o).loop z = l := s.dliRun_loop z l o
  have hset : (s.dliRun z l o).get (F.CCE_LCTL_OCSET z) = s.get (F.CCE_LCTL_OCSET z) := hwords.lctl 10 6
  rw [State.outerRun_dli h, State.feStep_unlimited]
  · rw [hloop]
    rfl
  · rw [if_pos rfl, hset, hwords.felim h.loop, hlim]
  · rw [hloop]
    exact h.held

/-- R236: what the outer run of a loop in DLI leaves, `w` the inner setpoint and `i` the integrator of the law's run. -/
structure DliRan (s : State) (z : Nat) (e i w : Int) (t : State) : Prop where
  insp : (t.get (F.CCE_LSP_INSP z) : Int) = w
  i : (t.loop z).oi = i
  e : (t.loop z).oe = e
  done : (t.loop z).doOuter = false
  gain : t.get (F.CCE_LOUT_GAIN z) = s.get (F.CCE_LOUT_GAIN z)
  words : RunWords z s t

theorem State.dliRun_gives {s : State} {z : Nat} {c : CoefSet} {e i1 v w1 w : Int} {o : LawOut} {l l' : Loop}
    (hlaw : LawRun c e i1 v w1 w o) (hw : 0 ≤ w ∧ w < 65536) (hi : l.oi = o.i) (he : l.oe = e) (hdone : l.doOuter = false) :
    DliRan s z e (satI (i1 + (w - v) * 65536)) w ((s.dliRun z l' o).setLoop z l) := by
  have hloop : ((s.dliRun z l' o).setLoop z l).loop z = l := State.loop_setLoop_same _ z l
  refine ⟨?insp, ?i, ?e, ?done, ?gain, (s.dliRun_words z l' o).setLoop⟩
  case insp =>
    have hget : (s.dliRun z l' o).get (F.CCE_LSP_INSP z) = o.u.toNat % 65536 :=
      (State.get_setFlag_disj _ _ (Fld.disj_at (by decide) _)).trans (State.get_put_same _ _ _ rfl)
    rw [State.setLoop_get, hget, hlaw.u]
    omega
  case i => rw [hloop, hi, hlaw.i]
  case e => rw [hloop, he]
  case done => rw [hloop, hdone]
  case gain =>
    refine (State.setLoop_get _ z l _).trans ((State.get_setFlag_disj _ _ (Fld.disj_at (by decide) _)).trans ?_)
    exact (State.get_put_disj _ _ (Fld.disj_at (by decide) _)).trans (s.setLoop_get z l' _)

/-- R228, R236: with SLEW 0 the outer run puts what the law wants, within its limits, into the inner setpoint. -/
theorem State.outerRun_dli_gives {s : State} {z t p : Nat} (h : DliDue s z t p)
    (hlim : s.get (F.CCE_FELIM_FELIM (s.get (F.CCE_LCTL_OCSET z))) = 0) (hslew : s.get (F.CCE_SLEW_SLEW (s.get (F.CCE_LCTL_OCSET z))) = 0) :
    let c := s.coef (s.get (F.CCE_LCTL_OCSET z))
    let e := s.dliError z t
    let i1 := c.integral e ((t - p) / 1000) (s.loop z).oi
    let v := c.wanted (curveRate (s.photoSec t / 2) (s.loopCurve z)) e i1
    let w := clampInt c.omin c.omax v
    DliRan s z e (satI (i1 + (w - v) * 65536)) w (s.outerRun z t) := by
  intro c e i1 v w
  obtain ⟨hmin, hle, hmax, -⟩ := s.coef_range (s.get (F.CCE_LCTL_OCSET z))
  obtain ⟨hlo, hhi⟩ : c.omin ≤ w ∧ w ≤ c.omax := clampInt_mem hle v
  have hlaw : LawRun c e i1 v w w (s.dliLaw z t ((t - p) / 1000)) := by
    have hfree := law_unheld c (curveRate (s.photoSec t / 2) (s.loopCurve z)) e ((t - p) / 1000) (s.get (F.CCE_LSP_INSP z) : Nat) (s.loop z).oi
    dsimp only at hfree
    rwa [CoefSet.slewed_zero (congrArg Nat.cast hslew)] at hfree
  rw [State.outerRun_dli_unlimited h hlim]
  exact State.dliRun_gives hlaw ⟨hmin.trans hlo, hhi.trans_lt hmax⟩ rfl rfl rfl

/-! ## The sample of a loop in OPEN (R225, R226, R237, R240) -/

/-- Whatever stands beside the loops themselves, a loop's sample is the same. -/
theorem State.loopSample_withLoops (s : State) (x : Sp Loop) (y : Nat) :
    State.loopSample { s with cce := { s.cce with loops := x } } y = s.loopSample y := rfl

theorem State.loopStale_setLoop (s : State) {z t : Nat} {l : Loop} (h : l.since = (s.loop z).since) :
    (s.setLoop z l).loopStale z t = s.loopStale z t := by
  have hsensor : (s.setLoop z l).loopSensor z = s.loopSensor z := by
    rw [State.loopSensor, State.loopSensor, State.setLoop_get, State.setLoop_get]
  have hsample : (s.setLoop z l).loopSample z = s.loopSample z := s.loopSample_withLoops _ z
  have hage : (s.setLoop z l).staleNs = s.staleNs := by rw [State.staleNs, State.staleNs, State.setLoop_get]
  rw [State.loopStale, State.loopStale, hsensor, hsample, hage, s.loop_setLoop_same, h]

/-- A sensor's value as the loop takes it: 1/4096 of it, at most 0xFFFF. -/
def Reading.sample (r : Reading) : Nat := min 0xFFFF (r.value.toNat / 4096)

/-- A loop that takes the new sample `r` at the inner instant `t`. -/
def Loop.sampled (l : Loop) (t : Nat) (r : Reading) : Loop :=
  { l with m := some r.sample, stamp := some r.stamp, fresh := false, prepAt := some t, doInner := true, doOuter := false }

theorem State.takeSample_new {s : State} {z : Nat} {r : Reading} (t : Nat) (hr : s.loopSample z = some r)
    (hnew : s.sampleNew z = true) : s.takeSample z t = s.setLoop z ((s.loop z).sampled t r) := by
  simp only [State.takeSample, hr, hnew]
  rfl

/-- R237: a loop whose measured integral takes in the run at `t` with the sample `m`, `p` the instant of the one before. -/
def Loop.integrated (l : Loop) (t p m : Nat) : Loop :=
  { l with resumed := false, imeas := l.imeas + BitVec.ofNat 64 (m * ((t - p) / 1000)), mp := some t, dliRst := false }

theorem State.measureStep_within {s : State} {z t m p : Nat} (hm : (s.loop z).m = some m) (hp : (s.loop z).mp = some p)
    (hstart : s.photoStart t ≤ p) (hrst : (s.loop z).dliRst = false) (hres : (s.loop z).resumed = false) :
    s.measureStep z t = s.setLoop z ((s.loop z).integrated t p m) := by
  have hcrossed : ¬ p < s.photoStart t := Nat.not_lt.mpr hstart
  simp [State.measureStep, Loop.integrated, hm, hp, hcrossed, hrst, hres, BitVec.ofNat_add]

/-- Loop `z` is in OPEN at the inner instant `t` with the new sample `r`, `p` the instant of the run before, in the same photoperiod. -/
structure OpenDue (s : State) (z t : Nat) (r : Reading) (p : Nat) : Prop where
  loop : z < 511
  sample : s.loopSample z = some r
  new : (s.loop z).stamp ≠ some r.stamp
  before : (s.loop z).mp = some p
  start : s.photoStart t ≤ p
  rst : (s.loop z).dliRst = false
  resumed : (s.loop z).resumed = false
  prep : (s.loop z).prepAt ≠ some t
  instant : s.innerInstant t = true
  stale : s.loopStale z t = false
  mode : s.emode z = .open_
  asked : s.rmode z = .open_
  run : s.mode = .run

theorem OpenDue.sampleNew {s : State} {z t p : Nat} {r : Reading} (h : OpenDue s z t r p) : s.sampleNew z = true := by
  simp [State.sampleNew, h.sample, h.new]

/-- A loop that has taken its new sample, with STALE clear. -/
def State.sampled (s : State) (z t : Nat) (r : Reading) : State :=
  (s.setLoop z ((s.loop z).sampled t r)).setFlag (F.CCE_LSTAT_STALE z) false

theorem State.sampled_loop (s : State) (z t : Nat) (r : Reading) : (s.sampled z t r).loop z = (s.loop z).sampled t r :=
  s.loop_setLoop_same z _

theorem State.sampled_words (s : State) (z t : Nat) (r : Reading) : RunWords z s (s.sampled z t r) :=
  .put (.setLoop fun _ _ _ _ => rfl) (.inr (.inr rfl))

/-- Of LSTAT the sample changes STALE. -/
theorem State.sampled_get (s : State) {z : Nat} (t : Nat) (r : Reading) {f : Fld} (h : (F.CCE_LSTAT_STALE z).disj f = true) :
    (s.sampled z t r).get f = s.get f := (State.get_setFlag_disj _ _ h).trans (s.setLoop_get z _ f)

theorem RunWords.photoStart {z : Nat} {s t : State} (h : RunWords z s t) (hz : z < 512) (i : Nat) : t.photoStart i = s.photoStart i := by
  have hoff : t.get F.TBU_UTCOFF_SEC = s.get F.TBU_UTCOFF_SEC := State.get_congr (h.rd hz (.inl (by decide)))
  have hday : t.get F.CCE_DAYSTART_SEC = s.get F.CCE_DAYSTART_SEC := State.get_congr (h.rd hz (.inl (by decide)))
  simp only [State.photoStart, State.photoSec, State.utcSod, State.sget, hoff, hday]

/-- R226, R227, R237, R240: in OPEN a loop at an inner instant takes its new sample into the measured integral, and no more. -/
theorem State.prepLoop_open {s : State} {z t p : Nat} {r : Reading} (h : OpenDue s z t r p) :
    s.prepLoop z t = (s.sampled z t r).setLoop z (((s.loop z).sampled t r).integrated t p r.sample) := by
  have hloop := s.sampled_loop z t r
  have hmode : (s.sampled z t r).emode z = .open_ := (State.emode_congr (s.sampled_get t r (Fld.disj_at (by decide) _))).trans h.mode
  have hasked : (s.sampled z t r).rmode z = .open_ := by
    have hlctl : (s.sampled z t r).get (F.CCE_LCTL_MODE z) = s.get (F.CCE_LCTL_MODE z) := (s.sampled_words z t r).lctl 0 2
    have hsame : (s.sampled z t r).rmode z = s.rmode z := by rw [State.rmode, hlctl, State.rmode]
    exact hsame.trans h.asked
  have hnew := h.sampleNew
  have hchecked : (s.takeSample z t).staleCheck z t true = s.sampled z t r := by
    have hstale : (s.setLoop z ((s.loop z).sampled t r)).loopStale z t = false := (s.loopStale_setLoop (l := (s.loop z).sampled t r) rfl).trans h.stale
    rw [State.takeSample_new t h.sample hnew, State.staleCheck, hstale]
    rfl
  have hentered : (s.sampled z t r).enterMode z t = s.sampled z t r := if_pos (hmode.trans hasked.symm)
  have hdue : (s.sampled z t r).outerDue z true = false := by
    rw [State.outerDue, hmode]
    rfl
  unfold State.prepLoop
  rw [if_neg (by simp [h.prep, h.instant, Nat.ne_of_lt h.loop])]
  dsimp only
  rw [hnew, hchecked, h.run, show (PwrMode.run == PwrMode.run) = true from rfl, if_pos rfl, hentered, hdue, Bool.and_false,
    if_neg Bool.false_ne_true, if_pos (by rw [hloop]; rfl), State.measureStep_within (m := r.sample) (p := p), hloop]
  · rw [hloop]
    rfl
  · rw [hloop]
    exact h.before
  · rw [(s.sampled_words z t r).photoStart (Nat.lt_succ_of_lt h.loop)]
    exact h.start
  · rw [hloop]
    exact h.rst
  · rw [hloop]
    exact h.resumed

/-! ## The inner run of a loop in OPEN (R234, R237) -/

theorem State.innerRun_open {s : State} {z t m : Nat} (hm : (s.loop z).m = some m) (hprep : (s.loop z).prepAt = some t)
    (hdue : (s.loop z).doInner = true) (hrun : s.mode = .run) (hmode : s.emode z = .open_) :
    s.innerRun z t =
      ((s.measured z m).setLoop z { s.loop z with doInner := false, fp := some t }).put (F.CCE_LSP_INSP z) m := by
  have hmode1 : (s.measured z m).emode z = .open_ := (State.emode_congr (s.measured_get m (Fld.disj_at (by decide) _))).trans hmode
  have hloop1 := s.measured_loop z m
  unfold State.innerRun
  extract_lets l s0 s1 mi l1
  have hs1 : s1 = s.measured z m := by
    unfold s1 l
    rw [hm]
    rfl
  have hmi : mi = m := by simp [mi, l, hm]
  clear_value s1 mi
  subst hs1 hmi
  rw [if_neg (by simp [l, hdue, hprep]), if_neg (by rw [hrun]; decide), hmode1]
  simp only [l1, hloop1, l, Int.toNat_natCast]

/-- R225, R234, R237: what the run of a loop in OPEN leaves: its sample `m` in LSP and LOUT and in the measured integral. -/
structure OpenRan (s : State) (z t p m : Nat) (u : State) : Prop where
  insp : u.get (F.CCE_LSP_INSP z) = m
  meas : u.get (F.CCE_LOUT_MEAS z) = m
  sample : (u.loop z).m = some m
  imeas : (u.loop z).imeas = (s.loop z).imeas + BitVec.ofNat 64 (m * ((t - p) / 1000))
  gain : u.get (F.CCE_LOUT_GAIN z) = s.get (F.CCE_LOUT_GAIN z)
  stale : u.flag (F.CCE_LSTAT_STALE z) = false
  words : RunWords z s u

theorem Reading.sample_lt (r : Reading) : r.sample < 65536 := by
  unfold Reading.sample
  omega

/-- A field beside INSP and MEAS after the run of a loop in OPEN is as before the run. -/
theorem State.openRun_get (s : State) {z m : Nat} {l : Loop} {f : Fld} (hinsp : (F.CCE_LSP_INSP z).disj f = true)
    (hmeas : (F.CCE_LOUT_MEAS z).disj f = true) : (((s.measured z m).setLoop z l).put (F.CCE_LSP_INSP z) m).get f = s.get f :=
  (State.get_put_disj _ _ hinsp).trans ((State.setLoop_get _ z l f).trans (s.measured_get m hmeas))

theorem State.runs_open_give {s : State} {z t p : Nat} {r : Reading} (h : OpenDue s z t r p) :
    OpenRan s z t p r.sample (((s.prepLoop z t).outerRun z t).innerRun z t) := by
  have hz : z < 512 := Nat.lt_succ_of_lt h.loop
  have hprep := State.prepLoop_open h
  generalize s.prepLoop z t = u at hprep ⊢
  have hloop : u.loop z = ((s.loop z).sampled t r).integrated t p r.sample := hprep ▸ State.loop_setLoop_same _ z _
  have hget (f : Fld) : u.get f = (s.sampled z t r).get f := hprep ▸ State.setLoop_get _ z _ f
  have hwords : RunWords z s u := hprep ▸ (s.sampled_words z t r).setLoop
  have hmode : u.emode z = .open_ := (State.emode_congr ((hget _).trans (s.sampled_get t r (Fld.disj_at (by decide) _)))).trans h.mode
  have hrun : u.mode = .run := hprep ▸ h.run
  rw [State.outerRun_idle t (.inl (by rw [hloop]; rfl)),
    State.innerRun_open (m := r.sample) (by rw [hloop]; rfl) (by rw [hloop]; rfl) (by rw [hloop]; rfl) hrun hmode]
  refine ⟨?insp, ?meas, ?sample, ?imeas, ?gain, ?stale,
    hwords.trans ((u.measured_words z r.sample).setLoop.put (f := F.CCE_LSP_INSP z) (.inl rfl))⟩
  case insp => exact (State.get_put_same _ _ _ rfl).trans (Nat.mod_eq_of_lt r.sample_lt)
  case meas =>
    refine (State.get_put_disj _ _ (Fld.disj_at (by decide) _)).trans ((State.setLoop_get _ z _ _).trans ?_)
    exact (State.get_put_same _ _ _ rfl).trans (Nat.mod_eq_of_lt r.sample_lt)
  case sample =>
    refine (congrArg Loop.m (State.loop_setLoop_same (u.measured z r.sample) z _)).trans ?_
    rw [hloop]
    rfl
  case imeas =>
    refine (congrArg Loop.imeas (State.loop_setLoop_same (u.measured z r.sample) z _)).trans ?_
    rw [hloop]
    rfl
  case gain =>
    exact (u.openRun_get (Fld.disj_at (by decide) _) (Fld.disj_at (by decide) _)).trans
      ((hget _).trans (s.sampled_get t r (Fld.disj_at (by decide) _)))
  case stale =>
    rw [State.flag, u.openRun_get (f := F.CCE_LSTAT_STALE z) (Fld.disj_at (by decide) _) (Fld.disj_at (by decide) _), hget]
    exact State.flag_setFlag_same _ (F.CCE_LSTAT_STALE z) false rfl rfl

/-! ## The obligation -/

/-- R236: a number of steps of `q` rounded to the nearest whole one is within half a step. -/
theorem dliRound_near (n : Int) (up : Bool) : (16000000000 * roundNear n 16000000000 up - n).natAbs ≤ 8000000000 := by
  unfold roundNear
  split <;> omega

theorem satI_eq (i : Int) : satI i = clampInt (-(2 ^ 47)) (2 ^ 47) i := by norm_num [satI]

/-- Settles O28: each run by what it leaves when it is due, and the runs that are not due by leaving all as it was. -/
theorem controlLoopRuns : Obligations.ControlLoopRuns := by
  unfold Obligations.ControlLoopRuns
  intro s z hne hrun y l now frac near lim sat47 words
  have hy : y < 512 := z.isLt
  have hruns : s.inRunQuiet = true := by rw [State.inRunQuiet, hrun]; rfl
  have hsat47 (i : Int) : satI i = sat47 i := satI_eq i
  have hmin (k : Nat) : (s.coef k).omin = min (s.get (F.CCE_OLIM_OMIN k) : Int) (s.get (F.CCE_OLIM_OMAX k)) := Nat.cast_min _ _
  refine ⟨?track, ?opened, ?dli, ?idle⟩
  case track =>
    intro m p hm hp hprep hdue hpre hheld hmode hsel hset hq hsatg k hlim sp e dt u omax omin slew i1 v w1 w
    refine ⟨_, rfl, ?_⟩
    rw [if_pos hruns, State.prepLoop_done hprep, State.outerRun_idle _ (.inr (by rw [hmode]; decide))]
    have hcap : s.innerHoldUp y = false := by rw [State.innerHoldUp, hq, hsatg]; rfl
    have hran := State.innerRun_track_gives (t := now) ⟨hy, hm, hp, hprep, hdue, hpre, hheld, hrun, hmode, hsel, hset, hcap⟩ hlim
    extract_lets c dt' i1' v' w1' at hran
    have hi1 : i1' = i1 := hsat47 _
    have hv : v' = v := congrArg (frac (s.sget (F.CCE_FF_FF k) * sp) + frac (s.sget (F.CCE_KP_KP k) * e) + frac ·) hi1
    have hw1 : w1' = w1 := congrArg₂ (clampInt · omax ·) (hmin k) hv
    have hw : c.slewed dt' u w1' = w := congrArg (c.slewed dt' u) hw1
    rw [hw, hw1, hv, hi1] at hran
    obtain ⟨hgain, hi, he, hdone, hmeas, hinsp, hsat, hsrc, hmode', hwords⟩ := hran
    rw [hmin] at hsat
    exact ⟨hgain, hi.trans (hsat47 _), he, hdone, hmeas, congrArg Nat.cast hinsp, hsat, hsrc, hmode', hwords⟩
  case opened =>
    intro r p hr hnew hp hstart hrst hres hprep hinst hstale hmode hasked m
    refine ⟨_, rfl, ?_⟩
    rw [if_pos hruns]
    obtain ⟨hinsp, hmeas, hsample, himeas, hgain, hst, hwords⟩ := State.runs_open_give (t := now) (r := r) (p := p)
      ⟨by omega, hr, hnew, hp, hstart, hrst, hres, hprep, beq_iff_eq.mpr hinst, hstale, hmode, hasked, hrun⟩
    exact ⟨hinsp, hmeas, hsample, himeas, hgain, hst, hwords⟩
  case dli =>
    intro p hp hprep hdue hpre hheld hmode hsat hset k hlim hslew x omax omin
    refine ⟨_, rfl, ?_⟩
    rw [if_pos hruns, State.prepLoop_done hprep]
    have hran := State.outerRun_dli_gives (t := now) ⟨hy, hp, hprep, hdue, hpre, hheld, hrun, hmode, hsat, hset⟩ hlim hslew
    extract_lets c e' i1' v' w' at hran
    refine ⟨roundNear l.imeas.toNat 16000000000 (Config.tieUp 236 l.imeas.toNat), dliRound_near _ _, ?_⟩
    intro e i1 v
    have hi1 : i1' = i1 := hsat47 _
    have hv : v' = v := congrArg (frac (s.sget (F.CCE_FF_FF k) * curveRate x (s.loopCurve y)) + frac (s.sget (F.CCE_KP_KP k) * e) + frac ·) hi1
    have hw : w' = lim omin omax v := congrArg₂ (clampInt · omax ·) (hmin k) hv
    rw [hw, hv, hi1] at hran
    obtain ⟨hinsp, hi, he, hdone, hgain, hwords⟩ := hran
    exact ⟨hinsp, hi.trans (hsat47 _), he, hdone, hgain, hwords⟩
  case idle =>
    intro hprep hinner houter
    refine ⟨⟨_, rfl, ?_⟩, ⟨_, rfl, ?_⟩⟩
    · rw [if_pos hruns, State.prepLoop_done hprep, State.outerRun_idle _ (.inl houter), State.innerRun_idle _ hinner]
    · rw [if_pos hruns, State.prepLoop_done hprep, State.outerRun_idle _ (.inl houter)]

end Sys2Proof.Machine

/-!
# Signed fields, roundings and the lock state of the time base

What chapter 9 needs again and again: a field in two's complement reads as it was written; `roundNear`, `showNs` and `clampInt` by what
bounds them; and what the operations that the servo, the masters and the host commands share (`State.setFreq`, `State.askStep`,
`State.tbEnter`) write and leave.
-/

namespace Sys2Proof.Machine

-- One proof at a time, as in the tests, and no code for the definitions that only proofs use: the whole text is compiled in one process of
-- limited memory.
set_option Elab.async false

/-! ## Signed fields -/

theorem two_pow_cast (n : Nat) : ((2 ^ n : Nat) : Int) = 2 ^ n := Int.natCast_pow 2 n

theorem two_pow_pos_int (n : Nat) : (0 : Int) < 2 ^ n := Int.pow_pos (by decide)

/-- A number of `n` bits in two's complement lies between the ends of its range. -/
theorem toSigned_range {n v : Nat} (hn : 0 < n) (hv : v < 2 ^ n) : -(2 ^ (n - 1)) ≤ toSigned n v ∧ toSigned n v < 2 ^ (n - 1) := by
  obtain ⟨m, rfl⟩ := Nat.exists_eq_add_one_of_ne_zero hn.ne'
  have hpow : (2 : Int) ^ (m + 1) = 2 * 2 ^ m := Int.pow_succ' 2 m
  have hcast := two_pow_cast m
  have hcast' := two_pow_cast (m + 1)
  rw [toSigned, Nat.add_sub_cancel]
  split
  · omega
  · omega

/-- What is written in two's complement is read back. -/
theorem toSigned_ofSigned {n : Nat} {v : Int} (hn : 0 < n) (hlo : -(2 ^ (n - 1)) ≤ v) (hhi : v < 2 ^ (n - 1)) :
    toSigned n (ofSigned n v) = v := by
  obtain ⟨m, rfl⟩ := Nat.exists_eq_add_one_of_ne_zero hn.ne'
  rw [Nat.add_sub_cancel] at hlo hhi
  have hpow : (2 : Int) ^ (m + 1) = 2 * 2 ^ m := Int.pow_succ' 2 m
  have hcast : ((ofSigned (m + 1) v : Nat) : Int) = v % 2 ^ (m + 1) :=
    Int.toNat_of_nonneg (Int.emod_nonneg _ (two_pow_pos_int _).ne')
  have hlt : ofSigned (m + 1) v < 2 ^ m ↔ v % 2 ^ (m + 1) < 2 ^ m := by rw [← hcast, ← two_pow_cast, Int.ofNat_lt]
  rw [toSigned, Nat.add_sub_cancel, hcast]
  by_cases h0 : 0 ≤ v
  · have hmod : v % 2 ^ (m + 1) = v := Int.emod_eq_of_lt h0 (by omega)
    rw [if_pos (by rwa [hlt, hmod]), hmod]
  · have hmod : v % 2 ^ (m + 1) = v + 2 ^ (m + 1) := by
      rw [← Int.add_emod_right]
      exact Int.emod_eq_of_lt (by omega) (by omega)
    rw [if_neg (by rw [hlt, hmod]; omega), hmod]
    omega

theorem ofSigned_lt (n : Nat) (v : Int) : ofSigned n v < 2 ^ n := by
  have h : v % 2 ^ n < 2 ^ n := Int.emod_lt_of_pos v (two_pow_pos_int n)
  have h0 : 0 ≤ v % 2 ^ n := Int.emod_nonneg v (two_pow_pos_int n).ne'
  have hcast := two_pow_cast n
  unfold ofSigned
  omega

theorem State.sget_range (s : State) (f : Fld) (h : 0 < f.width) : -(2 ^ (f.width - 1)) ≤ s.sget f ∧ s.sget f < 2 ^ (f.width - 1) :=
  toSigned_range h (s.get_lt f)

/-- A field in two's complement reads as what was put into it. -/
theorem State.sget_sput_same (s : State) {f : Fld} {v : Int} (hf : f.ok = true) (hw : 0 < f.width) (hlo : -(2 ^ (f.width - 1)) ≤ v)
    (hhi : v < 2 ^ (f.width - 1)) : (s.sput f v).sget f = v := by
  rw [State.sget, State.sput, State.get_put_same _ _ _ hf, Nat.mod_eq_of_lt (ofSigned_lt _ _)]
  exact toSigned_ofSigned hw hlo hhi

theorem State.sget_congr {s t : State} {f : Fld} (h : t.get f = s.get f) : t.sget f = s.sget f := congrArg (toSigned f.width) h

theorem State.flag_congr {s t : State} {f : Fld} (h : t.get f = s.get f) : t.flag f = s.flag f := congrArg (· == 1) h

/-! ## Roundings -/

theorem clampInt_of_mem {lo hi v : Int} (hlo : lo ≤ v) (hhi : v ≤ hi) : clampInt lo hi v = v := by
  rw [clampInt, if_neg (Int.not_lt.mpr hlo), if_neg (Int.not_lt.mpr hhi)]

theorem natAbs_le_of_mem {x : Int} {n : Nat} (hlo : -(n : Int) ≤ x) (hhi : x ≤ n) : x.natAbs ≤ n := by omega

theorem mem_of_natAbs_le {x : Int} {n : Nat} (h : x.natAbs ≤ n) : -(n : Int) ≤ x ∧ x ≤ n := by omega

/-- A quotient rounded to the nearest whole number is within one half. -/
theorem roundNear_near (n : Int) {d : Nat} (hd : 0 < d) (up : Bool) : (2 * (roundNear n d up * d - n)).natAbs ≤ d := by
  have hdiv := Int.mul_ediv_add_emod (2 * n + d) (2 * d)
  have hlo : 0 ≤ (2 * n + d) % (2 * d : Int) := Int.emod_nonneg _ (by omega)
  have hhi : (2 * n + d) % (2 * d : Int) < 2 * d := Int.emod_lt_of_pos _ (by omega)
  unfold roundNear
  generalize (2 * n + d) % (2 * d : Int) = r at hdiv hlo hhi ⊢
  generalize (2 * n + d) / (2 * d : Int) = q at hdiv ⊢
  have hq : 2 * (d : Int) * q = 2 * (q * d) := by rw [Int.mul_assoc, Int.mul_comm (d : Int) q]
  split
  · have hq1 : (q - 1) * (d : Int) = q * d - d := by rw [Int.sub_mul, Int.one_mul]
    rw [hq1]
    exact natAbs_le_of_mem (by omega) (by omega)
  · exact natAbs_le_of_mem (by omega) (by omega)

/-- A whole number of ns is shown as it is. -/
theorem showNs_mul (rule : Nat) (k : Int) {d : Nat} (hd : 0 < d) : showNs rule (d * k) d = k := by
  have hd' : (d : Int) ≠ 0 := by omega
  rw [showNs, if_pos (Int.mul_emod_right _ _), Int.mul_ediv_cancel_left _ hd']

theorem showNs_floor (rule : Nat) (n : Int) (d : Nat) : showNs rule n d = n / d ∨ n % d ≠ 0 ∧ showNs rule n d = n / d + 1 := by
  unfold showNs
  split
  · exact .inl rfl
  · next h =>
    split
    · exact .inr ⟨h, rfl⟩
    · exact .inl (Int.add_zero _)

/-! ## Events -/

/-- What stands in the journal's ring stands there whatever is written below it. -/
theorem Journalled.kept {s t t' : State} {c u : Nat} {p : List Nat} (h : Journalled s t c u p) (ht : ∀ a, jnlBase ≤ a → t'.rd a = t.rd a) :
    Journalled s t' c u p := h.congr rfl rfl fun k _ => ht _ (by unfold jnlAddr; omega)

theorem State.rateOk_congr {s t : State} (hr : t.rates = s.rates) (hn : t.ns = s.ns) (c u g : Nat) : t.rateOk c u g = s.rateOk c u g := by
  rw [State.rateOk, State.rateOk, hr, hn]

/-! ## The discipline of the calendar (R290) -/

theorem State.discTrack_tbu (s : State) : s.discTrack.tbu = s.tbu := by rw [s.discTrack_eq]

theorem State.discTrack_ns (s : State) : s.discTrack.ns = s.ns := by rw [s.discTrack_eq]

theorem State.discTrack_rd (s : State) {a : Nat} (h : a ≠ Reg.RTC_STAT) : s.discTrack.rd a = s.rd a := by
  unfold State.discTrack
  split
  · rfl
  · exact s.rd_put_ne _ h

/-! ## The lock state (R257) -/

/-- The time base but for the servo's trim and what is counted of the lock state. -/
noncomputable def Tbu.course (x : Tbu) : Tbu := { x with good := 0, far := 0, monGood := 0, holdAt := none, freqs := [], slew := none, i := 0 }

/-- The events of leaving and entering LOCKED, behind the new state. -/
noncomputable def State.tbReport (s : State) (x : Nat) : State :=
  let s1 := s.put F.TBU_STAT_STATE x
  let s2 := if s.tbState = tbLocked ∧ x ≠ tbLocked then s1.raiseRated nsPerSec 0x902 0 [x] else s1
  if x = tbLocked ∧ s.tbState ≠ tbLocked then s2.raiseRated nsPerSec 0x901 0 else s2

theorem State.tbReport_records (s : State) (x : Nat) : State.Records (s.put F.TBU_STAT_STATE x) (s.tbReport x) := by
  have when {c : Prop} {_ : Decidable c} {u v w : State} (hu : State.Records u v) (hw : State.Records v w) :
      State.Records u (if c then w else v) := by
    split
    · exact hu.trans hw
    · exact hu
  exact when (when (.refl _) (State.raiseRated_records _ _ _ _ _ _)) (State.raiseRated_records _ _ _ _ _ _)

theorem State.tbReport_only (s : State) (x : Nat) : (s.tbReport x).tbu = s.tbu ∧ (s.tbReport x).ns = s.ns :=
  ⟨(s.tbReport_records x).tbu_eq, (s.tbReport_records x).ns_eq⟩

theorem State.tbReport_get (s : State) (x : Nat) {f : Fld} (hf : F.TBU_STAT_STATE.disj f = true) (hr : recordAddr f.addr = false) :
    (s.tbReport x).get f = s.get f := ((s.tbReport_records x).get hr).trans (s.get_put_disj x hf)

theorem State.tbEnter_eq (s : State) (x : Nat) : s.tbEnter x = ({ s.tbReport x with
    tbu := { s.tbu with good := 0, far := 0, holdAt := if x = tbHold then some s.ns else none,
                        freqs := if x = tbLocked ∧ s.tbState ≠ tbLocked then [(s.ns, s.sget F.TBU_FREQ_FREQ)] else s.tbu.freqs } } :
      State).discTrack := by
  obtain ⟨htbu, hns⟩ := s.tbReport_only x
  have hfreq : (s.tbReport x).sget F.TBU_FREQ_FREQ = s.sget F.TBU_FREQ_FREQ := State.sget_congr (s.tbReport_get x (by decide) (by decide))
  rw [← hfreq, ← htbu, ← hns]
  rfl

theorem State.tbEnter_tbu (s : State) (x : Nat) : (s.tbEnter x).tbu =
    { s.tbu with good := 0, far := 0, holdAt := if x = tbHold then some s.ns else none,
                 freqs := if x = tbLocked ∧ s.tbState ≠ tbLocked then [(s.ns, s.sget F.TBU_FREQ_FREQ)] else s.tbu.freqs } := by
  rw [s.tbEnter_eq x, State.discTrack_tbu]

theorem State.tbEnter_course (s : State) (x : Nat) : (s.tbEnter x).tbu.course = s.tbu.course := by
  rw [s.tbEnter_tbu x]
  rfl

theorem State.tbEnter_ns (s : State) (x : Nat) : (s.tbEnter x).ns = s.ns := by
  rw [s.tbEnter_eq x, State.discTrack_ns]
  exact (s.tbReport_only x).2

theorem State.tbEnter_rd (s : State) (x : Nat) {a : Nat} (h : a ≠ Reg.RTC_STAT) : (s.tbEnter x).rd a = (s.tbReport x).rd a := by
  rw [s.tbEnter_eq x, State.discTrack_rd _ h]
  rfl

theorem State.tbEnter_get (s : State) (x : Nat) {f : Fld} (hf : F.TBU_STAT_STATE.disj f = true := by decide)
    (hr : recordAddr f.addr = false := by decide) (hd : f.addr ≠ Reg.RTC_STAT := by decide) : (s.tbEnter x).get f = s.get f :=
  (State.get_congr (s.tbEnter_rd x hd)).trans (s.tbReport_get x hf hr)

theorem State.tbEnter_state (s : State) (x : Nat) : (s.tbEnter x).tbState = x % 4 := by
  have h : (s.tbEnter x).tbState = (s.tbReport x).tbState := State.get_congr (f := F.TBU_STAT_STATE) (s.tbEnter_rd x (by decide))
  rw [h]
  exact ((s.tbReport_records x).get (f := F.TBU_STAT_STATE) (by decide)).trans (s.get_put_same _ _ (by decide))

theorem State.tbEnter_journalled {s : State} {x c : Nat} {p : List Nat} (h : Journalled (s.put F.TBU_STAT_STATE x) (s.tbReport x) c 0 p) :
    Journalled s (s.tbEnter x) c 0 p :=
  h.of_put.kept fun a ha => s.tbEnter_rd x (by unfold jnlBase at ha; unfold Reg.RTC_STAT; omega)

/-- R257: leaving LOCKED is an event. -/
theorem State.tbEnter_leaves {s : State} {x : Nat} (hs : s.tbState = tbLocked) (hx : x ≠ tbLocked) (h : s.rateOk 0x902 0 nsPerSec = true) :
    Journalled s (s.tbEnter x) 0x902 0 [x] := by
  refine State.tbEnter_journalled ?_
  rw [State.tbReport, if_neg fun k => hx k.1, if_pos ⟨hs, hx⟩]
  exact State.raiseRated_journalled (s.put F.TBU_STAT_STATE x) _ _ _ _ _ h

/-- R257: so is entering it. -/
theorem State.tbEnter_locks {s : State} (hs : s.tbState ≠ tbLocked) (h : s.rateOk 0x901 0 nsPerSec = true) :
    Journalled s (s.tbEnter tbLocked) 0x901 0 [] := by
  refine State.tbEnter_journalled ?_
  rw [State.tbReport, if_pos ⟨rfl, hs⟩, if_neg fun k => k.2 rfl]
  exact State.raiseRated_journalled (s.put F.TBU_STAT_STATE tbLocked) _ _ _ _ _ h

/-! ## The trim (R251, R269) -/

/-- The value that TBU_FREQ takes when the trim takes the value `v`. -/
noncomputable def State.freqAt (s : State) (v : Int) : Int := clampInt (-freqMax) freqMax (v + (s.tbu.slew.map (·.by_)).getD 0)

theorem State.slewOn_only (s : State) (v : Int) : s.slewOn v = { s with tbu := (s.slewOn v).tbu } ∧ (s.slewOn v).tbu.course = s.tbu.course ∧
    (s.slewOn v).tbu.i = s.tbu.i := by
  unfold State.slewOn
  split
  · exact ⟨rfl, rfl, rfl⟩
  · exact ⟨rfl, rfl, rfl⟩

theorem State.setFreq_only (s : State) (v : Int) : s.setFreq v = { s.sput F.TBU_FREQ_FREQ (s.freqAt v) with tbu := (s.setFreq v).tbu } := by
  unfold State.setFreq
  dsimp only
  rw [(s.slewOn_only v).1]
  split
  · rfl
  · rfl

theorem State.setFreq_get (s : State) (v : Int) {f : Fld} (hf : F.TBU_FREQ_FREQ.disj f = true := by decide) :
    (s.setFreq v).get f = s.get f := by
  rw [s.setFreq_only v]
  exact s.get_put_disj _ hf

theorem State.setFreq_freq (s : State) (v : Int) : (s.setFreq v).sget F.TBU_FREQ_FREQ = s.freqAt v := by
  obtain ⟨hlo, hhi⟩ := clampInt_mem (show -freqMax ≤ freqMax by decide) (v + (s.tbu.slew.map (·.by_)).getD 0)
  have h : (s.sput F.TBU_FREQ_FREQ (s.freqAt v)).sget F.TBU_FREQ_FREQ = s.freqAt v := by
    refine s.sget_sput_same (by decide) (by decide) ?_ ?_
    · exact le_trans (by decide) hlo
    · exact lt_of_le_of_lt hhi (by decide)
  rw [s.setFreq_only v]
  exact h

theorem State.setFreq_course (s : State) (v : Int) : (s.setFreq v).tbu.course = s.tbu.course := by
  obtain ⟨-, hcourse, -⟩ := s.slewOn_only v
  unfold State.setFreq
  dsimp only
  split
  · exact hcourse
  · exact hcourse

/-- Of the slew a new trim changes the base and what is left; the integrator and the lock state stay. -/
theorem State.setFreq_slew (s : State) (v : Int) : (s.setFreq v).tbu.slew = (s.slewOn v).tbu.slew ∧ (s.setFreq v).tbu.i = s.tbu.i := by
  obtain ⟨-, -, hi⟩ := s.slewOn_only v
  unfold State.setFreq
  dsimp only
  split
  · exact ⟨rfl, hi⟩
  · exact ⟨rfl, hi⟩

theorem State.freqAt_unslewed {s : State} {v : Int} (h : s.tbu.slew = none) (hlo : -34359738 ≤ v) (hhi : v ≤ 34359738) : s.freqAt v = v := by
  rw [State.freqAt, h]
  exact (congrArg (clampInt _ _) (Int.add_zero v)).trans (clampInt_of_mem hlo hhi)

/-! ## Steps asked for (R260) -/

theorem State.askStep_only (s : State) (r : StepReq) :
    s.askStep r = { s.setFlag F.TBU_STAT_STEPPING true with tbu := (s.askStep r).tbu } := by
  unfold State.askStep
  split
  · rfl
  · rfl

theorem State.askStep_stepping (s : State) (r : StepReq) : (s.askStep r).flag F.TBU_STAT_STEPPING = true := by
  rw [s.askStep_only r]
  exact s.flag_setFlag_same _ true (by decide) rfl

theorem State.askStep_get (s : State) (r : StepReq) {f : Fld} (hf : F.TBU_STAT_STEPPING.disj f = true := by decide) :
    (s.askStep r).get f = s.get f := by
  rw [s.askStep_only r]
  exact s.get_setFlag_disj true hf

theorem State.askStep_free {s : State} (h : s.tbu.step = none) (r : StepReq) : (s.askStep r).tbu = { s.tbu with step := some r } := by
  unfold State.askStep
  rw [h]
  rfl

theorem State.askStep_busy {s : State} {r' : StepReq} (h : s.tbu.step = some r') (r : StepReq) :
    (s.askStep r).tbu = { s.tbu with stepNext := some r } := by
  unfold State.askStep
  rw [h]
  rfl

end Sys2Proof.Machine

/-!
# A step (O56)

Every arm of `exec` answers a next state, so every step does.  For the idle step: the vote clears every disagreement that is listed, and of
what comes due before the pattern engine (R277, R502) nothing reaches the engine's own state.
-/

namespace Sys2Proof.Machine

-- One proof at a time, as in the tests, and no code for the definitions that only proofs use: the whole text is compiled in one process of
-- limited memory.
set_option Elab.async false

/-! ## What the vote of a cycle leaves (R15) -/

theorem State.vote_odd (s : State) (a : Nat) : (s.vote a).phu.odd = spSet (fun _ => 0) s.phu.odd a 0 := by rw [s.vote_only a]

/-- Voting the listed words clears their marks and no others. -/
theorem forEach_vote_odd (l : List Nat) (s : State) (a : Nat) : spGet (fun _ => 0) (forEach (fun b t => t.vote b) l s).phu.odd a =
    if a ∈ l then 0 else spGet (fun _ => 0) s.phu.odd a := by
  induction l generalizing s with
  | nil => rfl
  | cons b l ih =>
    refine (ih (s.vote b)).trans ?_
    rw [s.vote_odd b, spGet_spSet]
    by_cases hb : a = b
    · simp [hb]
    · simp [hb]

/-- R15: after a cycle's vote no mark is left. -/
theorem State.voteAll_odd (s : State) (a : Nat) : spGet (fun _ => 0) s.voteAll.phu.odd a = 0 := by
  refine (forEach_vote_odd (s.phu.odd.map (·.1)) s a).trans ?_
  split
  · rfl
  · next ha => exact spGet_of_no_key _ _ _ fun p hp he => ha (List.mem_map.mpr ⟨p, hp, he⟩)

theorem State.voteAll_disagree (s : State) (a : Nat) : s.voteAll.disagree a = [] := by
  rw [State.disagree, s.voteAll_odd a]
  simp

theorem State.voteAll_pen (s : State) : s.voteAll.pen = s.pen := forEach_keeps State.pen (fun a t => by rw [t.vote_only a]) _ s

theorem State.voteAll_rtc (s : State) : s.voteAll.rtc = s.rtc := forEach_keeps State.rtc (fun a t => by rw [t.vote_only a]) _ s

theorem State.voteAll_xlk (s : State) : s.voteAll.xlk = s.xlk := forEach_keeps State.xlk (fun a t => by rw [t.vote_only a]) _ s

/-! ## What comes due leaves the pattern engine's own state (R277 to R286, R502) -/

theorem State.alarmSignal_pen (s : State) (n : Nat) : (s.alarmSignal n).pen = s.pen := by
  unfold State.alarmSignal
  split <;> rfl

theorem State.alarmFlags_pen (s : State) (n : Nat) (late : Bool) : (s.alarmFlags n late).pen = s.pen := by
  unfold State.alarmFlags
  split <;> rfl

theorem State.alarmFire_pen (s : State) (n l : Nat) (late : Bool) : (s.alarmFire n l late).pen = s.pen := by
  unfold State.alarmFire
  dsimp only
  split
  · exact s.alarmFlags_pen n late
  · rw [State.alarmSignal_pen, State.raise_pen, State.alarmFlags_pen]

theorem State.alarmKeep_pen (s : State) (n l : Nat) (late : Bool) : (s.alarmKeep n l late).pen = s.pen := by
  unfold State.alarmKeep
  dsimp only
  split
  · exact s.alarmFlags_pen n late
  · exact s.alarmFlags_pen n late

theorem State.alarms_pen (s : State) (a b : Nat) : (s.alarms a b).pen = s.pen :=
  forUp_keeps State.pen (fun n t => by
    split
    · rfl
    · split
      · rfl
      · split
        · exact t.alarmKeep_pen _ _ _
        · exact t.alarmFire_pen _ _ _) 2 s

theorem State.setCal_pen (s : State) (l : Nat) : (s.setCal l).pen = s.pen := by rw [State.setCal, State.wr_pen, State.wr_pen]

theorem State.calAdvance_pen (s : State) (k : Nat) : (s.calAdvance k).pen = s.pen := by
  unfold State.calAdvance
  dsimp only
  split
  · split
    · rfl
    · rw [State.raise_pen]
      rfl
  · rw [State.alarms_pen, State.setCal_pen]

theorem State.leapApply_pen (s : State) (neg : Bool) : (s.leapApply neg).pen = s.pen := by
  unfold State.leapApply
  dsimp only
  split
  · rfl
  · rw [State.raise_pen]
    rfl

theorem State.secondNow_pen (s : State) : s.secondNow.pen = s.pen := by
  unfold State.secondNow
  split
  · rfl
  · split
    · split
      · split
        · rw [State.calAdvance_pen, State.leapApply_pen]
        · exact s.leapApply_pen false
      · exact State.calAdvance_pen _ 1
    · exact State.calAdvance_pen _ 1

theorem State.rtcSettle_pen (s : State) : s.rtcSettle.pen = s.pen := by
  unfold State.rtcSettle State.heldSecond
  split
  · split
    · exact State.secondNow_pen _
    · rfl
  · rfl

theorem State.fenceSettle_pen (s : State) : s.fenceSettle.pen = s.pen := by
  unfold State.fenceSettle State.fence
  dsimp only
  split
  · split
    · rfl
    · split
      · rfl
      · rfl
  · rfl

/-! ## What comes due when nothing waits -/

theorem State.rtcSettle_none {s : State} (h : s.rtc.held = none) : s.rtcSettle = s := by simp [State.rtcSettle, h]

theorem State.fenceSettle_none {s : State} (h : s.xlk.fenceAt = none) : s.fenceSettle = s := by simp [State.fenceSettle, h]

/-- R250: a TIME cycle adds 8 ns and the trim, in 2^-32 ns. -/
theorem State.timeCycle_total (s : State) : (s.timeCycle.ns : Int) * 2 ^ 32 + s.timeCycle.frac.toNat =
    (s.ns : Int) * 2 ^ 32 + s.frac.toNat + 8 * 2 ^ 32 + s.sget F.TBU_FREQ_FREQ := by
  have hfrac := s.frac.isLt
  have hfreq : -(2 ^ 31) ≤ s.sget F.TBU_FREQ_FREQ := (s.sget_range F.TBU_FREQ_FREQ (by decide)).1
  simp only [State.timeCycle, BitVec.toNat_ofInt]
  omega

/-! ## The step -/

/-- The state in which an idle step serves the host or the pattern engine. -/
noncomputable def State.cycled (s : State) : State := s.voteAll.timeCycle.rtcSettle.fenceSettle

theorem State.cycled_pen (s : State) : s.cycled.pen = s.pen := by
  rw [State.cycled, State.fenceSettle_pen, State.rtcSettle_pen]
  exact s.voteAll_pen

theorem State.cycled_atBoundary {s : State} (h : s.pen.cur = none) : s.cycled.atBoundary = true := by
  rw [State.atBoundary, s.cycled_pen, h]

theorem idle_eq {s : State} (hr : s.inRunQuiet = true) : idle s = if s.hostReady then .next s.cycled.serveHost
    else if s.cycled.atBoundary then .next s.cycled.groupBoundary
    else exec (decodeBobbin (BitVec.ofNat 5 (s.pen.cur.getD 0)) (s.cycled.rd (s.cycled.fetchAddr (s.pen.cur.getD 0)))) s.cycled := by
  rw [idle, if_pos hr]
  rfl

theorem idle_next {s : State} (hr : s.inRunQuiet = true) : ∃ t, idle s = .next t := by
  rw [idle_eq hr]
  split
  · exact ⟨_, rfl⟩
  · split
    · exact ⟨_, rfl⟩
    · exact exec_next _ _

theorem step_cons {s : State} {c : Instr} {rest : List Instr} (h : s.pending = c :: rest) : step s = exec c { s with pending := rest } := by
  rw [step, h]

theorem step_nil {s : State} (h : s.pending = []) : step s = idle s := by rw [step, h]

/-- Settles O56: a command by its arm of `exec`, an idle step by what is ready in the state after the cycle. -/
theorem stepTakesTheFrontCommand : Obligations.StepTakesTheFrontCommand := by
  unfold Obligations.StepTakesTheFrontCommand
  intro s c rest u
  refine ⟨fun hp => ⟨step_cons hp, ?command⟩, fun hp hr => ?off, fun hp hr hh => ?host, fun hp hr hh hc => ?boundary, s.voteAll_disagree,
    fun hheld hfence => ?settled, fun hp hr n _ _ => ?service, rfl, s.timeCycle_total⟩
  case command =>
    rw [step_cons hp]
    exact exec_next _ _
  case off =>
    rw [step_nil hp, idle, hr]
    rfl
  case host =>
    rw [step_nil hp, idle_eq hr, if_pos hh]
    rfl
  case boundary =>
    rw [step_nil hp, idle_eq hr, hh, if_pos (State.cycled_atBoundary hc)]
    rfl
  case settled =>
    have hheld' : s.voteAll.timeCycle.rtc.held = none := (congrArg Rtc.held s.voteAll_rtc).trans hheld
    have hfence' : s.voteAll.timeCycle.xlk.fenceAt = none := (congrArg Xlk.fenceAt s.voteAll_xlk).trans hfence
    rw [show u = s.voteAll.timeCycle.rtcSettle.fenceSettle from rfl, State.rtcSettle_none hheld', State.fenceSettle_none hfence']
  case service =>
    rw [step_nil hp]
    exact idle_next hr

end Sys2Proof.Machine

/-!
# The host's commands to the time base (O37)

CAP writes the time; SET and SLEW pass one gate (`State.tbBusy`) and then ask for a step or begin a slew; a slew ends by what it has made up;
UTCARM arms the staged offset with the notice that is due, and the armed offset is taken with its event.
-/

namespace Sys2Proof.Machine

-- One proof at a time, as in the tests, and no code for the definitions that only proofs use: the whole text is compiled in one process of
-- limited memory.
set_option Elab.async false

/-! ## Records with payload words behind others -/

/-- R387: an event whose rule names payload words from w(5 + `k`) on stands in the journal with them. -/
theorem State.raiseSkip_record {s : State} {c u : Nat} (k : Nat) (p : List Nat) (h : s.rateOk c u nsPerSec = true) :
    Journalled s (s.raiseSkip c u k p) c u [] ∧ (s.acts = true → ∀ j v, k + j < 3 → p[j]? = some v →
      (s.raiseSkip c u k p).rd (jnlAddr s.wptr + 20 + 4 * (k + j)) = BitVec.ofNat 32 v) := by
  have hrec (hacts : s.acts = true) := (s.rateMark c u).raiseEv_slot { code := c, unit := u, skip := k, pay := p } hacts
  rw [State.raiseSkip, if_pos h]
  refine ⟨fun hacts => ?_, fun hacts j v hj hv => ?_⟩
  · obtain ⟨loc, seq, hslot⟩ := hrec hacts
    have hword := hslot 0 (by decide)
    rw [Nat.mul_zero, Nat.add_zero] at hword
    obtain ⟨hcode, hunit⟩ := mkRec_word0 (s.rateMark c u) { code := c, unit := u, skip := k, pay := p } loc seq
    rw [← hword] at hcode hunit
    exact ⟨hcode, hunit, fun _ _ _ hnone => absurd hnone (by simp)⟩
  · obtain ⟨loc, seq, hslot⟩ := hrec hacts
    have hword := hslot (5 + (k + j)) (by omega)
    rw [mkRec_payload _ _ _ _ _ hj] at hword
    have hwptr : (s.rateMark c u).wptr = s.wptr := rfl
    rw [hwptr, show jnlAddr s.wptr + 4 * (5 + (k + j)) = jnlAddr s.wptr + 20 + 4 * (k + j) by omega] at hword
    refine hword.trans ?_
    simp only [Ev.payload, if_neg (Nat.not_lt.mpr (Nat.le_add_right k j)), Nat.add_sub_cancel_left, hv]

/-! ## Commands refused (R266, R269, R415) -/

/-- R269: what refuses SET and SLEW. -/
theorem State.tbBusy_iff (s : State) : s.tbBusy = true ↔
    s.flag F.TBU_CTL_SERVO = true ∨ s.isStandby = true ∨ s.tbu.step ≠ none ∨ s.tbu.slew ≠ none := by
  simp only [State.tbBusy, State.tbTaken, Bool.or_eq_true, Option.isSome_iff_ne_none, or_assoc, or_left_comm, or_comm]

theorem State.tbRefuse_gives (s : State) : s.tbRefuse.status = 0 ∧ s.tbRefuse.flag F.TBU_STAT_REFUSED = true ∧ s.tbRefuse.tbu = s.tbu ∧
    (s.rateOk 0x906 0 1000000000 = true → Journalled s s.tbRefuse 0x906 0 []) := by
  refine ⟨rfl, ?flag, ?tbu, fun hrate => ?event⟩
  case flag =>
    rw [State.tbRefuse, State.answer_flag, State.raiseRated_flag _ _ _ _ _ _ (by decide)]
    exact s.flag_setFlag_same _ true (by decide) rfl
  case tbu => rw [State.tbRefuse, State.answer_tbu, State.raiseRated_tbu, State.setFlag_tbu]
  case event =>
    have h := State.raiseRated_journalled (s.setFlag F.TBU_STAT_REFUSED true) nsPerSec 0x906 0 [] 0 hrate
    exact Journalled.of_put (f := F.TBU_STAT_REFUSED) h

/-- R415: what a standby does not perform is answered by its role. -/
theorem State.hostWr_standby {s : State} {a v : Nat} {op : State → State} (hr : s.inRunQuiet = true) (hs : s.isStandby = true)
    (hw : standbyWritable a v = false) : s.hostWr a v op = s.roleAnswer a v := by
  have hrole : s.get F.GLB_ROLE_ROLE = 2 := by simpa [State.isStandby] using hs
  rw [State.hostWr, hr, if_neg (by decide), if_pos (by simp [State.roleRefuses, hrole, hw])]

/-- R269: SET and SLEW of a standby are refusals of the time base too. -/
theorem State.roleAnswer_adjust {s : State} {v : Nat} (hs : s.isStandby = true) (hv : bit v 1 = true ∨ bit v 2 = true) :
    (s.roleAnswer Reg.TBU_CMD v).status = 0x15 ∧ (s.roleAnswer Reg.TBU_CMD v).flag F.TBU_STAT_REFUSED = true ∧
      (s.roleAnswer Reg.TBU_CMD v).tbu = s.tbu := by
  rw [State.roleAnswer, if_pos ⟨rfl, hs, hv⟩]
  refine ⟨rfl, ?flag, ?tbu⟩
  case flag =>
    rw [State.answer_flag, State.raiseRated_flag _ _ _ _ _ _ (by decide)]
    exact s.flag_setFlag_same _ true (by decide) rfl
  case tbu => rw [State.answer_tbu, State.raiseRated_tbu, State.setFlag_tbu]

/-! ## SLEW (R269) -/

/-- R256, R269: the trim of `n` ppb, for at least one, is positive, at most 35 units for each, and within half a unit of the exact value. -/
theorem freqOf_ppb {n : Nat} (hn : 1 ≤ n) : 0 < freqOf n 1 ∧ freqOf n 1 ≤ 35 * n ∧
    (2 * (freqOf n 1 * 1000000000 - n * 34359738368)).natAbs ≤ 1000000000 := by
  have h : (2 * (freqOf n 1 * 1000000000 - n * 34359738368)).natAbs ≤ 1000000000 := roundNear_near _ (by decide) _
  obtain ⟨hlo, hhi⟩ := mem_of_natAbs_le h
  generalize freqOf n 1 = f at h hlo hhi ⊢
  exact ⟨by omega, by omega, h⟩

/-- R269: a trim takes the sign of the adjustment. -/
theorem signed_trim {adj q : Int} (hadj : adj ≠ 0) (hq : 0 < q) :
    (0 < (if adj < 0 then -q else q) ↔ 0 < adj) ∧ ((if adj < 0 then -q else q).natAbs : Int) = q := by
  split
  · exact ⟨by omega, by omega⟩
  · exact ⟨by omega, by omega⟩

/-- A slew on a new trim: what is left of it, as of now. -/
theorem State.slewOn_slew {s : State} {w : Slew} (h : s.tbu.slew = some w) (v : Int) : (s.slewOn v).tbu.slew =
    some { w with base := clampInt (-freqMax) freqMax v, at_ := s.ns, left := w.leftAt (s.sget F.TBU_FREQ_FREQ) s.ns } := by
  rw [State.slewOn, h]

theorem State.slewOn_none {s : State} (h : s.tbu.slew = none) (v : Int) : s.slewOn v = s := by rw [State.slewOn, h]

/-- R269: the slew that makes up `adj` with a trim of `r` beside the present one. -/
noncomputable def State.slewFor (s : State) (adj r : Int) : Slew :=
  { by_ := if adj < 0 then -r else r, base := s.sget F.TBU_FREQ_FREQ, left := adj.natAbs * 34359738368, at_ := s.ns }

theorem State.slewFor_by (s : State) (adj r : Int) : (s.slewFor adj r).by_.natAbs = r.natAbs := by
  unfold State.slewFor
  dsimp only
  split
  · exact Int.natAbs_neg r
  · rfl

/-- STEPPING set and the slew `w` in progress. -/
noncomputable def State.slewing (s : State) (w : Slew) : State := { s.setFlag F.TBU_STAT_STEPPING true with tbu := { s.tbu with slew := some w } }

theorem State.slewBegin_eq {s : State} (h : s.sget F.TBU_ADJ_NS ≠ 0) : s.slewBegin =
    (s.slewing (s.slewFor (s.sget F.TBU_ADJ_NS) (freqOf (s.get F.TBU_SLEWMAX_PPB) 1))).setFreq (s.sget F.TBU_FREQ_FREQ) := if_neg h

/-- A slew that begins now, on a trim that TBU_FREQ can hold, is in progress as it stands. -/
theorem State.slewing_starts {s : State} {w : Slew} (hat : w.at_ = s.ns) (hlo : -freqMax ≤ w.base) (hhi : w.base ≤ freqMax) :
    ((s.slewing w).setFreq w.base).tbu.slew = some w := by
  have hleft : w.leftAt ((s.slewing w).sget F.TBU_FREQ_FREQ) (s.slewing w).ns = w.left := by
    have hns : (s.slewing w).ns = w.at_ := hat.symm
    rw [Slew.leftAt, hns, Nat.sub_self, Nat.mul_zero, Nat.sub_zero]
  rw [(State.setFreq_slew _ _).1, State.slewOn_slew (s := s.slewing w) rfl, hleft, clampInt_of_mem hlo hhi]
  exact congrArg (fun t => some { w with at_ := t }) hat.symm

/-- A trim that leaves room for the slew's own is held by TBU_FREQ, alone and with it. -/
theorem slew_fits {base by_ q : Int} {n : Nat} (hq : 0 < q) (hle : q ≤ 35 * n) (hby : by_.natAbs = q.natAbs)
    (hfit : base.natAbs + n * 35 ≤ 34359738) :
    (-freqMax ≤ base ∧ base ≤ freqMax) ∧ -freqMax ≤ base + by_ ∧ base + by_ ≤ freqMax := by
  have hbase : base.natAbs + by_.natAbs ≤ 34359738 := by omega
  have hsum : (base + by_).natAbs ≤ 34359738 := le_trans (Int.natAbs_add_le base by_) hbase
  exact ⟨mem_of_natAbs_le (le_trans (Nat.le_add_right _ _) hbase), mem_of_natAbs_le hsum⟩

/-- R269: SLEW by a trim that TBU_FREQ can hold beside the present one. -/
theorem State.slewBegin_gives {s : State} (hadj : s.sget F.TBU_ADJ_NS ≠ 0) (hmax : 1 ≤ s.get F.TBU_SLEWMAX_PPB)
    (hfit : (s.sget F.TBU_FREQ_FREQ).natAbs + s.get F.TBU_SLEWMAX_PPB * 35 ≤ 34359738) :
    let w := s.slewFor (s.sget F.TBU_ADJ_NS) (freqOf (s.get F.TBU_SLEWMAX_PPB) 1)
    s.slewBegin.flag F.TBU_STAT_STEPPING = true ∧ s.slewBegin.sget F.TBU_FREQ_FREQ = w.base + w.by_ ∧ s.slewBegin.tbu.slew = some w := by
  intro w
  obtain ⟨hpos, hle, -⟩ := freqOf_ppb hmax
  have hby : w.by_.natAbs = (freqOf (s.get F.TBU_SLEWMAX_PPB) 1).natAbs := s.slewFor_by _ _
  obtain ⟨⟨hbaselo, hbasehi⟩, hsumlo, hsumhi⟩ := slew_fits (base := w.base) hpos hle hby hfit
  have heq : s.slewBegin = (s.slewing w).setFreq w.base := State.slewBegin_eq hadj
  unfold State.slewing at heq
  refine ⟨?stepping, ?freq, ?slew⟩
  case stepping =>
    rw [heq, State.flag_congr (State.setFreq_get _ _)]
    exact s.flag_setFlag_same _ true (by decide) rfl
  case freq =>
    rw [heq, State.setFreq_freq]
    exact clampInt_of_mem hsumlo hsumhi
  case slew =>
    rw [heq]
    exact State.slewing_starts rfl hbaselo hbasehi

/-! ## The end of a slew (R269) -/

theorem State.slewOver_iff {s : State} {w : Slew} (h : s.tbu.slew = some w) :
    s.slewOver = true ↔ w.left ≤ (s.sget F.TBU_FREQ_FREQ - w.base).natAbs * (s.ns - w.at_) := by
  rw [State.slewOver, h]
  simp [Slew.leftAt, Slew.rate, Nat.sub_eq_zero_iff_le]

/-- A slew that is over is dropped, and STEPPING shows whether a step goes on. -/
noncomputable def State.slewless (s : State) : State :=
  { s.setFlag F.TBU_STAT_STEPPING s.tbu.step.isSome with tbu := { s.tbu with slew := none } }

theorem State.slewDone_over {s : State} {w : Slew} (h : s.tbu.slew = some w) (hover : s.slewOver = true) :
    s.slewDone = s.slewless.setFreq w.base := by
  have hbase : s.baseFreq = w.base := by rw [State.baseFreq, h]; rfl
  rw [State.slewDone, if_pos hover, hbase]
  rfl

theorem State.slewDone_gives {s : State} {w : Slew} (h : s.tbu.slew = some w) (hover : s.slewOver = true) (hfit : w.base.natAbs ≤ 34359738) :
    s.slewDone.sget F.TBU_FREQ_FREQ = w.base ∧ s.slewDone.flag F.TBU_STAT_STEPPING = s.tbu.step.isSome ∧ s.slewDone.tbu.slew = none := by
  have hnone : s.slewless.tbu.slew = none := rfl
  rw [State.slewDone_over h hover]
  refine ⟨?freq, ?stepping, ?slew⟩
  case freq => rw [State.setFreq_freq, State.freqAt_unslewed hnone (by omega) (by omega)]
  case stepping =>
    rw [State.flag_congr (State.setFreq_get _ _)]
    exact s.flag_setFlag_same _ _ (by decide) rfl
  case slew => rw [(State.setFreq_slew _ _).1, State.slewOn_none hnone, hnone]

/-! ## UTCARM and the armed offset (R266, R280) -/

/-- R280: the change `a` is one of exactly 1 s, and its notice is due. -/
noncomputable def State.noticeDue (s : State) (a : UtcArm) : Prop :=
  (a.offset - s.sget F.TBU_UTCOFF_SEC = 1 ∨ a.offset - s.sget F.TBU_UTCOFF_SEC = -1) ∧ a.at_ ≤ s.ns + 500000000

theorem State.leapNotice_due {s : State} {a : UtcArm} (h : s.tbu.utcArm = some a) (hnew : a.noticed = false) (hdue : s.noticeDue a) :
    s.leapNotice = { s with tbu := { s.tbu with utcArm := some { a with noticed := true } }
                            rtc := { s.rtc with leap := some (decide (a.offset - s.sget F.TBU_UTCOFF_SEC = -1), a.at_ - 500000000) } } := by
  rw [State.leapNotice, h]
  exact if_pos ⟨hdue.1, hnew, hdue.2⟩

theorem State.leapNotice_not_due {s : State} {a : UtcArm} (h : s.tbu.utcArm = some a) (hdue : ¬ s.noticeDue a) : s.leapNotice = s := by
  rw [State.leapNotice, h]
  exact if_neg fun ⟨hstep, _, hat⟩ => hdue ⟨hstep, hat⟩

theorem State.leapNotice_mem (s : State) : s.leapNotice.mem = s.mem := by
  unfold State.leapNotice
  split
  · dsimp only
    split
    · rfl
    · rfl
  · rfl

/-- R266: the change that UTCARM arms. -/
noncomputable def State.utcStaged (s : State) : UtcArm :=
  { offset := toSigned 16 (getBits (s.stagedWord Reg.TBU_UTCOFF) 0 16)
    at_ := if s.ns < s.rdTime Reg.TBU_UTCAT_S_LO then s.rdTime Reg.TBU_UTCAT_S_LO else (s.ns / nsPerSec + 1) * nsPerSec }

/-- ARMED set and the change `a` armed. -/
noncomputable def State.utcArmed (s : State) (a : UtcArm) : State := { s.setFlag F.TBU_STAT_ARMED true with tbu := { s.tbu with utcArm := some a } }

theorem State.armUtc_eq (s : State) : s.armUtc = (s.utcArmed s.utcStaged).leapNotice.answer stOk := rfl

theorem State.utcArmed_utcoff (s : State) (a : UtcArm) : (s.utcArmed a).sget F.TBU_UTCOFF_SEC = s.sget F.TBU_UTCOFF_SEC :=
  State.sget_congr (s.get_setFlag_disj (f := F.TBU_STAT_ARMED) (g := F.TBU_UTCOFF_SEC) true (by decide))

theorem State.utcArmed_noticeDue (s : State) (a b : UtcArm) : (s.utcArmed a).noticeDue b ↔ s.noticeDue b := by
  rw [State.noticeDue, State.noticeDue, State.utcArmed_utcoff]
  rfl

/-- What UTCARM arms, with the notice that is due at once. -/
theorem State.armUtc_arms (s : State) : ∃ x, s.armUtc.tbu.utcArm = some x ∧ x.offset = s.utcStaged.offset ∧ x.at_ = s.utcStaged.at_ ∧
    (x.noticed = true ↔ s.noticeDue s.utcStaged) ∧ s.armUtc.rtc.leap =
      if x.noticed then some (decide (x.offset - s.sget F.TBU_UTCOFF_SEC = -1), x.at_ - 500000000) else s.rtc.leap := by
  rw [s.armUtc_eq]
  by_cases hdue : s.noticeDue s.utcStaged
  · rw [State.leapNotice_due (s := s.utcArmed s.utcStaged) rfl rfl ((s.utcArmed_noticeDue _ _).mpr hdue), s.utcArmed_utcoff]
    exact ⟨_, rfl, rfl, rfl, ⟨fun _ => hdue, fun _ => rfl⟩, rfl⟩
  · rw [State.leapNotice_not_due (s := s.utcArmed s.utcStaged) rfl fun h => hdue ((s.utcArmed_noticeDue _ _).mp h)]
    exact ⟨_, rfl, rfl, rfl, ⟨fun h => absurd h Bool.false_ne_true, fun h => absurd h hdue⟩, rfl⟩

theorem State.armUtc_get (s : State) (f : Fld) : s.armUtc.get f = (s.setFlag F.TBU_STAT_ARMED true).get f := by
  rw [s.armUtc_eq, State.answer_get]
  exact State.get_congr (by rw [State.rd, State.leapNotice_mem]; rfl)

/-- R266: UTCARM arms unless the armed change has had its notice. -/
theorem State.utcArmCmd_arms {s : State} {w : UtcArm} (h : s.tbu.utcArm = none ∨ s.tbu.utcArm = some w ∧ w.noticed = false) :
    s.utcArmCmd = s.armUtc := by
  unfold State.utcArmCmd
  rcases h with h | ⟨h, hnew⟩
  · rw [h]
  · rw [h]
    exact if_neg (by rw [hnew]; decide)

/-- R266: the armed offset is no longer armed, and nothing is staged. -/
noncomputable def State.utcDisarmed (s : State) : State :=
  { (s.setFlag F.TBU_STAT_ARMED false).unstage Reg.TBU_UTCOFF with tbu := { s.tbu with utcArm := none } }

theorem State.utcChange_due {s : State} {a : UtcArm} (h : s.tbu.utcArm = some a) (hat : a.at_ ≤ s.ns) : s.utcChange =
    if a.offset = s.sget F.TBU_UTCOFF_SEC then s.utcDisarmed
    else (s.utcDisarmed.sput F.TBU_UTCOFF_SEC a.offset).raiseSkip 0x905 0 1
      [ofSigned 32 (s.sget F.TBU_UTCOFF_SEC), ofSigned 32 a.offset] := by
  rw [State.utcChange, h]
  exact if_pos hat

theorem State.utcDisarmed_staged (s : State) : spGet (fun _ => none) s.utcDisarmed.basted Reg.TBU_UTCOFF = none :=
  spGet_spSet_same (fun _ => none) s.basted Reg.TBU_UTCOFF none

/-- What the armed offset leaves when it takes effect, whether or not it moves UTC. -/
theorem State.utcChange_gives {s : State} {a : UtcArm} (h : s.tbu.utcArm = some a) (hat : a.at_ ≤ s.ns) (hlo : -32768 ≤ a.offset)
    (hhi : a.offset < 32768) : s.utcChange.sget F.TBU_UTCOFF_SEC = a.offset ∧ s.utcChange.flag F.TBU_STAT_ARMED = false ∧
      s.utcChange.tbu.utcArm = none ∧ spGet (fun _ => none) s.utcChange.basted Reg.TBU_UTCOFF = none := by
  have hflag : s.utcDisarmed.flag F.TBU_STAT_ARMED = false := s.flag_setFlag_same _ false (by decide) rfl
  rw [State.utcChange_due h hat]
  split
  · next he => exact ⟨he ▸ State.sget_congr (s.get_setFlag_disj false (by decide)), hflag, rfl, s.utcDisarmed_staged⟩
  · refine ⟨?offset, ?armed, by rw [State.raiseSkip_tbu]; rfl, by rw [State.raiseSkip_basted]; exact s.utcDisarmed_staged⟩
    case offset =>
      rw [State.sget_congr (State.raiseSkip_get _ _ _ _ _ (by decide))]
      exact State.sget_sput_same _ (by decide) (by decide) hlo hhi
    case armed =>
      rw [State.raiseSkip_flag _ _ _ _ _ (by decide)]
      exact (State.flag_put_disj _ _ (by decide)).trans hflag

/-- R266: an offset that moves UTC is an event with the old and the new one. -/
theorem State.utcChange_event {s : State} {a : UtcArm} (h : s.tbu.utcArm = some a) (hat : a.at_ ≤ s.ns)
    (hne : a.offset ≠ s.sget F.TBU_UTCOFF_SEC) (hrate : s.rateOk 0x905 0 nsPerSec = true) :
    Journalled s s.utcChange 0x905 0 [] ∧ (s.acts = true →
      s.utcChange.rd (jnlAddr s.wptr + 24) = BitVec.ofNat 32 (ofSigned 32 (s.sget F.TBU_UTCOFF_SEC)) ∧
      s.utcChange.rd (jnlAddr s.wptr + 28) = BitVec.ofNat 32 (ofSigned 32 a.offset)) := by
  have hrd (x : Nat) (h1 : x ≠ Reg.TBU_UTCOFF) (h2 : x ≠ Reg.TBU_STAT) : (s.utcDisarmed.sput F.TBU_UTCOFF_SEC a.offset).rd x = s.rd x :=
    (State.rd_put_ne s.utcDisarmed _ h1).trans (s.rd_put_ne _ h2)
  have hacts : (s.utcDisarmed.sput F.TBU_UTCOFF_SEC a.offset).acts = s.acts := by
    rw [State.acts, State.acts, State.get_congr (f := F.GLB_ROLE_ROLE) (hrd _ (by decide) (by decide))]
  have hwptr : (s.utcDisarmed.sput F.TBU_UTCOFF_SEC a.offset).wptr = s.wptr := State.get_congr (hrd _ (by decide) (by decide))
  obtain ⟨hevent, hpay⟩ := State.raiseSkip_record (s := s.utcDisarmed.sput F.TBU_UTCOFF_SEC a.offset) (c := 0x905) (u := 0) 1
    [ofSigned 32 (s.sget F.TBU_UTCOFF_SEC), ofSigned 32 a.offset] hrate
  rw [State.utcChange_due h hat, if_neg hne]
  refine ⟨hevent.of_rd (hrd _ (by decide) (by decide)) (hrd _ (by decide) (by decide)), fun ha => ?_⟩
  rw [hacts, hwptr] at hpay
  exact ⟨hpay ha 0 _ (by decide) rfl, hpay ha 1 _ (by decide) rfl⟩

/-! ## The obligation -/

/-- Settles O37: a command by the gate that it passes or by the state that it leaves, the armed offset by whether it is due. -/
theorem timeBaseCommands : Obligations.TimeBaseCommands := by
  unfold Obligations.TimeBaseCommands
  intro s w adj busy base refused
  have hrefused : refused s.tbRefuse := s.tbRefuse_gives
  refine ⟨fun hm => ⟨_, rfl, ?cap⟩, fun hm hb => ⟨_, rfl, ?setBusy⟩, fun hm hb => ⟨_, rfl, ?set⟩, fun b hmem hr hs => ?standby,
    fun hm hb => ⟨_, rfl, ?slewBusy⟩, fun hm hb hadj hmax hfit => ⟨_, rfl, ?slew⟩,
    fun w hw => ⟨fun hover hfit => ⟨_, rfl, ?ended⟩, fun hleft => ⟨_, rfl, ?left⟩⟩, fun hm hw hn => ⟨_, rfl, ?noticed⟩,
    fun hm hw => ⟨_, rfl, ?arm⟩, fun hw hat hlo hhi => ⟨_, rfl, ?change⟩, fun hw hstep hnew hat => ⟨_, rfl, ?notice⟩⟩
  case cap =>
    rw [State.hostWr_of_may hm]
    exact ⟨rfl, s.rdTime_wrTime _ _, rfl⟩
  case setBusy =>
    rw [State.hostWr_of_may hm, State.tbSet, if_pos (s.tbBusy_iff.mpr hb)]
    exact hrefused
  case set =>
    rw [State.hostWr_of_may hm, State.tbSet, if_neg fun h => hb (s.tbBusy_iff.mp h)]
    have hnone : s.tbu.step = none := by_contra fun h => hb (.inr (.inr (.inl h)))
    exact ⟨rfl, s.askStep_stepping _, by rw [State.answer_ns, s.askStep_only]; rfl, State.askStep_free hnone _⟩
  case standby =>
    obtain rfl | rfl := List.mem_pair.mp hmem
    · refine ⟨_, rfl, ?_⟩
      rw [State.hostWr_standby hr hs (by decide)]
      exact State.roleAnswer_adjust hs (by decide)
    · refine ⟨_, rfl, ?_⟩
      rw [State.hostWr_standby hr hs (by decide)]
      exact State.roleAnswer_adjust hs (by decide)
  case slewBusy =>
    rw [State.hostWr_of_may hm, State.tbSlew, if_pos (s.tbBusy_iff.mpr hb)]
    exact hrefused
  case slew =>
    rw [State.hostWr_of_may hm, State.tbSlew, if_neg fun h => hb (s.tbBusy_iff.mp h)]
    obtain ⟨hstepping, hfreq, hslew⟩ := State.slewBegin_gives hadj hmax hfit
    obtain ⟨hpos, -, hnear⟩ := freqOf_ppb hmax
    have hr : (s.slewBegin.answer stOk).sget F.TBU_FREQ_FREQ - base = if adj < 0 then -freqOf (s.get F.TBU_SLEWMAX_PPB) 1
        else freqOf (s.get F.TBU_SLEWMAX_PPB) 1 := by
      refine (congrArg (· - base) hfreq).trans ?_
      exact add_sub_cancel_left _ _
    obtain ⟨hsign, habs⟩ := signed_trim hadj hpos
    intro r
    have hr' : r = _ := hr
    refine ⟨rfl, hstepping, by rw [hr']; exact hsign, ?_, by rw [hr']; exact hslew⟩
    rw [hr', habs]
    exact hnear
  case ended =>
    exact State.slewDone_gives hw ((State.slewOver_iff hw).mpr hover) hfit
  case left =>
    exact if_neg fun hover => absurd ((State.slewOver_iff hw).mp hover) (Nat.not_le.mpr hleft)
  case noticed =>
    have hcmd : s.utcArmCmd = s.tbRefuse := by
      rw [State.utcArmCmd, hw]
      exact if_pos hn
    rw [State.hostWr_of_may hm, hcmd]
    exact hrefused
  case arm =>
    rw [State.hostWr_of_may hm, State.utcArmCmd_arms hw]
    extract_lets d
    obtain ⟨x, harm, hoff, hat, hnoticed, hleap⟩ := s.armUtc_arms
    have hd : x.offset - s.sget F.TBU_UTCOFF_SEC = d := by rw [hoff]; rfl
    refine ⟨rfl, ?_, ?_, x, harm, ?_, ?_, hoff, hat⟩
    · rw [State.flag_congr (s.armUtc_get _)]
      exact s.flag_setFlag_same _ true (by decide) rfl
    · exact State.sget_congr ((s.armUtc_get _).trans (s.get_setFlag_disj _ (by decide)))
    · rw [hnoticed, hat]
      exact Iff.rfl
    · rw [hleap, hd]
  case change =>
    obtain ⟨hoff, harmed, hnone, hstaged⟩ := State.utcChange_gives hw hat hlo hhi
    refine ⟨hoff, harmed, hnone, hstaged, fun he a ha => ?_, fun hne hrate => State.utcChange_event hw hat hne hrate⟩
    rw [State.utcChange_due hw hat, if_pos he]
    exact s.rd_put_ne _ fun he => ha (List.mem_singleton.mpr he)
  case notice =>
    rw [State.leapNotice_due hw hnew ⟨hstep, hat⟩]
    refine ⟨rfl, rfl, ?_⟩
    show some (decide _, _) = some (decide _, _)
    have : w.offset - s.sget F.TBU_UTCOFF_SEC = -1 ↔ w.offset < s.sget F.TBU_UTCOFF_SEC := by omega
    rw [decide_eq_decide.mpr this]

end Sys2Proof.Machine

/-!
# Transparent clock, time marks, SERVO = 0 and the first words of pairs (O36)

The UDP checksum follows the correction because a ones' complement sum counts modulo 65,535, and so do the words of a number.  A time mark
runs the servo as a standby, which asks for no step.
-/

namespace Sys2Proof.Machine

-- One proof at a time, as in the tests, and no code for the definitions that only proofs use: the whole text is compiled in one process of
-- limited memory.
set_option Elab.async false

/-! ## The UDP checksum (R259) -/

theorem foldl_onesAdd (l : List Nat) {a : Nat} (ha : a < 65536) (hl : ∀ x ∈ l, x < 65536) :
    l.foldl (fun a b => (a + b) % 65536 + (a + b) / 65536) a < 65536 ∧
      l.foldl (fun a b => (a + b) % 65536 + (a + b) / 65536) a % 65535 = (a + l.sum) % 65535 := by
  induction l generalizing a with
  | nil => exact ⟨ha, rfl⟩
  | cons b l ih =>
    obtain ⟨hb, hl⟩ := List.forall_mem_cons.mp hl
    obtain ⟨hlt, hmod⟩ := ih (a := (a + b) % 65536 + (a + b) / 65536) (by omega) hl
    rw [List.foldl_cons, List.sum_cons]
    exact ⟨hlt, by omega⟩

/-- A ones' complement sum is a word, congruent to the sum modulo 65,535. -/
theorem onesSum_mod {l : List Nat} (h : ∀ x ∈ l, x < 65536) : onesSum l < 65536 ∧ onesSum l % 65535 = l.sum % 65535 := by
  have := foldl_onesAdd l (a := 0) (by decide) h
  rwa [Nat.zero_add] at this

theorem complement_lt (x : Nat) : 65535 - x < 65536 := Nat.lt_succ_of_le (Nat.sub_le _ _)

theorem words16_lt {v : Int} {x : Nat} (h : x ∈ words16 v) : x < 65536 := by
  obtain ⟨k, -, rfl⟩ := List.mem_map.mp h
  exact Nat.mod_lt _ (by decide)

/-- Modulo 65,535 a number is its lowest word and what is above it. -/
theorem word_add_mod {n x : Nat} (h : x % 65535 = n / 65536 % 65535) : (n % 65536 + x) % 65535 = n % 65535 := by
  have hdigits : n = n % 65536 + n / 65536 + 65535 * (n / 65536) := by omega
  calc (n % 65536 + x) % 65535 = (n % 65536 + n / 65536) % 65535 := Nat.ModEq.add_left _ h
    _ = (n % 65536 + n / 65536 + 65535 * (n / 65536)) % 65535 := (Nat.add_mul_mod_self_left _ _ _).symm
    _ = n % 65535 := congrArg (· % 65535) hdigits.symm

/-- The words of a number add up to the number modulo 65,535. -/
theorem words16_sum (v : Int) : (words16 v).sum % 65535 = ofSigned 64 v % 65535 := by
  have hlt := ofSigned_lt 64 v
  have hsum : (words16 v).sum = ofSigned 64 v % 65536 + (ofSigned 64 v / 65536 % 65536 + (ofSigned 64 v / 4294967296 % 65536 +
      ofSigned 64 v / 281474976710656 % 65536)) := by
    simp [words16, List.range_succ]
  rw [hsum]
  generalize ofSigned 64 v = n at hlt ⊢
  have h2 : n / 4294967296 = n / 65536 / 65536 := by rw [Nat.div_div_eq_div_mul]
  have h3 : n / 281474976710656 = n / 65536 / 65536 / 65536 := by rw [Nat.div_div_eq_div_mul, Nat.div_div_eq_div_mul]
  rw [h2, h3]
  refine word_add_mod (word_add_mod (word_add_mod ?_))
  rw [Nat.mod_eq_of_lt (b := 65536) (by omega)]

/-- The complements of words add up to the negated sum modulo 65,535. -/
theorem sum_complements (l : List Nat) (h : ∀ x ∈ l, x < 65536) : ((l.map (65535 - ·)).sum + l.sum) % 65535 = 0 := by
  induction l with
  | nil => rfl
  | cons b l ih =>
    obtain ⟨hb, hl⟩ := List.forall_mem_cons.mp h
    have := ih hl
    rw [List.map_cons, List.sum_cons, List.sum_cons]
    omega

/-- What the sum `o` of the complements and the new words makes of the checksum `r` of the message as changed. -/
theorem sum_follows {sum o a b c old new r : Nat} (hs : sum < 65536) (hmod : o % 65535 = (65535 - sum + a + c) % 65535)
    (hold : (a + b) % 65535 = 0) (hold' : b % 65535 = old % 65535) (hnew : c % 65535 = new % 65535) (hr : (r + o) % 65535 = 0) :
    (r + new) % 65535 = (sum + old) % 65535 := by
  omega

/-- R259: the checksum stays 0, which means none, or stays the checksum modulo 65,535 of the message as changed. -/
theorem udpSum_follows {sum : Nat} (old new : Int) (hs : sum < 65536) : udpSum sum old new < 65536 ∧ (sum = 0 → udpSum sum old new = 0) ∧
    (sum ≠ 0 → udpSum sum old new ≠ 0 ∧ (udpSum sum old new + ofSigned 64 new) % 65535 = (sum + ofSigned 64 old) % 65535) := by
  by_cases h0 : sum = 0
  · exact ⟨by simp [udpSum, h0], fun _ => if_pos h0, fun h => absurd h0 h⟩
  have hmem : ∀ x ∈ [65535 - sum] ++ (words16 old).map (65535 - ·) ++ words16 new, x < 65536 := by
    refine List.forall_mem_append.mpr ⟨List.forall_mem_append.mpr ⟨?_, ?_⟩, fun x => words16_lt⟩
    · exact List.forall_mem_singleton.mpr (complement_lt sum)
    · exact List.forall_mem_map.mpr fun x _ => complement_lt x
  obtain ⟨hlt, hmod⟩ := onesSum_mod hmem
  rw [List.sum_append, List.sum_append, List.sum_singleton] at hmod
  have hold := sum_complements (words16 old) fun x => words16_lt
  have hold' := words16_sum old
  have hnew := words16_sum new
  rw [udpSum, if_neg h0]
  dsimp only
  generalize onesSum _ = o at hlt hmod ⊢
  have hfollows (r : Nat) := sum_follows (r := r) hs hmod hold hold' hnew
  have hle : o ≤ 65535 := Nat.le_of_lt_succ hlt
  split
  · next hx =>
    obtain rfl : o = 65535 := Nat.le_antisymm hle (Nat.sub_eq_zero_iff_le.mp hx)
    exact ⟨by decide, fun h => absurd h h0, fun _ => ⟨by decide, hfollows _ rfl⟩⟩
  · next hx =>
    exact ⟨complement_lt o, fun h => absurd h h0, fun _ => ⟨hx, hfollows _ (by rw [Nat.sub_add_cancel hle])⟩⟩

/-! ## Messages in transit (R253, R259, R437) -/

/-- R253: the latency of a port's PHY is that of its present speed. -/
theorem State.phyLatency_rx (s : State) (eth2 : Bool) : s.phyLatency eth2 false =
    s.get (if s.flag (if eth2 then F.HAP_STAT_GBE2 else F.HAP_STAT_GBE1) then F.TBU_PHY1G_RX else F.TBU_PHY100_RX) := by
  unfold State.phyLatency
  cases s.flag (if eth2 then F.HAP_STAT_GBE2 else F.HAP_STAT_GBE1)
  · rfl
  · rfl

theorem State.phyLatency_tx (s : State) (eth2 : Bool) : s.phyLatency eth2 true =
    s.get (if s.flag (if eth2 then F.HAP_STAT_GBE2 else F.HAP_STAT_GBE1) then F.TBU_PHY1G_TX else F.TBU_PHY100_TX) := by
  unfold State.phyLatency
  cases s.flag (if eth2 then F.HAP_STAT_GBE2 else F.HAP_STAT_GBE1)
  · rfl
  · rfl

theorem State.portsOn_iff (s : State) : s.portsOn = true ↔ s.mode = .run ∨ s.mode = .quiet ∨ s.mode = .hold := by
  simp [State.portsOn, State.inRunQuiet, or_assoc]

/-- R20: a message passes where the chain is on and the switch runs. -/
theorem State.ptpTransit_passes {s : State} {ev two : Bool} {corr : Int} {i e sum : Nat} (hc : s.flag F.HAP_CTL_CHAIN = true)
    (hm : s.portsOn = true) : s.ptpTransit corr ev two i e sum =
      if s.flag F.TBU_CTL_TCEN && ev then
        (s.inc F.TBU_TCCNT_COUNT).emit (.ptpForward (corr + s.ptpResidence two i e * 65536)
          (udpSum sum corr (corr + s.ptpResidence two i e * 65536)))
      else s.emit (.ptpForward corr sum) := by
  rw [State.ptpTransit, hc, hm]
  rfl

/-! ## Time marks (R263, R264) -/

theorem State.setFreq_ns (s : State) (v : Int) : (s.setFreq v).ns = s.ns := by
  rw [s.setFreq_only v]
  rfl

/-- The trim set to `v` and the integrator to `i`. -/
noncomputable def State.trimmed (s : State) (v i : Int) : State := { s.setFreq v with tbu := { (s.setFreq v).tbu with i := i } }

theorem State.trimmed_rd (s : State) (v i : Int) (a : Nat) : (s.trimmed v i).rd a = (s.setFreq v).rd a := rfl

theorem State.trimmed_get (s : State) (v i : Int) {f : Fld} (hf : F.TBU_FREQ_FREQ.disj f = true := by decide) :
    (s.trimmed v i).get f = s.get f := (State.get_congr (s.trimmed_rd v i _)).trans (s.setFreq_get v hf)

theorem State.trimmed_course (s : State) (v i : Int) : (s.trimmed v i).tbu.course = s.tbu.course := s.setFreq_course v

theorem State.trimmed_ns (s : State) (v i : Int) : (s.trimmed v i).ns = s.ns := s.setFreq_ns v

/-- R256: what the servo law makes of the integrator, and of the trim. -/
noncomputable def State.servoI (s : State) (o : Int) : Int :=
  clampInt (-(s.get F.TBU_SLEWMAX_PPB * ((offUnit : Nat) * 256))) (s.get F.TBU_SLEWMAX_PPB * ((offUnit : Nat) * 256))
    (s.tbu.i + s.get F.TBU_SERVO_KI * o)

noncomputable def State.servoY (s : State) (o : Int) : Int :=
  clampInt (-(s.get F.TBU_SLEWMAX_PPB * ((offUnit : Nat) * 256))) (s.get F.TBU_SLEWMAX_PPB * ((offUnit : Nat) * 256))
    (-(s.get F.TBU_SERVO_KP * o + s.servoI o))

theorem State.servo_within {s : State} {o : Int} (h : ¬ (s.get F.TBU_STEPTH_NS : Int) * (offUnit : Nat) < o.natAbs) (c : Nat) :
    s.servo o c = s.trimmed (freqOf (s.servoY o) (offUnit * 256)) (s.servoI o) := by
  unfold State.servo State.servoY State.servoI State.trimmed
  exact if_neg h

theorem State.servo_beyond {s : State} {o : Int} (h : (s.get F.TBU_STEPTH_NS : Int) * (offUnit : Nat) < o.natAbs) (c : Nat) :
    s.servo o c = if c == 3 then s else s.askStep { cause := c, delta := some (-(showNs 256 o offUnit)) } := by
  unfold State.servo
  exact if_pos h

/-- R264: an offset beyond TBU_STEPTH of a standby asks for no step, and any other steers the trim alone. -/
theorem State.servo_standby (s : State) (o : Int) : (s.servo o 3).tbu.course = s.tbu.course ∧ (s.servo o 3).ns = s.ns ∧
    ∀ f : Fld, F.TBU_FREQ_FREQ.disj f = true → (s.servo o 3).get f = s.get f := by
  by_cases h : (s.get F.TBU_STEPTH_NS : Int) * (offUnit : Nat) < o.natAbs
  · have hsame : s.servo o 3 = s := State.servo_beyond h 3
    rw [hsame]
    exact ⟨rfl, rfl, fun _ _ => rfl⟩
  · rw [State.servo_within h 3]
    exact ⟨s.trimmed_course _ _, s.trimmed_ns _ _, fun f hf => s.trimmed_get _ _ hf⟩

/-- XOFF and SRC noted, and the servo run on the offset `x` where it steers. -/
noncomputable def State.marked (s : State) (x : Int) : State :=
  let s1 := ((s.sput F.TBU_XOFF_NS (clampInt (-2147483648) 2147483647 x)).setFlag F.TBU_STAT_SRC true).discTrack
  if s1.flag F.TBU_CTL_SERVO then s1.servo (x * (offUnit : Nat)) 3 else s1

theorem State.timeMark_eq {s : State} {mark stamp : Nat} (h : s.isStandby = true) : s.timeMark mark stamp =
    let x : Int := (stamp : Int) - mark - s.get F.XLK_LDLY_NS
    if x.natAbs ≤ 100 then { s.marked x with tbu := { (s.marked x).tbu with xoffSince := none } }
    else match (s.marked x).tbu.xoffSince with
      | none => { s.marked x with tbu := { (s.marked x).tbu with xoffSince := some (s.marked x).ns } }
      | some t => if t + nsPerSec ≤ (s.marked x).ns then (s.marked x).raiseSkip 0x907 0 1 [ofSigned 32 x] else s.marked x := by
  rw [State.timeMark, h]
  rfl

theorem State.marked_gives (s : State) {x : Int} (hlo : -0x80000000 ≤ x) (hhi : x < 0x80000000) :
    (s.marked x).sget F.TBU_XOFF_NS = x ∧ (s.marked x).flag F.TBU_STAT_SRC = true ∧ (s.marked x).tbu.course = s.tbu.course ∧
      (s.marked x).ns = s.ns := by
  unfold State.marked
  extract_lets s1
  have hput (f : Fld) (hf : f.addr ≠ Reg.RTC_STAT) :
      s1.get f = ((s.sput F.TBU_XOFF_NS (clampInt (-2147483648) 2147483647 x)).setFlag F.TBU_STAT_SRC true).get f :=
    State.get_congr (State.discTrack_rd _ hf)
  have hxoff : s1.sget F.TBU_XOFF_NS = x := by
    rw [State.sget_congr ((hput F.TBU_XOFF_NS (by decide)).trans (State.get_setFlag_disj _ _ (by decide))),
      clampInt_of_mem hlo (by omega)]
    exact s.sget_sput_same (by decide) (by decide) hlo hhi
  have hsrc : s1.flag F.TBU_STAT_SRC = true :=
    (State.flag_congr (hput F.TBU_STAT_SRC (by decide))).trans (State.flag_setFlag_same _ _ true (by decide) rfl)
  have hcourse : s1.tbu.course = s.tbu.course := by rw [State.discTrack_tbu]; rfl
  have hns : s1.ns = s.ns := by rw [State.discTrack_ns]; rfl
  clear_value s1
  split
  · obtain ⟨hkeep, htime, hget⟩ := s1.servo_standby (x * (offUnit : Nat))
    exact ⟨(State.sget_congr (hget _ (by decide))).trans hxoff, (State.flag_congr (hget _ (by decide))).trans hsrc, hkeep.trans hcourse,
      htime.trans hns⟩
  · exact ⟨hxoff, hsrc, hcourse, hns⟩

/-- R263, R264: what a time mark shows of the offset, and since when it has been large. -/
theorem State.timeMark_gives {s : State} {mark stamp : Nat} (h : s.isStandby = true) :
    let x : Int := (stamp : Int) - mark - s.get F.XLK_LDLY_NS
    let t := s.timeMark mark stamp
    (-0x80000000 ≤ x) → x < 0x80000000 → t.sget F.TBU_XOFF_NS = x ∧ t.flag F.TBU_STAT_SRC = true ∧ t.tbu.step = s.tbu.step ∧
      (x.natAbs ≤ 100 → t.tbu.xoffSince = none) ∧ (100 < x.natAbs → s.tbu.xoffSince = none → t.tbu.xoffSince = some s.ns) := by
  intro x t hlo hhi
  obtain ⟨hxoff, hsrc, hcourse, hns⟩ := s.marked_gives hlo hhi
  have hstep : (s.marked x).tbu.course.step = s.tbu.course.step := congrArg Tbu.step hcourse
  have hsince : (s.marked x).tbu.course.xoffSince = s.tbu.course.xoffSince := congrArg Tbu.xoffSince hcourse
  change (s.marked x).tbu.xoffSince = s.tbu.xoffSince at hsince
  rw [show t = _ from State.timeMark_eq h]
  dsimp only
  split
  · next hsmall => exact ⟨hxoff, hsrc, hstep, fun _ => rfl, fun hbig => absurd hsmall (Nat.not_le.mpr hbig)⟩
  · next hbig =>
    split
    · next hnone => exact ⟨hxoff, hsrc, hstep, fun hsmall => absurd hsmall hbig, fun _ _ => congrArg some hns⟩
    · next at_ hat =>
      have hno : s.tbu.xoffSince ≠ none := by rw [← hsince, hat]; simp
      split
      · refine ⟨?_, ?_, ?_, fun hsmall => absurd hsmall hbig, fun _ hnone => absurd hnone hno⟩
        · exact (State.sget_congr (State.raiseSkip_get _ _ _ _ _ (by decide))).trans hxoff
        · exact (State.raiseSkip_flag _ _ _ _ _ (by decide)).trans hsrc
        · rw [State.raiseSkip_tbu]
          exact hstep
      · exact ⟨hxoff, hsrc, hstep, fun hsmall => absurd hsmall hbig, fun _ hnone => absurd hnone hno⟩

/-! ## TBU_CTL (R256, R257, R270) -/

/-- R256: SERVO = 0 puts the trim to TBU_RATE and ends every state of the servo. -/
noncomputable def State.servoOff (s : State) : State :=
  if (s.setFreq (s.sget F.TBU_RATE_RATE)).tbState = tbFree then s.setFreq (s.sget F.TBU_RATE_RATE)
  else (s.setFreq (s.sget F.TBU_RATE_RATE)).tbEnter tbFree

theorem State.tbCtl_eq (s : State) (v : Nat) : s.tbCtl v =
    (if bit v 0 then s.wr Reg.TBU_CTL (BitVec.ofNat 32 (v &&& 0x7F0F))
      else (s.wr Reg.TBU_CTL (BitVec.ofNat 32 (v &&& 0x7F0F))).servoOff).answer stOk := rfl

theorem State.servoOff_get (s : State) {f : Fld} (hfreq : F.TBU_FREQ_FREQ.disj f = true := by decide)
    (hstate : F.TBU_STAT_STATE.disj f = true := by decide) (hr : recordAddr f.addr = false := by decide)
    (hd : f.addr ≠ Reg.RTC_STAT := by decide) : s.servoOff.get f = s.get f := by
  unfold State.servoOff
  split
  · exact s.setFreq_get _ hfreq
  · exact (State.tbEnter_get _ _ hstate hr hd).trans (s.setFreq_get _ hfreq)

theorem State.servoOff_state (s : State) : s.servoOff.tbState = 0 := by
  unfold State.servoOff
  split
  · next h => exact h
  · exact State.tbEnter_state _ _

theorem State.servoOff_trim (s : State) : s.servoOff.sget F.TBU_FREQ_FREQ = s.freqAt (s.sget F.TBU_RATE_RATE) ∧
    s.servoOff.tbu.slew = (s.slewOn (s.sget F.TBU_RATE_RATE)).tbu.slew := by
  unfold State.servoOff
  split
  · exact ⟨s.setFreq_freq _, (s.setFreq_slew _).1⟩
  · rw [State.tbEnter_tbu]
    exact ⟨(State.sget_congr (State.tbEnter_get _ _)).trans (s.setFreq_freq _), (s.setFreq_slew _).1⟩

/-- R270: the fields of TBU_CTL as they are written. -/
theorem tbCtl_fields (v : Nat) : let w : Word := BitVec.ofNat 32 (v &&& 0x7F0F)
    getBits w 0 1 = v % 2 ∧ getBits w 1 1 = v / 2 % 2 ∧ getBits w 2 1 = v / 4 % 2 ∧ getBits w 3 1 = v / 8 % 2 ∧
      getBits w 8 7 = v / 256 % 128 := by
  have key (lo n : Nat) (hn : lo + n ≤ 32) (hmask : ∀ i, i < n → (0x7F0F : Nat).testBit (lo + i) = true) :
      getBits (BitVec.ofNat 32 (v &&& 0x7F0F)) lo n = v / 2 ^ lo % 2 ^ n := by
    refine Nat.eq_of_testBit_eq fun i => ?_
    rw [testBit_getBits, Nat.testBit_mod_two_pow, Nat.testBit_div_two_pow]
    by_cases hi : i < n
    · have hmask' := hmask i hi
      rw [BitVec.getLsbD_ofNat, Nat.testBit_and, hmask', Nat.add_comm i lo]
      simp [hi, show lo + i < 32 by omega]
    · simp [hi]
  exact ⟨(key 0 1 (by decide) (by decide)).trans (congrArg (· % 2) (Nat.div_one v)), key 1 1 (by decide) (by decide),
    key 2 1 (by decide) (by decide), key 3 1 (by decide) (by decide), key 8 7 (by decide) (by decide)⟩

/-- A field of TBU_CTL reads as the word written, whether or not SERVO = 0 ends the servo's states. -/
theorem State.tbCtl_get (s : State) (v : Nat) {f : Fld} (haddr : f.addr = Reg.TBU_CTL) :
    (s.tbCtl v).get f = getBits (BitVec.ofNat 32 (v &&& 0x7F0F)) f.lo f.width := by
  have hwr : (s.wr Reg.TBU_CTL (BitVec.ofNat 32 (v &&& 0x7F0F))).get f = getBits (BitVec.ofNat 32 (v &&& 0x7F0F)) f.lo f.width := by
    rw [State.get, haddr, State.rd_wr_same]
  have hapart {g : Fld} (hg : g.addr ≠ Reg.TBU_CTL) : g.disj f = true := Fld.disj_of_addr (by rw [haddr]; exact hg)
  rw [s.tbCtl_eq, State.answer_get]
  split
  · exact hwr
  · exact (State.servoOff_get _ (hapart (by decide)) (hapart (by decide)) (by rw [haddr]; decide) (by rw [haddr]; decide)).trans hwr

theorem State.wr_ctl_get (s : State) (w : Word) {f : Fld} (h : f.addr ≠ Reg.TBU_CTL := by decide) : (s.wr Reg.TBU_CTL w).get f = s.get f :=
  State.get_congr (s.rd_wr_ne w h)

theorem State.tbCtl_on {s : State} {v : Nat} (h : v % 2 = 1) : (s.tbCtl v).tbState = s.tbState := by
  rw [s.tbCtl_eq, if_pos (by rw [bit_zero_eq, h]; rfl)]
  exact s.wr_ctl_get _ (f := F.TBU_STAT_STATE)

/-- R257, R270: SERVO = 0. -/
theorem State.tbCtl_off {s : State} {v : Nat} (h : v % 2 = 0) : (s.tbCtl v).tbState = 0 ∧
    ((s.sget F.TBU_RATE_RATE).natAbs ≤ 34359738 →
      (s.tbu.slew = none → (s.tbCtl v).sget F.TBU_FREQ_FREQ = s.sget F.TBU_RATE_RATE) ∧
      (∀ w, s.tbu.slew = some w → (s.tbCtl v).tbu.slew.map (·.base) = some (s.sget F.TBU_RATE_RATE))) := by
  have hrate (w : Word) : (s.wr Reg.TBU_CTL w).sget F.TBU_RATE_RATE = s.sget F.TBU_RATE_RATE := State.sget_congr (s.wr_ctl_get w)
  rw [s.tbCtl_eq, if_neg (by rw [bit_zero_eq, h]; decide)]
  generalize BitVec.ofNat 32 (v &&& 0x7F0F) = w at *
  obtain ⟨hfreq, hslew⟩ := (s.wr Reg.TBU_CTL w).servoOff_trim
  rw [hrate w] at hfreq hslew
  refine ⟨State.servoOff_state _, fun hfit => ⟨fun hnone => ?_, fun x hx => ?_⟩⟩
  · exact hfreq.trans (State.freqAt_unslewed (s := s.wr Reg.TBU_CTL w) hnone (by omega) (by omega))
  · rw [State.answer_tbu, hslew, State.slewOn_slew (s := s.wr Reg.TBU_CTL w) hx]
    exact congrArg some (clampInt_of_mem (by unfold freqMax; omega) (by unfold freqMax; omega))

/-! ## The first word of a pair (R451) -/

/-- R451: the words captured are those of the register's partners. -/
theorem spGet_captured (g : Nat → Option Word) (a n : Nat) (x : HSess) {k : Nat} (hk : k < n) :
    spGet (fun _ => none) (forUp (fun i x => { x with snaps := spSet (fun _ => none) x.snaps (a + 4 * (i + 1)) (g i) }) n x : HSess).snaps
      (a + 4 * (k + 1)) = g k := by
  induction n with
  | zero => exact absurd hk (Nat.not_lt_zero k)
  | succ n ih =>
    unfold forUp at ih ⊢
    rw [List.range_succ, List.foldl_append]
    refine (spGet_spSet _ _ _ _ _).trans ?_
    by_cases hkn : k = n
    · rw [if_pos (by omega), hkn]
    · rw [if_neg (by omega)]
      exact ih (by omega)

/-! ## The obligation -/

/-- Settles O36: a message in transit by what the ports and TCEN make of it, a time mark by the offset, TBU_CTL by its SERVO bit, a pair by its
capture. -/
theorem transparentClockAndTimeMarks : Obligations.TransparentClockAndTimeMarks := by
  unfold Obligations.TransparentClockAndTimeMarks
  intro s corr ev two i e mark stamp sum v a
  refine ⟨fun hc hm => ⟨_, rfl, ?transit⟩, fun hs hlo hhi => ⟨_, rfl, State.timeMark_gives hs hlo hhi⟩, fun hm => ⟨_, rfl, ?control⟩,
    fun hr hp => ⟨_, rfl, ?pair⟩⟩
  case transit =>
    extract_lets gbe rx tx c
    have hc' : corr + s.ptpResidence two i e * 65536 = c := by
      rw [State.ptpResidence, s.phyLatency_rx, s.phyLatency_tx]
    rw [State.ptpTransit_passes hc (s.portsOn_iff.mpr hm), hc']
    clear_value gbe rx tx c
    beta_reduce
    by_cases htc : s.flag F.TBU_CTL_TCEN = true ∧ ev = true
    · rw [if_pos htc, if_pos (by simp [htc])]
      obtain ⟨hlt, hzero, hfollows⟩ := udpSum_follows corr c sum.isLt
      refine ⟨s.get_inc_same F.TBU_TCCNT_COUNT (by decide), udpSum sum.toNat corr c, hlt, rfl, fun h => hzero (by rw [h]; rfl), fun h => ?_⟩
      exact hfollows fun h0 => h (BitVec.eq_of_toNat_eq h0)
    · rw [if_neg htc, if_neg (by simpa using htc)]
      rfl
  case control =>
    rw [State.hostWr_of_may hm]
    obtain ⟨hservo, htcen, hv4, hv6, hdomain⟩ := tbCtl_fields v.toNat
    exact ⟨rfl, (s.tbCtl_get _ rfl).trans hservo, (s.tbCtl_get _ rfl).trans htcen, (s.tbCtl_get _ rfl).trans hv4,
      (s.tbCtl_get _ rfl).trans hv6, (s.tbCtl_get _ rfl).trans hdomain, State.tbCtl_on, State.tbCtl_off⟩
  case pair =>
    rw [if_pos ⟨hr, hp⟩]
    exact ⟨rfl, rfl, rfl, fun k hk => spGet_captured (fun i => some (s.peek (a.toNat + 4 * (i + 1)))) a.toNat _ s.hap.sess0 hk⟩

end Sys2Proof.Machine

/-!
# Masters and holdover (O35)

A selected master is reported by writes to fields of their own (`State.reported`), and a new grandmaster by its identity and its event
(`State.renamed`).  HOLDOVER is entered on the mean of the trim, which is the trim where it was one for 64 s.
-/

namespace Sys2Proof.Machine

-- One proof at a time, as in the tests, and no code for the definitions that only proofs use: the whole text is compiled in one process of
-- limited memory.
set_option Elab.async false

theorem Tbu.course_sel (x : Tbu) : x.course.sel = x.sel := rfl

theorem Tbu.course_masters (x : Tbu) : x.course.masters = x.masters := rfl

/-! ## Reporting a master (R254, R257) -/

/-- The values of an Announce but for the grandmaster's identity. -/
noncomputable def State.reported (s : State) (d : AnnData) : State :=
  (((((((s.put F.TBU_GMQ_CLASS d.cls).put F.TBU_GMQ_ACC d.acc).put F.TBU_GMQ_STEPS d.steps).sput F.TBU_GMUTC_SEC d.utc).setFlag
    F.TBU_STAT_LEAP61 d.leap61).setFlag F.TBU_STAT_LEAP59 d.leap59).setFlag F.TBU_STAT_UTCVALID d.utcValid).setFlag F.TBU_STAT_TRACE d.trace

/-- A new identity of the grandmaster, with its event. -/
noncomputable def State.renamed (s : State) (gm : Nat) : State :=
  (((s.put F.TBU_GMID_HI_ID (gm / 4294967296)).put F.TBU_GMID_LO_ID gm).setFlag F.TBU_STAT_GMCHG true).raiseSkip 0x904 0 1
    [gm / 4294967296, gm % 4294967296]

/-- A new grandmaster ends LOCKED. -/
noncomputable def State.unlocked (s : State) : State := if s.tbState = tbLocked then s.tbEnter tbFree else s

theorem State.reportMaster_eq (s : State) (m : PtpMaster) :
    s.reportMaster m = if s.gmId = m.data.gm then s.reported m.data else ((s.reported m.data).renamed m.data.gm).unlocked := rfl

/-- A field that no Announce value shares stays. -/
theorem State.reported_get (s : State) (d : AnnData) {f : Fld} (h : ∀ g ∈ [F.TBU_GMQ_CLASS, F.TBU_GMQ_ACC, F.TBU_GMQ_STEPS, F.TBU_GMUTC_SEC,
    F.TBU_STAT_LEAP61, F.TBU_STAT_LEAP59, F.TBU_STAT_UTCVALID, F.TBU_STAT_TRACE], g.disj f = true := by decide) :
    (s.reported d).get f = s.get f := by
  simp only [List.forall_mem_cons] at h
  obtain ⟨hclass, hacc, hsteps, hutc, h61, h59, hvalid, htrace, -⟩ := h
  unfold State.reported State.sput State.setFlag
  rw [State.get_put_disj _ _ htrace, State.get_put_disj _ _ hvalid, State.get_put_disj _ _ h59, State.get_put_disj _ _ h61,
    State.get_put_disj _ _ hutc, State.get_put_disj _ _ hsteps, State.get_put_disj _ _ hacc, State.get_put_disj _ _ hclass]

theorem State.reported_quality (s : State) (d : AnnData) : (s.reported d).get F.TBU_GMQ_CLASS = d.cls % 256 ∧
    (s.reported d).get F.TBU_GMQ_ACC = d.acc % 256 ∧ (s.reported d).get F.TBU_GMQ_STEPS = d.steps % 65536 := by
  unfold State.reported State.sput State.setFlag
  refine ⟨?_, ?_, ?_⟩
  · simp (disch := decide) only [State.get_put_disj, State.get_put_same]
    rfl
  · simp (disch := decide) only [State.get_put_disj, State.get_put_same]
    rfl
  · simp (disch := decide) only [State.get_put_disj, State.get_put_same]
    rfl

theorem State.reported_flags (s : State) (d : AnnData) : (s.reported d).flag F.TBU_STAT_LEAP61 = d.leap61 ∧
    (s.reported d).flag F.TBU_STAT_LEAP59 = d.leap59 ∧ (s.reported d).flag F.TBU_STAT_UTCVALID = d.utcValid ∧
    (s.reported d).flag F.TBU_STAT_TRACE = d.trace := by
  unfold State.reported
  refine ⟨?_, ?_, ?_, ?_⟩
  · rw [State.flag_setFlag_disj _ _ (by decide), State.flag_setFlag_disj _ _ (by decide), State.flag_setFlag_disj _ _ (by decide)]
    exact State.flag_setFlag_same _ _ _ (by decide) rfl
  · rw [State.flag_setFlag_disj _ _ (by decide), State.flag_setFlag_disj _ _ (by decide)]
    exact State.flag_setFlag_same _ _ _ (by decide) rfl
  · rw [State.flag_setFlag_disj _ _ (by decide)]
    exact State.flag_setFlag_same _ _ _ (by decide) rfl
  · exact State.flag_setFlag_same _ _ _ (by decide) rfl

theorem State.renamed_get (s : State) (gm : Nat) {f : Fld} (hhi : F.TBU_GMID_HI_ID.disj f = true) (hlo : F.TBU_GMID_LO_ID.disj f = true)
    (hchg : F.TBU_STAT_GMCHG.disj f = true) (hr : recordAddr f.addr = false) : (s.renamed gm).get f = s.get f := by
  rw [State.renamed, State.raiseSkip_get _ _ _ _ _ hr, State.get_setFlag_disj _ _ hchg, State.get_put_disj _ _ hlo, State.get_put_disj _ _ hhi]

theorem State.renamed_gmId (s : State) {gm : Nat} (h : gm < 2 ^ 64) : (s.renamed gm).gmId = gm := by
  have hhi : (s.renamed gm).get F.TBU_GMID_HI_ID = gm / 4294967296 % 4294967296 := by
    rw [State.renamed, State.raiseSkip_get _ _ _ _ _ (by decide), State.get_setFlag_disj _ _ (by decide),
      State.get_put_disj _ _ (by decide), State.get_put_same _ _ _ (by decide)]
    rfl
  have hlo : (s.renamed gm).get F.TBU_GMID_LO_ID = gm % 4294967296 := by
    rw [State.renamed, State.raiseSkip_get _ _ _ _ _ (by decide), State.get_setFlag_disj _ _ (by decide),
      State.get_put_same _ _ _ (by decide)]
    rfl
  have hdiv : gm / 4294967296 < 4294967296 := by omega
  rw [State.gmId, hhi, hlo, Nat.mod_eq_of_lt hdiv]
  exact Nat.div_add_mod' gm 4294967296

theorem State.renamed_gmchg (s : State) (gm : Nat) : (s.renamed gm).flag F.TBU_STAT_GMCHG = true := by
  rw [State.renamed, State.raiseSkip_flag _ _ _ _ _ (by decide)]
  exact State.flag_setFlag_same _ _ true (by decide) rfl

theorem State.renamed_tbu (s : State) (gm : Nat) : (s.renamed gm).tbu = s.tbu := by
  rw [State.renamed, State.raiseSkip_tbu]
  rfl

theorem State.unlocked_get (s : State) {f : Fld} (hf : F.TBU_STAT_STATE.disj f = true) (hr : recordAddr f.addr = false)
    (hd : f.addr ≠ Reg.RTC_STAT) : s.unlocked.get f = s.get f := by
  unfold State.unlocked
  split
  · exact State.tbEnter_get _ _ hf hr hd
  · rfl

theorem State.unlocked_course (s : State) : s.unlocked.tbu.course = s.tbu.course := by
  unfold State.unlocked
  split
  · exact State.tbEnter_course _ _
  · rfl

theorem State.unlocked_state (s : State) : s.unlocked.tbState ≠ 1 := by
  unfold State.unlocked
  split
  · rw [State.tbEnter_state]
    decide
  · next h => exact h

/-- The fields that a new grandmaster's identity, its event and the end of LOCKED leave. -/
noncomputable def Fld.apartFromRename (f : Fld) : Bool :=
  F.TBU_GMID_HI_ID.disj f && F.TBU_GMID_LO_ID.disj f && F.TBU_STAT_GMCHG.disj f && F.TBU_STAT_STATE.disj f && !recordAddr f.addr &&
    f.addr != Reg.RTC_STAT

/-- What the fields of a selected master's report leave. -/
theorem State.reportMaster_get (s : State) (m : PtpMaster) {f : Fld} (hf : f.apartFromRename = true) :
    (s.reportMaster m).get f = (s.reported m.data).get f := by
  simp only [Fld.apartFromRename, Bool.and_eq_true, Bool.not_eq_true', bne_iff_ne, ne_eq] at hf
  obtain ⟨⟨⟨⟨⟨hhi, hlo⟩, hchg⟩, hstate⟩, hr⟩, hd⟩ := hf
  rw [s.reportMaster_eq m]
  split
  · rfl
  · exact (State.unlocked_get _ hstate hr hd).trans (State.renamed_get _ _ hhi hlo hchg hr)

theorem State.reportMaster_quality (s : State) (m : PtpMaster) : (s.reportMaster m).get F.TBU_GMQ_CLASS = m.data.cls % 256 ∧
    (s.reportMaster m).get F.TBU_GMQ_ACC = m.data.acc % 256 ∧ (s.reportMaster m).get F.TBU_GMQ_STEPS = m.data.steps % 65536 := by
  obtain ⟨hclass, hacc, hsteps⟩ := s.reported_quality m.data
  exact ⟨(s.reportMaster_get m rfl).trans hclass, (s.reportMaster_get m rfl).trans hacc, (s.reportMaster_get m rfl).trans hsteps⟩

theorem State.reportMaster_flags (s : State) (m : PtpMaster) : (s.reportMaster m).flag F.TBU_STAT_LEAP61 = m.data.leap61 ∧
    (s.reportMaster m).flag F.TBU_STAT_LEAP59 = m.data.leap59 ∧ (s.reportMaster m).flag F.TBU_STAT_UTCVALID = m.data.utcValid ∧
    (s.reportMaster m).flag F.TBU_STAT_TRACE = m.data.trace := by
  obtain ⟨h61, h59, hvalid, htrace⟩ := s.reported_flags m.data
  exact ⟨(State.flag_congr (s.reportMaster_get m rfl)).trans h61, (State.flag_congr (s.reportMaster_get m rfl)).trans h59,
    (State.flag_congr (s.reportMaster_get m rfl)).trans hvalid, (State.flag_congr (s.reportMaster_get m rfl)).trans htrace⟩

theorem State.reportMaster_course (s : State) (m : PtpMaster) : (s.reportMaster m).tbu.course = s.tbu.course := by
  rw [s.reportMaster_eq m]
  split
  · rfl
  · rw [State.unlocked_course, State.renamed_tbu]
    rfl

theorem State.reportMaster_sel (s : State) (m : PtpMaster) : (s.reportMaster m).tbu.sel = s.tbu.sel := by
  rw [← Tbu.course_sel, State.reportMaster_course, Tbu.course_sel]

theorem State.gmId_congr {s t : State} (hhi : t.get F.TBU_GMID_HI_ID = s.get F.TBU_GMID_HI_ID)
    (hlo : t.get F.TBU_GMID_LO_ID = s.get F.TBU_GMID_LO_ID) : t.gmId = s.gmId := by rw [State.gmId, State.gmId, hhi, hlo]

theorem State.reportMaster_gm (s : State) {m : PtpMaster} (h : m.data.gm < 2 ^ 64) : (s.reportMaster m).gmId = m.data.gm ∧
    (s.gmId ≠ m.data.gm → (s.reportMaster m).flag F.TBU_STAT_GMCHG = true ∧ (s.reportMaster m).tbState ≠ 1) := by
  rw [s.reportMaster_eq m]
  split
  · next hsame =>
    exact ⟨(State.gmId_congr (s.reported_get _) (s.reported_get _)).trans hsame, fun hne => absurd hsame hne⟩
  · refine ⟨?id, fun _ => ⟨?gmchg, State.unlocked_state _⟩⟩
    case id =>
      refine (State.gmId_congr ?_ ?_).trans (State.renamed_gmId (s.reported m.data) h)
      · exact State.unlocked_get _ (by decide) (by decide) (by decide)
      · exact State.unlocked_get _ (by decide) (by decide) (by decide)
    case gmchg =>
      rw [State.flag_congr (State.unlocked_get _ (by decide) (by decide) (by decide))]
      exact State.renamed_gmchg _ _

/-! ## Selecting a master (R254) -/

/-- The master of port `p` selected; a change of master forgets the Sync in progress. -/
noncomputable def State.selectPort (s : State) (p : Nat) : State :=
  if s.tbu.sel = some p then s
  else { s with tbu := { s.tbu with sel := some p, waiting := none, sync := none, syncAt := some s.ns, dreq := none } }

theorem State.selectPort_sel (s : State) (p : Nat) : (s.selectPort p).tbu.sel = some p := by
  unfold State.selectPort
  split
  · next h => exact h
  · rfl

theorem State.selectPort_get (s : State) (p : Nat) (f : Fld) : (s.selectPort p).get f = s.get f := by
  unfold State.selectPort
  split
  · rfl
  · rfl

theorem State.selectMaster_some {s : State} {m : PtpMaster} (h : s.bestMaster = some m) :
    s.selectMaster = (s.selectPort m.port).reportMaster m := by
  rw [State.selectMaster, h]
  rfl

theorem State.selectMaster_none {s : State} (h : s.tbu.masters = []) : s.selectMaster = { s with tbu := { s.tbu with sel := none } } := by
  have hbest : s.bestMaster = none := by
    rw [State.bestMaster, h]
    rfl
  rw [State.selectMaster, hbest]

/-- The one master heard is the best where it qualifies. -/
theorem State.bestMaster_one {s : State} {m : PtpMaster} (h : s.tbu.masters = [m]) (hq : m.qualified s.ns s.tbu.sel = true) :
    s.bestMaster = some m := by
  rw [State.bestMaster, h, List.filter_singleton, hq]
  rfl

/-- R254: a second Announce within four intervals, with fewer than 255 steps, qualifies. -/
theorem PtpMaster.qualified_of_prev {m : PtpMaster} {t p : Nat} (hsteps : m.data.steps < 255) (hprev : m.prev = some p)
    (ht : t ≤ p + 4 * logNs m.data.logInt) (sel : Option Nat) : m.qualified t sel = true := by
  rw [PtpMaster.qualified, hprev]
  simp [hsteps, ht]

/-- An Announce counted, and its master noted with the time of the one before. -/
noncomputable def State.heard (s : State) (h : PtpHdr) (a : AnnData) : State :=
  { s.inc F.TBU_RXCNT_ANN with
    tbu := { s.tbu with masters := { port := h.port, data := a, last := s.ns, prev := (s.tbu.masters.find? (·.port == h.port)).map (·.last) } ::
                                     s.tbu.masters.filter (·.port != h.port) } }

theorem State.announce_takes {s : State} {h : PtpHdr} (a : AnnData) (hgood : h.bad = false) (htakes : s.ptpTakes h = true) :
    s.announce h a = (s.heard h a).selectMaster := by
  rw [State.announce, hgood, htakes]
  rfl

theorem State.heard_get (s : State) (h : PtpHdr) (a : AnnData) {f : Fld} (hf : F.TBU_RXCNT_ANN.disj f = true := by decide) :
    (s.heard h a).get f = s.get f := s.get_inc_disj hf

/-- The master `m` as noted when it is heard again. -/
noncomputable def State.heardAgain (s : State) (m : PtpMaster) (a : AnnData) : PtpMaster := { port := m.port, data := a, last := s.ns, prev := some m.last }

/-- The one master heard, heard again. -/
theorem State.heard_again {s : State} {h : PtpHdr} {m : PtpMaster} (a : AnnData) (hm : s.tbu.masters = [m]) (hport : m.port = h.port) :
    (s.heard h a).tbu.masters = [s.heardAgain m a] := by
  unfold State.heard
  rw [hm]
  simp [hport, State.heardAgain]

/-- R254: the master heard again is selected, where its Announces qualify it. -/
theorem State.announce_again {s : State} {h : PtpHdr} {a : AnnData} {m : PtpMaster} (hgood : h.bad = false) (htakes : s.ptpTakes h = true)
    (hm : s.tbu.masters = [m]) (hport : m.port = h.port) (hsteps : a.steps < 255) (hsoon : s.ns ≤ m.last + 4 * logNs a.logInt) :
    s.announce h a = ((s.heard h a).selectPort m.port).reportMaster (s.heardAgain m a) := by
  have hq : (s.heardAgain m a).qualified (s.heard h a).ns (s.heard h a).tbu.sel = true :=
    PtpMaster.qualified_of_prev (m := s.heardAgain m a) (t := s.ns) hsteps rfl hsoon _
  rw [State.announce_takes a hgood htakes]
  exact State.selectMaster_some (State.bestMaster_one (State.heard_again a hm hport) hq)

/-! ## HOLDOVER (R257, R258) -/

/-- R258: the mean of a trim that was one for the last 64 s. -/
theorem freqMean_const {t since : Nat} {f : Int} (h : since + 64000000000 ≤ t) (cur : Int) : freqMean t [(since, f)] cur = f := by
  have hle : 64000000000 ≤ t := le_trans (Nat.le_add_left _ _) h
  have hmax : max since (t - 64 * nsPerSec) = t - 64000000000 := Nat.max_eq_right (Nat.le_sub_of_add_le h)
  have hlt : t - 64000000000 < t := Nat.sub_lt (Nat.lt_of_lt_of_le (by decide) hle) (by decide)
  have hspan : t - (t - 64000000000) = 64000000000 := Nat.sub_sub_self hle
  simp only [freqMean, List.foldl_cons, List.foldl_nil, hmax, if_pos hlt, hspan, zero_add]
  exact (congrArg (showNs 258 · 64000000000) (mul_comm f _)).trans (showNs_mul 258 f (by decide))

theorem State.ptpSteers_iff (s : State) :
    s.ptpSteers = true ↔ s.flag F.TBU_CTL_SERVO = true ∧ s.flag F.TBU_STAT_SRC = false ∧ s.isStandby = false := by
  simp [State.ptpSteers, and_assoc]

/-- The trim for HOLDOVER, where the module's own servo steers. -/
noncomputable def State.holdTrim (s : State) : State := if s.ptpSteers then s.setFreq (freqMean s.ns s.tbu.freqs (s.sget F.TBU_FREQ_FREQ)) else s

theorem State.holdTrim_only (s : State) : (∀ a, a ≠ Reg.TBU_FREQ → s.holdTrim.rd a = s.rd a) ∧ s.holdTrim.rates = s.rates ∧
    s.holdTrim.ns = s.ns ∧ s.holdTrim.tbu.course = s.tbu.course := by
  unfold State.holdTrim
  split
  · refine ⟨fun a ha => ?_, ?_, s.setFreq_ns _, s.setFreq_course _⟩
    · rw [s.setFreq_only _]
      exact s.rd_put_ne _ ha
    · rw [s.setFreq_only _]
      rfl
  · exact ⟨fun _ _ => rfl, rfl, rfl, rfl⟩

/-- R257, R258: HOLDOVER entered from LOCKED. -/
theorem State.enterHold_gives {s : State} (hlock : s.tbState = tbLocked) : s.enterHold.tbState = 2 ∧ s.enterHold.tbu.holdAt = some s.ns ∧
    s.enterHold.tbu.course = s.tbu.course ∧ s.enterHold.sget F.TBU_FREQ_FREQ = s.holdTrim.sget F.TBU_FREQ_FREQ ∧
    (s.rateOk 0x902 0 nsPerSec = true → Journalled s s.enterHold 0x902 0 [2]) := by
  obtain ⟨hrd, hrates, hns, hcourse⟩ := s.holdTrim_only
  have hlock' : s.holdTrim.tbState = tbLocked := (State.get_congr (hrd _ (by decide))).trans hlock
  have heq : s.enterHold = s.holdTrim.tbEnter tbHold := rfl
  rw [heq]
  refine ⟨State.tbEnter_state _ _, ?_, (State.tbEnter_course _ _).trans hcourse, State.sget_congr (State.tbEnter_get _ _), fun hrate => ?_⟩
  · rw [State.tbEnter_tbu, hns]
    rfl
  · exact (State.tbEnter_leaves hlock' (by decide) ((State.rateOk_congr hrates hns _ _ _).trans hrate)).of_rd (hrd _ (by decide))
      (hrd _ (by decide))

/-- R258: the trim in HOLDOVER, where it was one for the last 64 s. -/
theorem State.holdTrim_freq {s : State} {since : Nat} {f : Int} (hfreqs : s.tbu.freqs = [(since, f)]) (hlong : since + 64000000000 ≤ s.ns)
    (hlo : -34359738 ≤ f) (hhi : f ≤ 34359738) :
    (s.ptpSteers = true → s.tbu.slew = none → s.holdTrim.sget F.TBU_FREQ_FREQ = f) ∧
    (¬ s.ptpSteers = true → s.holdTrim.sget F.TBU_FREQ_FREQ = s.sget F.TBU_FREQ_FREQ) := by
  unfold State.holdTrim
  refine ⟨fun hsteers hslew => ?_, fun hsteers => by rw [if_neg hsteers]⟩
  rw [if_pos hsteers, hfreqs, freqMean_const hlong, State.setFreq_freq, State.freqAt_unslewed hslew hlo hhi]

/-- The masters but for the selected one, whose Announces have ceased. -/
noncomputable def State.masterLost (s : State) : State := { s with tbu := { s.tbu with masters := [], sel := none } }

/-- R257: the loss of the one master heard, in LOCKED. -/
theorem State.announceTimeout_late {s : State} {m : PtpMaster} (hm : s.tbu.masters = [m]) (hsel : s.tbu.sel = some m.port)
    (hlock : s.tbState = tbLocked) (hlate : m.last + s.get F.TBU_ANNTO_COUNT * logNs m.data.logInt ≤ s.ns) :
    s.announceTimeout = s.masterLost.enterHold.selectMaster := by
  have hfind : s.tbu.masters.find? (fun m => s.tbu.sel == some m.port) = some m := by
    rw [hm, hsel]
    simp
  have hfilter : s.tbu.masters.filter (·.port != m.port) = [] := by
    rw [hm]
    simp
  rw [State.announceTimeout, hfind]
  dsimp only
  rw [if_pos hlate, hfilter]
  exact congrArg State.selectMaster (if_pos hlock)

/-- With no master heard the selection ends and all else stays. -/
theorem State.enterHold_masterLost {s : State} (hlock : s.tbState = tbLocked) :
    s.masterLost.enterHold.selectMaster = { s.masterLost.enterHold with tbu := { s.masterLost.enterHold.tbu with sel := none } } ∧
      s.masterLost.enterHold.tbu.masters = [] := by
  obtain ⟨-, -, hcourse, -⟩ := State.enterHold_gives (s := s.masterLost) hlock
  have hmasters : s.masterLost.enterHold.tbu.masters = [] := by
    rw [← Tbu.course_masters, hcourse]
    rfl
  exact ⟨State.selectMaster_none hmasters, hmasters⟩

/-- R257: no Sync for 4 intervals, in LOCKED. -/
theorem State.syncTimeout_late {s : State} {at_ : Nat} (hat : s.tbu.syncAt = some at_) (hlock : s.tbState = tbLocked)
    (hlate : at_ + 4 * logNs (s.sget F.TBU_INTV_SYNC) ≤ s.ns) : s.syncTimeout = s.enterHold := by
  rw [State.syncTimeout, hat]
  exact if_pos ⟨hlock, hlate⟩

/-- R257: a holdover that has lasted TBU_HOLDMAX. -/
theorem State.holdSec_reaches {s : State} {at_ : Nat} (h : s.tbu.holdAt = some at_) (hs : s.tbState = tbHold)
    (hmax : s.get F.TBU_HOLDMAX_SEC ≤ (s.ns - at_) / 1000000000) : s.get F.TBU_HOLDMAX_SEC ≤ s.holdSec := by
  have hlt : s.get F.TBU_HOLDMAX_SEC < 2 ^ 24 := s.get_lt F.TBU_HOLDMAX_SEC
  rw [State.holdSec, h]
  dsimp only
  rw [if_pos hs]
  exact le_min (by omega) hmax

/-- Entering FREERUN from HOLDOVER is no event of the lock state. -/
theorem State.tbEnter_free_of_hold {s : State} (hs : s.tbState = tbHold) : s.tbReport tbFree = s.put F.TBU_STAT_STATE tbFree := by
  rw [State.tbReport, if_neg (by rintro ⟨h, -⟩; exact absurd h (by decide)), if_neg (by rw [hs]; decide)]

theorem State.tbEnter_rates (s : State) (x : Nat) : (s.tbEnter x).rates = (s.tbReport x).rates := by
  rw [s.tbEnter_eq x, State.discTrack_eq]

/-- R257: the end of the holdover is an event. -/
theorem State.tbHoldend_journalled {s : State} (hs : s.tbState = tbHold) (h : s.rateOk 0x908 0 nsPerSec = true) :
    Journalled s ((s.tbEnter tbFree).raiseRated nsPerSec 0x908 0) 0x908 0 [] := by
  have hrates : (s.tbEnter tbFree).rates = s.rates := by
    rw [State.tbEnter_rates, State.tbEnter_free_of_hold hs]
    rfl
  have hrd (a : Nat) (h1 : a ≠ Reg.RTC_STAT) (h2 : a ≠ Reg.TBU_STAT) : (s.tbEnter tbFree).rd a = s.rd a := by
    rw [State.tbEnter_rd _ _ h1, State.tbEnter_free_of_hold hs]
    exact s.rd_put_ne _ h2
  have hrate : (s.tbEnter tbFree).rateOk 0x908 0 nsPerSec = true := (State.rateOk_congr hrates (s.tbEnter_ns _) _ _ _).trans h
  exact (State.raiseRated_journalled _ _ _ _ _ _ hrate).of_rd (hrd _ (by decide) (by decide)) (hrd _ (by decide) (by decide))

/-! ## The obligation -/

/-- Settles O35: an Announce by its report, a loss of the master by the entry to HOLDOVER, the holdover limit by its event. -/
theorem mastersAndHoldover : Obligations.MastersAndHoldover := by
  unfold Obligations.MastersAndHoldover
  intro s h a m since f mean steers held
  have hheld {u : State} (hlock : u.tbState = tbLocked) (hm : mean) (hmem : u.mem = s.mem) (hns : u.ns = s.ns) (hrates : u.rates = s.rates)
      (hfreqs : u.tbu.freqs = s.tbu.freqs) (hslew : u.tbu.slew = s.tbu.slew) : held u.enterHold := by
    have hget (g : Fld) : u.get g = s.get g := State.get_congr (by rw [State.rd, hmem]; rfl)
    have hsteers : u.ptpSteers = true ↔ steers := by
      rw [u.ptpSteers_iff, State.flag_congr (hget _), State.flag_congr (hget _), State.isStandby, hget]
      rfl
    obtain ⟨hmean, hlong, hlo, hhi⟩ := hm
    obtain ⟨hstate, hat, -, hfreq, hevent⟩ := State.enterHold_gives hlock
    obtain ⟨hon, hoff⟩ := State.holdTrim_freq (hfreqs.trans hmean) (by rw [hns]; exact hlong) hlo hhi
    refine ⟨hstate, hat.trans (congrArg some hns), fun hst hno => ?_, fun hst => ?_, fun hrate => ?_⟩
    · exact hfreq.trans (hon (hsteers.mpr hst) (hslew.trans hno))
    · exact hfreq.trans ((hoff fun k => hst (hsteers.mp k)).trans (State.sget_congr (hget _)))
    · exact (hevent ((State.rateOk_congr hrates hns _ _ _).trans hrate)).of_mem hmem
  refine ⟨fun hgood htakes hm hport hsteps hsoon hgm => ⟨_, rfl, ?announce⟩, fun hm hsel hlock hlate hmean => ⟨_, rfl, ?lost⟩,
    fun at_ hat hlock hlate hmean => ⟨_, rfl, ?silent⟩, fun at_ hat hhold hmax => ⟨_, rfl, ?limit⟩⟩
  case announce =>
    have hkeep {g : Fld} (hg : F.TBU_RXCNT_ANN.disj g = true := by decide) :
        ((s.heard h a).selectPort h.port).get g = s.get g := (State.selectPort_get _ _ _).trans (s.heard_get _ _ hg)
    rw [State.announce_again hgood htakes hm hport hsteps hsoon, hport]
    generalize hm' : s.heardAgain m a = m'
    have hdata : m'.data = a := by rw [← hm']; rfl
    subst hdata
    generalize hu : (s.heard h m'.data).selectPort h.port = u at hkeep
    obtain ⟨hclass, hacc, hqsteps⟩ := u.reportMaster_quality m'
    obtain ⟨h61, h59, hvalid, htrace⟩ := u.reportMaster_flags m'
    obtain ⟨hid, hnew⟩ := u.reportMaster_gm hgm
    have hsel : (u.reportMaster m').tbu.sel = some h.port := by rw [State.reportMaster_sel, ← hu, State.selectPort_sel]
    refine ⟨hsel, hid, hclass, hacc, hqsteps.trans (Nat.mod_eq_of_lt (by omega)), h61, h59, hvalid, htrace, ?_, fun hne => ?_⟩
    · exact State.sget_congr ((u.reportMaster_get m' rfl).trans ((u.reported_get _).trans hkeep))
    · exact hnew fun he => hne ((State.gmId_congr hkeep hkeep).symm.trans he)
  case lost =>
    have hhold : held s.masterLost.enterHold := hheld hlock hmean rfl rfl rfl rfl rfl
    obtain ⟨hsame, hmasters⟩ := State.enterHold_masterLost hlock
    rw [State.announceTimeout_late hm hsel hlock hlate, hsame]
    generalize s.masterLost.enterHold = u at hhold hmasters
    obtain ⟨hstate, hat, hon, hoff, hevent⟩ := hhold
    exact ⟨⟨hstate, hat, hon, hoff, fun hrate => (hevent hrate).congr rfl rfl fun _ _ => rfl⟩, rfl, hmasters⟩
  case silent =>
    rw [State.syncTimeout_late hat hlock hlate]
    obtain ⟨-, -, hcourse, -⟩ := State.enterHold_gives hlock
    refine ⟨hheld hlock hmean rfl rfl rfl rfl rfl, ?_⟩
    rw [← Tbu.course_sel, hcourse, Tbu.course_sel]
  case limit =>
    rw [if_pos ⟨hhold, State.holdSec_reaches hat hhold hmax⟩]
    refine ⟨?_, State.sget_congr ((State.raiseRated_get _ _ _ _ _ _ (by decide)).trans (State.tbEnter_get _ _)), fun hrate => ?_⟩
    · exact (State.raiseRated_get _ _ _ _ _ _ (f := F.TBU_STAT_STATE) (by decide)).trans (State.tbEnter_state _ _)
    · exact State.tbHoldend_journalled hhold hrate

end Sys2Proof.Machine

/-!
# The servo (O34)

A Sync passes four stages: it is noted (`State.syncNoted`), its offset is shown (`State.offsetNoted`), the servo steers by it
(`State.steered`) and it counts for the lock (`State.lockCount`).  Each stage by what it writes; the clauses follow the offset through them.
-/

namespace Sys2Proof.Machine

-- One proof at a time, as in the tests, and no code for the definitions that only proofs use: the whole text is compiled in one process of
-- limited memory.
set_option Elab.async false

/-! ## What the stages leave of the time base -/

/-- The time base but for the servo, the lock state and steps: what it knows of masters, Syncs and delays. -/
noncomputable def Tbu.ledger (x : Tbu) : Tbu := { x.course with step := none, stepNext := none }

theorem Tbu.ledger_of_course {x y : Tbu} (h : x.course = y.course) : x.ledger = y.ledger := by rw [Tbu.ledger, Tbu.ledger, h]

theorem Tbu.ledger_syncs {x y : Tbu} (h : x.ledger = y.ledger) : x.waiting = y.waiting ∧ x.sync = y.sync ∧ x.dreq = y.dreq ∧ x.ds = y.ds := by
  simp only [Tbu.ledger, Tbu.course, Tbu.mk.injEq] at h
  simp only [h, and_self]

theorem Tbu.course_step {x y : Tbu} (h : x.course = y.course) : x.step = y.step ∧ x.stepNext = y.stepNext := by
  simp only [Tbu.course, Tbu.mk.injEq] at h
  simp only [h, and_self]

/-! ## A Sync noted (R255, R257) -/

/-- The interval and the arrival of a Sync of the selected master. -/
noncomputable def State.syncHeard (s : State) (li : Int) : State := { s.sput F.TBU_INTV_SYNC li with tbu := { s.tbu with syncAt := some s.ns } }

/-- A Sync ends HOLDOVER. -/
noncomputable def State.syncNoted (s : State) (li : Int) : State :=
  if (s.syncHeard li).tbState = tbHold then (s.syncHeard li).tbEnter tbFree else s.syncHeard li

/-- The Sync stamped on the medium. -/
noncomputable def State.syncAs (s : State) (h : PtpHdr) (t1 t2 : Nat) : PtpSync :=
  { t1 := t1, t2 := t2 - s.phyLatency h.eth2 false, corr := h.corr + s.asym, eth2 := h.eth2 }

theorem State.syncReceived_takes {s : State} {h : PtpHdr} (two : Bool) (t1 t2 : Nat) (li : Int) (hgood : h.bad = false)
    (htakes : s.ptpTakes h = true) (hsel : s.tbu.sel = some h.port) : s.syncReceived h two t1 t2 li =
      if two then { s.syncNoted li with tbu := { (s.syncNoted li).tbu with waiting := some (h.seq, s.syncAs h t1 t2) } }
      else (s.syncNoted li).takeSync (s.syncAs h t1 t2) := by
  rw [State.syncReceived, hgood, htakes, hsel, bne_self_eq_false]
  rfl

theorem State.syncHeard_get (s : State) (li : Int) {f : Fld} (h : F.TBU_INTV_SYNC.disj f = true := by decide) :
    (s.syncHeard li).get f = s.get f := s.get_put_disj _ h

/-- Outside HOLDOVER a Sync is heard and nothing more. -/
theorem State.syncNoted_heard {s : State} (h : s.tbState ≠ 2) (li : Int) : s.syncNoted li = s.syncHeard li := by
  rw [State.syncNoted, if_neg]
  intro hhold
  exact h ((s.syncHeard_get li (f := F.TBU_STAT_STATE)).symm.trans hhold)

theorem State.syncNoted_get (s : State) (li : Int) {f : Fld} (hi : F.TBU_INTV_SYNC.disj f = true := by decide)
    (hs : F.TBU_STAT_STATE.disj f = true := by decide) (hr : recordAddr f.addr = false := by decide)
    (hd : f.addr ≠ Reg.RTC_STAT := by decide) : (s.syncNoted li).get f = s.get f := by
  unfold State.syncNoted
  split
  · exact (State.tbEnter_get _ _ hs hr hd).trans (s.syncHeard_get li hi)
  · exact s.syncHeard_get li hi

/-- What the steps of the time base make of the trim: the slew, the integrator and the clock. -/
theorem State.syncNoted_only (s : State) (li : Int) : (s.syncNoted li).tbu.slew = s.tbu.slew ∧ (s.syncNoted li).tbu.i = s.tbu.i ∧
    (s.syncNoted li).ns = s.ns ∧ (s.syncNoted li).tbu.step = s.tbu.step ∧ (s.syncNoted li).tbu.ds = s.tbu.ds := by
  unfold State.syncNoted
  split
  · rw [State.tbEnter_ns, State.tbEnter_tbu]
    exact ⟨rfl, rfl, rfl, rfl, rfl⟩
  · exact ⟨rfl, rfl, rfl, rfl, rfl⟩

/-! ## The offset of a complete Sync (R255) -/

/-- The offset that a Sync shows with the delay `m`. -/
noncomputable def PtpSync.offset (x : PtpSync) (m : Int) : Int := (((x.t2 : Int) - x.t1) * 65536 - x.corr) * 1680 - m

/-- The Sync counted and kept as the latest. -/
noncomputable def State.syncCounted (s : State) (x : PtpSync) : State := { s.inc F.TBU_RXCNT_SYNC with tbu := { s.tbu with sync := some x } }

/-- The offset shown. -/
noncomputable def State.offsetNoted (s : State) (x : PtpSync) (o : Int) : State :=
  (s.syncCounted x).sput F.TBU_OFFSET_NS (clampInt (-2147483648) 2147483647 (showNs 255 o offUnit))

/-- The servo run where the module follows PTP. -/
noncomputable def State.steered (s : State) (o : Int) : State := if s.ptpSteers then s.servo o 1 else s

theorem State.takeSync_measured {s : State} {m : Int} (h : s.mpd = some m) (x : PtpSync) :
    s.takeSync x = (((s.offsetNoted x (x.offset m)).steered (x.offset m)).lockCount (x.offset m)) := by
  rw [State.takeSync, h]
  rfl

theorem State.takeSync_unmeasured {s : State} (h : s.mpd = none) (x : PtpSync) : s.takeSync x = s.syncCounted x := by
  rw [State.takeSync, h]
  rfl

theorem State.mpd_congr {s t : State} (h : t.tbu.ds = s.tbu.ds) : t.mpd = s.mpd := by rw [State.mpd, State.mpd, h]

theorem State.offsetNoted_get (s : State) (x : PtpSync) (o : Int) {f : Fld} (hrx : F.TBU_RXCNT_SYNC.disj f = true := by decide)
    (ho : F.TBU_OFFSET_NS.disj f = true := by decide) : (s.offsetNoted x o).get f = s.get f :=
  (State.get_put_disj _ _ ho).trans (s.get_inc_disj hrx)

theorem State.offsetNoted_count (s : State) (x : PtpSync) (o : Int) :
    (s.offsetNoted x o).get F.TBU_RXCNT_SYNC = (s.get F.TBU_RXCNT_SYNC + 1) % 65536 :=
  (State.get_put_disj (f := F.TBU_OFFSET_NS) (s.syncCounted x) _ (by decide)).trans (s.get_inc_same F.TBU_RXCNT_SYNC (by decide))

/-- R255: an offset of whole ns is shown as it is. -/
theorem State.offsetNoted_whole (s : State) (x : PtpSync) {o k : Int} (ho : o = (offUnit : Nat) * k) (hlo : -0x80000000 ≤ k)
    (hhi : k < 0x80000000) : (s.offsetNoted x o).sget F.TBU_OFFSET_NS = k := by
  rw [State.offsetNoted, ho, showNs_mul _ _ (by decide), clampInt_of_mem hlo (by omega)]
  exact State.sget_sput_same _ (by decide) (by decide) hlo hhi

/-! ## The servo (R256, R260) -/

theorem State.ptpSteers_congr {s t : State} (hservo : t.get F.TBU_CTL_SERVO = s.get F.TBU_CTL_SERVO)
    (hsrc : t.get F.TBU_STAT_SRC = s.get F.TBU_STAT_SRC) (hrole : t.get F.GLB_ROLE_ROLE = s.get F.GLB_ROLE_ROLE) :
    t.ptpSteers = s.ptpSteers := by
  rw [State.ptpSteers, State.ptpSteers, State.flag_congr hservo, State.flag_congr hsrc, State.isStandby, State.isStandby, hrole]

theorem State.steered_cases (s : State) (o : Int) :
    s.steered o = s ∨ (∃ v i, s.steered o = s.trimmed v i) ∨ ∃ r, s.steered o = s.askStep r := by
  unfold State.steered
  split
  · by_cases h : (s.get F.TBU_STEPTH_NS : Int) * (offUnit : Nat) < o.natAbs
    · exact .inr (.inr ⟨_, State.servo_beyond h 1⟩)
    · exact .inr (.inl ⟨_, _, State.servo_within h 1⟩)
  · exact .inl rfl

theorem State.askStep_ledger (s : State) (r : StepReq) : (s.askStep r).tbu.ledger = s.tbu.ledger := by
  cases h : s.tbu.step with
  | none =>
    rw [State.askStep_free h]
    rfl
  | some r' =>
    rw [State.askStep_busy h]
    rfl

theorem State.steered_ledger (s : State) (o : Int) : (s.steered o).tbu.ledger = s.tbu.ledger := by
  obtain h | ⟨v, i, h⟩ | ⟨r, h⟩ := s.steered_cases o
  · rw [h]
  · rw [h]
    exact Tbu.ledger_of_course (s.trimmed_course v i)
  · rw [h]
    exact s.askStep_ledger r

theorem State.steered_get (s : State) (o : Int) {f : Fld} (hf : F.TBU_FREQ_FREQ.disj f = true := by decide)
    (hs : F.TBU_STAT_STEPPING.disj f = true := by decide) : (s.steered o).get f = s.get f := by
  obtain h | ⟨v, i, h⟩ | ⟨r, h⟩ := s.steered_cases o
  · rw [h]
  · rw [h, State.trimmed_get _ _ _ hf]
  · rw [h, State.askStep_get _ _ hs]

/-- R256: a trim of the servo law is the nearest to the law's value in ppb. -/
theorem freqOf_near (y : Int) : (2 * (freqOf y (offUnit * 256) * (256 * (840 * 131072) * 1000000000) - y * 34359738368)).natAbs ≤
    256 * (840 * 131072) * 1000000000 := by
  have h := roundNear_near (y * 34359738368) (d := 1000000000 * (offUnit * 256)) (by decide) (Config.tieUp 256 y.natAbs)
  have hd : 1000000000 * (offUnit * 256) = 256 * (840 * 131072) * 1000000000 := by decide
  rw [freqOf, hd]
  rw [hd] at h
  exact h

/-- A trim nearest to at most 1,000,000 ppb is one that TBU_FREQ holds. -/
theorem near_fits {f y : Int} (h : (2 * (f * (256 * (840 * 131072) * 1000000000) - y * 34359738368)).natAbs ≤ 256 * (840 * 131072) * 1000000000)
    (hlo : -(1000000 * (840 * 131072 * 256)) ≤ y) (hhi : y ≤ 1000000 * (840 * 131072 * 256)) : -34359738 ≤ f ∧ f ≤ 34359738 := by
  obtain ⟨hflo, hfhi⟩ := mem_of_natAbs_le h
  exact ⟨by omega, by omega⟩

/-! ## Counting for the lock (R257) -/

/-- The offset counted. -/
noncomputable def State.lockCounted (s : State) (o : Int) : State :=
  { s with tbu := { s.tbu with
      good := if (o.natAbs : Int) ≤ s.get F.TBU_LOCKTH_NS * (offUnit : Nat) then s.tbu.good + 1 else 0
      far := if 4 * ((s.get F.TBU_LOCKTH_NS : Int) * (offUnit : Nat)) < o.natAbs then s.tbu.far + 1 else 0
      monGood := if (o.natAbs : Int) ≤ s.get F.TBU_LOCKTH_NS * (offUnit : Nat) then s.tbu.monGood + 1 else 0 } }

theorem State.lockCount_eq (s : State) (o : Int) : s.lockCount o =
    if s.tbState = tbFree ∧ 16 ≤ (s.lockCounted o).tbu.good ∧ s.tbu.step.isNone ∧ s.flag F.TBU_CTL_SERVO then
      (s.lockCounted o).tbEnter tbLocked
    else if s.tbState = tbLocked ∧ 4 ≤ (s.lockCounted o).tbu.far then (s.lockCounted o).tbEnter tbFree
    else s.lockCounted o := rfl

theorem State.lockCount_cases (s : State) (o : Int) : s.lockCount o = s.lockCounted o ∨ ∃ x, s.lockCount o = (s.lockCounted o).tbEnter x := by
  rw [s.lockCount_eq o]
  split
  · exact .inr ⟨_, rfl⟩
  · split
    · exact .inr ⟨_, rfl⟩
    · exact .inl rfl

theorem State.lockCounted_only (s : State) (o : Int) : (s.lockCounted o).mem = s.mem ∧ (s.lockCounted o).tbu.course = s.tbu.course ∧
    (s.lockCounted o).tbu.i = s.tbu.i ∧ (s.lockCounted o).ns = s.ns := ⟨rfl, rfl, rfl, rfl⟩

theorem State.lockCount_only (s : State) (o : Int) : (s.lockCount o).tbu.course = s.tbu.course ∧ (s.lockCount o).tbu.i = s.tbu.i ∧
    (s.lockCount o).ns = s.ns := by
  obtain ⟨-, hcourse, hi, hns⟩ := s.lockCounted_only o
  obtain h | ⟨x, h⟩ := s.lockCount_cases o
  · rw [h]
    exact ⟨hcourse, hi, hns⟩
  · rw [h]
    refine ⟨(State.tbEnter_course _ _).trans hcourse, ?_, (State.tbEnter_ns _ _).trans hns⟩
    rw [State.tbEnter_tbu]
    exact hi

theorem State.lockCount_get (s : State) (o : Int) {f : Fld} (hs : F.TBU_STAT_STATE.disj f = true := by decide)
    (hr : recordAddr f.addr = false := by decide) (hd : f.addr ≠ Reg.RTC_STAT := by decide) : (s.lockCount o).get f = s.get f := by
  obtain ⟨hmem, -⟩ := s.lockCounted_only o
  have hkeep : (s.lockCounted o).get f = s.get f := State.get_congr (by rw [State.rd, hmem]; rfl)
  obtain h | ⟨x, h⟩ := s.lockCount_cases o
  · rw [h, hkeep]
  · rw [h, State.tbEnter_get _ _ hs hr hd, hkeep]

/-- R257: the sixteenth good offset locks. -/
theorem State.lockCount_locks {s : State} {o : Int} (hfree : s.tbState = tbFree) (hgood : s.tbu.good = 15) (hstep : s.tbu.step = none)
    (hservo : s.flag F.TBU_CTL_SERVO = true) (hnear : (o.natAbs : Int) ≤ s.get F.TBU_LOCKTH_NS * (offUnit : Nat)) :
    (s.lockCount o).tbState = 1 ∧ (s.rateOk 0x901 0 nsPerSec = true → Journalled s (s.lockCount o) 0x901 0 []) := by
  have hcount : (s.lockCounted o).tbu.good = 16 := by
    unfold State.lockCounted
    dsimp only
    rw [if_pos hnear, hgood]
  have heq : s.lockCount o = (s.lockCounted o).tbEnter tbLocked := by
    rw [s.lockCount_eq o, if_pos ⟨hfree, hcount.ge, by rw [hstep]; rfl, hservo⟩]
  rw [heq]
  have hleft : (s.lockCounted o).tbState ≠ tbLocked := fun h => absurd (hfree.symm.trans h) (by decide)
  exact ⟨State.tbEnter_state _ _, fun hrate => (State.tbEnter_locks hleft hrate).of_mem rfl⟩

/-! ## An offset within TBU_STEPTH, and one beyond -/

theorem State.steered_within {s : State} {o : Int} (hsteers : s.ptpSteers = true)
    (h : ¬ (s.get F.TBU_STEPTH_NS : Int) * (offUnit : Nat) < o.natAbs) :
    s.steered o = s.trimmed (freqOf (s.servoY o) (offUnit * 256)) (s.servoI o) := by
  rw [State.steered, if_pos hsteers, State.servo_within h]

theorem State.steered_beyond {s : State} {o : Int} (hsteers : s.ptpSteers = true)
    (h : (s.get F.TBU_STEPTH_NS : Int) * (offUnit : Nat) < o.natAbs) :
    s.steered o = s.askStep { cause := 1, delta := some (-(showNs 256 o offUnit)) } := by
  rw [State.steered, if_pos hsteers, State.servo_beyond h]
  rfl

theorem State.setFreq_lock (s : State) (v : Int) : (s.setFreq v).tbu.good = s.tbu.good ∧ (s.setFreq v).rates = s.rates := by
  have hgood : (s.slewOn v).tbu.good = s.tbu.good := by
    unfold State.slewOn
    split
    · rfl
    · rfl
  refine ⟨?_, by rw [s.setFreq_only v]; rfl⟩
  unfold State.setFreq
  dsimp only
  split
  · exact hgood
  · exact hgood

theorem State.trimmed_lock (s : State) (v i : Int) : (s.trimmed v i).tbu.good = s.tbu.good ∧ (s.trimmed v i).rates = s.rates :=
  s.setFreq_lock v

/-- An offset within TBU_STEPTH leaves what the lock is counted from. -/
theorem State.steered_lock {s : State} {o : Int} (h : ¬ (s.get F.TBU_STEPTH_NS : Int) * (offUnit : Nat) < o.natAbs) :
    (s.steered o).tbu.good = s.tbu.good ∧ (s.steered o).rates = s.rates ∧ (s.steered o).ns = s.ns ∧
      (s.steered o).tbu.course = s.tbu.course := by
  by_cases hsteers : s.ptpSteers = true
  · rw [State.steered_within hsteers h]
    obtain ⟨hgood, hrates⟩ := s.trimmed_lock (freqOf (s.servoY o) (offUnit * 256)) (s.servoI o)
    exact ⟨hgood, hrates, s.trimmed_ns _ _, s.trimmed_course _ _⟩
  · rw [State.steered, if_neg hsteers]
    exact ⟨rfl, rfl, rfl, rfl⟩

theorem State.trimmed_i (s : State) (v i : Int) : (s.trimmed v i).tbu.i = i := rfl

theorem State.trimmed_freq (s : State) (v i : Int) : (s.trimmed v i).sget F.TBU_FREQ_FREQ = s.freqAt v :=
  (State.sget_congr (State.get_congr (s.trimmed_rd v i _))).trans (s.setFreq_freq v)

/-- R260: the step asked for is the offset in whole ns, negated. -/
theorem showNs_step (o : Int) : ∃ d : Int, ((d + 1) * (840 * 131072) + o).natAbs ≤ 840 * 131072 ∧
    (-(showNs 256 o offUnit) = d ∨ -(showNs 256 o offUnit) = d + 1) := by
  have h := showNs_floor 256 o offUnit
  have hu : ((offUnit : Nat) : Int) = 110100480 := rfl
  rw [hu] at h
  have hdiv := Int.mul_ediv_add_emod o 110100480
  have hlo := Int.emod_nonneg o (b := 110100480) (by decide)
  have hhi := Int.emod_lt_of_pos o (b := 110100480) (by decide)
  generalize o / 110100480 = q at h hdiv
  generalize o % 110100480 = r at h hdiv hlo hhi
  refine ⟨-q - 1, natAbs_le_of_mem (by omega) (by omega), ?_⟩
  obtain h | ⟨-, h⟩ := h
  · exact .inr (by omega)
  · exact .inl (by omega)

/-! ## Measurements of the delay (R255) -/

/-- What one measurement shows. -/
noncomputable def State.delayOf (s : State) (x : PtpSync) (t3 t4 : Nat) (corr : Int) : Int :=
  ((x.t2 : Int) - x.t1) * 65536 - x.corr + (((t4 : Int) - t3) * 65536 - (corr - s.asym))

theorem State.measureDelay_eq (s : State) (x : PtpSync) (t3 t4 : Nat) (corr : Int) : s.measureDelay x t3 t4 corr =
    if s.delayOf x t3 t4 corr < 0 then s.incSat F.TBU_ERRCNT_DELAY
    else { s with tbu := { s.tbu with ds := (s.delayOf x t3 t4 corr :: s.tbu.ds).take 8 } }.sput F.TBU_MPD_NS
      (showNs 270 ((State.mpd { s with tbu := { s.tbu with ds := (s.delayOf x t3 t4 corr :: s.tbu.ds).take 8 } }).getD 0) offUnit) := rfl

theorem State.measureDelay_tbu {s : State} {x : PtpSync} {t3 t4 : Nat} {corr : Int} (h : 0 ≤ s.delayOf x t3 t4 corr) :
    (s.measureDelay x t3 t4 corr).tbu = { s.tbu with ds := (s.delayOf x t3 t4 corr :: s.tbu.ds).take 8 } := by
  rw [s.measureDelay_eq, if_neg (Int.not_lt.mpr h)]
  rfl

/-- A negative delay is an error and no measurement. -/
theorem State.measureDelay_neg {s : State} {x : PtpSync} {t3 t4 : Nat} {corr : Int} (h : s.delayOf x t3 t4 corr < 0) :
    s.measureDelay x t3 t4 corr = s.incSat F.TBU_ERRCNT_DELAY := by
  rw [s.measureDelay_eq, if_pos h]

/-- A first measurement of whole ns is shown as it is. -/
theorem State.measureDelay_first {s : State} {x : PtpSync} {t3 t4 k : Nat} {corr : Int} (hnone : s.tbu.ds = [])
    (hd : s.delayOf x t3 t4 corr = 131072 * k) (hk : k < 2 ^ 31) : (s.measureDelay x t3 t4 corr).sget F.TBU_MPD_NS = k := by
  have hmpd : (State.mpd { s with tbu := { s.tbu with ds := (s.delayOf x t3 t4 corr :: s.tbu.ds).take 8 } }).getD 0 = (offUnit : Nat) * k := by
    rw [hnone, hd]
    simp [State.mpd, offUnit]
    omega
  rw [s.measureDelay_eq, if_neg (by omega), hmpd, showNs_mul _ _ (by decide)]
  exact State.sget_sput_same _ (by decide) (by decide) (le_trans (by decide) (Int.natCast_nonneg k)) (Int.ofNat_lt.mpr hk)

theorem State.measureDelay_get (s : State) (x : PtpSync) (t3 t4 : Nat) (corr : Int) {f : Fld}
    (he : F.TBU_ERRCNT_DELAY.disj f = true := by decide) (hm : F.TBU_MPD_NS.disj f = true := by decide) :
    (s.measureDelay x t3 t4 corr).get f = s.get f := by
  rw [s.measureDelay_eq]
  split
  · exact s.get_incSat_disj _ he
  · exact State.get_put_disj _ _ hm

theorem State.measureDelay_syncs (s : State) (x : PtpSync) (t3 t4 : Nat) (corr : Int) :
    (s.measureDelay x t3 t4 corr).tbu.waiting = s.tbu.waiting ∧ (s.measureDelay x t3 t4 corr).tbu.sync = s.tbu.sync := by
  rw [s.measureDelay_eq]
  split
  · exact ⟨rfl, rfl⟩
  · exact ⟨rfl, rfl⟩

theorem State.delayOf_congr {s t : State} (h : t.get F.TBU_ASYM_NS = s.get F.TBU_ASYM_NS) (x : PtpSync) (t3 t4 : Nat) (corr : Int) :
    t.delayOf x t3 t4 corr = s.delayOf x t3 t4 corr := by
  rw [State.delayOf, State.delayOf, State.asym, State.asym, State.sget_congr h]

/-! ## A complete Sync (R255) -/

theorem State.takeSync_ledger (s : State) (x : PtpSync) : (s.takeSync x).tbu.ledger = { s.tbu with sync := some x }.ledger := by
  cases h : s.mpd with
  | none => rw [State.takeSync_unmeasured h]; rfl
  | some m =>
    rw [State.takeSync_measured h, Tbu.ledger_of_course (State.lockCount_only _ _).1, State.steered_ledger]
    rfl

/-- Every complete Sync is counted, and shows itself in no other register of the messages received. -/
theorem State.takeSync_gives (s : State) (x : PtpSync) : (s.takeSync x).get F.TBU_RXCNT_SYNC = (s.get F.TBU_RXCNT_SYNC + 1) % 65536 ∧
    (s.takeSync x).get F.TBU_ASYM_NS = s.get F.TBU_ASYM_NS := by
  cases h : s.mpd with
  | none =>
    rw [State.takeSync_unmeasured h]
    exact ⟨s.get_inc_same F.TBU_RXCNT_SYNC (by decide), s.get_inc_disj (by decide)⟩
  | some m =>
    rw [State.takeSync_measured h]
    exact ⟨(State.lockCount_get _ _).trans ((State.steered_get _ _).trans (s.offsetNoted_count _ _)),
      (State.lockCount_get _ _).trans ((State.steered_get _ _).trans (s.offsetNoted_get _ _))⟩

theorem State.completeSync_gives (s : State) (q : Nat) (x : PtpSync) : (s.completeSync q x).tbu.waiting = s.tbu.waiting ∧
    (s.completeSync q x).tbu.sync = s.tbu.sync ∧ (s.completeSync q x).get F.TBU_RXCNT_SYNC = s.get F.TBU_RXCNT_SYNC := by
  unfold State.completeSync
  split
  · split
    · exact ⟨rfl, rfl, rfl⟩
    · split
      · obtain ⟨hwaiting, hsync⟩ := State.measureDelay_syncs { s with tbu := { s.tbu with dreq := none } } x _ _ _
        exact ⟨hwaiting, hsync, State.measureDelay_get _ _ _ _ _⟩
      · exact ⟨rfl, rfl, rfl⟩
  · exact ⟨rfl, rfl, rfl⟩

/-- A Sync completed while its answer is there is measured. -/
theorem State.completeSync_answered {s : State} {q t4 : Nat} {x : PtpSync} {r : DReq} {c : Int} (hr : s.tbu.dreq = some r)
    (hq : r.awaits = some q) (hresp : r.resp = some (t4, c)) (hd : 0 ≤ s.delayOf x r.t3 t4 c) :
    (s.completeSync q x).tbu = { s.tbu with dreq := none, ds := (s.delayOf x r.t3 t4 c :: s.tbu.ds).take 8 } := by
  have heq : s.completeSync q x = { s with tbu := { s.tbu with dreq := none } }.measureDelay x r.t3 t4 c := by
    rw [State.completeSync, hr]
    dsimp only
    rw [if_neg (not_not.mpr hq), hresp]
  rw [heq]
  exact State.measureDelay_tbu (s := { s with tbu := { s.tbu with dreq := none } }) hd

theorem State.completeSync_unanswered {s : State} {q : Nat} {x : PtpSync} {r : DReq} (hr : s.tbu.dreq = some r) (hq : r.awaits = some q)
    (hresp : r.resp = none) : s.completeSync q x = { s with tbu := { s.tbu with dreq := some { r with sync := x, awaits := none } } } := by
  rw [State.completeSync, hr]
  dsimp only
  rw [if_neg (not_not.mpr hq), hresp]

/-- The Sync `x` with its Follow_Up. -/
noncomputable def PtpSync.followed (x : PtpSync) (t1 : Nat) (corr : Int) : PtpSync := { x with t1 := t1, corr := x.corr + corr }

/-- The Sync completed by its Follow_Up, and taken. -/
noncomputable def State.syncFollowed (s : State) (y : PtpSync) : State := { s with tbu := { s.tbu with waiting := none } }.takeSync y

theorem State.followUp_takes {s : State} {h : PtpHdr} {x : PtpSync} (t1 : Nat) (hgood : h.bad = false) (htakes : s.ptpTakes h = true)
    (hsel : s.tbu.sel = some h.port) (hw : s.tbu.waiting = some (h.seq, x)) :
    s.followUp h t1 = (s.syncFollowed (x.followed t1 h.corr)).completeSync h.seq (x.followed t1 h.corr) := by
  rw [State.followUp, hgood, htakes, hsel, hw, bne_self_eq_false]
  exact if_pos rfl

theorem State.syncFollowed_gives (s : State) (y : PtpSync) : (s.syncFollowed y).tbu.waiting = none ∧ (s.syncFollowed y).tbu.sync = some y ∧
    (s.syncFollowed y).tbu.dreq = s.tbu.dreq ∧ (s.syncFollowed y).tbu.ds = s.tbu.ds ∧
    (s.syncFollowed y).get F.TBU_RXCNT_SYNC = (s.get F.TBU_RXCNT_SYNC + 1) % 65536 ∧
    (s.syncFollowed y).get F.TBU_ASYM_NS = s.get F.TBU_ASYM_NS := by
  obtain ⟨hwaiting, hsync, hdreq, hds⟩ := Tbu.ledger_syncs (State.takeSync_ledger { s with tbu := { s.tbu with waiting := none } } y)
  obtain ⟨hcount, hasym⟩ := State.takeSync_gives { s with tbu := { s.tbu with waiting := none } } y
  exact ⟨hwaiting, hsync, hdreq, hds, hcount, hasym⟩

/-! ## A one-step Sync up to the servo -/

/-- A Sync noted and its offset shown. -/
noncomputable def State.syncShown (s : State) (li : Int) (x : PtpSync) (o : Int) : State := (s.syncNoted li).offsetNoted x o

/-- What a one-step Sync `x` with the offset `o` leaves. -/
noncomputable def State.syncTaken (s : State) (li : Int) (x : PtpSync) (o : Int) : State := ((s.syncShown li x o).steered o).lockCount o

theorem State.syncReceived_measured {s : State} {h : PtpHdr} {m : Int} (t1 t2 : Nat) (li : Int) (hgood : h.bad = false)
    (htakes : s.ptpTakes h = true) (hsel : s.tbu.sel = some h.port) (hm : s.mpd = some m) :
    s.syncReceived h false t1 t2 li = s.syncTaken li (s.syncAs h t1 t2) ((s.syncAs h t1 t2).offset m) := by
  obtain ⟨-, -, -, -, hds⟩ := s.syncNoted_only li
  rw [State.syncReceived_takes false t1 t2 li hgood htakes hsel, if_neg (by decide),
    State.takeSync_measured ((State.mpd_congr hds).trans hm)]
  rfl

theorem State.syncShown_get (s : State) (li : Int) (x : PtpSync) (o : Int) {f : Fld} (h : ∀ g ∈ [F.TBU_INTV_SYNC, F.TBU_STAT_STATE,
    F.TBU_RXCNT_SYNC, F.TBU_OFFSET_NS], g.disj f = true := by decide) (hr : recordAddr f.addr = false := by decide)
    (hd : f.addr ≠ Reg.RTC_STAT := by decide) : (s.syncShown li x o).get f = s.get f := by
  simp only [List.forall_mem_cons] at h
  obtain ⟨hintv, hstate, hcount, hoffset, -⟩ := h
  exact (State.offsetNoted_get _ _ _ hcount hoffset).trans (s.syncNoted_get li hintv hstate hr hd)

theorem State.syncShown_only (s : State) (li : Int) (x : PtpSync) (o : Int) : (s.syncShown li x o).tbu.slew = s.tbu.slew ∧
    (s.syncShown li x o).tbu.i = s.tbu.i ∧ (s.syncShown li x o).ns = s.ns ∧ (s.syncShown li x o).tbu.step = s.tbu.step := by
  obtain ⟨hslew, hi, hns, hstep, -⟩ := s.syncNoted_only li
  exact ⟨hslew, hi, hns, hstep⟩

theorem State.syncShown_steers (s : State) (li : Int) (x : PtpSync) (o : Int) : (s.syncShown li x o).ptpSteers = s.ptpSteers :=
  State.ptpSteers_congr (s.syncShown_get _ _ _) (s.syncShown_get _ _ _) (s.syncShown_get _ _ _)

/-- The servo law depends on its registers and its integrator alone. -/
theorem State.syncShown_law (s : State) (li : Int) (x : PtpSync) (o a : Int) :
    (s.syncShown li x o).servoI a = s.servoI a ∧ (s.syncShown li x o).servoY a = s.servoY a := by
  obtain ⟨-, hi, -, -⟩ := s.syncShown_only li x o
  have hI : (s.syncShown li x o).servoI a = s.servoI a := by
    rw [State.servoI, State.servoI, hi, s.syncShown_get, s.syncShown_get]
  refine ⟨hI, ?_⟩
  rw [State.servoY, State.servoY, hI, s.syncShown_get, s.syncShown_get]

/-- In FREERUN and LOCKED the Sync writes its three fields alone, and leaves what the lock is counted from. -/
theorem State.syncShown_lock {s : State} (h : s.tbState ≠ 2) (li : Int) (x : PtpSync) (o : Int) :
    (s.syncShown li x o).tbu.good = s.tbu.good ∧ (s.syncShown li x o).rates = s.rates ∧
      ∀ f : Fld, f.addr ∉ [Reg.TBU_INTV, Reg.TBU_RXCNT, Reg.TBU_OFFSET] → (s.syncShown li x o).get f = s.get f := by
  rw [State.syncShown, s.syncNoted_heard h]
  refine ⟨rfl, rfl, fun f hf => ?_⟩
  simp only [List.mem_cons, List.not_mem_nil, or_false, not_or] at hf
  obtain ⟨hintv, hrxcnt, hoffset⟩ := hf
  exact (State.offsetNoted_get _ _ _ (Fld.disj_of_addr (Ne.symm hrxcnt)) (Fld.disj_of_addr (Ne.symm hoffset))).trans
    (s.syncHeard_get li (Fld.disj_of_addr (Ne.symm hintv)))

/-- A law's trim from at most 1,000,000 ppb is held by TBU_FREQ. -/
theorem State.servoY_fits {s : State} (hmax : s.get F.TBU_SLEWMAX_PPB ≤ 1000000) (o : Int) :
    -34359738 ≤ freqOf (s.servoY o) (offUnit * 256) ∧ freqOf (s.servoY o) (offUnit * 256) ≤ 34359738 := by
  have hu : ((offUnit : Nat) : Int) = 840 * 131072 := rfl
  have hnonneg : (0 : Int) ≤ s.get F.TBU_SLEWMAX_PPB * ((offUnit : Nat) * 256) :=
    mul_nonneg (Int.natCast_nonneg _) (by rw [hu]; decide)
  obtain ⟨hlo, hhi⟩ := clampInt_mem (neg_le_self hnonneg) (-(s.get F.TBU_SERVO_KP * o + s.servoI o))
  have hle : (s.get F.TBU_SLEWMAX_PPB : Int) * ((offUnit : Nat) * 256) ≤ 1000000 * (840 * 131072 * 256) := by
    rw [hu]
    exact Int.mul_le_mul_of_nonneg_right (Int.ofNat_le.mpr hmax) (by decide)
  exact near_fits (freqOf_near _) (le_trans (neg_le_neg hle) hlo) (le_trans hhi hle)

/-! ## A one-step Sync through the servo -/

/-- The offset `o` is within TBU_STEPTH. -/
noncomputable def State.inReach (s : State) (o : Int) : Prop := o.natAbs ≤ s.get F.TBU_STEPTH_NS * (840 * 131072)

theorem State.syncShown_inReach (s : State) (li : Int) (x : PtpSync) (o : Int) :
    ((s.syncShown li x o).get F.TBU_STEPTH_NS : Int) * (offUnit : Nat) < o.natAbs ↔ ¬ s.inReach o := by
  have hu : ((offUnit : Nat) : Int) = 840 * 131072 := rfl
  rw [s.syncShown_get, State.inReach, hu]
  omega

theorem State.syncTaken_count (s : State) (li : Int) (x : PtpSync) (o : Int) :
    (s.syncTaken li x o).get F.TBU_RXCNT_SYNC = (s.get F.TBU_RXCNT_SYNC + 1) % 65536 := by
  refine (State.lockCount_get _ _).trans ((State.steered_get _ _).trans ((State.offsetNoted_count _ _ _).trans ?_))
  rw [s.syncNoted_get li]

/-- An offset of whole ns is shown. -/
theorem State.syncTaken_whole (s : State) (li : Int) (x : PtpSync) {o k : Int} (ho : o = (offUnit : Nat) * k) (hlo : -0x80000000 ≤ k)
    (hhi : k < 0x80000000) : (s.syncTaken li x o).sget F.TBU_OFFSET_NS = k :=
  (State.sget_congr ((State.lockCount_get _ _).trans (State.steered_get _ _))).trans (State.offsetNoted_whole _ x ho hlo hhi)

/-- R256: within TBU_STEPTH the law sets the integrator and the trim. -/
theorem State.syncTaken_steers {s : State} {o : Int} (li : Int) (x : PtpSync) (hsteers : s.ptpSteers = true) (hreach : s.inReach o)
    (hmax : s.get F.TBU_SLEWMAX_PPB ≤ 1000000) (hno : s.tbu.slew = none) : (s.syncTaken li x o).tbu.i = s.servoI o ∧
      (s.syncTaken li x o).sget F.TBU_FREQ_FREQ = freqOf (s.servoY o) (offUnit * 256) ∧ (s.syncTaken li x o).ns = s.ns := by
  obtain ⟨hslew, -, hns, -⟩ := s.syncShown_only li x o
  obtain ⟨hlawI, hlawY⟩ := s.syncShown_law li x o o
  obtain ⟨hlo, hhi⟩ := State.servoY_fits hmax o
  have hwithin := fun h => (s.syncShown_inReach li x o).mp h hreach
  rw [State.syncTaken, State.steered_within ((s.syncShown_steers li x o).trans hsteers) hwithin, hlawI, hlawY]
  obtain ⟨-, hi, htime⟩ := State.lockCount_only ((s.syncShown li x o).trimmed (freqOf (s.servoY o) (offUnit * 256)) (s.servoI o)) o
  refine ⟨hi.trans (State.trimmed_i _ _ _), ?_, htime.trans ((State.trimmed_ns _ _ _).trans hns)⟩
  rw [State.sget_congr (State.lockCount_get _ _), State.trimmed_freq, State.freqAt_unslewed (hslew.trans hno) hlo hhi]

/-- R260: beyond TBU_STEPTH a step is asked for. -/
theorem State.syncTaken_asks {s : State} {o : Int} (li : Int) (x : PtpSync) (hsteers : s.ptpSteers = true) (hreach : ¬ s.inReach o) :
    s.syncTaken li x o = ((s.syncShown li x o).askStep { cause := 1, delta := some (-(showNs 256 o offUnit)) }).lockCount o := by
  rw [State.syncTaken, State.steered_beyond ((s.syncShown_steers li x o).trans hsteers) ((s.syncShown_inReach li x o).mpr hreach)]

theorem State.syncTaken_stepping {s : State} {o : Int} (li : Int) (x : PtpSync) (hsteers : s.ptpSteers = true) (hreach : ¬ s.inReach o) :
    (s.syncTaken li x o).flag F.TBU_STAT_STEPPING = true := by
  rw [State.syncTaken_asks li x hsteers hreach, State.flag_congr (State.lockCount_get _ _)]
  exact State.askStep_stepping _ _

/-- A step in progress goes on, and the one asked for waits. -/
theorem State.syncTaken_waits {s : State} {o : Int} (li : Int) (x : PtpSync) (hsteers : s.ptpSteers = true) (hreach : ¬ s.inReach o)
    (hbusy : s.tbu.step.isSome = true) :
    (s.syncTaken li x o).tbu.step = s.tbu.step ∧ (s.syncTaken li x o).tbu.stepNext.isSome = true := by
  obtain ⟨-, -, -, hstep⟩ := s.syncShown_only li x o
  obtain ⟨r, hr⟩ := Option.isSome_iff_exists.mp hbusy
  rw [State.syncTaken_asks li x hsteers hreach]
  obtain ⟨hstep', hnext⟩ := Tbu.course_step (State.lockCount_only _ o).1
  rw [hstep', hnext, State.askStep_busy (hstep.trans hr)]
  exact ⟨hstep, rfl⟩

/-- With no step in progress the one asked for is; the trim and the integrator stay. -/
theorem State.syncTaken_steps {s : State} {o : Int} (li : Int) (x : PtpSync) (hsteers : s.ptpSteers = true) (hreach : ¬ s.inReach o)
    (hfree : s.tbu.step = none) : (s.syncTaken li x o).tbu.i = s.tbu.i ∧
      (s.syncTaken li x o).sget F.TBU_FREQ_FREQ = s.sget F.TBU_FREQ_FREQ ∧
      (s.syncTaken li x o).tbu.step = some { cause := 1, delta := some (-(showNs 256 o offUnit)) } := by
  obtain ⟨-, hi, -, hstep⟩ := s.syncShown_only li x o
  rw [State.syncTaken_asks li x hsteers hreach]
  obtain ⟨hcourse, hikept, -⟩ :=
    State.lockCount_only ((s.syncShown li x o).askStep { cause := 1, delta := some (-(showNs 256 o offUnit)) }) o
  obtain ⟨hstep', -⟩ := Tbu.course_step hcourse
  rw [hikept, hstep', State.askStep_free (hstep.trans hfree)]
  exact ⟨hi, State.sget_congr ((State.lockCount_get _ _).trans ((State.askStep_get _ _).trans (s.syncShown_get _ _ _))), rfl⟩

/-- R257: the sixteenth good offset, within TBU_STEPTH, locks. -/
theorem State.syncTaken_locks {s : State} {o : Int} (li : Int) (x : PtpSync) (hfree : s.tbState = 0) (hgood : s.tbu.good = 15)
    (hno : s.tbu.step = none) (hservo : s.flag F.TBU_CTL_SERVO = true) (hreach : s.inReach o)
    (hnear : o.natAbs ≤ s.get F.TBU_LOCKTH_NS * (840 * 131072)) : (s.syncTaken li x o).tbState = 1 ∧
      (s.rateOk 0x901 0 nsPerSec = true → Journalled s (s.syncTaken li x o) 0x901 0 []) := by
  obtain ⟨hgood', hrates', hget'⟩ := State.syncShown_lock (by rw [hfree]; decide) li x o
  obtain ⟨-, -, hns', hstep'⟩ := s.syncShown_only li x o
  obtain ⟨hgood'', hrates'', hns'', hcourse''⟩ := State.steered_lock fun h => (s.syncShown_inReach li x o).mp h hreach
  obtain ⟨hstep'', -⟩ := Tbu.course_step hcourse''
  have hth : ((s.syncShown li x o).steered o).get F.TBU_LOCKTH_NS = s.get F.TBU_LOCKTH_NS :=
    (State.steered_get _ _).trans (s.syncShown_get _ _ _)
  obtain ⟨hlocked, hevent⟩ := State.lockCount_locks (s := (s.syncShown li x o).steered o) (o := o)
    ((State.steered_get _ _).trans ((hget' F.TBU_STAT_STATE (by decide)).trans hfree)) (hgood''.trans (hgood'.trans hgood))
    (hstep''.trans (hstep'.trans hno))
    ((State.flag_congr ((State.steered_get _ _).trans (s.syncShown_get _ _ _))).trans hservo)
    (by rw [hth, show ((offUnit : Nat) : Int) = 840 * 131072 from rfl]; omega)
  refine ⟨hlocked, fun hrate => ?_⟩
  refine (hevent ((State.rateOk_congr (hrates''.trans hrates') (hns''.trans hns') _ _ _).trans hrate)).congr ?_ ?_ fun _ _ => rfl
  · rw [State.acts, State.acts, State.steered_get _ _, s.syncShown_get]
  · exact ((State.steered_get _ _).trans (hget' F.JNL_WPTR_NUM (by decide))).symm

/-! ## Delay_Req and Delay_Resp (R255) -/

/-- The Delay_Req sent, with the latest Sync received. -/
theorem State.delayReq_sends {s : State} {seq t3 : Nat} {y : PtpSync} {q p : Option Nat} (hsel : s.tbu.sel = p) (hp : p.isSome = true)
    (hlatest : s.latestSync = some (y, q)) (hrun : s.inRunQuiet = true) : (s.delayReq seq t3).out = s.out ++ [.delayReq s.vlanTag seq] ∧
      (s.delayReq seq t3).tbu = { s.tbu with dreq := some { seq := seq, t3 := t3 + s.phyLatency y.eth2 true, sync := y, awaits := q } } ∧
      (s.delayReq seq t3).get F.TBU_ERRCNT_DELAY =
        if s.tbu.dreq.isSome then min (s.get F.TBU_ERRCNT_DELAY + 1) 0xFFFF else s.get F.TBU_ERRCNT_DELAY := by
  obtain ⟨p', rfl⟩ := Option.isSome_iff_exists.mp hp
  rw [State.delayReq, hsel, hlatest]
  dsimp only
  rw [hrun, if_neg (by decide)]
  split
  · exact ⟨rfl, rfl, s.get_incSat_same F.TBU_ERRCNT_DELAY 1 (by decide)⟩
  · exact ⟨rfl, rfl, rfl⟩

theorem State.latestSync_complete {s : State} {x : PtpSync} (hw : s.tbu.waiting = none) (hs : s.tbu.sync = some x) :
    s.latestSync = some (x, none) := by
  rw [State.latestSync, hw, hs]

theorem State.latestSync_waiting {s : State} {x y : PtpSync} {q : Nat} (hw : s.tbu.waiting = some (q, y)) (hs : s.tbu.sync = some x)
    (h : x.t2 ≤ y.t2) : s.latestSync = some (y, some q) := by
  rw [State.latestSync, hw, hs]
  exact if_pos h

/-- The interval of an answer noted, and its Delay_Req no longer outstanding. -/
noncomputable def State.dreqAnswered (s : State) (li : Int) : State := { s.sput F.TBU_INTV_DREQ li with tbu := { s.tbu with dreq := none } }

/-- The answer waits for the Follow_Up where one is awaited; else it is measured. -/
theorem State.delayResp_takes {s : State} {h : PtpHdr} {r : DReq} (t4 : Nat) (li : Int) (hgood : h.bad = false) (htakes : s.ptpTakes h = true)
    (hsel : s.tbu.sel = some h.port) (hr : s.tbu.dreq = some r) (hseq : r.seq = h.seq) : s.delayResp h t4 li =
      if r.awaits.isSome then { s.sput F.TBU_INTV_DREQ li with tbu := { s.tbu with dreq := some { r with resp := some (t4, h.corr) } } }
      else (s.dreqAnswered li).measureDelay r.sync r.t3 t4 h.corr := by
  rw [State.delayResp, hgood, htakes, hsel, hr, bne_self_eq_false]
  exact if_neg (not_not.mpr hseq)

theorem State.dreqAnswered_get (s : State) (li : Int) {f : Fld} (h : F.TBU_INTV_DREQ.disj f = true := by decide) :
    (s.dreqAnswered li).get f = s.get f := s.get_put_disj _ h

/-! ## The obligation -/

/-- Settles O34: a Sync by the stages that it passes, a Follow_Up by the Sync that it completes, a Delay_Req by the latest Sync and its
answer by the measurement. -/
theorem servoFollowsTheMaster : Obligations.ServoFollowsTheMaster := by
  unfold Obligations.ServoFollowsTheMaster
  intro s h t1 t2 t3 t4 seq li hgood htakes hsel u asym gbe rx tx m2 delay lim
  have hsync : s.syncAs h t1 t2 = { t1 := t1, t2 := m2, corr := h.corr + asym, eth2 := h.eth2 } := by
    rw [State.syncAs, s.phyLatency_rx]
    rfl
  refine ⟨fun m hm => ?complete, fun hhold => ⟨_, rfl, ?two⟩, fun x hw => ⟨_, rfl, ?followed⟩, fun x q hw hq hawaits => ?awaited,
    fun x hx hrun => ⟨fun hw => ⟨_, rfl, ?request⟩, fun y q hw hlate => ⟨_, rfl, ?requestEarly⟩⟩, fun q hq hseq => ?response⟩
  case complete =>
    intro o within l i y
    have ho : (s.syncAs h t1 t2).offset m = o := by
      rw [hsync]
      rfl
    have hI : s.servoI o = i := rfl
    have hrecv : s.syncReceived h false t1 t2 li = s.syncTaken li (s.syncAs h t1 t2) o :=
      ho ▸ State.syncReceived_measured t1 t2 li hgood htakes hsel hm
    have hsteers (h1 : s.flag F.TBU_CTL_SERVO = true) (h2 : s.flag F.TBU_STAT_SRC = false) (h3 : s.isStandby = false) :
        s.ptpSteers = true := s.ptpSteers_iff.mpr ⟨h1, h2, h3⟩
    have hgives {P : State → Prop} (hP : P (s.syncTaken li (s.syncAs h t1 t2) o)) : Gives (.ptpSyncReceived h false t1 t2 li) s P :=
      ⟨_, rfl, hrecv ▸ hP⟩
    refine ⟨fun h1 h2 h3 hreach hmax hno => hgives ?steers, fun h1 h2 h3 hfar hbusy => hgives ?waits,
      fun h1 h2 h3 hfar hfree => hgives ?steps,
      fun k hk hlo hhi => hgives (s.syncTaken_whole li _ hk hlo hhi),
      fun hfree hgood15 hno hservo hreach hnear => hgives (State.syncTaken_locks li _ hfree hgood15 hno hservo hreach hnear)⟩
    case steers =>
      obtain ⟨hi, hfreq, hns⟩ := State.syncTaken_steers li (s.syncAs h t1 t2) (hsteers h1 h2 h3) hreach hmax hno
      refine ⟨hi.trans hI, ?_, s.syncTaken_count _ _ _, hns⟩
      rw [hfreq]
      exact freqOf_near _
    case waits =>
      obtain ⟨hstep, hnext⟩ := State.syncTaken_waits li (s.syncAs h t1 t2) (hsteers h1 h2 h3) hfar hbusy
      exact ⟨State.syncTaken_stepping li _ (hsteers h1 h2 h3) hfar, hstep, hnext⟩
    case steps =>
      obtain ⟨hi, hfreq, hstep⟩ := State.syncTaken_steps li (s.syncAs h t1 t2) (hsteers h1 h2 h3) hfar hfree
      obtain ⟨d, hd, hshown⟩ := showNs_step o
      refine ⟨State.syncTaken_stepping li _ (hsteers h1 h2 h3) hfar, hi, hfreq, d, hd, ?_⟩
      rw [hstep]
      exact hshown.imp (fun he => by rw [he]) fun he => by rw [he]
  case two =>
    rw [State.syncReceived_takes true t1 t2 li hgood htakes hsel, if_pos rfl, State.syncNoted_heard hhold, hsync]
    exact ⟨rfl, rfl, State.sget_congr (s.syncHeard_get li)⟩
  case followed =>
    rw [State.followUp_takes t1 hgood htakes hsel hw]
    obtain ⟨hwaiting, hlatest, -, -, hcount, -⟩ := s.syncFollowed_gives (x.followed t1 h.corr)
    obtain ⟨hwaiting', hlatest', hcount'⟩ := (s.syncFollowed (x.followed t1 h.corr)).completeSync_gives h.seq (x.followed t1 h.corr)
    exact ⟨hwaiting'.trans hwaiting, hlatest'.trans hlatest, hcount'.trans hcount⟩
  case awaited =>
    intro y
    have hy : x.followed t1 h.corr = y := rfl
    obtain ⟨-, -, hdreq, hds, -, hasym⟩ := s.syncFollowed_gives y
    refine ⟨fun c hresp hd => ⟨_, rfl, ?_⟩, fun hresp => ⟨_, rfl, ?_⟩⟩
    · have hsame := State.delayOf_congr hasym y q.t3 t4 c
      have htbu := State.completeSync_answered (s := s.syncFollowed y) (x := y) (hdreq.trans hq) hawaits hresp (by rw [hsame]; exact hd)
      rw [State.followUp_takes t1 hgood htakes hsel hw, hy]
      beta_reduce
      rw [htbu, hsame, hds]
      exact ⟨rfl, rfl⟩
    · rw [State.followUp_takes t1 hgood htakes hsel hw, hy, State.completeSync_unanswered (hdreq.trans hq) hawaits hresp]
  case request =>
    obtain ⟨hout, htbu, herr⟩ := State.delayReq_sends (t3 := t3) (seq := seq) hsel rfl (State.latestSync_complete hw hx) hrun
    rw [s.phyLatency_tx] at htbu
    exact ⟨hout, htbu, herr⟩
  case requestEarly =>
    obtain ⟨hout, htbu, herr⟩ := State.delayReq_sends (t3 := t3) (seq := seq) hsel rfl (State.latestSync_waiting hw hx hlate) hrun
    rw [s.phyLatency_tx] at htbu
    exact ⟨hout, htbu, herr⟩
  case response =>
    intro d
    have hsame : (s.dreqAnswered li).delayOf q.sync q.t3 t4 h.corr = d := State.delayOf_congr (s.dreqAnswered_get li) _ _ _ _
    have htake := State.delayResp_takes t4 li hgood htakes hsel hq hseq
    refine ⟨fun hawaits => ⟨_, rfl, ?_⟩, fun hnone hd => ⟨_, rfl, ?_⟩, fun hnone hd => ⟨_, rfl, ?_⟩⟩
    · rw [htake, if_pos hawaits]
    · rw [htake, if_neg (by rw [hnone]; decide)]
      refine ⟨(State.measureDelay_tbu (hsame ▸ hd)).trans (by rw [hsame]; rfl), fun k hds hk hlt => ?_⟩
      exact State.measureDelay_first hds (hsame.trans hk) hlt
    · rw [htake, if_neg (by rw [hnone]; decide), State.measureDelay_neg (hsame ▸ hd)]
      refine ⟨rfl, ?_⟩
      rw [← s.dreqAnswered_get li]
      exact State.get_incSat_same _ F.TBU_ERRCNT_DELAY 1 (by decide)

end Sys2Proof.Machine
